-- ==== Sys2Proof/Word.lean ====
section
/-! DEFINITION. The word types of the device and the shape of its sparse tables. -/
namespace Sys2Proof

/-- One byte on a bus, in a frame or in memory. -/
abbrev Byte := BitVec 8

/-- One register word of BAR0 (R11: 32 bits). -/
abbrev Word := BitVec 32

/-- A 64-bit register or value. -/
abbrev DWord := BitVec 64

/-- A sparse table: key and value pairs, keys strictly rising, no entry equal to the table's default. -/
abbrev Tbl (α : Type) := List (Nat × α)

end Sys2Proof
end

