-- ==== Sys2Proof/Syntax.lean ====
section
/-! DEFINITION. The commands of the block: one constructor per row of spec/opcode_table.json, with the
operands its rule gives it. A value that an analogue part measures, or that arrives from outside, is an operand. -/
namespace Sys2Proof

/-- A register access path: a Desk (B rather than A) and its path, management Ethernet rather than PCIe (R11, R373, R417). -/
structure Access where
  /-- Desk B rather than Desk A -/
  deskB : Bool
  /-- the management Ethernet path rather than PCIe -/
  eth : Bool
  deriving DecidableEq, Repr

/-- The operands of a lane-control message as it arrives (Table 2.11, R61). -/
structure LaneMsg where
  /-- TXN -/
  txn : BitVec 8
  /-- LANE -/
  lane : Fin 18
  /-- SPARE -/
  spare : Fin 18
  /-- CW, 30 bits -/
  cw : BitVec 30
  /-- REASON -/
  reason : BitVec 8
  /-- STATUS -/
  status : BitVec 8
  deriving DecidableEq, Repr

/-- A job-control request that the Desks take from their queue (R125): the bytes of the frame from VERSION on. -/
structure JobCtl where
  /-- SRC_TYPE -/
  srcType : Fin 4
  /-- SRC -/
  src : BitVec 24
  /-- JOB of the header -/
  job : Fin 4096
  /-- CMD -/
  cmd : BitVec 8
  /-- REQ_ID -/
  reqId : BitVec 16
  /-- TARGET_JOB -/
  target : Fin 4096
  /-- ARG -/
  arg : BitVec 64
  /-- payload -/
  payload : List Byte
  deriving DecidableEq, Repr

/-- A contribution frame reaching a Cabinet die (Tables 5.1, 5.4). -/
structure Contrib where
  /-- SRC_TYPE -/
  srcType : Fin 4
  /-- SRC -/
  src : BitVec 24
  /-- JOB -/
  job : Fin 4096
  /-- DRAWER -/
  drawer : Fin 4096
  /-- EPOCH -/
  epoch : BitVec 8
  /-- CONTRIB -/
  contrib : Fin 1024
  /-- TAG -/
  tag : BitVec 32
  /-- CHUNK -/
  chunk : BitVec 24
  /-- LAST -/
  last : Bool
  /-- COUNT -/
  count : Bool
  /-- REPLAY -/
  replay : Bool
  /-- ATTEMPT -/
  attempt : Fin 16
  /-- ELEM_FMT -/
  fmt : Fin 32
  /-- OP -/
  op : Fin 32
  /-- OFFSET_HI and OFFSET -/
  offset : BitVec 24
  /-- payload -/
  payload : List Byte
  /-- FCS good (R111) -/
  fcsOk : Bool
  /-- some cell is poisoned (R167) -/
  poisoned : Bool
  /-- STAMP of the descriptor (R304) -/
  stamp : BitVec 32
  deriving DecidableEq, Repr

/-- A Gnoari request at its ordering tile (Tables 5.1, 5.7). -/
structure GnReq where
  /-- SRC_TYPE -/
  srcType : Fin 4
  /-- SRC -/
  src : BitVec 24
  /-- JOB -/
  job : Fin 4096
  /-- OPCODE -/
  opcode : BitVec 8
  /-- TAG -/
  tag : BitVec 16
  /-- SEQ -/
  seq : BitVec 32
  /-- ADDR -/
  addr : BitVec 64
  /-- RACK_V -/
  rackV : Bool
  /-- RACK_TAG -/
  rackTag : BitVec 16
  /-- payload -/
  payload : List Byte
  /-- some cell is poisoned (R167) -/
  poisoned : Bool
  deriving DecidableEq, Repr

/-- A Gnoari response addressed to the device (R293). -/
structure GnResp where
  /-- DST[15:0] -/
  dst : BitVec 16
  /-- SRC_TYPE -/
  srcType : Fin 4
  /-- SRC -/
  src : BitVec 24
  /-- OPCODE -/
  opcode : BitVec 8
  /-- STATUS -/
  status : BitVec 8
  /-- TAG -/
  tag : BitVec 16
  /-- SEQ -/
  seq : BitVec 32
  /-- ADDR -/
  addr : BitVec 64
  /-- ACK_SEQ -/
  ackSeq : BitVec 32
  /-- payload -/
  payload : List Byte
  /-- POISON on a cell of the frame -/
  poisoned : Bool
  deriving DecidableEq, Repr

/-- What a ring's lock-in demodulator finds in one 100 µs update (R69 to R72). -/
structure LockinObs where
  /-- lock-in error, signed 16 bits -/
  error : BitVec 16
  /-- the heater code the loop sets -/
  heater : BitVec 16
  /-- the drop power is at least half its peak (R72) -/
  power : Bool
  deriving DecidableEq, Repr

/-- What a sweep finds (R74). -/
structure SweepObs where
  /-- a peak was found -/
  peak : Bool
  /-- heater code of the peak -/
  heater : BitVec 16
  /-- width of the peak -/
  width : BitVec 8
  deriving DecidableEq, Repr

/-- The calibration tasks of an engine (Table 3.5). -/
inductive CalTask where
  | darkOffset | gainCheck | windowSweep | tempco | bypassDark | extinction
  deriving DecidableEq, Repr

/-- The outcome of a calibration task. -/
structure CalObs where
  /-- the task passed -/
  ok : Bool
  /-- the peak width in GHz of a window sweep, the signed change of the tempco, or a monitor's dark offset -/
  value : BitVec 16
  /-- the lane's drop ring, not its select ring -/
  drop : Bool := false
  /-- the peak code of a window sweep -/
  peak : BitVec 16 := 0
  deriving DecidableEq, Repr

/-- The calibration tasks of the Sideboard (Table 4.7). -/
inductive SbdCalTask where
  | darkLevel | ampGain | biasTrim | fullSweep
  deriving DecidableEq, Repr

/-- The outcome of a Sideboard calibration task (R105). -/
structure SbdCalObs where
  /-- the task -/
  task : SbdCalTask
  /-- the task passed -/
  ok : Bool
  /-- output concerned -/
  port : Fin 64
  /-- switch concerned: 0 to 7 input, 8 to 15 middle, 16 to 23 output -/
  switch : Fin 24
  deriving DecidableEq, Repr

/-- A Coat Rack: a tile's or a Desk's (R306). -/
inductive CoatSel where
  | tile (t : Fin 16)
  | desk
  deriving DecidableEq, Repr

/-- A register-access frame on a management port (Table 16.8). -/
structure EthReq where
  /-- source MAC -/
  mac : BitVec 48
  /-- destination MAC -/
  dst : BitVec 48
  /-- VERSION -/
  version : BitVec 4
  /-- SEQ -/
  seq : BitVec 16
  /-- ADDRESS -/
  addr : BitVec 32
  /-- COUNT -/
  count : BitVec 16
  /-- DATA words -/
  data : List Word
  deriving DecidableEq, Repr

/-- The commands. -/
inductive Instr where
  /-- REGISTER_WRITE (R8) -/
  | registerWrite (a : Access) (addr : BitVec 26) (be : BitVec 4) (v : Word)
  /-- LOW_WORD_READ (R11) -/
  | lowWordRead (a : Access) (addr : BitVec 26)
  /-- HIGH_WORD_READ (R11) -/
  | highWordRead (a : Access) (addr : BitVec 26)
  /-- LOW_WORD_WRITE (R11) -/
  | lowWordWrite (a : Access) (addr : BitVec 26) (v : Word)
  /-- HIGH_WORD_WRITE (R11) -/
  | highWordWrite (a : Access) (addr : BitVec 26) (v : Word)
  /-- RC_READ (R421) -/
  | rcRead (a : Access) (addr : BitVec 26)
  /-- ADMIN_UP_WRITE (R55) -/
  | adminUpWrite (a : Access) (lp : Fin 1024) (up : Bool)
  /-- LANE_CFG_WRITE (R33) -/
  | laneCfgWrite (a : Access) (port : Fin 256) (lane : Fin 18) (v : Word)
  /-- LIGHT_PRESENT (R55) -/
  | lightPresent (lp : Fin 1024)
  /-- RINGS_LOCKED_ALIGN (R55) -/
  | ringsLockedAlign (lp : Fin 1024)
  /-- FEC_LOCK (R56) -/
  | fecLock (lp : Fin 1024)
  /-- LANE_MARKER_RECEIVED (R39) -/
  | laneMarkerReceived (port : Fin 256) (lane : Fin 18) (m : BitVec 160) (prbsOk : Bool)
  /-- LINK_CONTROL_RECEIVED (R46) -/
  | linkControlReceived (lp : Fin 1024) (flit : List Byte) (badCodeword : Bool) (corrected : List (Fin 16))
  /-- TRAIN_TIMEOUT (R56) -/
  | trainTimeout (lp : Fin 1024)
  /-- RETRAIN_TIMEOUT (R58) -/
  | retrainTimeout (lp : Fin 1024)
  /-- MARKER_LOCK_LOSS (R55) -/
  | markerLockLoss (port : Fin 256) (lane : Fin 18)
  /-- LMAP_GEN_MISMATCH_TIMEOUT (R55) -/
  | lmapGenMismatchTimeout (lp : Fin 1024)
  /-- DATA_FLIT_RECEIVED (R51) -/
  | dataFlitReceived (lp : Fin 1024) (flit : List Byte) (badCodeword : Bool) (corrected : List (Fin 16))
  /-- REPLAY_REQ_RECEIVED (R51) -/
  | replayReqReceived (lp : Fin 1024) (ack : BitVec 16)
  /-- SENDER_REPLAY_TIMEOUT (R51) -/
  | senderReplayTimeout (lp : Fin 1024)
  /-- RECEIVER_REPLAY_TIMEOUT (R51) -/
  | receiverReplayTimeout (lp : Fin 1024)
  /-- EGRESS_FLIT_SLOT (R188) -/
  | egressFlitSlot (lp : Fin 1024)
  /-- FAST_REACQUIRE (R60) -/
  | fastReacquire (lp : Fin 1024) (within1us : Bool)
  /-- FAST_REACQ_TIMEOUT (R60) -/
  | fastReacqTimeout (lp : Fin 1024)
  /-- SPARE_LIGHT (R61) -/
  | spareLight (lp : Fin 1024) (m : LaneMsg)
  /-- SPARE_READY (R62) -/
  | spareReady (lp : Fin 1024) (m : LaneMsg)
  /-- MIRROR (R63) -/
  | mirror (lp : Fin 1024) (m : LaneMsg)
  /-- MIRROR_ACK (R63) -/
  | mirrorAck (lp : Fin 1024) (m : LaneMsg)
  /-- SWITCH_DONE (R63) -/
  | switchDone (lp : Fin 1024) (m : LaneMsg)
  /-- LANE_FAULT (R64) -/
  | laneFault (lp : Fin 1024) (m : LaneMsg)
  /-- DROP (R64) -/
  | drop (lp : Fin 1024) (m : LaneMsg)
  /-- DROP_ACK (R64) -/
  | dropAck (lp : Fin 1024) (m : LaneMsg)
  /-- ADD (R64) -/
  | add (lp : Fin 1024) (m : LaneMsg)
  /-- ADD_ACK (R64) -/
  | addAck (lp : Fin 1024) (m : LaneMsg)
  /-- NAK (R61) -/
  | nak (lp : Fin 1024) (m : LaneMsg)
  /-- LANECTL_TIMEOUT (R61) -/
  | lanectlTimeout (lp : Fin 1024)
  /-- MIRROR_BEGIN (R63) -/
  | mirrorBegin (lp : Fin 1024)
  /-- MIRROR_SWITCH (R63) -/
  | mirrorSwitch (lp : Fin 1024)
  /-- DROP_APPLY (R64) -/
  | dropApply (lp : Fin 1024)
  /-- ADD_APPLY (R64) -/
  | addApply (lp : Fin 1024)
  /-- LNK_SWAP_CMD_SWAP (R63) -/
  | lnkSwapCmdSwap (a : Access) (port : Fin 256) (lane : Fin 18) (spare : Fin 18)
  /-- LNK_SWAP_CMD_DROP (R64) -/
  | lnkSwapCmdDrop (a : Access) (port : Fin 256) (lane : Fin 18)
  /-- LNK_SWAP_CMD_ADD (R64) -/
  | lnkSwapCmdAdd (a : Access) (port : Fin 256) (lane : Fin 18)
  /-- LANE_LOSS_OF_LIGHT (R64) -/
  | laneLossOfLight (port : Fin 256) (lane : Fin 18)
  /-- RING_LOCKIN_UPDATE (R69) -/
  | ringLockinUpdate (oe : Fin 16) (ring : Fin 576) (o : LockinObs)
  /-- RING_WINDOW_EVAL (R71) -/
  | ringWindowEval (oe : Fin 16) (ring : Fin 576) (temp : BitVec 16)
  /-- PREHEAT_DONE (R73) -/
  | preheatDone (oe : Fin 16) (ring : Fin 576)
  /-- SWEEP_COMPLETE (R74) -/
  | sweepComplete (oe : Fin 16) (ring : Fin 576) (o : SweepObs)
  /-- CAPTURE_TIMEOUT (R73) -/
  | captureTimeout (oe : Fin 16) (ring : Fin 576)
  /-- OUT_RETRY_TIMER (R73) -/
  | outRetryTimer (oe : Fin 16) (ring : Fin 576)
  /-- REACQ_MARKER_TIMEOUT (R75) -/
  | reacqMarkerTimeout (port : Fin 256) (lane : Fin 18)
  /-- SYMBOL_ERROR_CHECK (R78) -/
  | symbolErrorCheck (port : Fin 256) (lane : Fin 18) (errors symbols : BitVec 32)
  /-- FEED_REJECT_TIMEOUT (R80) -/
  | feedRejectTimeout (oe : Fin 16) (k : Fin 16)
  /-- COMB_FAIL_DETECT (R81) -/
  | combFailDetect (oe : Fin 16) (dark : BitVec 16)
  /-- OE_FEED_RET_WRITE (R80) -/
  | oeFeedRetWrite (a : Access) (oe : Fin 16) (v : Word)
  /-- FEED_FORCE_WRITE (R80) -/
  | feedForceWrite (a : Access) (oe : Fin 16) (v : BitVec 16)
  /-- ENGINE_ENABLE (R89) -/
  | engineEnable (a : Access) (oe : Fin 16)
  /-- ENGINE_DISABLE (R90) -/
  | engineDisable (a : Access) (oe : Fin 16)
  /-- COMB_MODULE_READY (R89) -/
  | combModuleReady (oe : Fin 16) (prim stby : Bool)
  /-- ENGINE_READY (R89) -/
  | engineReady (oe : Fin 16)
  /-- ENGINE_POWERUP_TIMEOUT (R89) -/
  | enginePowerupTimeout (oe : Fin 16)
  /-- LINE_POWER_READING (R82) -/
  | linePowerReading (oe : Fin 16) (k : Fin 16) (lane : Fin 18) (power : BitVec 16)
  /-- CALIBRATION_TASK (R84) -/
  | calibrationTask (oe : Fin 16) (task : CalTask) (k : Fin 16) (lane : Fin 18) (o : CalObs)
  /-- LANE_ROTATION (R85) -/
  | laneRotation (oe : Fin 16)
  /-- MODULE_POLL (R88) -/
  | modulePoll (oe : Fin 16) (modul : Bool) (ok : Bool) (status : BitVec 16)
  /-- OE_I2C_CMD (R88) -/
  | oeI2cCmd (a : Access) (oe : Fin 16) (v : Word) (ok : Bool) (data : BitVec 16)
  /-- RING_MODE_WRITE (R73) -/
  | ringModeWrite (a : Access) (oe : Fin 16) (ring : Fin 576) (v : Word)
  /-- SBD_SHADOW_WRITE (R99) -/
  | sbdShadowWrite (a : Access) (addr : BitVec 26) (v : Word)
  /-- SBD_LIVE_WRITE (R99) -/
  | sbdLiveWrite (a : Access) (addr : BitVec 26) (v : Word)
  /-- SBD_CHECK (R98) -/
  | sbdCheck (a : Access)
  /-- SBD_CLEAR (R106) -/
  | sbdClear (a : Access)
  /-- SBD_SWAP_TAKE_EFFECT (R100) -/
  | sbdSwapTakeEffect
  /-- SLOT_GUARD (R101) -/
  | slotGuard
  /-- SLOT_BOUNDARY (R101) -/
  | slotBoundary
  /-- SLOT_DARK_END (R101) -/
  | slotDarkEnd
  /-- SBD_DRIVE_LOST (R107) -/
  | sbdDriveLost (dies : BitVec 6)
  /-- SBD_CALIBRATION (R105) -/
  | sbdCalibration (o : SbdCalObs)
  /-- INGRESS_FRAME (R112) -/
  | ingressFrame (lp : Fin 1024) (cls : Fin 8) (bytes : List Byte)
  /-- JOB_CTL_UNKNOWN_CMD (R125) -/
  | jobCtlUnknownCmd (r : JobCtl)
  /-- SET_CONTROLLER (R126) -/
  | setController (r : JobCtl)
  /-- RANK_MAP_WRITE (R119) -/
  | rankMapWrite (r : JobCtl)
  /-- RANK_MAP_REG_WRITE (R119) -/
  | rankMapRegWrite (a : Access) (e : Fin 262144) (v : Word)
  /-- JOB_ENTRY_COMMIT (R131) -/
  | jobEntryCommit (a : Access) (j : Fin 4096) (v : Word)
  /-- LOAD_LEVEL_PUBLISH (R139) -/
  | loadLevelPublish (tile : Fin 16)
  /-- LP_WITHDRAW (R141) -/
  | lpWithdraw (a : Access) (lp : Fin 1024)
  /-- LEARN_HIT_REPORT (R146) -/
  | learnHitReport (tile : Fin 16)
  /-- LEARN_MOVE_REQUEST (R146) -/
  | learnMoveRequest (tile : Fin 16)
  /-- LEARN_INSERT_REQUEST (R146) -/
  | learnInsertRequest (tile : Fin 16)
  /-- LEARN_UPDATE_APPLY (R145) -/
  | learnUpdateApply (tile : Fin 16)
  /-- AGE_SWEEP (R148) -/
  | ageSweep (tile : Fin 16)
  /-- SWAP_NOW (R149) -/
  | swapNow (a : Access)
  /-- DRAIN_COMPLETE (R151) -/
  | drainComplete
  /-- DRAIN_TIMEOUT (R151) -/
  | drainTimeout
  /-- FWD_IND_READ (R153) -/
  | fwdIndRead (a : Access) (table : Fin 16) (bank : Bool)
  /-- FWD_IND_WRITE (R153) -/
  | fwdIndWrite (a : Access) (table : Fin 16) (bank : Bool)
  /-- FWD_IND_INSERT (R153) -/
  | fwdIndInsert (a : Access) (table : Fin 16)
  /-- FWD_IND_DELETE (R153) -/
  | fwdIndDelete (a : Access) (table : Fin 16)
  /-- FWD_IND_SEARCH (R153) -/
  | fwdIndSearch (a : Access) (table : Fin 16)
  /-- MESH_FRAME_RECEIVED (R172) -/
  | meshFrameReceived (die : Fin 24) (dir : Fin 4) (crcBad : Bool) (parity : List (Fin 1408))
  /-- MESH_REPLAY_REQUEST (R172) -/
  | meshReplayRequest (die : Fin 24) (dir : Fin 4)
  /-- MESH_RETRAIN_DONE (R172) -/
  | meshRetrainDone (die : Fin 24) (dir : Fin 4) (ok : Bool) (bad : List (Fin 1408))
  /-- MESH_REPAIR_REQUEST (R173) -/
  | meshRepairRequest (die : Fin 24) (dir : Fin 4)
  /-- MESH_LANE_SWITCH (R173) -/
  | meshLaneSwitch (die : Fin 24) (dir : Fin 4)
  /-- CELL_PROMOTION (R163) -/
  | cellPromotion (die : Fin 24) (src : Fin 70) (ci : Fin 9)
  /-- RESEQ_RELEASE (R159) -/
  | reseqRelease (tile : Fin 16) (lane : Fin 112) (group : Fin 22) (cls : Fin 8) (n : Nat)
  /-- RESEQ_TIMEOUT (R159) -/
  | reseqTimeout (tile : Fin 16) (lane : Fin 112) (group : Fin 22) (cls : Fin 8)
  /-- POISON_MARK (R167) -/
  | poisonMark (frame : Nat) (cell : Nat)
  /-- SPILL_READBACK (R168) -/
  | spillReadback (lp : Fin 1024) (cls : Fin 8) (uncorrectable : Bool)
  /-- REFILL_INSTANT (R182) -/
  | refillInstant (tile : Fin 16)
  /-- POLICER_WORD0_WRITE (R183) -/
  | policerWord0Write (a : Access) (tile : Fin 16) (n : Fin 1024) (v : Word)
  /-- SAMPLE_INSTANT (R194) -/
  | sampleInstant (tile : Fin 16)
  /-- CONTRIB_RECEIVED (R232) -/
  | contribReceived (die : Fin 8) (c : Contrib)
  /-- OUTPUT_STAGE_DONE (R256) -/
  | outputStageDone (die : Fin 8)
  /-- ALLOCATION_GRANT (R239) -/
  | allocationGrant (die : Fin 8)
  /-- CHUNK_SPILL (R241) -/
  | chunkSpill (die : Fin 8)
  /-- CHUNK_SPILL_RETURN (R241) -/
  | chunkSpillReturn (die : Fin 8)
  /-- SHELF_UNCORRECTED_ERROR (R224) -/
  | shelfUncorrectedError (die : Fin 8) (handle : Fin 4096) (chunk : BitVec 24)
  /-- DRAWER_LEVEL_REPLAY (R244) -/
  | drawerLevelReplay (die : Fin 8) (handle : Fin 4096)
  /-- DRW_OPEN (R230) -/
  | drwOpen (a : Access) (handle : Fin 4096)
  /-- DRW_CLOSE (R230) -/
  | drwClose (a : Access) (handle : Fin 4096)
  /-- DRW_ABORT (R240) -/
  | drwAbort (a : Access) (handle : Fin 4096)
  /-- DRW_SHADOW_OPEN (R247) -/
  | drwShadowOpen (a : Access) (handle : Fin 4096)
  /-- DRW_SHADOW_CLOSE (R247) -/
  | drwShadowClose (a : Access) (handle : Fin 4096)
  /-- DRAWER_ABORT (R240) -/
  | drawerAbort (r : JobCtl)
  /-- DRW_CFG_WRITE (R228) -/
  | drwCfgWrite (a : Access) (addr : BitVec 26) (v : Word)
  /-- WEIGHT_WRITE (R205) -/
  | weightWrite (a : Access) (die : Fin 8) (e : Fin 65536) (v : Word)
  /-- DRAWER_MIRROR_RECORD (R229) -/
  | drawerMirrorRecord (die : Fin 8)
  /-- FAILOVER_REPLACE (R246) -/
  | failoverReplace (die : Fin 8)
  /-- SHADOW_STREAM_RECEIVED (R248) -/
  | shadowStreamReceived (die : Fin 8)
  /-- STRAGGLER_TIMEOUT (R263) -/
  | stragglerTimeout (die : Fin 8) (handle : Fin 4096)
  /-- REFORM (R264) -/
  | reform (r : JobCtl)
  /-- REFORM_APPLY (R264) -/
  | reformApply (handle : Fin 4096)
  /-- REFORM_CLEAR_DONE (R264) -/
  | reformClearDone (handle : Fin 4096)
  /-- DRW_RELEASE (R269) -/
  | drwRelease (a : Access) (handle : Fin 4096)
  /-- NOTICE_RESEND_TIMEOUT (R292) -/
  | noticeResendTimeout (die : Fin 8) (member : BitVec 24) (seq : BitVec 32)
  /-- GN_READ (R278) -/
  | gnRead (r : GnReq)
  /-- GN_WRITE (R281) -/
  | gnWrite (r : GnReq)
  /-- GN_WRITE_PART (R281) -/
  | gnWritePart (r : GnReq)
  /-- GN_FWRITE (R282) -/
  | gnFwrite (r : GnReq)
  /-- GN_SYNC (R280) -/
  | gnSync (r : GnReq)
  /-- GN_MWRITE (R287) -/
  | gnMwrite (r : GnReq)
  /-- GN_MREAD (R290) -/
  | gnMread (r : GnReq)
  /-- GN_ATOMIC_ADD (R285) -/
  | gnAtomicAdd (r : GnReq)
  /-- GN_ATOMIC_SWAP (R285) -/
  | gnAtomicSwap (r : GnReq)
  /-- GN_ATOMIC_CAS (R285) -/
  | gnAtomicCas (r : GnReq)
  /-- GN_ATOMIC_AND (R285) -/
  | gnAtomicAnd (r : GnReq)
  /-- GN_ATOMIC_OR (R285) -/
  | gnAtomicOr (r : GnReq)
  /-- GN_ATOMIC_XOR (R285) -/
  | gnAtomicXor (r : GnReq)
  /-- GN_ATOMIC_SMIN (R285) -/
  | gnAtomicSmin (r : GnReq)
  /-- GN_ATOMIC_SMAX (R285) -/
  | gnAtomicSmax (r : GnReq)
  /-- GN_ATOMIC_UMIN (R285) -/
  | gnAtomicUmin (r : GnReq)
  /-- GN_ATOMIC_UMAX (R285) -/
  | gnAtomicUmax (r : GnReq)
  /-- LINE_HOME_EXECUTE (R276) -/
  | lineHomeExecute (tile : Fin 16) (n : Nat) (ue : Bool)
  /-- LINE_HOME_COMPLETION (R281) -/
  | lineHomeCompletion (tile : Fin 16)
  /-- GN_RESP_CONSUMED (R293) -/
  | gnRespConsumed (tile : Fin 16) (r : GnResp)
  /-- GAP_TIMEOUT (R283) -/
  | gapTimeout (srcType : Fin 4) (src : BitVec 24)
  /-- RC_ENTRY_EXPIRE (R285) -/
  | rcEntryExpire (srcType : Fin 4) (src : BitVec 24) (tag : BitVec 16)
  /-- TOMBSTONE_FREE (R285) -/
  | tombstoneFree (srcType : Fin 4) (src : BitVec 24) (tag : BitVec 16)
  /-- SOURCE_TRACKER_FREE (R279) -/
  | sourceTrackerFree (srcType : Fin 4) (src : BitVec 24)
  /-- MIRROR_RESEND (R288) -/
  | mirrorResend (tile : Fin 16) (place : BitVec 8) (seq : BitVec 32)
  /-- MIRROR_BUSY_RETRY (R287) -/
  | mirrorBusyRetry (tile : Fin 16) (place : BitVec 8) (seq : BitVec 32)
  /-- MIRROR_TIMEOUT (R288) -/
  | mirrorTimeout (window : Fin 4096)
  /-- POOL_WIN_OPEN (R274) -/
  | poolWinOpen (a : Access) (window : Fin 4096)
  /-- POOL_WIN_OPEN_MIRROR (R274) -/
  | poolWinOpenMirror (a : Access) (window : Fin 4096)
  /-- POOL_WIN_CLOSE (R274) -/
  | poolWinClose (a : Access) (window : Fin 4096)
  /-- POOL_WIN_RESILVER_PUSH (R289) -/
  | poolWinResilverPush (a : Access) (window : Fin 4096)
  /-- POOL_WIN_RESILVER_PULL (R290) -/
  | poolWinResilverPull (a : Access) (window : Fin 4096)
  /-- POOL_WIN_MARK_LOST (R274) -/
  | poolWinMarkLost (a : Access) (window : Fin 4096)
  /-- WINDOW_ZERO_DONE (R274) -/
  | windowZeroDone (window : Fin 4096)
  /-- RESILVER_GRANULE_DONE (R289) -/
  | resilverGranuleDone (window : Fin 4096)
  /-- POOL_WIN_WRITE (R272) -/
  | poolWinWrite (a : Access) (window : Fin 4096) (word : Fin 8) (v : Word)
  /-- MANTEL_SYNC_RECORD (R297) -/
  | mantelSyncRecord (die : Fin 28) (diff : Int)
  /-- RATE_WRITE (R299) -/
  | rateWrite (a : Access) (v : Word)
  /-- PARAM_UPDATE (R299) -/
  | paramUpdate
  /-- STEP_COMMIT (R301) -/
  | stepCommit (a : Access) (v : Word)
  /-- STEP_ARM (R301) -/
  | stepArm (a : Access)
  /-- TIME_SNAP (R302) -/
  | timeSnap (a : Access)
  /-- HOLDOVER_TIMEOUT (R303) -/
  | holdoverTimeout
  /-- COAT_RACK_POP (R306) -/
  | coatRackPop (a : Access) (which : CoatSel)
  /-- MGMT_PTP_RX (R307) -/
  | mgmtPtpRx (deskB : Bool) (frame : List Byte)
  /-- PTP_TX (R307) -/
  | ptpTx (a : Access) (v : Word)
  /-- PPS_IN_EDGE (R308) -/
  | ppsInEdge
  /-- PPS_OUT_PULSE (R309) -/
  | ppsOutPulse
  /-- LAUNCH_WORD1_WRITE (R310) -/
  | launchWord1Write (a : Access) (e : Fin 256) (v : Word)
  /-- LAUNCH_ARM (R310) -/
  | launchArm (e : Fin 256)
  /-- LAUNCH_CANCEL (R310) -/
  | launchCancel (e : Fin 256)
  /-- LAUNCH_FIRE (R311) -/
  | launchFire (e : Fin 256)
  /-- RESET_ALIGNMENT (R323) -/
  | resetAlignment (delays : List (BitVec 16))
  /-- DIE_REJOIN (R324) -/
  | dieRejoin (die : Fin 45) (delay : BitVec 16)
  /-- ALIGN_CHECK (R325) -/
  | alignCheck (a : Access)
  /-- ALIGN_CHECK_SAMPLE (R325) -/
  | alignCheckSample (bad : List (Fin 28 × BitVec 8))
  /-- PMC_OPEN (R333) -/
  | pmcOpen (a : Access) (window : Fin 256)
  /-- PMC_CLOSE (R333) -/
  | pmcClose (a : Access) (window : Fin 256)
  /-- PMC_SNAP (R332) -/
  | pmcSnap (a : Access)
  /-- PMC_SNAP_CAPTURE (R332) -/
  | pmcSnapCapture
  /-- COUNTER_WINDOW_OPEN (R333) -/
  | counterWindowOpen (window : Fin 256)
  /-- COUNTER_WINDOW_CLOSE (R333) -/
  | counterWindowClose (window : Fin 256)
  /-- COUNTER_READ (R335) -/
  | counterRead (r : JobCtl)
  /-- DIGEST_READ (R326) -/
  | digestRead (r : JobCtl)
  /-- BUREAU_EVENT (R341) -/
  | bureauEvent (source : Fin 1024) (inst inst2 : BitVec 32) (injected : Bool)
  /-- SOURCE_WINDOW_EXPIRE (R341) -/
  | sourceWindowExpire (source : Fin 1024)
  /-- HEARTBEAT_MISS (R338) -/
  | heartbeatMiss (u : Fin 43)
  /-- GRACE_EXPIRE (R343) -/
  | graceExpire (u : Fin 44) (cls : Fin 16)
  /-- PENDING_ACK (R343) -/
  | pendingAck (a : Access) (source : Fin 1024)
  /-- BUR_ACT (R344) -/
  | burAct (a : Access) (v : Word)
  /-- QUIET_EXPIRE (R347) -/
  | quietExpire (inst : BitVec 32) (ok : Bool)
  /-- UNIT_STATE_WRITE (R346) -/
  | unitStateWrite (a : Access) (die : Fin 45) (v : Word)
  /-- SHADOW_DIGEST_RECEIVED (R351) -/
  | shadowDigestReceived (die : Fin 8)
  /-- SPINE_SHADOW_CLEAR (R353) -/
  | spineShadowClear (a : Access)
  /-- STANDIN (R354) -/
  | standin (a : Access) (v : Word)
  /-- INJECTION_CMD (R355) -/
  | injectionCmd (a : Access) (v : Word)
  /-- INJECTION_REPEAT (R355) -/
  | injectionRepeat (e : Fin 1024)
  /-- DESK_TAKEOVER (R337) -/
  | deskTakeover (lostB : Bool)
  /-- BOOT (R359) -/
  | boot
  /-- ENROL_SELF_RESET (R370) -/
  | enrolSelfReset
  /-- FLASH_READ (R378) -/
  | flashRead (a : Access)
  /-- FLASH_ERASE (R378) -/
  | flashErase (a : Access)
  /-- FLASH_PROGRAM (R378) -/
  | flashProgram (a : Access)
  /-- FW_VERIFY (R378) -/
  | fwVerify (a : Access) (slot : Bool) (deskB : Bool)
  /-- FW_PIN (R378) -/
  | fwPin (a : Access) (slot : Bool) (deskB : Bool)
  /-- FW_UNPIN (R378) -/
  | fwUnpin (a : Access) (deskB : Bool)
  /-- FW_HITLESS (R379) -/
  | fwHitless (a : Access) (slot : Bool) (deskB : Bool)
  /-- FW_REBOOT (R359) -/
  | fwReboot (a : Access)
  /-- SVN_COMMIT (R368) -/
  | svnCommit (a : Access)
  /-- ATTEST (R377) -/
  | attest (a : Access)
  /-- DOORBELL_WRITE (R374) -/
  | doorbellWrite (a : Access) (v : Word)
  /-- SEM_ACQUIRE (R375) -/
  | semAcquire (a : Access) (n : Fin 32) (token : BitVec 16)
  /-- SEM_RELEASE (R375) -/
  | semRelease (a : Access) (n : Fin 32) (token : BitVec 16)
  /-- IRQ_MASK_WRITE (R374) -/
  | irqMaskWrite (a : Access) (v : Word)
  /-- ETH_MGMT_READ (R373) -/
  | ethMgmtRead (deskB : Bool) (q : EthReq)
  /-- ETH_MGMT_WRITE (R373) -/
  | ethMgmtWrite (deskB : Bool) (q : EthReq)
  /-- JOB_TEARDOWN (R376) -/
  | jobTeardown (r : JobCtl)
  /-- POWER_ON_RESET_RELEASE (R383) -/
  | powerOnResetRelease (straps : BitVec 6)
  /-- DEVICE_RESET (R384) -/
  | deviceReset (aon : Bool)
  /-- PERST (R421) -/
  | perst (deskB : Bool)
  /-- SUPPLY_WARN (R387) -/
  | supplyWarn (mv : BitVec 16)
  /-- SUPPLY_WARN_CLEAR (R387) -/
  | supplyWarnClear (mv : BitVec 16)
  /-- SAFE_STOP (R389) -/
  | safeStop (cause : Fin 5)
  /-- POWER_LOSS (R393) -/
  | powerLoss
  /-- RESUME_WRITE (R391) -/
  | resumeWrite (a : Access)
  /-- AUTO_RESUME (R391) -/
  | autoResume
  /-- RESUME_COMPLETE (R392) -/
  | resumeComplete
  /-- DOMAIN_SWITCH_WRITE (R394) -/
  | domainSwitchWrite (a : Access) (v : Word)
  /-- DOMAIN_ON_COMPLETE (R394) -/
  | domainOnComplete
  /-- LIMITER_STEP1 (R395) -/
  | limiterStep1 (avg1 avg100 : BitVec 16)
  /-- LIMITER_STEP2 (R395) -/
  | limiterStep2
  /-- LIMITER_RELEASE (R395) -/
  | limiterRelease (avg100 : BitVec 16)
  /-- VR_HOT_ASSERT (R395) -/
  | vrHotAssert
  /-- VR_HOT_DEASSERT (R395) -/
  | vrHotDeassert
  /-- THERMAL_SENSOR_UPDATE (R397) -/
  | thermalSensorUpdate (die : Fin 45) (sensor : Fin 20) (temp : BitVec 16)
  /-- REF_CLOCK_LOSS (R399) -/
  | refClockLoss (b : Bool)
  /-- REF_SWITCH (R399) -/
  | refSwitch (a : Access)
  /-- MESH_FRAME_SEND (R171) -/
  | meshFrameSend (die : Fin 24) (dir : Fin 4)
  /-- REF_CLOCK_RETURN (R399) -/
  | refClockReturn (b : Bool)
  /-- BUDGET_WINDOW_EXPIRY (R348) -/
  | budgetWindowExpiry (budget : Fin 6) (scope : BitVec 32)
  /-- RING_FAIL_WINDOW_EXPIRY (R75) -/
  | ringFailWindowExpiry (oe : Fin 16) (ring : Fin 576)
  /-- POLARISATION_LOCK_CHANGE (R79) -/
  | polarisationLockChange (oe : Fin 16) (comb : Bool) (k : Fin 16) (locked : Bool) (rejected : BitVec 16)
  /-- VIN_AON_IN_TOLERANCE (R383) -/
  | vinAonInTolerance (mv : BitVec 16)
  deriving DecidableEq, Repr

end Sys2Proof
end

