-- ==== Sys2Proof/Decode.lean ====
section
/-! DEFINITION. Commands from words: no row of the command table of this block gives bits, so no word spells a command. -/
namespace Sys2Proof

/-- The command that a word spells by the table's bits: none, as the table gives no row any bits. -/
def decodeTableWord (_nbits _w : Nat) : Option Instr := none

end Sys2Proof
end

