-- ==== Sys2Proof/Machine/RegMap.lean ====
section
/-! DEFINITION. The register map of BAR0 (R414, Tables 18.1 to 18.5 and the register tables of
chapters 2 to 17): every register by its manual name, its address formula, its reset value, the
access type of its bits (R8) and one named field per field-table row. -/
namespace Sys2Proof.Machine

/-- Every register of BAR0 by its manual name (chapter 18). A register held by tiles and by Cabinet
dies is one constructor, indexed by die; `_CAB` and `_DESK` mark a second copy at other addresses. -/
inductive Reg where
  | DESK_IDENT
  | DESK_BOOT_STAT
  | DESK_PROT_POLICY
  | DESK_PROT_LOCK
  | DESK_SVN
  | DESK_STRAP
  | DESK_IMG_VER
  | DESK_KEY_HASH
  | DESK_SEM
  | DESK_UID
  | DESK_GSTAT
  | DESK_IRQ_STAT
  | DESK_IRQ_MASK
  | DESK_DOORBELL
  | DESK_DOORBELL_IN
  | DESK_FLASH_CMD
  | DESK_FLASH_ADDR
  | DESK_FW_CMD
  | DESK_ETH_CFG
  | DESK_EVT_MAC
  | DESK_ATTEST_NONCE
  | DESK_ATTEST_CMD
  | DESK_ACC_ERR
  | DESK_ACC_LAST
  | DESK_ATTEST_BUF
  | DESK_FLASH_WIN
  | DESK_MSIX
  | DESK_MSIX_PBA
  | LNK_PORT_CFG
  | LNK_SWAP_CMD
  | LNK_LP_STATE
  | LNK_LP_PARTNER
  | LNK_LANE_CFG
  | LNK_LANE_STAT
  | LNK_LANE_SYMERR
  | LNK_CW_CNT
  | LNK_CW_CORR
  | LNK_CW_UNCORR
  | LNK_FLIT_CRC_ERR
  | LNK_REPLAY_CNT
  | LNK_REPLAY_FLITS
  | LNK_WINDOW_STALL
  | LNK_RETRAIN_CNT
  | LNK_DOWN_DROP
  | LNK_CREDIT_STALL
  | LNK_CW_HIST
  | LNK_MARKER_ERR
  | LNK_TRAIN_FAIL
  | LNK_REACQ_SLOW
  | LNK_LANECTL_LOST
  | OE_ENG_CFG
  | OE_ENG_STAT
  | OE_CAL_CFG
  | OE_I2C_CMD
  | OE_FEED_RET
  | OE_PC_STAT
  | OE_LINE_PWR
  | OE_WRONG_LINE_CNT
  | OE_REACQ_FAIL_CNT
  | OE_LANE_RETIRE_CNT
  | OE_COMB_SWITCH_CNT
  | OE_I2C_ERR_CNT
  | OE_PC_UNLOCK_CNT
  | OE_HEATER_LIMIT_CNT
  | OE_RING_CTL
  | OE_RING_CAL
  | OE_RING_STAT
  | OE_RING_TEMPCO
  | SBD_CTL
  | SBD_STAT
  | SBD_DIE_MASK
  | SBD_POS
  | SBD_PORT_BYP
  | SBD_PORT_LOST
  | SBD_SWAP_CNT
  | SBD_REFUSE_CNT
  | SBD_LATE_WR_CNT
  | SBD_ABORT_CNT
  | SBD_CAL_FAIL_CNT
  | SBD_CYCLE_CNT
  | SBD_GAIN
  | SBD_OUT_STAT
  | SBD_IN_PWR
  | SBD_SHADOW_SLOT
  | SBD_SHADOW_N
  | SBD_LIVE_SLOT
  | SBD_LIVE_N
  | FWD_PLACE
  | FWD_FRAME_CFG
  | FWD_INFRA_SRC
  | FWD_RANK_MISS
  | FWD_CTL_DENY
  | FWD_JOB
  | FWD_RANK_MAP
  | FWD_HCRC_ERR
  | FWD_KIND_ERR
  | FWD_JOB_DENY
  | FWD_SRC_SPOOF
  | FWD_PLACE_ERR
  | FWD_FCS_ERR
  | FWD_SPRAY_CLASS
  | FWD_BANK_CTL
  | FWD_LATE_WR_CNT
  | FWD_SWAP_REFUSE_CNT
  | FWD_AGE_CFG
  | FWD_LEARN_STAT
  | FWD_DRAIN_TOTAL
  | FWD_FENCE
  | FWD_LP_WITHDRAW
  | FWD_NO_ROUTE
  | FWD_FENCE_SUPP
  | FWD_MC_EMPTY
  | FWD_STALE_DROP
  | FWD_REENQ
  | FWD_REENQ_DROP
  | FWD_FLOOD
  | FWD_LEARN_FAIL
  | FWD_LEARN_MOVE
  | FWD_LEARN_DROP
  | FWD_STATIC_VIOL
  | FWD_VLAN_DROP
  | FWD_AGE_REMOVE
  | FWD_ETH_FILTER
  | FWD_DRAIN_CELLS
  | FWD_STALE_DROP_CAB
  | FWD_DRAIN_CELLS_CAB
  | FWD_IND_CMD
  | FWD_IND_INDEX
  | FWD_IND_SUB
  | FWD_IND_DATA
  | XBAR_CFG
  | XBAR_ALPHA
  | XBAR_MESH_RSV
  | XBAR_LOCAL_RSV
  | XBAR_RSV
  | XBAR_SPILL_ON
  | XBAR_SPILL_OFF
  | XBAR_SPILL_MAX
  | XBAR_SPILL_BW
  | XBAR_SHARED
  | XBAR_SHARED_USED
  | XBAR_DEEP_FREE
  | XBAR_ADMIT_DROP
  | XBAR_UNREACH_CNT
  | XBAR_LINK_DROP
  | XBAR_RESEQ_TO
  | XBAR_POISON
  | XBAR_UNDERRUN
  | XBAR_SPILL_DROP
  | XBAR_SPILL_ERR
  | XBAR_SPILL_CELLS
  | XBAR_RSV4S
  | XBAR_MESH_STAT
  | XBAR_MESH_REPAIR
  | XBAR_MESH_REPLAY
  | XBAR_MESH_RETRAIN
  | XBAR_MESH_CRC_ERR
  | XBAR_MESH_CFG
  | XBAR_MESH_LANE_BAD
  | TM_CFG
  | TM_WRED_SEL
  | TM_WRED
  | TM_SCHED
  | TM_LP_OVH
  | TM_RED_DROP
  | TM_WRED_DROP_G
  | TM_WRED_DROP_Y
  | TM_YEL_LL_DROP
  | TM_SMP_CFG
  | TM_SMP_WPTR
  | TM_SMP_RPTR
  | TM_SMP_LOST
  | TM_SMP_OVERRUN
  | TM_SMP_SET
  | TM_SHP
  | TM_SHP_STAT
  | TM_Q_DEPTH
  | TM_POL
  | TM_POL_GREEN
  | TM_POL_YELLOW
  | TM_POL_RED
  | TM_PORT_POL
  | TM_SMP_RING
  | TM_JOB_POL
  | CAB_NAN_IN
  | CAB_INF_IN
  | CAB_DECODE_OVF
  | CAB_OUT_OVF
  | CAB_OUT_NAN
  | CAB_SPARSE_RANGE
  | CAB_COUNT_WRAP
  | CAB_WEIGHT_LATE_WR
  | CAB_DIGEST_EVICT
  | CAB_DIGEST_WPTR
  | CAB_DIGEST
  | CAB_WEIGHT
  | DRW_PLACE_CFG
  | DRW_CFG
  | DRW_CMD
  | DRW_CMD_ARG
  | DRW_MEMSEL
  | DRW_LATE_WR
  | DRW_RELEASE
  | DRW_MEMBER
  | DRW_COLL
  | DRW_STEER
  | CAB_STEER_MISS
  | CAB_SHELF_PART
  | CAB_SPILL_CFG
  | CAB_SHELF_USED
  | CAB_SPILL_USED
  | CAB_RANK_QUOTA
  | CAB_RANK_HELD
  | CAB_CLAIM_REFUSE
  | CAB_CLAIM_GRANT
  | CAB_DRW_NOCTX
  | CAB_EPOCH_DROP
  | CAB_ATTEMPT_DROP
  | CAB_LIMIT_DROP
  | CAB_FMT_DROP
  | CAB_REPLAY_STALE
  | CAB_CHUNK_FAIL
  | CAB_DRW_REPLAY
  | CAB_SPILL_OUT
  | CAB_SPILL_IN
  | CAB_FCS_DROP
  | CAB_OVERRUN_DROP
  | CAB_STRAGGLER
  | CAB_REFORM
  | CAB_NOTICE_SUPP
  | CAB_COUNT_USED
  | CAB_AGE_DROP
  | DRW_SLOT
  | POOL_CFG
  | POOL_CFG2
  | POOL_PART
  | POOL_WIN_CMD
  | POOL_LATE_WR
  | POOL_WIN
  | POOL_TRK_USED
  | POOL_SRC_USED
  | POOL_RC_USED
  | POOL_RD_CNT
  | POOL_WR_CNT
  | POOL_AT_CNT
  | POOL_DATA_ERR
  | POOL_DENY
  | POOL_BUSY
  | POOL_DUP
  | POOL_GAP
  | POOL_UNKNOWN
  | POOL_RC_HIT
  | POOL_RC_EXPIRE
  | POOL_NO_SESSION
  | POOL_LOST_ACC
  | POOL_RESP_UNMATCHED
  | POOL_SRC_GIVEUP
  | POOL_MIRROR_RETRY
  | MNT_CTL
  | MNT_RATE
  | MNT_STEP
  | MNT_SNAP_RAW
  | MNT_SNAP_TIME
  | MNT_NOW
  | MNT_PPS_IN_TS
  | MNT_PPS_CFG
  | MNT_PPS_OFFSET
  | MNT_PTP_MAC
  | MNT_LAUNCH_PAST
  | MNT_LAUNCH_EARLY
  | MNT_LAUNCH_MISSED
  | MNT_LAUNCH_CONFLICT
  | MNT_LATE_WR
  | MNT_STEP_REFUSED
  | MNT_PPS_IN_CNT
  | MNT_PTP_RX_DROP
  | MNT_LAUNCH
  | MNT_PTP_TX
  | MNT_PTP_TX_LEN
  | MNT_PTP_RX_WPTR
  | MNT_PTP_RX_RPTR
  | MNT_CR_POP_DESK
  | MNT_CR_STAT_DESK
  | MNT_CR_OVF_DESK
  | MNT_PTP_TX_BUF
  | MNT_PTP_RX_REC
  | MNT_CR_POP
  | MNT_CR_STAT
  | MNT_CR_OVF
  | MNT_ALIGN_ERR
  | DESK_PMC_CMD
  | DESK_PMC_REFUSE
  | DESK_PMC_SNAP_TIME
  | CLK_ALIGN_CTL
  | CLK_ALIGN_STAT
  | CLK_ALIGN_DIE
  | DESK_CWIN
  | DESK_CWIN_STAT
  | XBAR_PMC_CFG0
  | XBAR_PMC_CFG1
  | XBAR_PMC_VAL
  | XBAR_PMC_SNAP
  | XBAR_PMC_WIN
  | XBAR_PMC_PORT_RX
  | XBAR_PMC_PORT_TX
  | XBAR_PMC_PWIN_RX
  | XBAR_PMC_PWIN_TX
  | CAB_PMC_CFG0
  | CAB_PMC_CFG1
  | CAB_PMC_VAL
  | CAB_PMC_SNAP
  | CAB_PMC_WIN
  | BUR_CTL
  | BUR_TIMERS
  | BUR_GEN
  | BUR_STANDIN
  | BUR_ACT
  | BUR_ACT_INST
  | BUR_BUDGET_STAT
  | BUR_INJ_CMD
  | BUR_BUDGET
  | BUR_GROUP
  | BUR_SHADOW_CFG
  | BUR_FEED
  | BUR_FEED_DROP
  | BUR_SUPPRESS
  | BUR_INJ_REFUSED
  | BUR_SHADOW_PASS
  | BUR_UNIT
  | BUR_SRC
  | BUR_INJ
  | BUR_LOG
  | BUR_LOG_WPTR
  | BUR_LOG_RPTR
  | BUR_LOG_LOST
  | PWR_CTL
  | PWR_STAT
  | PWR_PD_CTL
  | PWR_PD_STAT
  | PWR_LIMIT
  | PWR_VIN_MAIN
  | PWR_I_MAIN
  | PWR_VIN_AUX
  | PWR_DIP_CNT
  | PWR_SAFE_CNT
  | PWR_THROTTLE_CNT
  | PWR_THERM_CNT
  | PWR_PD_REFUSE
  | PWR_SAFE_REC
  | CLK_REF_CTL
  | CLK_STAT
  | CLK_REF_SWITCH_CNT
  | CLK_REF_LOSS_CNT
  | CLK_REF_DIFF
  | PWR_TEMP
  deriving DecidableEq, Repr

/-- A number per register, used only to key the stored words. -/
def Reg.num (r : Reg) : Nat := r.ctorIdx

/-- One register (or array of registers): where it lies and how many words an entry has. -/
structure RegDesc where
  /-- the register -/
  reg : Reg
  /-- BAR0 address of entry 0 -/
  base : Nat
  /-- (count, stride) of each index, outermost first -/
  dims : List (Nat × Nat)
  /-- 32-bit words per entry -/
  words : Nat
  /-- a Desk-local register: one copy per Desk (R414) -/
  perDesk : Bool
  deriving DecidableEq, Repr

/-- Piece 0 of the register table. -/
def regTablePart0 : List RegDesc :=
  [⟨.DESK_IDENT, 0x0, [], 1, false⟩,
   ⟨.DESK_BOOT_STAT, 0x4, [], 1, false⟩,
   ⟨.DESK_PROT_POLICY, 0x8, [], 1, false⟩,
   ⟨.DESK_PROT_LOCK, 0xC, [], 1, false⟩,
   ⟨.DESK_SVN, 0x10, [], 1, false⟩,
   ⟨.DESK_STRAP, 0x14, [], 1, false⟩,
   ⟨.DESK_IMG_VER, 0x18, [], 2, false⟩,
   ⟨.DESK_KEY_HASH, 0x20, [(8, 0x4)], 1, false⟩,
   ⟨.DESK_SEM, 0x40, [(32, 0x4)], 1, false⟩,
   ⟨.DESK_UID, 0xC0, [(4, 0x4)], 1, false⟩,
   ⟨.DESK_GSTAT, 0xD0, [], 1, false⟩,
   ⟨.DESK_IRQ_STAT, 0x100000, [], 1, true⟩,
   ⟨.DESK_IRQ_MASK, 0x100004, [], 1, true⟩,
   ⟨.DESK_DOORBELL, 0x100008, [], 1, true⟩,
   ⟨.DESK_DOORBELL_IN, 0x10000C, [], 1, true⟩,
   ⟨.DESK_FLASH_CMD, 0x100010, [], 1, true⟩,
   ⟨.DESK_FLASH_ADDR, 0x100014, [], 1, true⟩,
   ⟨.DESK_FW_CMD, 0x100018, [], 1, true⟩,
   ⟨.DESK_ETH_CFG, 0x10001C, [], 1, true⟩,
   ⟨.DESK_EVT_MAC, 0x100020, [], 2, true⟩,
   ⟨.DESK_ATTEST_NONCE, 0x100040, [(8, 0x4)], 1, true⟩,
   ⟨.DESK_ATTEST_CMD, 0x100060, [], 1, true⟩,
   ⟨.DESK_ACC_ERR, 0x100080, [], 1, true⟩,
   ⟨.DESK_ACC_LAST, 0x100084, [], 1, true⟩]

/-- Piece 1 of the register table. -/
def regTablePart1 : List RegDesc :=
  [⟨.DESK_ATTEST_BUF, 0x150000, [(2048, 0x4)], 1, true⟩,
   ⟨.DESK_FLASH_WIN, 0x160000, [(16384, 0x4)], 1, true⟩,
   ⟨.DESK_MSIX, 0x170000, [(128, 0x4)], 1, true⟩,
   ⟨.DESK_MSIX_PBA, 0x171000, [], 1, true⟩,
   ⟨.LNK_PORT_CFG, 0x1040000, [(16, 0x100000), (16, 0x1000)], 1, false⟩,
   ⟨.LNK_SWAP_CMD, 0x1040004, [(16, 0x100000), (16, 0x1000)], 1, false⟩,
   ⟨.LNK_LP_STATE, 0x1040010, [(16, 0x100000), (16, 0x1000), (4, 0x4)], 1, false⟩,
   ⟨.LNK_LP_PARTNER, 0x1040020, [(16, 0x100000), (16, 0x1000), (4, 0x4)], 1, false⟩,
   ⟨.LNK_LANE_CFG, 0x1040100, [(16, 0x100000), (16, 0x1000), (18, 0x4)], 1, false⟩,
   ⟨.LNK_LANE_STAT, 0x1040180, [(16, 0x100000), (16, 0x1000), (18, 0x4)], 1, false⟩,
   ⟨.LNK_LANE_SYMERR, 0x1040200, [(16, 0x100000), (16, 0x1000), (18, 0x8)], 2, false⟩,
   ⟨.LNK_CW_CNT, 0x1040400, [(16, 0x100000), (16, 0x1000), (4, 0x100)], 2, false⟩,
   ⟨.LNK_CW_CORR, 0x1040408, [(16, 0x100000), (16, 0x1000), (4, 0x100)], 2, false⟩,
   ⟨.LNK_CW_UNCORR, 0x1040410, [(16, 0x100000), (16, 0x1000), (4, 0x100)], 2, false⟩,
   ⟨.LNK_FLIT_CRC_ERR, 0x1040418, [(16, 0x100000), (16, 0x1000), (4, 0x100)], 1, false⟩,
   ⟨.LNK_REPLAY_CNT, 0x104041C, [(16, 0x100000), (16, 0x1000), (4, 0x100)], 1, false⟩,
   ⟨.LNK_REPLAY_FLITS, 0x1040420, [(16, 0x100000), (16, 0x1000), (4, 0x100)], 1, false⟩,
   ⟨.LNK_WINDOW_STALL, 0x1040424, [(16, 0x100000), (16, 0x1000), (4, 0x100)], 1, false⟩,
   ⟨.LNK_RETRAIN_CNT, 0x1040428, [(16, 0x100000), (16, 0x1000), (4, 0x100)], 1, false⟩,
   ⟨.LNK_DOWN_DROP, 0x104042C, [(16, 0x100000), (16, 0x1000), (4, 0x100)], 1, false⟩,
   ⟨.LNK_CREDIT_STALL, 0x1040430, [(16, 0x100000), (16, 0x1000), (4, 0x100), (8, 0x4)], 1, false⟩,
   ⟨.LNK_CW_HIST, 0x1040450, [(16, 0x100000), (16, 0x1000), (4, 0x100), (16, 0x4)], 1, false⟩,
   ⟨.LNK_MARKER_ERR, 0x1040490, [(16, 0x100000), (16, 0x1000), (4, 0x100)], 1, false⟩,
   ⟨.LNK_TRAIN_FAIL, 0x1040494, [(16, 0x100000), (16, 0x1000), (4, 0x100)], 1, false⟩]

/-- Piece 2 of the register table. -/
def regTablePart2 : List RegDesc :=
  [⟨.LNK_REACQ_SLOW, 0x1040498, [(16, 0x100000), (16, 0x1000), (4, 0x100)], 1, false⟩,
   ⟨.LNK_LANECTL_LOST, 0x104049C, [(16, 0x100000), (16, 0x1000), (4, 0x100)], 1, false⟩,
   ⟨.OE_ENG_CFG, 0x1080000, [(16, 0x100000)], 1, false⟩,
   ⟨.OE_ENG_STAT, 0x1080004, [(16, 0x100000)], 1, false⟩,
   ⟨.OE_CAL_CFG, 0x1080008, [(16, 0x100000)], 1, false⟩,
   ⟨.OE_I2C_CMD, 0x108000C, [(16, 0x100000)], 1, false⟩,
   ⟨.OE_FEED_RET, 0x1080010, [(16, 0x100000)], 1, false⟩,
   ⟨.OE_PC_STAT, 0x1080100, [(16, 0x100000), (32, 0x4)], 1, false⟩,
   ⟨.OE_LINE_PWR, 0x1080400, [(16, 0x100000), (288, 0x4)], 1, false⟩,
   ⟨.OE_WRONG_LINE_CNT, 0x1080900, [(16, 0x100000)], 1, false⟩,
   ⟨.OE_REACQ_FAIL_CNT, 0x1080904, [(16, 0x100000)], 1, false⟩,
   ⟨.OE_LANE_RETIRE_CNT, 0x1080908, [(16, 0x100000)], 1, false⟩,
   ⟨.OE_COMB_SWITCH_CNT, 0x108090C, [(16, 0x100000)], 1, false⟩,
   ⟨.OE_I2C_ERR_CNT, 0x1080910, [(16, 0x100000)], 1, false⟩,
   ⟨.OE_PC_UNLOCK_CNT, 0x1080914, [(16, 0x100000)], 1, false⟩,
   ⟨.OE_HEATER_LIMIT_CNT, 0x1080918, [(16, 0x100000)], 1, false⟩,
   ⟨.OE_RING_CTL, 0x1081000, [(16, 0x100000), (576, 0x10)], 1, false⟩,
   ⟨.OE_RING_CAL, 0x1081004, [(16, 0x100000), (576, 0x10)], 1, false⟩,
   ⟨.OE_RING_STAT, 0x1081008, [(16, 0x100000), (576, 0x10)], 1, false⟩,
   ⟨.OE_RING_TEMPCO, 0x108100C, [(16, 0x100000), (576, 0x10)], 1, false⟩,
   ⟨.SBD_CTL, 0x2800000, [], 1, false⟩,
   ⟨.SBD_STAT, 0x2800004, [], 1, false⟩,
   ⟨.SBD_DIE_MASK, 0x2800008, [], 1, false⟩,
   ⟨.SBD_POS, 0x280000C, [], 1, false⟩]

/-- Piece 3 of the register table. -/
def regTablePart3 : List RegDesc :=
  [⟨.SBD_PORT_BYP, 0x2800020, [], 2, false⟩,
   ⟨.SBD_PORT_LOST, 0x2800028, [], 2, false⟩,
   ⟨.SBD_SWAP_CNT, 0x2800040, [], 1, false⟩,
   ⟨.SBD_REFUSE_CNT, 0x2800044, [], 1, false⟩,
   ⟨.SBD_LATE_WR_CNT, 0x2800048, [], 1, false⟩,
   ⟨.SBD_ABORT_CNT, 0x280004C, [], 1, false⟩,
   ⟨.SBD_CAL_FAIL_CNT, 0x2800050, [], 1, false⟩,
   ⟨.SBD_CYCLE_CNT, 0x2800058, [], 2, false⟩,
   ⟨.SBD_GAIN, 0x2800100, [(64, 0x4)], 1, false⟩,
   ⟨.SBD_OUT_STAT, 0x2800200, [(64, 0x4)], 1, false⟩,
   ⟨.SBD_IN_PWR, 0x2800300, [(64, 0x4)], 1, false⟩,
   ⟨.SBD_SHADOW_SLOT, 0x2810000, [(64, 0x80)], 32, false⟩,
   ⟨.SBD_SHADOW_N, 0x2812000, [], 1, false⟩,
   ⟨.SBD_LIVE_SLOT, 0x2820000, [(64, 0x80)], 32, false⟩,
   ⟨.SBD_LIVE_N, 0x2822000, [], 1, false⟩,
   ⟨.FWD_PLACE, 0x100, [], 1, false⟩,
   ⟨.FWD_FRAME_CFG, 0x104, [], 1, false⟩,
   ⟨.FWD_INFRA_SRC, 0x140, [(16, 0x4)], 1, false⟩,
   ⟨.FWD_RANK_MISS, 0x180, [], 1, false⟩,
   ⟨.FWD_CTL_DENY, 0x184, [], 1, false⟩,
   ⟨.FWD_JOB, 0x10000, [(4096, 0x10)], 4, false⟩,
   ⟨.FWD_RANK_MAP, 0x3400000, [(262144, 0x4)], 1, false⟩,
   ⟨.FWD_HCRC_ERR, 0x10C0000, [(16, 0x100000)], 1, false⟩,
   ⟨.FWD_KIND_ERR, 0x10C0004, [(16, 0x100000)], 1, false⟩]

/-- Piece 4 of the register table. -/
def regTablePart4 : List RegDesc :=
  [⟨.FWD_JOB_DENY, 0x10C0008, [(16, 0x100000)], 1, false⟩,
   ⟨.FWD_SRC_SPOOF, 0x10C000C, [(16, 0x100000)], 1, false⟩,
   ⟨.FWD_PLACE_ERR, 0x10C0010, [(16, 0x100000)], 1, false⟩,
   ⟨.FWD_FCS_ERR, 0x10C0014, [(16, 0x100000)], 1, false⟩,
   ⟨.FWD_SPRAY_CLASS, 0x200, [], 1, false⟩,
   ⟨.FWD_BANK_CTL, 0x204, [], 1, false⟩,
   ⟨.FWD_LATE_WR_CNT, 0x208, [], 1, false⟩,
   ⟨.FWD_SWAP_REFUSE_CNT, 0x20C, [], 1, false⟩,
   ⟨.FWD_AGE_CFG, 0x210, [], 1, false⟩,
   ⟨.FWD_LEARN_STAT, 0x214, [], 1, false⟩,
   ⟨.FWD_DRAIN_TOTAL, 0x218, [], 1, false⟩,
   ⟨.FWD_FENCE, 0x280, [(32, 0x4)], 1, false⟩,
   ⟨.FWD_LP_WITHDRAW, 0x300, [(32, 0x4)], 1, false⟩,
   ⟨.FWD_NO_ROUTE, 0x10C0020, [(16, 0x100000)], 1, false⟩,
   ⟨.FWD_FENCE_SUPP, 0x10C0024, [(16, 0x100000)], 1, false⟩,
   ⟨.FWD_MC_EMPTY, 0x10C0028, [(16, 0x100000)], 1, false⟩,
   ⟨.FWD_STALE_DROP, 0x10C002C, [(16, 0x100000)], 1, false⟩,
   ⟨.FWD_REENQ, 0x10C0030, [(16, 0x100000)], 1, false⟩,
   ⟨.FWD_REENQ_DROP, 0x10C0034, [(16, 0x100000)], 1, false⟩,
   ⟨.FWD_FLOOD, 0x10C0038, [(16, 0x100000)], 1, false⟩,
   ⟨.FWD_LEARN_FAIL, 0x10C003C, [(16, 0x100000)], 1, false⟩,
   ⟨.FWD_LEARN_MOVE, 0x10C0040, [(16, 0x100000)], 1, false⟩,
   ⟨.FWD_LEARN_DROP, 0x10C0044, [(16, 0x100000)], 1, false⟩,
   ⟨.FWD_STATIC_VIOL, 0x10C0048, [(16, 0x100000)], 1, false⟩]

/-- Piece 5 of the register table. -/
def regTablePart5 : List RegDesc :=
  [⟨.FWD_VLAN_DROP, 0x10C004C, [(16, 0x100000)], 1, false⟩,
   ⟨.FWD_AGE_REMOVE, 0x10C0050, [(16, 0x100000)], 1, false⟩,
   ⟨.FWD_ETH_FILTER, 0x10C0054, [(16, 0x100000)], 1, false⟩,
   ⟨.FWD_DRAIN_CELLS, 0x10C0060, [(16, 0x100000), (2, 0x4)], 1, false⟩,
   ⟨.FWD_STALE_DROP_CAB, 0x20C002C, [(8, 0x100000)], 1, false⟩,
   ⟨.FWD_DRAIN_CELLS_CAB, 0x20C0060, [(8, 0x100000), (2, 0x4)], 1, false⟩,
   ⟨.FWD_IND_CMD, 0x3000000, [], 1, true⟩,
   ⟨.FWD_IND_INDEX, 0x3000004, [], 1, true⟩,
   ⟨.FWD_IND_SUB, 0x3000008, [], 1, true⟩,
   ⟨.FWD_IND_DATA, 0x3000040, [(32, 0x4)], 1, true⟩,
   ⟨.XBAR_CFG, 0x1020000, [(24, 0x100000)], 1, false⟩,
   ⟨.XBAR_ALPHA, 0x1020004, [(24, 0x100000)], 1, false⟩,
   ⟨.XBAR_MESH_RSV, 0x1020008, [(24, 0x100000)], 1, false⟩,
   ⟨.XBAR_LOCAL_RSV, 0x102000C, [(24, 0x100000)], 1, false⟩,
   ⟨.XBAR_RSV, 0x1020010, [(24, 0x100000), (8, 0x4)], 1, false⟩,
   ⟨.XBAR_SPILL_ON, 0x1020030, [(24, 0x100000)], 1, false⟩,
   ⟨.XBAR_SPILL_OFF, 0x1020034, [(24, 0x100000)], 1, false⟩,
   ⟨.XBAR_SPILL_MAX, 0x1020038, [(24, 0x100000)], 1, false⟩,
   ⟨.XBAR_SPILL_BW, 0x102003C, [(24, 0x100000)], 1, false⟩,
   ⟨.XBAR_SHARED, 0x1020040, [(24, 0x100000)], 1, false⟩,
   ⟨.XBAR_SHARED_USED, 0x1020044, [(24, 0x100000)], 1, false⟩,
   ⟨.XBAR_DEEP_FREE, 0x1020048, [(24, 0x100000)], 1, false⟩,
   ⟨.XBAR_ADMIT_DROP, 0x1020080, [(24, 0x100000), (8, 0x4)], 1, false⟩,
   ⟨.XBAR_UNREACH_CNT, 0x10200A0, [(24, 0x100000)], 1, false⟩]

/-- Piece 6 of the register table. -/
def regTablePart6 : List RegDesc :=
  [⟨.XBAR_LINK_DROP, 0x10200A4, [(24, 0x100000)], 1, false⟩,
   ⟨.XBAR_RESEQ_TO, 0x10200A8, [(24, 0x100000)], 1, false⟩,
   ⟨.XBAR_POISON, 0x10200AC, [(24, 0x100000)], 1, false⟩,
   ⟨.XBAR_UNDERRUN, 0x10200B0, [(24, 0x100000)], 1, false⟩,
   ⟨.XBAR_SPILL_DROP, 0x10200B4, [(24, 0x100000)], 1, false⟩,
   ⟨.XBAR_SPILL_ERR, 0x10200B8, [(24, 0x100000)], 1, false⟩,
   ⟨.XBAR_SPILL_CELLS, 0x10200C0, [(24, 0x100000)], 2, false⟩,
   ⟨.XBAR_RSV4S, 0x10200C8, [(24, 0x100000)], 1, false⟩,
   ⟨.XBAR_MESH_STAT, 0x1020100, [(24, 0x100000), (4, 0x40)], 1, false⟩,
   ⟨.XBAR_MESH_REPAIR, 0x1020104, [(24, 0x100000), (4, 0x40)], 1, false⟩,
   ⟨.XBAR_MESH_REPLAY, 0x1020108, [(24, 0x100000), (4, 0x40)], 1, false⟩,
   ⟨.XBAR_MESH_RETRAIN, 0x102010C, [(24, 0x100000), (4, 0x40)], 1, false⟩,
   ⟨.XBAR_MESH_CRC_ERR, 0x1020110, [(24, 0x100000), (4, 0x40)], 1, false⟩,
   ⟨.XBAR_MESH_CFG, 0x1020114, [(24, 0x100000), (4, 0x40)], 1, false⟩,
   ⟨.XBAR_MESH_LANE_BAD, 0x1021000, [(24, 0x100000), (4, 0x100), (44, 0x4)], 1, false⟩,
   ⟨.TM_CFG, 0x1060000, [(16, 0x100000)], 1, false⟩,
   ⟨.TM_WRED_SEL, 0x1060004, [(16, 0x100000)], 1, false⟩,
   ⟨.TM_WRED, 0x1060100, [(16, 0x100000), (16, 0x10)], 3, false⟩,
   ⟨.TM_SCHED, 0x1060200, [(16, 0x100000), (8, 0x4)], 1, false⟩,
   ⟨.TM_LP_OVH, 0x1060300, [(16, 0x100000), (64, 0x4)], 1, false⟩,
   ⟨.TM_RED_DROP, 0x1060400, [(16, 0x100000), (2, 0x4)], 1, false⟩,
   ⟨.TM_WRED_DROP_G, 0x1060410, [(16, 0x100000), (2, 0x4)], 1, false⟩,
   ⟨.TM_WRED_DROP_Y, 0x1060418, [(16, 0x100000), (2, 0x4)], 1, false⟩,
   ⟨.TM_YEL_LL_DROP, 0x1060420, [(16, 0x100000), (2, 0x4)], 1, false⟩]

/-- Piece 7 of the register table. -/
def regTablePart7 : List RegDesc :=
  [⟨.TM_SMP_CFG, 0x1060800, [(16, 0x100000)], 1, false⟩,
   ⟨.TM_SMP_WPTR, 0x1060804, [(16, 0x100000)], 1, false⟩,
   ⟨.TM_SMP_RPTR, 0x1060808, [(16, 0x100000)], 1, false⟩,
   ⟨.TM_SMP_LOST, 0x106080C, [(16, 0x100000)], 1, false⟩,
   ⟨.TM_SMP_OVERRUN, 0x1060810, [(16, 0x100000)], 1, false⟩,
   ⟨.TM_SMP_SET, 0x1060900, [(16, 0x100000), (64, 0x4)], 1, false⟩,
   ⟨.TM_SHP, 0x1061000, [(16, 0x100000), (512, 0x10)], 4, false⟩,
   ⟨.TM_SHP_STAT, 0x1063000, [(16, 0x100000), (512, 0x4)], 1, false⟩,
   ⟨.TM_Q_DEPTH, 0x1063800, [(16, 0x100000), (512, 0x4)], 1, false⟩,
   ⟨.TM_POL, 0x1064000, [(16, 0x100000), (1024, 0x20)], 4, false⟩,
   ⟨.TM_POL_GREEN, 0x1064010, [(16, 0x100000), (1024, 0x20)], 1, false⟩,
   ⟨.TM_POL_YELLOW, 0x1064014, [(16, 0x100000), (1024, 0x20)], 1, false⟩,
   ⟨.TM_POL_RED, 0x1064018, [(16, 0x100000), (1024, 0x20)], 1, false⟩,
   ⟨.TM_PORT_POL, 0x106C000, [(16, 0x100000), (128, 0x4)], 1, false⟩,
   ⟨.TM_SMP_RING, 0x1070000, [(16, 0x100000), (2048, 0x20)], 8, false⟩,
   ⟨.TM_JOB_POL, 0x20000, [(4096, 0x4)], 1, false⟩,
   ⟨.CAB_NAN_IN, 0x2040000, [(8, 0x100000)], 1, false⟩,
   ⟨.CAB_INF_IN, 0x2040004, [(8, 0x100000)], 1, false⟩,
   ⟨.CAB_DECODE_OVF, 0x2040008, [(8, 0x100000)], 1, false⟩,
   ⟨.CAB_OUT_OVF, 0x204000C, [(8, 0x100000)], 1, false⟩,
   ⟨.CAB_OUT_NAN, 0x2040010, [(8, 0x100000)], 1, false⟩,
   ⟨.CAB_SPARSE_RANGE, 0x2040014, [(8, 0x100000)], 1, false⟩,
   ⟨.CAB_COUNT_WRAP, 0x2040018, [(8, 0x100000)], 1, false⟩,
   ⟨.CAB_WEIGHT_LATE_WR, 0x204001C, [(8, 0x100000)], 1, false⟩]

/-- Piece 8 of the register table. -/
def regTablePart8 : List RegDesc :=
  [⟨.CAB_DIGEST_EVICT, 0x2040020, [(8, 0x100000)], 1, false⟩,
   ⟨.CAB_DIGEST_WPTR, 0x2040024, [(8, 0x100000)], 1, false⟩,
   ⟨.CAB_DIGEST, 0x2060000, [(8, 0x100000), (4096, 0x20)], 8, false⟩,
   ⟨.CAB_WEIGHT, 0x2080000, [(8, 0x100000), (65536, 0x4)], 1, false⟩,
   ⟨.DRW_PLACE_CFG, 0x400, [], 1, false⟩,
   ⟨.DRW_CFG, 0x400000, [(4096, 0x40)], 16, false⟩,
   ⟨.DRW_CMD, 0x440000, [], 1, false⟩,
   ⟨.DRW_CMD_ARG, 0x440004, [], 1, false⟩,
   ⟨.DRW_MEMSEL, 0x440008, [], 1, false⟩,
   ⟨.DRW_LATE_WR, 0x44000C, [], 1, false⟩,
   ⟨.DRW_RELEASE, 0x440010, [], 1, false⟩,
   ⟨.DRW_MEMBER, 0x441000, [(1024, 0x4)], 1, false⟩,
   ⟨.DRW_COLL, 0x450000, [(4096, 0x10)], 4, false⟩,
   ⟨.DRW_STEER, 0x10D0000, [(16, 0x100000), (4096, 0x4)], 1, false⟩,
   ⟨.CAB_STEER_MISS, 0x10C0070, [(16, 0x100000)], 1, false⟩,
   ⟨.CAB_SHELF_PART, 0x20D0000, [(8, 0x100000)], 1, false⟩,
   ⟨.CAB_SPILL_CFG, 0x20D0004, [(8, 0x100000)], 1, false⟩,
   ⟨.CAB_SHELF_USED, 0x20D0008, [(8, 0x100000)], 1, false⟩,
   ⟨.CAB_SPILL_USED, 0x20D000C, [(8, 0x100000)], 1, false⟩,
   ⟨.CAB_RANK_QUOTA, 0x20D0010, [(8, 0x100000), (8, 0x4)], 1, false⟩,
   ⟨.CAB_RANK_HELD, 0x20D0030, [(8, 0x100000), (8, 0x4)], 1, false⟩,
   ⟨.CAB_CLAIM_REFUSE, 0x20D0050, [(8, 0x100000), (8, 0x4)], 1, false⟩,
   ⟨.CAB_CLAIM_GRANT, 0x20D0070, [(8, 0x100000)], 1, false⟩,
   ⟨.CAB_DRW_NOCTX, 0x20D0074, [(8, 0x100000)], 1, false⟩]

/-- Piece 9 of the register table. -/
def regTablePart9 : List RegDesc :=
  [⟨.CAB_EPOCH_DROP, 0x20D0078, [(8, 0x100000)], 1, false⟩,
   ⟨.CAB_ATTEMPT_DROP, 0x20D007C, [(8, 0x100000)], 1, false⟩,
   ⟨.CAB_LIMIT_DROP, 0x20D0080, [(8, 0x100000)], 1, false⟩,
   ⟨.CAB_FMT_DROP, 0x20D0084, [(8, 0x100000)], 1, false⟩,
   ⟨.CAB_REPLAY_STALE, 0x20D0088, [(8, 0x100000)], 1, false⟩,
   ⟨.CAB_CHUNK_FAIL, 0x20D008C, [(8, 0x100000)], 1, false⟩,
   ⟨.CAB_DRW_REPLAY, 0x20D0090, [(8, 0x100000)], 1, false⟩,
   ⟨.CAB_SPILL_OUT, 0x20D0094, [(8, 0x100000)], 1, false⟩,
   ⟨.CAB_SPILL_IN, 0x20D0098, [(8, 0x100000)], 1, false⟩,
   ⟨.CAB_FCS_DROP, 0x20D009C, [(8, 0x100000)], 1, false⟩,
   ⟨.CAB_OVERRUN_DROP, 0x20D00A0, [(8, 0x100000)], 1, false⟩,
   ⟨.CAB_STRAGGLER, 0x20D00A4, [(8, 0x100000)], 1, false⟩,
   ⟨.CAB_REFORM, 0x20D00A8, [(8, 0x100000)], 1, false⟩,
   ⟨.CAB_NOTICE_SUPP, 0x20D00AC, [(8, 0x100000)], 1, false⟩,
   ⟨.CAB_COUNT_USED, 0x20D00B0, [(8, 0x100000)], 1, false⟩,
   ⟨.CAB_AGE_DROP, 0x20D00B4, [(8, 0x100000)], 1, false⟩,
   ⟨.DRW_SLOT, 0x20E0000, [(8, 0x100000), (512, 0x20)], 8, false⟩,
   ⟨.POOL_CFG, 0x500, [], 1, false⟩,
   ⟨.POOL_CFG2, 0x504, [], 1, false⟩,
   ⟨.POOL_PART, 0x508, [], 1, false⟩,
   ⟨.POOL_WIN_CMD, 0x510, [], 1, false⟩,
   ⟨.POOL_LATE_WR, 0x514, [], 1, false⟩,
   ⟨.POOL_WIN, 0x40000, [(4096, 0x20)], 8, false⟩,
   ⟨.POOL_TRK_USED, 0x10A0000, [(16, 0x100000)], 1, false⟩]

/-- Piece 10 of the register table. -/
def regTablePart10 : List RegDesc :=
  [⟨.POOL_SRC_USED, 0x10A0004, [(16, 0x100000)], 1, false⟩,
   ⟨.POOL_RC_USED, 0x10A0008, [(16, 0x100000)], 1, false⟩,
   ⟨.POOL_RD_CNT, 0x10A0010, [(16, 0x100000)], 2, false⟩,
   ⟨.POOL_WR_CNT, 0x10A0018, [(16, 0x100000)], 2, false⟩,
   ⟨.POOL_AT_CNT, 0x10A0020, [(16, 0x100000)], 2, false⟩,
   ⟨.POOL_DATA_ERR, 0x10A0028, [(16, 0x100000)], 1, false⟩,
   ⟨.POOL_DENY, 0x10A002C, [(16, 0x100000)], 1, false⟩,
   ⟨.POOL_BUSY, 0x10A0030, [(16, 0x100000)], 1, false⟩,
   ⟨.POOL_DUP, 0x10A0034, [(16, 0x100000)], 1, false⟩,
   ⟨.POOL_GAP, 0x10A0038, [(16, 0x100000)], 1, false⟩,
   ⟨.POOL_UNKNOWN, 0x10A003C, [(16, 0x100000)], 1, false⟩,
   ⟨.POOL_RC_HIT, 0x10A0040, [(16, 0x100000)], 1, false⟩,
   ⟨.POOL_RC_EXPIRE, 0x10A0044, [(16, 0x100000)], 1, false⟩,
   ⟨.POOL_NO_SESSION, 0x10A0048, [(16, 0x100000)], 1, false⟩,
   ⟨.POOL_LOST_ACC, 0x10A004C, [(16, 0x100000)], 1, false⟩,
   ⟨.POOL_RESP_UNMATCHED, 0x10A0050, [(16, 0x100000)], 1, false⟩,
   ⟨.POOL_SRC_GIVEUP, 0x10A0054, [(16, 0x100000)], 1, false⟩,
   ⟨.POOL_MIRROR_RETRY, 0x10A0058, [(16, 0x100000)], 1, false⟩,
   ⟨.MNT_CTL, 0x600, [], 1, false⟩,
   ⟨.MNT_RATE, 0x604, [], 1, false⟩,
   ⟨.MNT_STEP, 0x608, [], 2, false⟩,
   ⟨.MNT_SNAP_RAW, 0x610, [], 2, false⟩,
   ⟨.MNT_SNAP_TIME, 0x618, [], 2, false⟩,
   ⟨.MNT_NOW, 0x620, [], 2, false⟩]

/-- Piece 11 of the register table. -/
def regTablePart11 : List RegDesc :=
  [⟨.MNT_PPS_IN_TS, 0x628, [], 2, false⟩,
   ⟨.MNT_PPS_CFG, 0x630, [], 1, false⟩,
   ⟨.MNT_PPS_OFFSET, 0x634, [], 1, false⟩,
   ⟨.MNT_PTP_MAC, 0x640, [], 2, false⟩,
   ⟨.MNT_LAUNCH_PAST, 0x680, [], 1, false⟩,
   ⟨.MNT_LAUNCH_EARLY, 0x684, [], 1, false⟩,
   ⟨.MNT_LAUNCH_MISSED, 0x688, [], 1, false⟩,
   ⟨.MNT_LAUNCH_CONFLICT, 0x68C, [], 1, false⟩,
   ⟨.MNT_LATE_WR, 0x690, [], 1, false⟩,
   ⟨.MNT_STEP_REFUSED, 0x694, [], 1, false⟩,
   ⟨.MNT_PPS_IN_CNT, 0x698, [], 1, false⟩,
   ⟨.MNT_PTP_RX_DROP, 0x69C, [], 1, false⟩,
   ⟨.MNT_LAUNCH, 0x80000, [(256, 0x10)], 4, false⟩,
   ⟨.MNT_PTP_TX, 0x101000, [], 1, true⟩,
   ⟨.MNT_PTP_TX_LEN, 0x101004, [], 1, true⟩,
   ⟨.MNT_PTP_RX_WPTR, 0x101008, [], 1, true⟩,
   ⟨.MNT_PTP_RX_RPTR, 0x10100C, [], 1, true⟩,
   ⟨.MNT_CR_POP_DESK, 0x101100, [], 2, true⟩,
   ⟨.MNT_CR_STAT_DESK, 0x101108, [], 1, true⟩,
   ⟨.MNT_CR_OVF_DESK, 0x10110C, [], 1, true⟩,
   ⟨.MNT_PTP_TX_BUF, 0x102000, [(512, 0x4)], 1, true⟩,
   ⟨.MNT_PTP_RX_REC, 0x110000, [(64, 0x800)], 512, true⟩,
   ⟨.MNT_CR_POP, 0x10B0000, [(16, 0x100000)], 2, false⟩,
   ⟨.MNT_CR_STAT, 0x10B0008, [(16, 0x100000)], 1, false⟩]

/-- Piece 12 of the register table. -/
def regTablePart12 : List RegDesc :=
  [⟨.MNT_CR_OVF, 0x10B000C, [(16, 0x100000)], 1, false⟩,
   ⟨.MNT_ALIGN_ERR, 0x10B0010, [(16, 0x100000)], 1, false⟩,
   ⟨.DESK_PMC_CMD, 0x700, [], 1, false⟩,
   ⟨.DESK_PMC_REFUSE, 0x704, [], 1, false⟩,
   ⟨.DESK_PMC_SNAP_TIME, 0x708, [], 1, false⟩,
   ⟨.CLK_ALIGN_CTL, 0x800, [], 1, false⟩,
   ⟨.CLK_ALIGN_STAT, 0x804, [], 1, false⟩,
   ⟨.CLK_ALIGN_DIE, 0x840, [(28, 0x4)], 1, false⟩,
   ⟨.DESK_CWIN, 0xA0000, [(256, 0x10)], 4, false⟩,
   ⟨.DESK_CWIN_STAT, 0xA1000, [(256, 0x10)], 4, false⟩,
   ⟨.XBAR_PMC_CFG0, 0x10E0000, [(16, 0x100000), (16, 0x10)], 1, false⟩,
   ⟨.XBAR_PMC_CFG1, 0x10E0004, [(16, 0x100000), (16, 0x10)], 1, false⟩,
   ⟨.XBAR_PMC_VAL, 0x10E0008, [(16, 0x100000), (16, 0x10)], 2, false⟩,
   ⟨.XBAR_PMC_SNAP, 0x10E0100, [(16, 0x100000), (16, 0x8)], 2, false⟩,
   ⟨.XBAR_PMC_WIN, 0x10E0400, [(16, 0x100000), (8, 0x80), (16, 0x8)], 2, false⟩,
   ⟨.XBAR_PMC_PORT_RX, 0x10E8000, [(16, 0x100000), (64, 0x80), (8, 0x10)], 2, false⟩,
   ⟨.XBAR_PMC_PORT_TX, 0x10E8008, [(16, 0x100000), (64, 0x80), (8, 0x10)], 2, false⟩,
   ⟨.XBAR_PMC_PWIN_RX, 0x10F0000, [(16, 0x100000), (8, 0x2000), (64, 0x80), (8, 0x10)], 2, false⟩,
   ⟨.XBAR_PMC_PWIN_TX, 0x10F0008, [(16, 0x100000), (8, 0x2000), (64, 0x80), (8, 0x10)], 2, false⟩,
   ⟨.CAB_PMC_CFG0, 0x20F0000, [(8, 0x100000), (16, 0x10)], 1, false⟩,
   ⟨.CAB_PMC_CFG1, 0x20F0004, [(8, 0x100000), (16, 0x10)], 1, false⟩,
   ⟨.CAB_PMC_VAL, 0x20F0008, [(8, 0x100000), (16, 0x10)], 2, false⟩,
   ⟨.CAB_PMC_SNAP, 0x20F0100, [(8, 0x100000), (16, 0x8)], 2, false⟩,
   ⟨.CAB_PMC_WIN, 0x20F0400, [(8, 0x100000), (8, 0x80), (16, 0x8)], 2, false⟩]

/-- Piece 13 of the register table. -/
def regTablePart13 : List RegDesc :=
  [⟨.BUR_CTL, 0x900, [], 1, false⟩,
   ⟨.BUR_TIMERS, 0x904, [], 1, false⟩,
   ⟨.BUR_GEN, 0x908, [], 1, false⟩,
   ⟨.BUR_STANDIN, 0x90C, [], 1, false⟩,
   ⟨.BUR_ACT, 0x910, [], 1, false⟩,
   ⟨.BUR_ACT_INST, 0x914, [], 1, false⟩,
   ⟨.BUR_BUDGET_STAT, 0x918, [], 1, false⟩,
   ⟨.BUR_INJ_CMD, 0x91C, [], 1, false⟩,
   ⟨.BUR_BUDGET, 0x920, [(6, 0x4)], 1, false⟩,
   ⟨.BUR_GROUP, 0x940, [(16, 0x4)], 1, false⟩,
   ⟨.BUR_SHADOW_CFG, 0x980, [], 1, false⟩,
   ⟨.BUR_FEED, 0x984, [], 1, false⟩,
   ⟨.BUR_FEED_DROP, 0x988, [], 1, false⟩,
   ⟨.BUR_SUPPRESS, 0x98C, [], 1, false⟩,
   ⟨.BUR_INJ_REFUSED, 0x990, [], 1, false⟩,
   ⟨.BUR_SHADOW_PASS, 0x9A0, [(8, 0x4)], 1, false⟩,
   ⟨.BUR_UNIT, 0xA00, [(45, 0x4)], 1, false⟩,
   ⟨.BUR_SRC, 0xC0000, [(1024, 0x10)], 4, false⟩,
   ⟨.BUR_INJ, 0xC8000, [(1024, 0x10)], 4, false⟩,
   ⟨.BUR_LOG, 0x140000, [(1024, 0x20)], 8, true⟩,
   ⟨.BUR_LOG_WPTR, 0x148000, [], 1, true⟩,
   ⟨.BUR_LOG_RPTR, 0x148004, [], 1, true⟩,
   ⟨.BUR_LOG_LOST, 0x148008, [], 1, true⟩,
   ⟨.PWR_CTL, 0xB00, [], 1, false⟩]

/-- Piece 14 of the register table. -/
def regTablePart14 : List RegDesc :=
  [⟨.PWR_STAT, 0xB04, [], 1, false⟩,
   ⟨.PWR_PD_CTL, 0xB08, [], 1, false⟩,
   ⟨.PWR_PD_STAT, 0xB0C, [], 1, false⟩,
   ⟨.PWR_LIMIT, 0xB10, [], 1, false⟩,
   ⟨.PWR_VIN_MAIN, 0xB14, [], 1, false⟩,
   ⟨.PWR_I_MAIN, 0xB18, [], 1, false⟩,
   ⟨.PWR_VIN_AUX, 0xB1C, [], 1, false⟩,
   ⟨.PWR_DIP_CNT, 0xB20, [], 1, false⟩,
   ⟨.PWR_SAFE_CNT, 0xB24, [], 1, false⟩,
   ⟨.PWR_THROTTLE_CNT, 0xB28, [], 1, false⟩,
   ⟨.PWR_THERM_CNT, 0xB2C, [], 1, false⟩,
   ⟨.PWR_PD_REFUSE, 0xB30, [], 1, false⟩,
   ⟨.PWR_SAFE_REC, 0xB34, [], 1, false⟩,
   ⟨.CLK_REF_CTL, 0xC00, [], 1, false⟩,
   ⟨.CLK_STAT, 0xC04, [], 1, false⟩,
   ⟨.CLK_REF_SWITCH_CNT, 0xC08, [], 1, false⟩,
   ⟨.CLK_REF_LOSS_CNT, 0xC0C, [], 1, false⟩,
   ⟨.CLK_REF_DIFF, 0xC10, [], 1, false⟩,
   ⟨.PWR_TEMP, 0x90000, [(45, 0x80), (20, 0x4)], 1, false⟩]

/-- Every register of BAR0 with its address formula. -/
def regTable : List RegDesc :=
  regTablePart0 ++ regTablePart1 ++ regTablePart2 ++ regTablePart3 ++ regTablePart4 ++ regTablePart5 ++ regTablePart6 ++
  regTablePart7 ++ regTablePart8 ++ regTablePart9 ++ regTablePart10 ++
  regTablePart11 ++ regTablePart12 ++ regTablePart13 ++ regTablePart14

/-- LNK_LP_STATE (Table 2.15): NOMINAL_LANES is 16 for sub-port 0 and 0 otherwise. -/
def resetLNK_LP_STATE (lp w : Nat) : BitVec 32 :=
  if w = 0 ∧ lp % 4 = 0 then 0x00400000 else 0

/-- LNK_LANE_CFG (Table 2.16, R34): lanes 0 to 15 serve sub-port 0 at positions 0 to 15, lanes 16 and
17 are spares. `i` is 18 × port + lane. -/
def resetLNK_LANE_CFG (i w : Nat) : BitVec 32 :=
  if w ≠ 0 then 0
  else if i % 18 < 16 then BitVec.ofNat 32 ((i % 18) * 256 + i % 18) else 0x4040

/-- XBAR_RSV (Table 7.3), by class. -/
def resetXBAR_RSV (i w : Nat) : BitVec 32 :=
  if w ≠ 0 then 0
  else match i % 8 with
    | 0 => 72 | 1 => 34 | 2 => 256 | 3 => 256 | 4 => 128 | 5 => 128 | _ => 16

/-- TM_SCHED (Table 8.5), by class: PRIO in [31:30], WEIGHT in [7:0]. -/
def resetTM_SCHED (i w : Nat) : BitVec 32 :=
  if w ≠ 0 then 0
  else match i % 8 with
    | 0 => 0xC0000001 | 1 => 0xC0000004 | 2 => 0x80000008 | 3 => 0x40000008
    | 4 => 0x80000008 | 5 => 0x40000008 | _ => 0x00000001

/-- BUR_BUDGET (Table 15.8): COUNT in [31:24], WINDOW in seconds in [16:0]. -/
def resetBUR_BUDGET (i w : Nat) : BitVec 32 :=
  if w ≠ 0 then 0
  else match i with
    | 0 => 0x02000E10 | 1 => 0x04000E10 | 2 => 0x08000E10
    | 3 => 0x01015180 | 4 => 0x01015180 | _ => 0x01015180

/-- The reset fields of a Bureau source: CLASS, N, W_CODE, LEVEL, CEIL, AUTO_RETURN (Tables 15.2, 15.3). -/
structure SrcReset where
  /-- CLASS -/
  cls : Nat
  /-- N -/
  n : Nat
  /-- W_CODE -/
  w : Nat
  /-- LEVEL -/
  level : Nat
  /-- CEIL -/
  ceil : Nat
  /-- AUTO_RETURN -/
  ar : Nat
  deriving DecidableEq, Repr

/-- Kinds common to every die, units 0 to 42 (Table 15.2). -/
def srcResetCommon (k : Nat) : Option SrcReset :=
  match k with
  | 0 => some ⟨1, 255, 18, 0, 0, 0⟩
  | 12 => some ⟨2, 1, 18, 1, 1, 0⟩
  | 13 => some ⟨7, 1, 18, 1, 1, 0⟩
  | 14 => some ⟨8, 1, 9, 1, 4, 0⟩
  | 15 => some ⟨9, 1, 9, 1, 2, 1⟩
  | _ => none

/-- Kinds of a tile (Table 15.3). -/
def srcResetTile (k : Nat) : Option SrcReset :=
  match k with
  | 1 => some ⟨2, 1, 18, 1, 1, 0⟩
  | 2 => some ⟨2, 1, 18, 1, 1, 0⟩
  | 3 => some ⟨1, 255, 18, 0, 0, 0⟩
  | 4 => some ⟨2, 1, 18, 1, 1, 0⟩
  | 5 => some ⟨3, 1, 18, 0, 0, 0⟩
  | 6 => some ⟨3, 1, 18, 1, 1, 0⟩
  | 7 => some ⟨3, 4, 21, 2, 2, 1⟩
  | 8 => some ⟨5, 1, 18, 1, 1, 0⟩
  | 9 => some ⟨5, 1, 18, 1, 1, 0⟩
  | 10 => some ⟨5, 1, 18, 2, 2, 0⟩
  | 11 => some ⟨5, 1, 18, 1, 1, 0⟩
  | _ => none

/-- Kinds of an optical engine (Table 15.3). -/
def srcResetOe (k : Nat) : Option SrcReset :=
  match k with
  | 1 => some ⟨4, 1, 18, 1, 1, 0⟩
  | 2 => some ⟨4, 1, 18, 0, 0, 0⟩
  | 3 => some ⟨4, 1, 18, 1, 1, 0⟩
  | 4 => some ⟨4, 1, 18, 1, 1, 0⟩
  | 5 => some ⟨4, 1, 18, 1, 1, 0⟩
  | 6 => some ⟨4, 1, 18, 1, 1, 0⟩
  | 7 => some ⟨4, 16, 29, 1, 1, 0⟩
  | 8 => some ⟨4, 1, 18, 1, 1, 0⟩
  | _ => none

/-- Kinds of a Cabinet die (Table 15.3). -/
def srcResetCab (k : Nat) : Option SrcReset :=
  match k with
  | 1 => some ⟨2, 1, 18, 1, 2, 0⟩
  | 2 => some ⟨5, 1, 18, 1, 1, 0⟩
  | 3 => some ⟨6, 1, 18, 1, 1, 0⟩
  | 4 => some ⟨12, 1, 18, 1, 1, 0⟩
  | 5 => some ⟨12, 1, 18, 1, 1, 0⟩
  | 6 => some ⟨12, 1, 18, 1, 1, 0⟩
  | 7 => some ⟨6, 1, 18, 1, 1, 0⟩
  | 8 => some ⟨5, 1, 18, 1, 1, 0⟩
  | 9 => some ⟨5, 1, 18, 1, 1, 0⟩
  | _ => none

/-- Kinds of the Sideboard (Table 15.3). -/
def srcResetSbd (k : Nat) : Option SrcReset :=
  match k with
  | 1 => some ⟨5, 1, 18, 1, 1, 0⟩
  | 2 => some ⟨4, 1, 18, 1, 1, 0⟩
  | 3 => some ⟨4, 1, 18, 1, 1, 0⟩
  | 4 => some ⟨4, 1, 18, 0, 0, 0⟩
  | 5 => some ⟨4, 1, 18, 1, 1, 0⟩
  | _ => none

/-- Kinds of a Desk (Table 15.3). -/
def srcResetDesk (k : Nat) : Option SrcReset :=
  match k with
  | 1 => some ⟨11, 1, 18, 0, 0, 0⟩
  | 2 => some ⟨11, 1, 18, 0, 0, 0⟩
  | 3 => some ⟨5, 1, 18, 1, 1, 0⟩
  | 4 => some ⟨5, 1, 18, 1, 1, 0⟩
  | 5 => some ⟨7, 1, 18, 1, 1, 0⟩
  | 6 => some ⟨7, 1, 18, 0, 0, 0⟩
  | _ => none

/-- Kinds of the device unit (Table 15.3). -/
def srcResetDevice (k : Nat) : Option SrcReset :=
  match k with
  | 0 => some ⟨10, 1, 18, 0, 0, 0⟩
  | 1 => some ⟨10, 1, 18, 4, 4, 0⟩
  | 2 => some ⟨7, 1, 18, 1, 1, 0⟩
  | 3 => some ⟨12, 1, 18, 1, 1, 0⟩
  | 4 => some ⟨11, 1, 18, 1, 1, 0⟩
  | _ => none

/-- The reset row of source 16u + k (R340); `none` for a reserved source. -/
def srcReset (s : Nat) : Option SrcReset :=
  let u := s / 16
  let k := s % 16
  let own :=
    if u < 16 then srcResetTile k
    else if u < 32 then srcResetOe k
    else if u < 40 then srcResetCab k
    else if u = 40 then srcResetSbd k
    else if u < 43 then srcResetDesk k
    else if u = 43 then srcResetDevice k
    else none
  match own with
  | some r => some r
  | none => if u ≤ 42 then srcResetCommon k else none

/-- BUR_SRC (Table 15.11): word 0 holds N, W_CODE, LEVEL, CEIL, CLASS, AUTO_RETURN and EN, whose reset is 1. -/
def resetBUR_SRC (s w : Nat) : BitVec 32 :=
  if w ≠ 0 then 0
  else match srcReset s with
    | some r => BitVec.ofNat 32 (r.n * 0x1000000 + r.w * 0x80000 + r.level * 0x10000 + r.ceil * 0x2000
        + r.cls * 0x200 + r.ar * 0x100 + 0x80)
    | none => 0x80


/-- The reset value of word `w` of entry `i` (the Reset column of the field tables; R424 device reset).
Values that depend on the entry are given by their own functions below. -/
def Reg.reset : Reg → Nat → Nat → BitVec 32
  | .DESK_IDENT, _, 0 => 0x64322040
  | .DESK_IRQ_MASK, _, 0 => 0xFFFFFFFF
  | .LNK_PORT_CFG, _, 0 => 0x18101000
  | .LNK_LP_STATE, i, w => resetLNK_LP_STATE i w
  | .LNK_LANE_CFG, i, w => resetLNK_LANE_CFG i w
  | .OE_ENG_CFG, _, 0 => 0x20000000
  | .OE_CAL_CFG, _, 0 => 0x3C3C00
  | .OE_LINE_PWR, _, 0 => 0x80000000
  | .OE_RING_CTL, _, 0 => 0x4000
  | .OE_RING_CAL, _, 0 => 0x40
  | .OE_RING_TEMPCO, _, 0 => 0xEC00
  | .SBD_CTL, _, 0 => 0x20001414
  | .FWD_FRAME_CFG, _, 0 => 0x80000000
  | .FWD_SPRAY_CLASS, _, 0 => 0x2
  | .FWD_AGE_CFG, _, 0 => 0x80000096
  | .XBAR_CFG, _, 0 => 0xC0000640
  | .XBAR_ALPHA, _, 0 => 0x77777755
  | .XBAR_MESH_RSV, _, 0 => 0x180
  | .XBAR_LOCAL_RSV, _, 0 => 0x80
  | .XBAR_RSV, i, w => resetXBAR_RSV i w
  | .XBAR_SPILL_ON, _, 0 => 0x4000
  | .XBAR_SPILL_OFF, _, 0 => 0x1000
  | .XBAR_SPILL_MAX, _, 0 => 0x100000
  | .XBAR_SPILL_BW, _, 0 => 0x50
  | .XBAR_RSV4S, _, 0 => 0x10
  | .XBAR_MESH_CFG, _, 0 => 0x8
  | .TM_CFG, _, 0 => 0xCA000000
  | .TM_WRED, _, 0 => 0x9000020
  | .TM_WRED, _, 1 => 0x2000
  | .TM_WRED, _, 2 => 0x8000
  | .TM_SCHED, i, w => resetTM_SCHED i w
  | .TM_SHP_STAT, _, 0 => 0xC0000000
  | .TM_SMP_CFG, _, 0 => 0xA0000
  | .DRW_PLACE_CFG, _, 0 => 0x8700007F
  | .DRW_COLL, _, 1 => 0x32
  | .CAB_SHELF_PART, _, 0 => 0x4000500
  | .CAB_SPILL_CFG, _, 0 => 0x80000032
  | .CAB_RANK_QUOTA, _, 0 => 0x9000200
  | .POOL_CFG, _, 0 => 0x140A0A28
  | .POOL_CFG2, _, 0 => 0x4000200
  | .POOL_PART, _, 0 => 0x800
  | .POOL_WIN, _, 0 => 0x2000000
  | .MNT_CTL, _, 0 => 0x40000064
  | .MNT_PPS_CFG, _, 0 => 0x64
  | .MNT_CR_STAT_DESK, _, 0 => 0x200000
  | .MNT_CR_STAT, _, 0 => 0x200000
  | .BUR_TIMERS, _, 0 => 0x6400C8
  | .BUR_BUDGET, i, w => resetBUR_BUDGET i w
  | .BUR_SHADOW_CFG, _, 0 => 0x1000
  | .BUR_SRC, i, w => resetBUR_SRC i w
  | .PWR_CTL, _, 0 => 0x40008000
  | .PWR_LIMIT, _, 0 => 0x1C20190
  | .CLK_REF_CTL, _, 0 => 0x80000000
  | _, _, _ => 0

/-- The bits of one register word by access type (R8, Table 0.5); bits in no mask are RO or reserved. -/
structure Masks where
  /-- RW bits -/
  rw : BitVec 32 := 0
  /-- W1C bits -/
  w1c : BitVec 32 := 0
  /-- WO bits -/
  wo : BitVec 32 := 0
  /-- WS bits -/
  ws : BitVec 32 := 0
  /-- RC bits -/
  rc : BitVec 32 := 0
  /-- BOOT bits -/
  boot : BitVec 32 := 0
  deriving DecidableEq, Repr

/-- The access type of every bit of word `w` of a register (Table 0.5). -/
def Reg.masks : Reg → Nat → Masks
  | .DESK_PROT_POLICY, 0 => { boot := 0xFC000000 }
  | .DESK_SVN, 0 => { ws := 0x80000000 }
  | .DESK_IRQ_STAT, 0 => { w1c := 0xFFFFFFFF }
  | .DESK_IRQ_MASK, 0 => { rw := 0xFFFFFFFF }
  | .DESK_DOORBELL, 0 => { wo := 0xFFFFFFFF }
  | .DESK_FLASH_CMD, 0 => { ws := 0x80000000, rw := 0x70000000 }
  | .DESK_FLASH_ADDR, 0 => { rw := 0x3FFFFFF }
  | .DESK_FW_CMD, 0 => { ws := 0x80000000, rw := 0x7C000000 }
  | .DESK_ETH_CFG, 0 => { rw := 0x80000000 }
  | .DESK_EVT_MAC, 0 => { rw := 0xFFFFFFFF }
  | .DESK_EVT_MAC, 1 => { rw := 0xFFFF }
  | .DESK_ATTEST_NONCE, 0 => { rw := 0xFFFFFFFF }
  | .DESK_ATTEST_CMD, 0 => { ws := 0x80000000 }
  | .DESK_ACC_ERR, 0 => { rc := 0xFFFFFFFF }
  | .DESK_FLASH_WIN, 0 => { rw := 0xFFFFFFFF }
  | .DESK_MSIX, 0 => { rw := 0xFFFFFFFF }
  | .LNK_PORT_CFG, 0 => { rw := 0xF8FFFF00 }
  | .LNK_SWAP_CMD, 0 => { ws := 0x80000000, rw := 0x7FFC0000 }
  | .LNK_LANE_CFG, 0 => { rw := 0x7F7F }
  | .LNK_LANE_STAT, 0 => { w1c := 0x1F000000 }
  | .LNK_LANE_SYMERR, 0 => { rc := 0xFFFFFFFF }
  | .LNK_LANE_SYMERR, 1 => { rc := 0xFFFFFFFF }
  | .LNK_CW_CORR, 0 => { rc := 0xFFFFFFFF }
  | .LNK_CW_CORR, 1 => { rc := 0xFFFFFFFF }
  | .LNK_CW_UNCORR, 0 => { rc := 0xFFFFFFFF }
  | .LNK_CW_UNCORR, 1 => { rc := 0xFFFFFFFF }
  | .LNK_FLIT_CRC_ERR, 0 => { rc := 0xFFFFFFFF }
  | .LNK_REPLAY_CNT, 0 => { rc := 0xFFFFFFFF }
  | .LNK_REPLAY_FLITS, 0 => { rc := 0xFFFFFFFF }
  | .LNK_WINDOW_STALL, 0 => { rc := 0xFFFFFFFF }
  | .LNK_RETRAIN_CNT, 0 => { rc := 0xFFFFFFFF }
  | .LNK_DOWN_DROP, 0 => { rc := 0xFFFFFFFF }
  | .LNK_CREDIT_STALL, 0 => { rc := 0xFFFFFFFF }
  | .LNK_CW_HIST, 0 => { rc := 0xFFFFFFFF }
  | .LNK_MARKER_ERR, 0 => { rc := 0xFFFFFFFF }
  | .LNK_TRAIN_FAIL, 0 => { rc := 0xFFFFFFFF }
  | .LNK_REACQ_SLOW, 0 => { rc := 0xFFFFFFFF }
  | .LNK_LANECTL_LOST, 0 => { rc := 0xFFFFFFFF }
  | .OE_ENG_CFG, 0 => { rw := 0xE000FFFF }
  | .OE_ENG_STAT, 0 => { w1c := 0x3000000 }
  | .OE_CAL_CFG, 0 => { rw := 0x80FFFF00 }
  | .OE_I2C_CMD, 0 => { ws := 0x80000000, rw := 0x60FFFFFF }
  | .OE_FEED_RET, 0 => { wo := 0xFFFF }
  | .OE_PC_STAT, 0 => { w1c := 0x40000000 }
  | .OE_LINE_PWR, 0 => { rw := 0xFFFF0000 }
  | .OE_WRONG_LINE_CNT, 0 => { rc := 0xFFFFFFFF }
  | .OE_REACQ_FAIL_CNT, 0 => { rc := 0xFFFFFFFF }
  | .OE_LANE_RETIRE_CNT, 0 => { rc := 0xFFFFFFFF }
  | .OE_COMB_SWITCH_CNT, 0 => { rc := 0xFFFFFFFF }
  | .OE_I2C_ERR_CNT, 0 => { rc := 0xFFFFFFFF }
  | .OE_PC_UNLOCK_CNT, 0 => { rc := 0xFFFFFFFF }
  | .OE_HEATER_LIMIT_CNT, 0 => { rc := 0xFFFFFFFF }
  | .OE_RING_CTL, 0 => { rw := 0xFFFFC000 }
  | .OE_RING_CAL, 0 => { rw := 0xFFFFFFFF }
  | .OE_RING_STAT, 0 => { w1c := 0xC000000 }
  | .OE_RING_TEMPCO, 0 => { rw := 0xFFFF }
  | .SBD_CTL, 0 => { ws := 0xC0000000, rw := 0x2000FFFF }
  | .SBD_DIE_MASK, 0 => { rw := 0xF }
  | .SBD_PORT_LOST, 0 => { w1c := 0xFFFFFFFF }
  | .SBD_PORT_LOST, 1 => { w1c := 0xFFFFFFFF }
  | .SBD_SWAP_CNT, 0 => { rc := 0xFFFFFFFF }
  | .SBD_REFUSE_CNT, 0 => { rc := 0xFFFFFFFF }
  | .SBD_LATE_WR_CNT, 0 => { rc := 0xFFFFFFFF }
  | .SBD_ABORT_CNT, 0 => { rc := 0xFFFFFFFF }
  | .SBD_CAL_FAIL_CNT, 0 => { rc := 0xFFFFFFFF }
  | .SBD_GAIN, 0 => { rw := 0xFF }
  | .SBD_OUT_STAT, 0 => { w1c := 0x60000000 }
  | .SBD_SHADOW_SLOT, 0 => { rw := 0xFFFFFF }
  | .SBD_SHADOW_SLOT, w => if w ≤ 16 then { rw := 0xBFBFBFBF } else {}
  | .SBD_SHADOW_N, 0 => { rw := 0x7F }
  | .FWD_PLACE, 0 => { boot := 0xFF }
  | .FWD_FRAME_CFG, 0 => { boot := 0x80000000 }
  | .FWD_INFRA_SRC, 0 => { boot := 0x83FFFFFF }
  | .FWD_RANK_MISS, 0 => { rc := 0xFFFFFFFF }
  | .FWD_CTL_DENY, 0 => { rc := 0xFFFFFFFF }
  | .FWD_JOB, 0 => { rw := 0xF0FF0000 }
  | .FWD_JOB, 1 => { rw := 0xC0FFFFFF }
  | .FWD_JOB, 2 => { rw := 0x3FFFF }
  | .FWD_JOB, 3 => { rw := 0x7FFFF }
  | .FWD_RANK_MAP, 0 => { rw := 0xB0FFFFFF }
  | .FWD_HCRC_ERR, 0 => { rc := 0xFFFFFFFF }
  | .FWD_KIND_ERR, 0 => { rc := 0xFFFFFFFF }
  | .FWD_JOB_DENY, 0 => { rc := 0xFFFFFFFF }
  | .FWD_SRC_SPOOF, 0 => { rc := 0xFFFFFFFF }
  | .FWD_PLACE_ERR, 0 => { rc := 0xFFFFFFFF }
  | .FWD_FCS_ERR, 0 => { rc := 0xFFFFFFFF }
  | .FWD_SPRAY_CLASS, 0 => { boot := 0x3E }
  | .FWD_BANK_CTL, 0 => { ws := 0x80000000 }
  | .FWD_LATE_WR_CNT, 0 => { rc := 0xFFFFFFFF }
  | .FWD_SWAP_REFUSE_CNT, 0 => { rc := 0xFFFFFFFF }
  | .FWD_AGE_CFG, 0 => { rw := 0x8000FFFF }
  | .FWD_FENCE, 0 => { rw := 0xFFFFFFFF }
  | .FWD_LP_WITHDRAW, 0 => { rw := 0xFFFFFFFF }
  | .FWD_NO_ROUTE, 0 => { rc := 0xFFFFFFFF }
  | .FWD_FENCE_SUPP, 0 => { rc := 0xFFFFFFFF }
  | .FWD_MC_EMPTY, 0 => { rc := 0xFFFFFFFF }
  | .FWD_STALE_DROP, 0 => { rc := 0xFFFFFFFF }
  | .FWD_REENQ, 0 => { rc := 0xFFFFFFFF }
  | .FWD_REENQ_DROP, 0 => { rc := 0xFFFFFFFF }
  | .FWD_FLOOD, 0 => { rc := 0xFFFFFFFF }
  | .FWD_LEARN_FAIL, 0 => { rc := 0xFFFFFFFF }
  | .FWD_LEARN_MOVE, 0 => { rc := 0xFFFFFFFF }
  | .FWD_LEARN_DROP, 0 => { rc := 0xFFFFFFFF }
  | .FWD_STATIC_VIOL, 0 => { rc := 0xFFFFFFFF }
  | .FWD_VLAN_DROP, 0 => { rc := 0xFFFFFFFF }
  | .FWD_AGE_REMOVE, 0 => { rc := 0xFFFFFFFF }
  | .FWD_ETH_FILTER, 0 => { rc := 0xFFFFFFFF }
  | .FWD_STALE_DROP_CAB, 0 => { rc := 0xFFFFFFFF }
  | .FWD_IND_CMD, 0 => { ws := 0x80000000, rw := 0x7F800000 }
  | .FWD_IND_INDEX, 0 => { rw := 0xFFFFF }
  | .FWD_IND_SUB, 0 => { rw := 0xF }
  | .FWD_IND_DATA, 0 => { rw := 0xFFFFFFFF }
  | .XBAR_CFG, 0 => { rw := 0xE000FFFF }
  | .XBAR_ALPHA, 0 => { rw := 0xFFFFFFFF }
  | .XBAR_MESH_RSV, 0 => { boot := 0xFFFF }
  | .XBAR_LOCAL_RSV, 0 => { boot := 0xFFFF }
  | .XBAR_RSV, 0 => { boot := 0xFFFF }
  | .XBAR_SPILL_ON, 0 => { rw := 0xFFFFFF }
  | .XBAR_SPILL_OFF, 0 => { rw := 0xFFFFFF }
  | .XBAR_SPILL_MAX, 0 => { rw := 0xFFFFFF }
  | .XBAR_SPILL_BW, 0 => { rw := 0xFF }
  | .XBAR_ADMIT_DROP, 0 => { rc := 0xFFFFFFFF }
  | .XBAR_UNREACH_CNT, 0 => { rc := 0xFFFFFFFF }
  | .XBAR_LINK_DROP, 0 => { rc := 0xFFFFFFFF }
  | .XBAR_RESEQ_TO, 0 => { rc := 0xFFFFFFFF }
  | .XBAR_POISON, 0 => { rc := 0xFFFFFFFF }
  | .XBAR_UNDERRUN, 0 => { rc := 0xFFFFFFFF }
  | .XBAR_SPILL_DROP, 0 => { rc := 0xFFFFFFFF }
  | .XBAR_SPILL_ERR, 0 => { rc := 0xFFFFFFFF }
  | .XBAR_SPILL_CELLS, 0 => { rc := 0xFFFFFFFF }
  | .XBAR_SPILL_CELLS, 1 => { rc := 0xFFFFFFFF }
  | .XBAR_RSV4S, 0 => { boot := 0xFFFF }
  | .XBAR_MESH_REPAIR, 0 => { rc := 0xFFFFFFFF }
  | .XBAR_MESH_REPLAY, 0 => { rc := 0xFFFFFFFF }
  | .XBAR_MESH_RETRAIN, 0 => { rc := 0xFFFFFFFF }
  | .XBAR_MESH_CRC_ERR, 0 => { rc := 0xFFFFFFFF }
  | .XBAR_MESH_CFG, 0 => { rw := 0xFF }
  | .TM_CFG, 0 => { rw := 0xCF000000 }
  | .TM_WRED_SEL, 0 => { rw := 0xFFFF }
  | .TM_WRED, 0 => { rw := 0x8F0000FF }
  | .TM_WRED, 1 => { rw := 0x1FFFFFF }
  | .TM_WRED, 2 => { rw := 0x1FFFFFF }
  | .TM_SCHED, 0 => { rw := 0xC00000FF }
  | .TM_LP_OVH, 0 => { rw := 0x7F }
  | .TM_RED_DROP, 0 => { rc := 0xFFFFFFFF }
  | .TM_WRED_DROP_G, 0 => { rc := 0xFFFFFFFF }
  | .TM_WRED_DROP_Y, 0 => { rc := 0xFFFFFFFF }
  | .TM_YEL_LL_DROP, 0 => { rc := 0xFFFFFFFF }
  | .TM_SMP_CFG, 0 => { rw := 0xC3FF0000 }
  | .TM_SMP_RPTR, 0 => { rw := 0x7FF }
  | .TM_SMP_LOST, 0 => { rc := 0xFFFFFFFF }
  | .TM_SMP_OVERRUN, 0 => { rc := 0xFFFFFFFF }
  | .TM_SMP_SET, 0 => { rw := 0x800001FF }
  | .TM_SHP, 0 => { rw := 0xC0000000 }
  | .TM_SHP, 1 => { rw := 0x3FFFFF }
  | .TM_SHP, 2 => { rw := 0x3FFFFF }
  | .TM_SHP, 3 => { rw := 0xFFFFFFFF }
  | .TM_POL, 0 => { rw := 0x80000000 }
  | .TM_POL, 1 => { rw := 0x3FFFFFF }
  | .TM_POL, 2 => { rw := 0x3FFFFFF }
  | .TM_POL, 3 => { rw := 0xFFFFFFFF }
  | .TM_POL_GREEN, 0 => { rc := 0xFFFFFFFF }
  | .TM_POL_YELLOW, 0 => { rc := 0xFFFFFFFF }
  | .TM_POL_RED, 0 => { rc := 0xFFFFFFFF }
  | .TM_PORT_POL, 0 => { rw := 0x800003FF }
  | .TM_JOB_POL, 0 => { rw := 0x800003FF }
  | .CAB_NAN_IN, 0 => { rc := 0xFFFFFFFF }
  | .CAB_INF_IN, 0 => { rc := 0xFFFFFFFF }
  | .CAB_DECODE_OVF, 0 => { rc := 0xFFFFFFFF }
  | .CAB_OUT_OVF, 0 => { rc := 0xFFFFFFFF }
  | .CAB_OUT_NAN, 0 => { rc := 0xFFFFFFFF }
  | .CAB_SPARSE_RANGE, 0 => { rc := 0xFFFFFFFF }
  | .CAB_COUNT_WRAP, 0 => { rc := 0xFFFFFFFF }
  | .CAB_WEIGHT_LATE_WR, 0 => { rc := 0xFFFFFFFF }
  | .CAB_DIGEST_EVICT, 0 => { rc := 0xFFFFFFFF }
  | .CAB_WEIGHT, 0 => { rw := 0xFFFFFFFF }
  | .DRW_PLACE_CFG, 0 => { rw := 0x870000FF }
  | .DRW_CFG, 0 => { rw := 0x7000FFF }
  | .DRW_CFG, 1 => { rw := 0xFFFF0E00 }
  | .DRW_CFG, 2 => { rw := 0xFFFFFF00 }
  | .DRW_CFG, 4 => { rw := 0xFFFFFFFF }
  | .DRW_CFG, 5 => { rw := 0xFFFFFFFF }
  | .DRW_CFG, 6 => { rw := 0xFFFF }
  | .DRW_CMD, 0 => { ws := 0x80000000, rw := 0x70000FFF }
  | .DRW_MEMSEL, 0 => { rw := 0xFFF }
  | .DRW_LATE_WR, 0 => { rc := 0xFFFFFFFF }
  | .DRW_RELEASE, 0 => { wo := 0xFFF }
  | .DRW_MEMBER, 0 => { rw := 0x8003FFFF }
  | .DRW_COLL, 0 => { rw := 0xFFFFFFFF }
  | .DRW_COLL, 1 => { rw := 0xFFFFFFFF }
  | .DRW_COLL, 2 => { rw := 0xFFFFFFFF }
  | .DRW_COLL, 3 => { rw := 0xFFFFFFFF }
  | .CAB_STEER_MISS, 0 => { rc := 0xFFFFFFFF }
  | .CAB_SHELF_PART, 0 => { boot := 0xFFF0FFF }
  | .CAB_SPILL_CFG, 0 => { rw := 0x8000FFFF }
  | .CAB_RANK_QUOTA, 0 => { boot := 0xFFF03FF }
  | .CAB_CLAIM_REFUSE, 0 => { rc := 0xFFFFFFFF }
  | .CAB_CLAIM_GRANT, 0 => { rc := 0xFFFFFFFF }
  | .CAB_DRW_NOCTX, 0 => { rc := 0xFFFFFFFF }
  | .CAB_EPOCH_DROP, 0 => { rc := 0xFFFFFFFF }
  | .CAB_ATTEMPT_DROP, 0 => { rc := 0xFFFFFFFF }
  | .CAB_LIMIT_DROP, 0 => { rc := 0xFFFFFFFF }
  | .CAB_FMT_DROP, 0 => { rc := 0xFFFFFFFF }
  | .CAB_REPLAY_STALE, 0 => { rc := 0xFFFFFFFF }
  | .CAB_CHUNK_FAIL, 0 => { rc := 0xFFFFFFFF }
  | .CAB_DRW_REPLAY, 0 => { rc := 0xFFFFFFFF }
  | .CAB_SPILL_OUT, 0 => { rc := 0xFFFFFFFF }
  | .CAB_SPILL_IN, 0 => { rc := 0xFFFFFFFF }
  | .CAB_FCS_DROP, 0 => { rc := 0xFFFFFFFF }
  | .CAB_OVERRUN_DROP, 0 => { rc := 0xFFFFFFFF }
  | .CAB_STRAGGLER, 0 => { rc := 0xFFFFFFFF }
  | .CAB_REFORM, 0 => { rc := 0xFFFFFFFF }
  | .CAB_NOTICE_SUPP, 0 => { rc := 0xFFFFFFFF }
  | .CAB_AGE_DROP, 0 => { rc := 0xFFFFFFFF }
  | .POOL_CFG, 0 => { rw := 0xFFFFFFFF }
  | .POOL_CFG2, 0 => { boot := 0xFFFF07FF }
  | .POOL_WIN_CMD, 0 => { ws := 0x80000000, rw := 0x70000FFF }
  | .POOL_LATE_WR, 0 => { rc := 0xFFFFFFFF }
  | .POOL_WIN, 0 => { rw := 0xFFFFFFF }
  | .POOL_WIN, 1 => { rw := 0xFFF }
  | .POOL_WIN, 2 => { rw := 0x80FF0FFF }
  | .POOL_RD_CNT, 0 => { rc := 0xFFFFFFFF }
  | .POOL_RD_CNT, 1 => { rc := 0xFFFFFFFF }
  | .POOL_WR_CNT, 0 => { rc := 0xFFFFFFFF }
  | .POOL_WR_CNT, 1 => { rc := 0xFFFFFFFF }
  | .POOL_AT_CNT, 0 => { rc := 0xFFFFFFFF }
  | .POOL_AT_CNT, 1 => { rc := 0xFFFFFFFF }
  | .POOL_DATA_ERR, 0 => { rc := 0xFFFFFFFF }
  | .POOL_DENY, 0 => { rc := 0xFFFFFFFF }
  | .POOL_BUSY, 0 => { rc := 0xFFFFFFFF }
  | .POOL_DUP, 0 => { rc := 0xFFFFFFFF }
  | .POOL_GAP, 0 => { rc := 0xFFFFFFFF }
  | .POOL_UNKNOWN, 0 => { rc := 0xFFFFFFFF }
  | .POOL_RC_HIT, 0 => { rc := 0xFFFFFFFF }
  | .POOL_RC_EXPIRE, 0 => { rc := 0xFFFFFFFF }
  | .POOL_NO_SESSION, 0 => { rc := 0xFFFFFFFF }
  | .POOL_LOST_ACC, 0 => { rc := 0xFFFFFFFF }
  | .POOL_RESP_UNMATCHED, 0 => { rc := 0xFFFFFFFF }
  | .POOL_SRC_GIVEUP, 0 => { rc := 0xFFFFFFFF }
  | .POOL_MIRROR_RETRY, 0 => { rc := 0xFFFFFFFF }
  | .MNT_CTL, 0 => { ws := 0x90000000, rw := 0x380FFFF }
  | .MNT_RATE, 0 => { rw := 0xFFFFFFFF }
  | .MNT_STEP, 0 => { wo := 0xFFFFFFFF }
  | .MNT_STEP, 1 => { wo := 0xFFFFFFFF }
  | .MNT_PPS_CFG, 0 => { rw := 0xFFFF }
  | .MNT_PPS_OFFSET, 0 => { rw := 0x3FFFFFFF }
  | .MNT_PTP_MAC, 0 => { rw := 0xFFFFFFFF }
  | .MNT_PTP_MAC, 1 => { rw := 0xFFFF }
  | .MNT_LAUNCH_PAST, 0 => { rc := 0xFFFFFFFF }
  | .MNT_LAUNCH_EARLY, 0 => { rc := 0xFFFFFFFF }
  | .MNT_LAUNCH_MISSED, 0 => { rc := 0xFFFFFFFF }
  | .MNT_LAUNCH_CONFLICT, 0 => { rc := 0xFFFFFFFF }
  | .MNT_LATE_WR, 0 => { rc := 0xFFFFFFFF }
  | .MNT_STEP_REFUSED, 0 => { rc := 0xFFFFFFFF }
  | .MNT_PPS_IN_CNT, 0 => { rc := 0xFFFFFFFF }
  | .MNT_PTP_RX_DROP, 0 => { rc := 0xFFFFFFFF }
  | .MNT_LAUNCH, 0 => { rw := 0xFFFFFFFF }
  | .MNT_LAUNCH, 1 => { rw := 0x9F00FFFF }
  | .MNT_PTP_TX, 0 => { ws := 0x80000000, rw := 0x47FFFFFF }
  | .MNT_PTP_TX_LEN, 0 => { rw := 0x7FF }
  | .MNT_PTP_RX_RPTR, 0 => { rw := 0x3F }
  | .MNT_CR_POP_DESK, 0 => { rc := 0xFFFFFFFF }
  | .MNT_CR_POP_DESK, 1 => { rc := 0x87FFFFFF }
  | .MNT_CR_STAT_DESK, 0 => { rw := 0x7F0000 }
  | .MNT_CR_OVF_DESK, 0 => { rc := 0xFFFFFFFF }
  | .MNT_PTP_TX_BUF, 0 => { rw := 0xFFFFFFFF }
  | .MNT_CR_POP, 0 => { rc := 0xFFFFFFFF }
  | .MNT_CR_POP, 1 => { rc := 0x87FFFFFF }
  | .MNT_CR_STAT, 0 => { rw := 0x7F0000 }
  | .MNT_CR_OVF, 0 => { rc := 0xFFFFFFFF }
  | .MNT_ALIGN_ERR, 0 => { rc := 0xFFFFFFFF }
  | .DESK_PMC_CMD, 0 => { ws := 0x80000000, rw := 0x700000FF }
  | .DESK_PMC_REFUSE, 0 => { rc := 0xFFFFFFFF }
  | .CLK_ALIGN_CTL, 0 => { ws := 0x80000000 }
  | .DESK_CWIN, 0 => { rw := 0xF8FFFFFF }
  | .DESK_CWIN, 1 => { rw := 0xFFFFFF }
  | .DESK_CWIN, 2 => { rw := 0x80000FFF }
  | .DESK_CWIN, 3 => { rw := 0xFFFF007F }
  | .XBAR_PMC_CFG0, 0 => { rw := 0xFFF003FF }
  | .XBAR_PMC_CFG1, 0 => { rw := 0xFFF003F }
  | .CAB_PMC_CFG0, 0 => { rw := 0xFFF003FF }
  | .CAB_PMC_CFG1, 0 => { rw := 0xFFF003F }
  | .BUR_CTL, 0 => { boot := 0xE0000000 }
  | .BUR_TIMERS, 0 => { rw := 0xFFFFFFFF }
  | .BUR_STANDIN, 0 => { ws := 0x80000000, rw := 0xFF }
  | .BUR_ACT, 0 => { ws := 0x80000000, rw := 0x700003FF }
  | .BUR_ACT_INST, 0 => { rw := 0xFFFFFFFF }
  | .BUR_INJ_CMD, 0 => { ws := 0x80000000, rw := 0x3FF }
  | .BUR_BUDGET, 0 => { rw := 0xFF01FFFF }
  | .BUR_GROUP, 0 => { boot := 0x800000FF }
  | .BUR_SHADOW_CFG, 0 => { rw := 0x80FFFFFF }
  | .BUR_FEED, 0 => { rw := 0x8FFF03FF }
  | .BUR_FEED_DROP, 0 => { rc := 0xFFFFFFFF }
  | .BUR_SUPPRESS, 0 => { rc := 0xFFFFFFFF }
  | .BUR_INJ_REFUSED, 0 => { rc := 0xFFFFFFFF }
  | .BUR_SRC, 0 => { rw := 0xFFFFFF80 }
  | .BUR_SRC, 1 => { w1c := 0x80000000 }
  | .BUR_INJ, 0 => { rw := 0xFFFFFFFF }
  | .BUR_INJ, 1 => { rw := 0xFFFFFFFF }
  | .BUR_INJ, 2 => { rw := 0xFFFFFFFF }
  | .BUR_LOG_RPTR, 0 => { rw := 0x3FF }
  | .BUR_LOG_LOST, 0 => { rc := 0xFFFFFFFF }
  | .PWR_CTL, 0 => { ws := 0x80000000, rw := 0x4000FF00 }
  | .PWR_PD_CTL, 0 => { rw := 0x3FFF0000 }
  | .PWR_LIMIT, 0 => { rw := 0x1FF01FF }
  | .PWR_VIN_MAIN, 0 => { rc := 0xFFFF0000 }
  | .PWR_DIP_CNT, 0 => { rc := 0xFFFFFFFF }
  | .PWR_SAFE_CNT, 0 => { rc := 0xFFFFFFFF }
  | .PWR_THROTTLE_CNT, 0 => { rc := 0xFFFFFFFF }
  | .PWR_THERM_CNT, 0 => { rc := 0xFFFFFFFF }
  | .PWR_PD_REFUSE, 0 => { rc := 0xFFFFFFFF }
  | .CLK_REF_CTL, 0 => { rw := 0xC0000000, ws := 0x20000000 }
  | .CLK_REF_SWITCH_CNT, 0 => { rc := 0xFFFFFFFF }
  | .CLK_REF_LOSS_CNT, 0 => { rc := 0xFFFFFFFF }
  | _, _ => {}

/-- The registers of two words that R11 serves through the read latch (the 64-bit registers). -/
def Reg.is64 : Reg → Bool
  | .DESK_IMG_VER => true
  | .DESK_EVT_MAC => true
  | .LNK_LANE_SYMERR => true
  | .LNK_CW_CNT => true
  | .LNK_CW_CORR => true
  | .LNK_CW_UNCORR => true
  | .SBD_PORT_BYP => true
  | .SBD_PORT_LOST => true
  | .SBD_CYCLE_CNT => true
  | .XBAR_SPILL_CELLS => true
  | .POOL_RD_CNT => true
  | .POOL_WR_CNT => true
  | .POOL_AT_CNT => true
  | .MNT_STEP => true
  | .MNT_SNAP_RAW => true
  | .MNT_SNAP_TIME => true
  | .MNT_NOW => true
  | .MNT_PPS_IN_TS => true
  | .MNT_PTP_MAC => true
  | .MNT_CR_POP_DESK => true
  | .MNT_CR_POP => true
  | .XBAR_PMC_VAL => true
  | .XBAR_PMC_SNAP => true
  | .XBAR_PMC_WIN => true
  | .XBAR_PMC_PORT_RX => true
  | .XBAR_PMC_PORT_TX => true
  | .XBAR_PMC_PWIN_RX => true
  | .XBAR_PMC_PWIN_TX => true
  | .CAB_PMC_VAL => true
  | .CAB_PMC_SNAP => true
  | .CAB_PMC_WIN => true
  | _ => false

/-- The command registers of R420: a GO field of type WS. -/
def Reg.isCmd : Reg → Bool
  | .DESK_FLASH_CMD => true
  | .DESK_FW_CMD => true
  | .DESK_ATTEST_CMD => true
  | .LNK_SWAP_CMD => true
  | .OE_I2C_CMD => true
  | .FWD_IND_CMD => true
  | .DRW_CMD => true
  | .POOL_WIN_CMD => true
  | .MNT_PTP_TX => true
  | .DESK_PMC_CMD => true
  | .BUR_STANDIN => true
  | .BUR_ACT => true
  | .BUR_INJ_CMD => true
  | _ => false

/-- A field of a register: bits [hi:lo] of the entry, counted across its words. -/
structure Fld where
  /-- the register -/
  reg : Reg
  /-- highest bit -/
  hi : Nat
  /-- lowest bit -/
  lo : Nat
  deriving DecidableEq, Repr

/-- DESK_IDENT.PART, RO. -/
abbrev F.DESK_IDENT.PART : Fld := ⟨.DESK_IDENT, 31, 16⟩
/-- DESK_IDENT.STEP_MAJOR, RO. -/
abbrev F.DESK_IDENT.STEP_MAJOR : Fld := ⟨.DESK_IDENT, 15, 12⟩
/-- DESK_IDENT.STEP_MINOR, RO. -/
abbrev F.DESK_IDENT.STEP_MINOR : Fld := ⟨.DESK_IDENT, 11, 8⟩
/-- DESK_IDENT.ORDER_CODE, RO. -/
abbrev F.DESK_IDENT.ORDER_CODE : Fld := ⟨.DESK_IDENT, 7, 6⟩
/-- DESK_IDENT.KEY_ENROLLED, RO. -/
abbrev F.DESK_IDENT.KEY_ENROLLED : Fld := ⟨.DESK_IDENT, 5, 5⟩
/-- DESK_BOOT_STAT.STAGE, RO. -/
abbrev F.DESK_BOOT_STAT.STAGE : Fld := ⟨.DESK_BOOT_STAT, 31, 28⟩
/-- DESK_BOOT_STAT.FLASH_MISMATCH, RO. -/
abbrev F.DESK_BOOT_STAT.FLASH_MISMATCH : Fld := ⟨.DESK_BOOT_STAT, 27, 27⟩
/-- DESK_BOOT_STAT.CAL_OK, RO. -/
abbrev F.DESK_BOOT_STAT.CAL_OK : Fld := ⟨.DESK_BOOT_STAT, 26, 26⟩
/-- DESK_BOOT_STAT.SLOT, RO. -/
abbrev F.DESK_BOOT_STAT.SLOT : Fld := ⟨.DESK_BOOT_STAT, 25, 24⟩
/-- DESK_BOOT_STAT.CHECK_ERR, RO. -/
abbrev F.DESK_BOOT_STAT.CHECK_ERR : Fld := ⟨.DESK_BOOT_STAT, 23, 16⟩
/-- DESK_BOOT_STAT.CHECK_SECTION, RO. -/
abbrev F.DESK_BOOT_STAT.CHECK_SECTION : Fld := ⟨.DESK_BOOT_STAT, 15, 8⟩
/-- DESK_PROT_POLICY.JTAG_LOCK, BOOT. -/
abbrev F.DESK_PROT_POLICY.JTAG_LOCK : Fld := ⟨.DESK_PROT_POLICY, 31, 31⟩
/-- DESK_PROT_POLICY.ETH_MGMT_EN, BOOT. -/
abbrev F.DESK_PROT_POLICY.ETH_MGMT_EN : Fld := ⟨.DESK_PROT_POLICY, 30, 30⟩
/-- DESK_PROT_POLICY.ETH_MGMT_WR, BOOT. -/
abbrev F.DESK_PROT_POLICY.ETH_MGMT_WR : Fld := ⟨.DESK_PROT_POLICY, 29, 29⟩
/-- DESK_PROT_POLICY.HITLESS_EN, BOOT. -/
abbrev F.DESK_PROT_POLICY.HITLESS_EN : Fld := ⟨.DESK_PROT_POLICY, 28, 28⟩
/-- DESK_PROT_POLICY.CAL_WR, BOOT. -/
abbrev F.DESK_PROT_POLICY.CAL_WR : Fld := ⟨.DESK_PROT_POLICY, 27, 27⟩
/-- DESK_PROT_POLICY.ATTEST_EN, BOOT. -/
abbrev F.DESK_PROT_POLICY.ATTEST_EN : Fld := ⟨.DESK_PROT_POLICY, 26, 26⟩
/-- DESK_PROT_LOCK.LOCKED, RO. -/
abbrev F.DESK_PROT_LOCK.LOCKED : Fld := ⟨.DESK_PROT_LOCK, 0, 0⟩
/-- DESK_SVN.SVN_COMMIT, WS. -/
abbrev F.DESK_SVN.SVN_COMMIT : Fld := ⟨.DESK_SVN, 31, 31⟩
/-- DESK_SVN.SVN, RO. -/
abbrev F.DESK_SVN.SVN : Fld := ⟨.DESK_SVN, 14, 8⟩
/-- DESK_SVN.F, RO. -/
abbrev F.DESK_SVN.F : Fld := ⟨.DESK_SVN, 6, 0⟩
/-- DESK_STRAP.DEVICE_ID, RO. -/
abbrev F.DESK_STRAP.DEVICE_ID : Fld := ⟨.DESK_STRAP, 5, 0⟩
/-- DESK_IMG_VER.VERSION, RO. -/
abbrev F.DESK_IMG_VER.VERSION : Fld := ⟨.DESK_IMG_VER, 63, 0⟩
/-- DESK_KEY_HASH.HASH, RO. -/
abbrev F.DESK_KEY_HASH.HASH : Fld := ⟨.DESK_KEY_HASH, 31, 0⟩
/-- DESK_SEM.HELD, RO. -/
abbrev F.DESK_SEM.HELD : Fld := ⟨.DESK_SEM, 31, 31⟩
/-- DESK_SEM.OWNER, RO. -/
abbrev F.DESK_SEM.OWNER : Fld := ⟨.DESK_SEM, 30, 29⟩
/-- DESK_SEM.TOKEN, RO. -/
abbrev F.DESK_SEM.TOKEN : Fld := ⟨.DESK_SEM, 15, 0⟩
/-- DESK_UID.UID, RO. -/
abbrev F.DESK_UID.UID : Fld := ⟨.DESK_UID, 31, 0⟩
/-- DESK_GSTAT.STAGE, RO. -/
abbrev F.DESK_GSTAT.STAGE : Fld := ⟨.DESK_GSTAT, 31, 28⟩
/-- DESK_GSTAT.SUPPLY, RO. -/
abbrev F.DESK_GSTAT.SUPPLY : Fld := ⟨.DESK_GSTAT, 27, 26⟩
/-- DESK_GSTAT.LOCKED, RO. -/
abbrev F.DESK_GSTAT.LOCKED : Fld := ⟨.DESK_GSTAT, 25, 25⟩
/-- DESK_GSTAT.MASTER, RO. -/
abbrev F.DESK_GSTAT.MASTER : Fld := ⟨.DESK_GSTAT, 24, 24⟩
/-- DESK_GSTAT.BOTH_DESKS, RO. -/
abbrev F.DESK_GSTAT.BOTH_DESKS : Fld := ⟨.DESK_GSTAT, 23, 23⟩
/-- DESK_GSTAT.PENDING, RO. -/
abbrev F.DESK_GSTAT.PENDING : Fld := ⟨.DESK_GSTAT, 22, 22⟩
/-- DESK_GSTAT.BUDGET, RO. -/
abbrev F.DESK_GSTAT.BUDGET : Fld := ⟨.DESK_GSTAT, 21, 21⟩
/-- DESK_GSTAT.ALIGNED, RO. -/
abbrev F.DESK_GSTAT.ALIGNED : Fld := ⟨.DESK_GSTAT, 20, 20⟩
/-- DESK_GSTAT.HOLDOVER, RO. -/
abbrev F.DESK_GSTAT.HOLDOVER : Fld := ⟨.DESK_GSTAT, 19, 19⟩
/-- DESK_GSTAT.DRAINING, RO. -/
abbrev F.DESK_GSTAT.DRAINING : Fld := ⟨.DESK_GSTAT, 18, 18⟩
/-- DESK_GSTAT.CAB_HALF, RO. -/
abbrev F.DESK_GSTAT.CAB_HALF : Fld := ⟨.DESK_GSTAT, 17, 17⟩
/-- DESK_GSTAT.SPARE, RO. -/
abbrev F.DESK_GSTAT.SPARE : Fld := ⟨.DESK_GSTAT, 16, 16⟩
/-- DESK_GSTAT.PLACE, RO. -/
abbrev F.DESK_GSTAT.PLACE : Fld := ⟨.DESK_GSTAT, 7, 0⟩
/-- DESK_IRQ_STAT.STAT, W1C. -/
abbrev F.DESK_IRQ_STAT.STAT : Fld := ⟨.DESK_IRQ_STAT, 31, 0⟩
/-- DESK_IRQ_MASK.MASK, RW. -/
abbrev F.DESK_IRQ_MASK.MASK : Fld := ⟨.DESK_IRQ_MASK, 31, 0⟩
/-- DESK_DOORBELL.VALUE, WO. -/
abbrev F.DESK_DOORBELL.VALUE : Fld := ⟨.DESK_DOORBELL, 31, 0⟩
/-- DESK_DOORBELL_IN.VALUE, RO. -/
abbrev F.DESK_DOORBELL_IN.VALUE : Fld := ⟨.DESK_DOORBELL_IN, 31, 0⟩
/-- DESK_FLASH_CMD.GO, WS. -/
abbrev F.DESK_FLASH_CMD.GO : Fld := ⟨.DESK_FLASH_CMD, 31, 31⟩
/-- DESK_FLASH_CMD.OP, RW. -/
abbrev F.DESK_FLASH_CMD.OP : Fld := ⟨.DESK_FLASH_CMD, 30, 28⟩
/-- DESK_FLASH_CMD.STATUS, RO. -/
abbrev F.DESK_FLASH_CMD.STATUS : Fld := ⟨.DESK_FLASH_CMD, 23, 16⟩
/-- DESK_FLASH_ADDR.ADDR, RW. -/
abbrev F.DESK_FLASH_ADDR.ADDR : Fld := ⟨.DESK_FLASH_ADDR, 25, 0⟩
/-- DESK_FW_CMD.GO, WS. -/
abbrev F.DESK_FW_CMD.GO : Fld := ⟨.DESK_FW_CMD, 31, 31⟩
/-- DESK_FW_CMD.OP, RW. -/
abbrev F.DESK_FW_CMD.OP : Fld := ⟨.DESK_FW_CMD, 30, 28⟩
/-- DESK_FW_CMD.SLOT, RW. -/
abbrev F.DESK_FW_CMD.SLOT : Fld := ⟨.DESK_FW_CMD, 27, 27⟩
/-- DESK_FW_CMD.DESK, RW. -/
abbrev F.DESK_FW_CMD.DESK : Fld := ⟨.DESK_FW_CMD, 26, 26⟩
/-- DESK_FW_CMD.STATUS, RO. -/
abbrev F.DESK_FW_CMD.STATUS : Fld := ⟨.DESK_FW_CMD, 23, 16⟩
/-- DESK_FW_CMD.CODE, RO. -/
abbrev F.DESK_FW_CMD.CODE : Fld := ⟨.DESK_FW_CMD, 15, 8⟩
/-- DESK_ETH_CFG.EVT_EN, RW. -/
abbrev F.DESK_ETH_CFG.EVT_EN : Fld := ⟨.DESK_ETH_CFG, 31, 31⟩
/-- DESK_EVT_MAC.MAC, RW. -/
abbrev F.DESK_EVT_MAC.MAC : Fld := ⟨.DESK_EVT_MAC, 47, 0⟩
/-- DESK_ATTEST_NONCE.NONCE, RW. -/
abbrev F.DESK_ATTEST_NONCE.NONCE : Fld := ⟨.DESK_ATTEST_NONCE, 31, 0⟩
/-- DESK_ATTEST_CMD.GO, WS. -/
abbrev F.DESK_ATTEST_CMD.GO : Fld := ⟨.DESK_ATTEST_CMD, 31, 31⟩
/-- DESK_ATTEST_CMD.STATUS, RO. -/
abbrev F.DESK_ATTEST_CMD.STATUS : Fld := ⟨.DESK_ATTEST_CMD, 23, 16⟩
/-- DESK_ACC_LAST.CAUSE, RO. -/
abbrev F.DESK_ACC_LAST.CAUSE : Fld := ⟨.DESK_ACC_LAST, 31, 28⟩
/-- DESK_ACC_LAST.PATH, RO. -/
abbrev F.DESK_ACC_LAST.PATH : Fld := ⟨.DESK_ACC_LAST, 27, 27⟩
/-- DESK_ACC_LAST.WRITE, RO. -/
abbrev F.DESK_ACC_LAST.WRITE : Fld := ⟨.DESK_ACC_LAST, 26, 26⟩
/-- DESK_ACC_LAST.ADDRESS, RO. -/
abbrev F.DESK_ACC_LAST.ADDRESS : Fld := ⟨.DESK_ACC_LAST, 25, 0⟩
/-- DESK_MSIX_PBA.PENDING, RO. -/
abbrev F.DESK_MSIX_PBA.PENDING : Fld := ⟨.DESK_MSIX_PBA, 31, 0⟩
/-- LNK_PORT_CFG.BREAKOUT, RW. -/
abbrev F.LNK_PORT_CFG.BREAKOUT : Fld := ⟨.LNK_PORT_CFG, 31, 30⟩
/-- LNK_PORT_CFG.EXT_RETRY, RW. -/
abbrev F.LNK_PORT_CFG.EXT_RETRY : Fld := ⟨.LNK_PORT_CFG, 29, 29⟩
/-- LNK_PORT_CFG.FAST_REACQ, RW. -/
abbrev F.LNK_PORT_CFG.FAST_REACQ : Fld := ⟨.LNK_PORT_CFG, 28, 28⟩
/-- LNK_PORT_CFG.HOT_SPARE, RW. -/
abbrev F.LNK_PORT_CFG.HOT_SPARE : Fld := ⟨.LNK_PORT_CFG, 27, 27⟩
/-- LNK_PORT_CFG.REPLAY_TO, RW. -/
abbrev F.LNK_PORT_CFG.REPLAY_TO : Fld := ⟨.LNK_PORT_CFG, 23, 16⟩
/-- LNK_PORT_CFG.MIN_LANES, RW. -/
abbrev F.LNK_PORT_CFG.MIN_LANES : Fld := ⟨.LNK_PORT_CFG, 15, 12⟩
/-- LNK_PORT_CFG.ADMIN_UP, RW. -/
abbrev F.LNK_PORT_CFG.ADMIN_UP : Fld := ⟨.LNK_PORT_CFG, 11, 8⟩
/-- LNK_SWAP_CMD.GO, WS. -/
abbrev F.LNK_SWAP_CMD.GO : Fld := ⟨.LNK_SWAP_CMD, 31, 31⟩
/-- LNK_SWAP_CMD.ACTION, RW. -/
abbrev F.LNK_SWAP_CMD.ACTION : Fld := ⟨.LNK_SWAP_CMD, 30, 28⟩
/-- LNK_SWAP_CMD.LANE, RW. -/
abbrev F.LNK_SWAP_CMD.LANE : Fld := ⟨.LNK_SWAP_CMD, 27, 23⟩
/-- LNK_SWAP_CMD.SPARE, RW. -/
abbrev F.LNK_SWAP_CMD.SPARE : Fld := ⟨.LNK_SWAP_CMD, 22, 18⟩
/-- LNK_SWAP_CMD.RESULT, RO. -/
abbrev F.LNK_SWAP_CMD.RESULT : Fld := ⟨.LNK_SWAP_CMD, 15, 8⟩
/-- LNK_LP_STATE.STATE, RO. -/
abbrev F.LNK_LP_STATE.STATE : Fld := ⟨.LNK_LP_STATE, 31, 28⟩
/-- LNK_LP_STATE.ACTIVE_LANES, RO. -/
abbrev F.LNK_LP_STATE.ACTIVE_LANES : Fld := ⟨.LNK_LP_STATE, 27, 23⟩
/-- LNK_LP_STATE.NOMINAL_LANES, RO. -/
abbrev F.LNK_LP_STATE.NOMINAL_LANES : Fld := ⟨.LNK_LP_STATE, 22, 18⟩
/-- LNK_LP_STATE.EXT_ON, RO. -/
abbrev F.LNK_LP_STATE.EXT_ON : Fld := ⟨.LNK_LP_STATE, 17, 17⟩
/-- LNK_LP_STATE.SWAP_BUSY, RO. -/
abbrev F.LNK_LP_STATE.SWAP_BUSY : Fld := ⟨.LNK_LP_STATE, 16, 16⟩
/-- LNK_LP_STATE.MAP_INVALID, RO. -/
abbrev F.LNK_LP_STATE.MAP_INVALID : Fld := ⟨.LNK_LP_STATE, 15, 15⟩
/-- LNK_LP_STATE.MISMATCH, RO. -/
abbrev F.LNK_LP_STATE.MISMATCH : Fld := ⟨.LNK_LP_STATE, 14, 14⟩
/-- LNK_LP_STATE.LMAP_GEN, RO. -/
abbrev F.LNK_LP_STATE.LMAP_GEN : Fld := ⟨.LNK_LP_STATE, 7, 0⟩
/-- LNK_LP_PARTNER.PORT, RO. -/
abbrev F.LNK_LP_PARTNER.PORT : Fld := ⟨.LNK_LP_PARTNER, 31, 24⟩
/-- LNK_LP_PARTNER.SUB, RO. -/
abbrev F.LNK_LP_PARTNER.SUB : Fld := ⟨.LNK_LP_PARTNER, 23, 22⟩
/-- LNK_LP_PARTNER.NODE_KIND, RO. -/
abbrev F.LNK_LP_PARTNER.NODE_KIND : Fld := ⟨.LNK_LP_PARTNER, 21, 20⟩
/-- LNK_LP_PARTNER.NODE_ID, RO. -/
abbrev F.LNK_LP_PARTNER.NODE_ID : Fld := ⟨.LNK_LP_PARTNER, 15, 0⟩
/-- LNK_LANE_CFG.TX_ROLE, RW. -/
abbrev F.LNK_LANE_CFG.TX_ROLE : Fld := ⟨.LNK_LANE_CFG, 14, 12⟩
/-- LNK_LANE_CFG.TX_POS, RW. -/
abbrev F.LNK_LANE_CFG.TX_POS : Fld := ⟨.LNK_LANE_CFG, 11, 8⟩
/-- LNK_LANE_CFG.RX_ROLE, RW. -/
abbrev F.LNK_LANE_CFG.RX_ROLE : Fld := ⟨.LNK_LANE_CFG, 6, 4⟩
/-- LNK_LANE_CFG.RX_POS, RW. -/
abbrev F.LNK_LANE_CFG.RX_POS : Fld := ⟨.LNK_LANE_CFG, 3, 0⟩
/-- LNK_LANE_STAT.RX_LOCK, RO. -/
abbrev F.LNK_LANE_STAT.RX_LOCK : Fld := ⟨.LNK_LANE_STAT, 31, 31⟩
/-- LNK_LANE_STAT.MARKER_OK, RO. -/
abbrev F.LNK_LANE_STAT.MARKER_OK : Fld := ⟨.LNK_LANE_STAT, 30, 30⟩
/-- LNK_LANE_STAT.INVERTED, RO. -/
abbrev F.LNK_LANE_STAT.INVERTED : Fld := ⟨.LNK_LANE_STAT, 29, 29⟩
/-- LNK_LANE_STAT.WRONG_LINE, W1C. -/
abbrev F.LNK_LANE_STAT.WRONG_LINE : Fld := ⟨.LNK_LANE_STAT, 28, 28⟩
/-- LNK_LANE_STAT.MISMATCH, W1C. -/
abbrev F.LNK_LANE_STAT.MISMATCH : Fld := ⟨.LNK_LANE_STAT, 27, 27⟩
/-- LNK_LANE_STAT.FADE_WARN, W1C. -/
abbrev F.LNK_LANE_STAT.FADE_WARN : Fld := ⟨.LNK_LANE_STAT, 26, 26⟩
/-- LNK_LANE_STAT.FADE_ACT, W1C. -/
abbrev F.LNK_LANE_STAT.FADE_ACT : Fld := ⟨.LNK_LANE_STAT, 25, 25⟩
/-- LNK_LANE_STAT.NO_LIGHT, W1C. -/
abbrev F.LNK_LANE_STAT.NO_LIGHT : Fld := ⟨.LNK_LANE_STAT, 24, 24⟩
/-- LNK_LANE_STAT.MARKER_LANE, RO. -/
abbrev F.LNK_LANE_STAT.MARKER_LANE : Fld := ⟨.LNK_LANE_STAT, 20, 16⟩
/-- LNK_LANE_STAT.DESKEW, RO. -/
abbrev F.LNK_LANE_STAT.DESKEW : Fld := ⟨.LNK_LANE_STAT, 7, 0⟩
/-- OE_ENG_CFG.ENABLE, RW. -/
abbrev F.OE_ENG_CFG.ENABLE : Fld := ⟨.OE_ENG_CFG, 31, 31⟩
/-- OE_ENG_CFG.KEEP_LASER, RW. -/
abbrev F.OE_ENG_CFG.KEEP_LASER : Fld := ⟨.OE_ENG_CFG, 30, 30⟩
/-- OE_ENG_CFG.AUTO_FEED, RW. -/
abbrev F.OE_ENG_CFG.AUTO_FEED : Fld := ⟨.OE_ENG_CFG, 29, 29⟩
/-- OE_ENG_CFG.FEED_FORCE, RW. -/
abbrev F.OE_ENG_CFG.FEED_FORCE : Fld := ⟨.OE_ENG_CFG, 15, 0⟩
/-- OE_ENG_STAT.PHASE, RO. -/
abbrev F.OE_ENG_STAT.PHASE : Fld := ⟨.OE_ENG_STAT, 31, 28⟩
/-- OE_ENG_STAT.COMB_P_OK, RO. -/
abbrev F.OE_ENG_STAT.COMB_P_OK : Fld := ⟨.OE_ENG_STAT, 27, 27⟩
/-- OE_ENG_STAT.COMB_S_OK, RO. -/
abbrev F.OE_ENG_STAT.COMB_S_OK : Fld := ⟨.OE_ENG_STAT, 26, 26⟩
/-- OE_ENG_STAT.I2C_FAIL, W1C. -/
abbrev F.OE_ENG_STAT.I2C_FAIL : Fld := ⟨.OE_ENG_STAT, 25, 25⟩
/-- OE_ENG_STAT.COMB_FAIL, W1C. -/
abbrev F.OE_ENG_STAT.COMB_FAIL : Fld := ⟨.OE_ENG_STAT, 24, 24⟩
/-- OE_ENG_STAT.FEED_STBY, RO. -/
abbrev F.OE_ENG_STAT.FEED_STBY : Fld := ⟨.OE_ENG_STAT, 15, 0⟩
/-- OE_CAL_CFG.ROTATE, RW. -/
abbrev F.OE_CAL_CFG.ROTATE : Fld := ⟨.OE_CAL_CFG, 31, 31⟩
/-- OE_CAL_CFG.ROT_PERIOD, RW. -/
abbrev F.OE_CAL_CFG.ROT_PERIOD : Fld := ⟨.OE_CAL_CFG, 23, 16⟩
/-- OE_CAL_CFG.DARK_PERIOD, RW. -/
abbrev F.OE_CAL_CFG.DARK_PERIOD : Fld := ⟨.OE_CAL_CFG, 15, 8⟩
/-- OE_I2C_CMD.GO, WS. -/
abbrev F.OE_I2C_CMD.GO : Fld := ⟨.OE_I2C_CMD, 31, 31⟩
/-- OE_I2C_CMD.READ, RW. -/
abbrev F.OE_I2C_CMD.READ : Fld := ⟨.OE_I2C_CMD, 30, 30⟩
/-- OE_I2C_CMD.MODULE, RW. -/
abbrev F.OE_I2C_CMD.MODULE : Fld := ⟨.OE_I2C_CMD, 29, 29⟩
/-- OE_I2C_CMD.ERR, RO. -/
abbrev F.OE_I2C_CMD.ERR : Fld := ⟨.OE_I2C_CMD, 28, 28⟩
/-- OE_I2C_CMD.REGADDR, RW. -/
abbrev F.OE_I2C_CMD.REGADDR : Fld := ⟨.OE_I2C_CMD, 23, 16⟩
/-- OE_I2C_CMD.DATA, RW. -/
abbrev F.OE_I2C_CMD.DATA : Fld := ⟨.OE_I2C_CMD, 15, 0⟩
/-- OE_FEED_RET.RET, WO. -/
abbrev F.OE_FEED_RET.RET : Fld := ⟨.OE_FEED_RET, 15, 0⟩
/-- OE_PC_STAT.LOCKED, RO. -/
abbrev F.OE_PC_STAT.LOCKED : Fld := ⟨.OE_PC_STAT, 31, 31⟩
/-- OE_PC_STAT.UNLOCK_SEEN, W1C. -/
abbrev F.OE_PC_STAT.UNLOCK_SEEN : Fld := ⟨.OE_PC_STAT, 30, 30⟩
/-- OE_PC_STAT.REJECTED, RO. -/
abbrev F.OE_PC_STAT.REJECTED : Fld := ⟨.OE_PC_STAT, 15, 0⟩
/-- OE_LINE_PWR.COMM, RW. -/
abbrev F.OE_LINE_PWR.COMM : Fld := ⟨.OE_LINE_PWR, 31, 16⟩
/-- OE_LINE_PWR.NOW, RO. -/
abbrev F.OE_LINE_PWR.NOW : Fld := ⟨.OE_LINE_PWR, 15, 0⟩
/-- OE_RING_CTL.HEATER, RW. -/
abbrev F.OE_RING_CTL.HEATER : Fld := ⟨.OE_RING_CTL, 31, 16⟩
/-- OE_RING_CTL.MODE, RW. -/
abbrev F.OE_RING_CTL.MODE : Fld := ⟨.OE_RING_CTL, 15, 14⟩
/-- OE_RING_CAL.COMM_CODE, RW. -/
abbrev F.OE_RING_CAL.COMM_CODE : Fld := ⟨.OE_RING_CAL, 31, 16⟩
/-- OE_RING_CAL.T_COMM, RW. -/
abbrev F.OE_RING_CAL.T_COMM : Fld := ⟨.OE_RING_CAL, 15, 8⟩
/-- OE_RING_CAL.HALF_WIDTH, RW. -/
abbrev F.OE_RING_CAL.HALF_WIDTH : Fld := ⟨.OE_RING_CAL, 7, 0⟩
/-- OE_RING_STAT.STATE, RO. -/
abbrev F.OE_RING_STAT.STATE : Fld := ⟨.OE_RING_STAT, 31, 29⟩
/-- OE_RING_STAT.IN_WINDOW, RO. -/
abbrev F.OE_RING_STAT.IN_WINDOW : Fld := ⟨.OE_RING_STAT, 28, 28⟩
/-- OE_RING_STAT.WRONG_LINE, W1C. -/
abbrev F.OE_RING_STAT.WRONG_LINE : Fld := ⟨.OE_RING_STAT, 27, 27⟩
/-- OE_RING_STAT.HEATER_LIMIT, W1C. -/
abbrev F.OE_RING_STAT.HEATER_LIMIT : Fld := ⟨.OE_RING_STAT, 26, 26⟩
/-- OE_RING_STAT.FAIL_CNT, RO. -/
abbrev F.OE_RING_STAT.FAIL_CNT : Fld := ⟨.OE_RING_STAT, 25, 24⟩
/-- OE_RING_STAT.PEAK_WIDTH, RO. -/
abbrev F.OE_RING_STAT.PEAK_WIDTH : Fld := ⟨.OE_RING_STAT, 23, 16⟩
/-- OE_RING_STAT.ERROR, RO. -/
abbrev F.OE_RING_STAT.ERROR : Fld := ⟨.OE_RING_STAT, 15, 0⟩
/-- OE_RING_TEMPCO.TEMPCO, RW. -/
abbrev F.OE_RING_TEMPCO.TEMPCO : Fld := ⟨.OE_RING_TEMPCO, 15, 0⟩
/-- SBD_CTL.CHECK, WS. -/
abbrev F.SBD_CTL.CHECK : Fld := ⟨.SBD_CTL, 31, 31⟩
/-- SBD_CTL.CLEAR, WS. -/
abbrev F.SBD_CTL.CLEAR : Fld := ⟨.SBD_CTL, 30, 30⟩
/-- SBD_CTL.AUTO_CAL, RW. -/
abbrev F.SBD_CTL.AUTO_CAL : Fld := ⟨.SBD_CTL, 29, 29⟩
/-- SBD_CTL.DARK, RW. -/
abbrev F.SBD_CTL.DARK : Fld := ⟨.SBD_CTL, 15, 8⟩
/-- SBD_CTL.GUARD, RW. -/
abbrev F.SBD_CTL.GUARD : Fld := ⟨.SBD_CTL, 7, 0⟩
/-- SBD_STAT.STATE, RO. -/
abbrev F.SBD_STAT.STATE : Fld := ⟨.SBD_STAT, 31, 28⟩
/-- SBD_STAT.ARMED, RO. -/
abbrev F.SBD_STAT.ARMED : Fld := ⟨.SBD_STAT, 27, 27⟩
/-- SBD_STAT.SHADOW_OK, RO. -/
abbrev F.SBD_STAT.SHADOW_OK : Fld := ⟨.SBD_STAT, 26, 26⟩
/-- SBD_STAT.CHECK_ERR, RO. -/
abbrev F.SBD_STAT.CHECK_ERR : Fld := ⟨.SBD_STAT, 23, 16⟩
/-- SBD_STAT.BAD_SLOT, RO. -/
abbrev F.SBD_STAT.BAD_SLOT : Fld := ⟨.SBD_STAT, 15, 10⟩
/-- SBD_STAT.BAD_PORT, RO. -/
abbrev F.SBD_STAT.BAD_PORT : Fld := ⟨.SBD_STAT, 5, 0⟩
/-- SBD_DIE_MASK.MASK, RW. -/
abbrev F.SBD_DIE_MASK.MASK : Fld := ⟨.SBD_DIE_MASK, 3, 0⟩
/-- SBD_POS.LIVE_N, RO. -/
abbrev F.SBD_POS.LIVE_N : Fld := ⟨.SBD_POS, 22, 16⟩
/-- SBD_POS.LIVE_SLOT, RO. -/
abbrev F.SBD_POS.LIVE_SLOT : Fld := ⟨.SBD_POS, 5, 0⟩
/-- SBD_PORT_BYP.BYP, RO. -/
abbrev F.SBD_PORT_BYP.BYP : Fld := ⟨.SBD_PORT_BYP, 63, 0⟩
/-- SBD_PORT_LOST.LOST, W1C. -/
abbrev F.SBD_PORT_LOST.LOST : Fld := ⟨.SBD_PORT_LOST, 63, 0⟩
/-- SBD_GAIN.GAIN, RW. -/
abbrev F.SBD_GAIN.GAIN : Fld := ⟨.SBD_GAIN, 7, 0⟩
/-- SBD_OUT_STAT.AMP_OK, RO. -/
abbrev F.SBD_OUT_STAT.AMP_OK : Fld := ⟨.SBD_OUT_STAT, 31, 31⟩
/-- SBD_OUT_STAT.AMP_FAULT, W1C. -/
abbrev F.SBD_OUT_STAT.AMP_FAULT : Fld := ⟨.SBD_OUT_STAT, 30, 30⟩
/-- SBD_OUT_STAT.LEAK, W1C. -/
abbrev F.SBD_OUT_STAT.LEAK : Fld := ⟨.SBD_OUT_STAT, 29, 29⟩
/-- SBD_OUT_STAT.POWER, RO. -/
abbrev F.SBD_OUT_STAT.POWER : Fld := ⟨.SBD_OUT_STAT, 15, 0⟩
/-- SBD_IN_PWR.POWER, RO. -/
abbrev F.SBD_IN_PWR.POWER : Fld := ⟨.SBD_IN_PWR, 15, 0⟩
/-- SBD_SHADOW_SLOT.DURATION, RW. -/
abbrev F.SBD_SHADOW_SLOT.DURATION : Fld := ⟨.SBD_SHADOW_SLOT, 23, 0⟩
/-- SBD_SHADOW_N.N, RW. -/
abbrev F.SBD_SHADOW_N.N : Fld := ⟨.SBD_SHADOW_N, 6, 0⟩
/-- SBD_LIVE_SLOT.DURATION, RO. -/
abbrev F.SBD_LIVE_SLOT.DURATION : Fld := ⟨.SBD_LIVE_SLOT, 23, 0⟩
/-- SBD_LIVE_N.N, RO. -/
abbrev F.SBD_LIVE_N.N : Fld := ⟨.SBD_LIVE_N, 6, 0⟩
/-- FWD_PLACE.PLACE, BOOT. -/
abbrev F.FWD_PLACE.PLACE : Fld := ⟨.FWD_PLACE, 7, 0⟩
/-- FWD_FRAME_CFG.SRC_CHECK, BOOT. -/
abbrev F.FWD_FRAME_CFG.SRC_CHECK : Fld := ⟨.FWD_FRAME_CFG, 31, 31⟩
/-- FWD_INFRA_SRC.VALID, BOOT. -/
abbrev F.FWD_INFRA_SRC.VALID : Fld := ⟨.FWD_INFRA_SRC, 31, 31⟩
/-- FWD_INFRA_SRC.TYPE, BOOT. -/
abbrev F.FWD_INFRA_SRC.TYPE : Fld := ⟨.FWD_INFRA_SRC, 25, 24⟩
/-- FWD_INFRA_SRC.SRC, BOOT. -/
abbrev F.FWD_INFRA_SRC.SRC : Fld := ⟨.FWD_INFRA_SRC, 23, 0⟩
/-- FWD_JOB.RANK_COUNT, RW. -/
abbrev F.FWD_JOB.RANK_COUNT : Fld := ⟨.FWD_JOB, 114, 96⟩
/-- FWD_JOB.RANK_BASE, RW. -/
abbrev F.FWD_JOB.RANK_BASE : Fld := ⟨.FWD_JOB, 81, 64⟩
/-- FWD_JOB.CTRL_TYPE, RW. -/
abbrev F.FWD_JOB.CTRL_TYPE : Fld := ⟨.FWD_JOB, 63, 62⟩
/-- FWD_JOB.CTRL_SRC, RW. -/
abbrev F.FWD_JOB.CTRL_SRC : Fld := ⟨.FWD_JOB, 55, 32⟩
/-- FWD_JOB.VALID, RW. -/
abbrev F.FWD_JOB.VALID : Fld := ⟨.FWD_JOB, 31, 31⟩
/-- FWD_JOB.DRAWER_RANK, RW. -/
abbrev F.FWD_JOB.DRAWER_RANK : Fld := ⟨.FWD_JOB, 30, 28⟩
/-- FWD_JOB.ALLOW_CLASS, RW. -/
abbrev F.FWD_JOB.ALLOW_CLASS : Fld := ⟨.FWD_JOB, 23, 16⟩
/-- FWD_RANK_MAP.VALID, RW. -/
abbrev F.FWD_RANK_MAP.VALID : Fld := ⟨.FWD_RANK_MAP, 31, 31⟩
/-- FWD_RANK_MAP.TYPE, RW. -/
abbrev F.FWD_RANK_MAP.TYPE : Fld := ⟨.FWD_RANK_MAP, 29, 28⟩
/-- FWD_RANK_MAP.NODE, RW. -/
abbrev F.FWD_RANK_MAP.NODE : Fld := ⟨.FWD_RANK_MAP, 23, 0⟩
/-- FWD_SPRAY_CLASS.CLASSES, BOOT. -/
abbrev F.FWD_SPRAY_CLASS.CLASSES : Fld := ⟨.FWD_SPRAY_CLASS, 5, 1⟩
/-- FWD_BANK_CTL.SWAP_NOW, WS. -/
abbrev F.FWD_BANK_CTL.SWAP_NOW : Fld := ⟨.FWD_BANK_CTL, 31, 31⟩
/-- FWD_BANK_CTL.LIVE_BANK, RO. -/
abbrev F.FWD_BANK_CTL.LIVE_BANK : Fld := ⟨.FWD_BANK_CTL, 30, 30⟩
/-- FWD_BANK_CTL.DRAINING, RO. -/
abbrev F.FWD_BANK_CTL.DRAINING : Fld := ⟨.FWD_BANK_CTL, 29, 29⟩
/-- FWD_BANK_CTL.ROUTE_GEN, RO. -/
abbrev F.FWD_BANK_CTL.ROUTE_GEN : Fld := ⟨.FWD_BANK_CTL, 15, 0⟩
/-- FWD_AGE_CFG.AGE_EN, RW. -/
abbrev F.FWD_AGE_CFG.AGE_EN : Fld := ⟨.FWD_AGE_CFG, 31, 31⟩
/-- FWD_AGE_CFG.AGE_PERIOD, RW. -/
abbrev F.FWD_AGE_CFG.AGE_PERIOD : Fld := ⟨.FWD_AGE_CFG, 15, 0⟩
/-- FWD_DRAIN_TOTAL.CELLS, RO. -/
abbrev F.FWD_DRAIN_TOTAL.CELLS : Fld := ⟨.FWD_DRAIN_TOTAL, 23, 0⟩
/-- FWD_FENCE.FENCE, RW. -/
abbrev F.FWD_FENCE.FENCE : Fld := ⟨.FWD_FENCE, 31, 0⟩
/-- FWD_LP_WITHDRAW.WITHDRAW, RW. -/
abbrev F.FWD_LP_WITHDRAW.WITHDRAW : Fld := ⟨.FWD_LP_WITHDRAW, 31, 0⟩
/-- FWD_DRAIN_CELLS.CELLS, RO. -/
abbrev F.FWD_DRAIN_CELLS.CELLS : Fld := ⟨.FWD_DRAIN_CELLS, 23, 0⟩
/-- FWD_DRAIN_CELLS_CAB.CELLS, RO. -/
abbrev F.FWD_DRAIN_CELLS_CAB.CELLS : Fld := ⟨.FWD_DRAIN_CELLS_CAB, 23, 0⟩
/-- FWD_IND_CMD.GO, WS. -/
abbrev F.FWD_IND_CMD.GO : Fld := ⟨.FWD_IND_CMD, 31, 31⟩
/-- FWD_IND_CMD.OP, RW. -/
abbrev F.FWD_IND_CMD.OP : Fld := ⟨.FWD_IND_CMD, 30, 28⟩
/-- FWD_IND_CMD.TABLE, RW. -/
abbrev F.FWD_IND_CMD.TABLE : Fld := ⟨.FWD_IND_CMD, 27, 24⟩
/-- FWD_IND_CMD.BANK, RW. -/
abbrev F.FWD_IND_CMD.BANK : Fld := ⟨.FWD_IND_CMD, 23, 23⟩
/-- FWD_IND_CMD.STATUS, RO. -/
abbrev F.FWD_IND_CMD.STATUS : Fld := ⟨.FWD_IND_CMD, 22, 20⟩
/-- FWD_IND_INDEX.INDEX, RW. -/
abbrev F.FWD_IND_INDEX.INDEX : Fld := ⟨.FWD_IND_INDEX, 19, 0⟩
/-- FWD_IND_SUB.TILE, RW. -/
abbrev F.FWD_IND_SUB.TILE : Fld := ⟨.FWD_IND_SUB, 3, 0⟩
/-- XBAR_CFG.SPILL_EN, RW. -/
abbrev F.XBAR_CFG.SPILL_EN : Fld := ⟨.XBAR_CFG, 31, 31⟩
/-- XBAR_CFG.SPILL_CLASS, RW. -/
abbrev F.XBAR_CFG.SPILL_CLASS : Fld := ⟨.XBAR_CFG, 30, 29⟩
/-- XBAR_CFG.RESEQ_TO, RW. -/
abbrev F.XBAR_CFG.RESEQ_TO : Fld := ⟨.XBAR_CFG, 15, 0⟩
/-- XBAR_ALPHA.ALPHA, RW. -/
abbrev F.XBAR_ALPHA.ALPHA : Fld := ⟨.XBAR_ALPHA, 31, 0⟩
/-- XBAR_MESH_RSV.CELLS, BOOT. -/
abbrev F.XBAR_MESH_RSV.CELLS : Fld := ⟨.XBAR_MESH_RSV, 15, 0⟩
/-- XBAR_LOCAL_RSV.CELLS, BOOT. -/
abbrev F.XBAR_LOCAL_RSV.CELLS : Fld := ⟨.XBAR_LOCAL_RSV, 15, 0⟩
/-- XBAR_RSV.CELLS, BOOT. -/
abbrev F.XBAR_RSV.CELLS : Fld := ⟨.XBAR_RSV, 15, 0⟩
/-- XBAR_SPILL_ON.CELLS, RW. -/
abbrev F.XBAR_SPILL_ON.CELLS : Fld := ⟨.XBAR_SPILL_ON, 23, 0⟩
/-- XBAR_SPILL_OFF.CELLS, RW. -/
abbrev F.XBAR_SPILL_OFF.CELLS : Fld := ⟨.XBAR_SPILL_OFF, 23, 0⟩
/-- XBAR_SPILL_MAX.SLOTS, RW. -/
abbrev F.XBAR_SPILL_MAX.SLOTS : Fld := ⟨.XBAR_SPILL_MAX, 23, 0⟩
/-- XBAR_SPILL_BW.RATE, RW. -/
abbrev F.XBAR_SPILL_BW.RATE : Fld := ⟨.XBAR_SPILL_BW, 7, 0⟩
/-- XBAR_SHARED.CELLS, RO. -/
abbrev F.XBAR_SHARED.CELLS : Fld := ⟨.XBAR_SHARED, 18, 0⟩
/-- XBAR_SHARED_USED.CELLS, RO. -/
abbrev F.XBAR_SHARED_USED.CELLS : Fld := ⟨.XBAR_SHARED_USED, 18, 0⟩
/-- XBAR_DEEP_FREE.SLOTS, RO. -/
abbrev F.XBAR_DEEP_FREE.SLOTS : Fld := ⟨.XBAR_DEEP_FREE, 24, 0⟩
/-- XBAR_RSV4S.CELLS, BOOT. -/
abbrev F.XBAR_RSV4S.CELLS : Fld := ⟨.XBAR_RSV4S, 15, 0⟩
/-- XBAR_MESH_STAT.STATE, RO. -/
abbrev F.XBAR_MESH_STAT.STATE : Fld := ⟨.XBAR_MESH_STAT, 31, 28⟩
/-- XBAR_MESH_STAT.GROUPS, RO. -/
abbrev F.XBAR_MESH_STAT.GROUPS : Fld := ⟨.XBAR_MESH_STAT, 20, 16⟩
/-- XBAR_MESH_STAT.SPARES, RO. -/
abbrev F.XBAR_MESH_STAT.SPARES : Fld := ⟨.XBAR_MESH_STAT, 6, 0⟩
/-- XBAR_MESH_CFG.LANE_ERR_TH, RW. -/
abbrev F.XBAR_MESH_CFG.LANE_ERR_TH : Fld := ⟨.XBAR_MESH_CFG, 7, 0⟩
/-- XBAR_MESH_LANE_BAD.BAD, RO. -/
abbrev F.XBAR_MESH_LANE_BAD.BAD : Fld := ⟨.XBAR_MESH_LANE_BAD, 31, 0⟩
/-- TM_CFG.POL_EN, RW. -/
abbrev F.TM_CFG.POL_EN : Fld := ⟨.TM_CFG, 31, 31⟩
/-- TM_CFG.WRED_EN, RW. -/
abbrev F.TM_CFG.WRED_EN : Fld := ⟨.TM_CFG, 30, 30⟩
/-- TM_CFG.YEL_LL_TH, RW. -/
abbrev F.TM_CFG.YEL_LL_TH : Fld := ⟨.TM_CFG, 27, 24⟩
/-- TM_WRED_SEL.TC1Y, RW. -/
abbrev F.TM_WRED_SEL.TC1Y : Fld := ⟨.TM_WRED_SEL, 15, 12⟩
/-- TM_WRED_SEL.TC1G, RW. -/
abbrev F.TM_WRED_SEL.TC1G : Fld := ⟨.TM_WRED_SEL, 11, 8⟩
/-- TM_WRED_SEL.TC0Y, RW. -/
abbrev F.TM_WRED_SEL.TC0Y : Fld := ⟨.TM_WRED_SEL, 7, 4⟩
/-- TM_WRED_SEL.TC0G, RW. -/
abbrev F.TM_WRED_SEL.TC0G : Fld := ⟨.TM_WRED_SEL, 3, 0⟩
/-- TM_WRED.EN, RW. -/
abbrev F.TM_WRED.EN : Fld := ⟨.TM_WRED, 31, 31⟩
/-- TM_WRED.W, RW. -/
abbrev F.TM_WRED.W : Fld := ⟨.TM_WRED, 27, 24⟩
/-- TM_WRED.MAX_P, RW. -/
abbrev F.TM_WRED.MAX_P : Fld := ⟨.TM_WRED, 7, 0⟩
/-- TM_WRED.MIN_TH, RW. -/
abbrev F.TM_WRED.MIN_TH : Fld := ⟨.TM_WRED, 56, 32⟩
/-- TM_WRED.MAX_TH, RW. -/
abbrev F.TM_WRED.MAX_TH : Fld := ⟨.TM_WRED, 88, 64⟩
/-- TM_SCHED.PRIO, RW. -/
abbrev F.TM_SCHED.PRIO : Fld := ⟨.TM_SCHED, 31, 30⟩
/-- TM_SCHED.WEIGHT, RW. -/
abbrev F.TM_SCHED.WEIGHT : Fld := ⟨.TM_SCHED, 7, 0⟩
/-- TM_LP_OVH.OVH, RW. -/
abbrev F.TM_LP_OVH.OVH : Fld := ⟨.TM_LP_OVH, 6, 0⟩
/-- TM_SMP_CFG.EN, RW. -/
abbrev F.TM_SMP_CFG.EN : Fld := ⟨.TM_SMP_CFG, 31, 31⟩
/-- TM_SMP_CFG.WRAP, RW. -/
abbrev F.TM_SMP_CFG.WRAP : Fld := ⟨.TM_SMP_CFG, 30, 30⟩
/-- TM_SMP_CFG.PERIOD, RW. -/
abbrev F.TM_SMP_CFG.PERIOD : Fld := ⟨.TM_SMP_CFG, 25, 16⟩
/-- TM_SMP_WPTR.PTR, RO. -/
abbrev F.TM_SMP_WPTR.PTR : Fld := ⟨.TM_SMP_WPTR, 10, 0⟩
/-- TM_SMP_RPTR.PTR, RW. -/
abbrev F.TM_SMP_RPTR.PTR : Fld := ⟨.TM_SMP_RPTR, 10, 0⟩
/-- TM_SMP_SET.VALID, RW. -/
abbrev F.TM_SMP_SET.VALID : Fld := ⟨.TM_SMP_SET, 31, 31⟩
/-- TM_SMP_SET.LPL, RW. -/
abbrev F.TM_SMP_SET.LPL : Fld := ⟨.TM_SMP_SET, 8, 3⟩
/-- TM_SMP_SET.CLASS, RW. -/
abbrev F.TM_SMP_SET.CLASS : Fld := ⟨.TM_SMP_SET, 2, 0⟩
/-- TM_SHP.SHAPE_EN, RW. -/
abbrev F.TM_SHP.SHAPE_EN : Fld := ⟨.TM_SHP, 31, 31⟩
/-- TM_SHP.PEAK_EN, RW. -/
abbrev F.TM_SHP.PEAK_EN : Fld := ⟨.TM_SHP, 30, 30⟩
/-- TM_SHP.CIR, RW. -/
abbrev F.TM_SHP.CIR : Fld := ⟨.TM_SHP, 53, 32⟩
/-- TM_SHP.PIR, RW. -/
abbrev F.TM_SHP.PIR : Fld := ⟨.TM_SHP, 85, 64⟩
/-- TM_SHP.PBS, RW. -/
abbrev F.TM_SHP.PBS : Fld := ⟨.TM_SHP, 127, 112⟩
/-- TM_SHP.CBS, RW. -/
abbrev F.TM_SHP.CBS : Fld := ⟨.TM_SHP, 111, 96⟩
/-- TM_SHP_STAT.C_OK, RO. -/
abbrev F.TM_SHP_STAT.C_OK : Fld := ⟨.TM_SHP_STAT, 31, 31⟩
/-- TM_SHP_STAT.P_OK, RO. -/
abbrev F.TM_SHP_STAT.P_OK : Fld := ⟨.TM_SHP_STAT, 30, 30⟩
/-- TM_Q_DEPTH.DEPTH, RO. -/
abbrev F.TM_Q_DEPTH.DEPTH : Fld := ⟨.TM_Q_DEPTH, 24, 0⟩
/-- TM_POL.EN, RW. -/
abbrev F.TM_POL.EN : Fld := ⟨.TM_POL, 31, 31⟩
/-- TM_POL.CIR, RW. -/
abbrev F.TM_POL.CIR : Fld := ⟨.TM_POL, 57, 32⟩
/-- TM_POL.PIR, RW. -/
abbrev F.TM_POL.PIR : Fld := ⟨.TM_POL, 89, 64⟩
/-- TM_POL.PBS, RW. -/
abbrev F.TM_POL.PBS : Fld := ⟨.TM_POL, 127, 112⟩
/-- TM_POL.CBS, RW. -/
abbrev F.TM_POL.CBS : Fld := ⟨.TM_POL, 111, 96⟩
/-- TM_PORT_POL.EN, RW. -/
abbrev F.TM_PORT_POL.EN : Fld := ⟨.TM_PORT_POL, 31, 31⟩
/-- TM_PORT_POL.POL, RW. -/
abbrev F.TM_PORT_POL.POL : Fld := ⟨.TM_PORT_POL, 9, 0⟩
/-- TM_JOB_POL.EN, RW. -/
abbrev F.TM_JOB_POL.EN : Fld := ⟨.TM_JOB_POL, 31, 31⟩
/-- TM_JOB_POL.POL, RW. -/
abbrev F.TM_JOB_POL.POL : Fld := ⟨.TM_JOB_POL, 9, 0⟩
/-- CAB_DIGEST_WPTR.PTR, RO. -/
abbrev F.CAB_DIGEST_WPTR.PTR : Fld := ⟨.CAB_DIGEST_WPTR, 11, 0⟩
/-- CAB_DIGEST.VALID, RO. -/
abbrev F.CAB_DIGEST.VALID : Fld := ⟨.CAB_DIGEST, 31, 31⟩
/-- CAB_DIGEST.FAULT, RO. -/
abbrev F.CAB_DIGEST.FAULT : Fld := ⟨.CAB_DIGEST, 30, 30⟩
/-- CAB_DIGEST.JOB, RO. -/
abbrev F.CAB_DIGEST.JOB : Fld := ⟨.CAB_DIGEST, 11, 0⟩
/-- CAB_DIGEST.TAG, RO. -/
abbrev F.CAB_DIGEST.TAG : Fld := ⟨.CAB_DIGEST, 63, 32⟩
/-- CAB_DIGEST.DIGEST, RO. -/
abbrev F.CAB_DIGEST.DIGEST : Fld := ⟨.CAB_DIGEST, 127, 64⟩
/-- CAB_DIGEST.CHUNKS, RO. -/
abbrev F.CAB_DIGEST.CHUNKS : Fld := ⟨.CAB_DIGEST, 151, 128⟩
/-- CAB_DIGEST.EPOCH, RO. -/
abbrev F.CAB_DIGEST.EPOCH : Fld := ⟨.CAB_DIGEST, 167, 160⟩
/-- CAB_WEIGHT.W, RW. -/
abbrev F.CAB_WEIGHT.W : Fld := ⟨.CAB_WEIGHT, 31, 0⟩
/-- DRW_PLACE_CFG.STANDBY_V, RW. -/
abbrev F.DRW_PLACE_CFG.STANDBY_V : Fld := ⟨.DRW_PLACE_CFG, 31, 31⟩
/-- DRW_PLACE_CFG.STANDBY, RW. -/
abbrev F.DRW_PLACE_CFG.STANDBY : Fld := ⟨.DRW_PLACE_CFG, 26, 24⟩
/-- DRW_PLACE_CFG.ACTIVE, RW. -/
abbrev F.DRW_PLACE_CFG.ACTIVE : Fld := ⟨.DRW_PLACE_CFG, 7, 0⟩
/-- DRW_CFG.START, RO. -/
abbrev F.DRW_CFG.START : Fld := ⟨.DRW_CFG, 375, 352⟩
/-- DRW_CFG.TAG, RO. -/
abbrev F.DRW_CFG.TAG : Fld := ⟨.DRW_CFG, 351, 320⟩
/-- DRW_CFG.W, RO. -/
abbrev F.DRW_CFG.W : Fld := ⟨.DRW_CFG, 311, 288⟩
/-- DRW_CFG.ARITH, RW. -/
abbrev F.DRW_CFG.ARITH : Fld := ⟨.DRW_CFG, 255, 128⟩
/-- DRW_CFG.OP_CHUNKS, RW. -/
abbrev F.DRW_CFG.OP_CHUNKS : Fld := ⟨.DRW_CFG, 95, 72⟩
/-- DRW_CFG.WINDOW_M1, RW. -/
abbrev F.DRW_CFG.WINDOW_M1 : Fld := ⟨.DRW_CFG, 63, 56⟩
/-- DRW_CFG.CLAIM_M1, RW. -/
abbrev F.DRW_CFG.CLAIM_M1 : Fld := ⟨.DRW_CFG, 55, 48⟩
/-- DRW_CFG.SHADOW_DIE, RW. -/
abbrev F.DRW_CFG.SHADOW_DIE : Fld := ⟨.DRW_CFG, 43, 41⟩
/-- DRW_CFG.SHADOWED, RO. -/
abbrev F.DRW_CFG.SHADOWED : Fld := ⟨.DRW_CFG, 40, 40⟩
/-- DRW_CFG.EPOCH, RO. -/
abbrev F.DRW_CFG.EPOCH : Fld := ⟨.DRW_CFG, 39, 32⟩
/-- DRW_CFG.STATE, RO. -/
abbrev F.DRW_CFG.STATE : Fld := ⟨.DRW_CFG, 31, 28⟩
/-- DRW_CFG.DIE, RW. -/
abbrev F.DRW_CFG.DIE : Fld := ⟨.DRW_CFG, 26, 24⟩
/-- DRW_CFG.JOB, RW. -/
abbrev F.DRW_CFG.JOB : Fld := ⟨.DRW_CFG, 11, 0⟩
/-- DRW_CMD.GO, WS. -/
abbrev F.DRW_CMD.GO : Fld := ⟨.DRW_CMD, 31, 31⟩
/-- DRW_CMD.OP, RW. -/
abbrev F.DRW_CMD.OP : Fld := ⟨.DRW_CMD, 30, 28⟩
/-- DRW_CMD.STATUS, RO. -/
abbrev F.DRW_CMD.STATUS : Fld := ⟨.DRW_CMD, 23, 16⟩
/-- DRW_CMD.HANDLE, RW. -/
abbrev F.DRW_CMD.HANDLE : Fld := ⟨.DRW_CMD, 11, 0⟩
/-- DRW_CMD_ARG.ARG, RO. -/
abbrev F.DRW_CMD_ARG.ARG : Fld := ⟨.DRW_CMD_ARG, 31, 0⟩
/-- DRW_MEMSEL.HANDLE, RW. -/
abbrev F.DRW_MEMSEL.HANDLE : Fld := ⟨.DRW_MEMSEL, 11, 0⟩
/-- DRW_RELEASE.HANDLE, WO. -/
abbrev F.DRW_RELEASE.HANDLE : Fld := ⟨.DRW_RELEASE, 11, 0⟩
/-- DRW_MEMBER.VALID, RW. -/
abbrev F.DRW_MEMBER.VALID : Fld := ⟨.DRW_MEMBER, 31, 31⟩
/-- DRW_MEMBER.RANK, RW. -/
abbrev F.DRW_MEMBER.RANK : Fld := ⟨.DRW_MEMBER, 17, 0⟩
/-- DRW_COLL.NOTICE_BASE, RW. -/
abbrev F.DRW_COLL.NOTICE_BASE : Fld := ⟨.DRW_COLL, 127, 69⟩
/-- DRW_COLL.NOTICE_BASE_LO, RW. -/
abbrev F.DRW_COLL.NOTICE_BASE_LO : Fld := ⟨.DRW_COLL, 68, 64⟩
/-- DRW_COLL.GROUP, RW. -/
abbrev F.DRW_COLL.GROUP : Fld := ⟨.DRW_COLL, 63, 48⟩
/-- DRW_COLL.STRAG_TO, RW. -/
abbrev F.DRW_COLL.STRAG_TO : Fld := ⟨.DRW_COLL, 47, 32⟩
/-- DRW_COLL.KIND, RW. -/
abbrev F.DRW_COLL.KIND : Fld := ⟨.DRW_COLL, 31, 28⟩
/-- DRW_COLL.DELIVER, RW. -/
abbrev F.DRW_COLL.DELIVER : Fld := ⟨.DRW_COLL, 27, 26⟩
/-- DRW_COLL.SCHED, RW. -/
abbrev F.DRW_COLL.SCHED : Fld := ⟨.DRW_COLL, 25, 25⟩
/-- DRW_COLL.NOTICE_LOG2, RW. -/
abbrev F.DRW_COLL.NOTICE_LOG2 : Fld := ⟨.DRW_COLL, 24, 20⟩
/-- DRW_COLL.ROOT, RW. -/
abbrev F.DRW_COLL.ROOT : Fld := ⟨.DRW_COLL, 19, 10⟩
/-- DRW_COLL.CPM_M1, RW. -/
abbrev F.DRW_COLL.CPM_M1 : Fld := ⟨.DRW_COLL, 9, 0⟩
/-- DRW_STEER.VALID, RO. -/
abbrev F.DRW_STEER.VALID : Fld := ⟨.DRW_STEER, 31, 31⟩
/-- DRW_STEER.DIE, RO. -/
abbrev F.DRW_STEER.DIE : Fld := ⟨.DRW_STEER, 2, 0⟩
/-- CAB_SHELF_PART.FAST_PART, BOOT. -/
abbrev F.CAB_SHELF_PART.FAST_PART : Fld := ⟨.CAB_SHELF_PART, 27, 16⟩
/-- CAB_SHELF_PART.EXACT_PART, BOOT. -/
abbrev F.CAB_SHELF_PART.EXACT_PART : Fld := ⟨.CAB_SHELF_PART, 11, 0⟩
/-- CAB_SPILL_CFG.SPILL_EN, RW. -/
abbrev F.CAB_SPILL_CFG.SPILL_EN : Fld := ⟨.CAB_SPILL_CFG, 31, 31⟩
/-- CAB_SPILL_CFG.SPILL_IDLE, RW. -/
abbrev F.CAB_SPILL_CFG.SPILL_IDLE : Fld := ⟨.CAB_SPILL_CFG, 15, 0⟩
/-- CAB_SHELF_USED.FAST, RO. -/
abbrev F.CAB_SHELF_USED.FAST : Fld := ⟨.CAB_SHELF_USED, 27, 16⟩
/-- CAB_SHELF_USED.EXACT, RO. -/
abbrev F.CAB_SHELF_USED.EXACT : Fld := ⟨.CAB_SHELF_USED, 11, 0⟩
/-- CAB_SPILL_USED.SHELVES, RO. -/
abbrev F.CAB_SPILL_USED.SHELVES : Fld := ⟨.CAB_SPILL_USED, 18, 0⟩
/-- CAB_RANK_QUOTA.SHELF_MAX, BOOT. -/
abbrev F.CAB_RANK_QUOTA.SHELF_MAX : Fld := ⟨.CAB_RANK_QUOTA, 27, 16⟩
/-- CAB_RANK_QUOTA.DRW_MAX, BOOT. -/
abbrev F.CAB_RANK_QUOTA.DRW_MAX : Fld := ⟨.CAB_RANK_QUOTA, 9, 0⟩
/-- CAB_RANK_HELD.HELD, RO. -/
abbrev F.CAB_RANK_HELD.HELD : Fld := ⟨.CAB_RANK_HELD, 27, 16⟩
/-- CAB_RANK_HELD.ACTIVE, RO. -/
abbrev F.CAB_RANK_HELD.ACTIVE : Fld := ⟨.CAB_RANK_HELD, 9, 0⟩
/-- CAB_COUNT_USED.USED, RO. -/
abbrev F.CAB_COUNT_USED.USED : Fld := ⟨.CAB_COUNT_USED, 19, 0⟩
/-- DRW_SLOT.STATE, RO. -/
abbrev F.DRW_SLOT.STATE : Fld := ⟨.DRW_SLOT, 31, 28⟩
/-- DRW_SLOT.SHADOW, RO. -/
abbrev F.DRW_SLOT.SHADOW : Fld := ⟨.DRW_SLOT, 27, 27⟩
/-- DRW_SLOT.EPOCH, RO. -/
abbrev F.DRW_SLOT.EPOCH : Fld := ⟨.DRW_SLOT, 23, 16⟩
/-- DRW_SLOT.HANDLE, RO. -/
abbrev F.DRW_SLOT.HANDLE : Fld := ⟨.DRW_SLOT, 11, 0⟩
/-- DRW_SLOT.TAG, RO. -/
abbrev F.DRW_SLOT.TAG : Fld := ⟨.DRW_SLOT, 63, 32⟩
/-- DRW_SLOT.LIMIT, RO. -/
abbrev F.DRW_SLOT.LIMIT : Fld := ⟨.DRW_SLOT, 87, 64⟩
/-- DRW_SLOT.W, RO. -/
abbrev F.DRW_SLOT.W : Fld := ⟨.DRW_SLOT, 119, 96⟩
/-- DRW_SLOT.SHELVES, RO. -/
abbrev F.DRW_SLOT.SHELVES : Fld := ⟨.DRW_SLOT, 139, 128⟩
/-- DRW_SLOT.RETRY, RO. -/
abbrev F.DRW_SLOT.RETRY : Fld := ⟨.DRW_SLOT, 168, 160⟩
/-- POOL_CFG.SRC_IDLE, RW. -/
abbrev F.POOL_CFG.SRC_IDLE : Fld := ⟨.POOL_CFG, 31, 24⟩
/-- POOL_CFG.MIRROR_TO, RW. -/
abbrev F.POOL_CFG.MIRROR_TO : Fld := ⟨.POOL_CFG, 23, 16⟩
/-- POOL_CFG.RESEND_TO, RW. -/
abbrev F.POOL_CFG.RESEND_TO : Fld := ⟨.POOL_CFG, 15, 8⟩
/-- POOL_CFG.COPY_BW, RW. -/
abbrev F.POOL_CFG.COPY_BW : Fld := ⟨.POOL_CFG, 7, 0⟩
/-- POOL_CFG2.MIRROR_RSV, BOOT. -/
abbrev F.POOL_CFG2.MIRROR_RSV : Fld := ⟨.POOL_CFG2, 31, 16⟩
/-- POOL_CFG2.RC_PER_SRC, BOOT. -/
abbrev F.POOL_CFG2.RC_PER_SRC : Fld := ⟨.POOL_CFG2, 10, 0⟩
/-- POOL_PART.GIB, RO. -/
abbrev F.POOL_PART.GIB : Fld := ⟨.POOL_PART, 11, 0⟩
/-- POOL_WIN_CMD.GO, WS. -/
abbrev F.POOL_WIN_CMD.GO : Fld := ⟨.POOL_WIN_CMD, 31, 31⟩
/-- POOL_WIN_CMD.OP, RW. -/
abbrev F.POOL_WIN_CMD.OP : Fld := ⟨.POOL_WIN_CMD, 30, 28⟩
/-- POOL_WIN_CMD.STATUS, RO. -/
abbrev F.POOL_WIN_CMD.STATUS : Fld := ⟨.POOL_WIN_CMD, 23, 16⟩
/-- POOL_WIN_CMD.WINDOW, RW. -/
abbrev F.POOL_WIN_CMD.WINDOW : Fld := ⟨.POOL_WIN_CMD, 11, 0⟩
/-- POOL_WIN.COPY_PTR, RO. -/
abbrev F.POOL_WIN.COPY_PTR : Fld := ⟨.POOL_WIN, 157, 128⟩
/-- POOL_WIN.MIRROR_V, RW. -/
abbrev F.POOL_WIN.MIRROR_V : Fld := ⟨.POOL_WIN, 95, 95⟩
/-- POOL_WIN.PARTNER_PLACE, RW. -/
abbrev F.POOL_WIN.PARTNER_PLACE : Fld := ⟨.POOL_WIN, 87, 80⟩
/-- POOL_WIN.PARTNER_WIN, RW. -/
abbrev F.POOL_WIN.PARTNER_WIN : Fld := ⟨.POOL_WIN, 75, 64⟩
/-- POOL_WIN.BASE_GIB, RW. -/
abbrev F.POOL_WIN.BASE_GIB : Fld := ⟨.POOL_WIN, 43, 32⟩
/-- POOL_WIN.STATE, RO. -/
abbrev F.POOL_WIN.STATE : Fld := ⟨.POOL_WIN, 31, 28⟩
/-- POOL_WIN.SHARED, RW. -/
abbrev F.POOL_WIN.SHARED : Fld := ⟨.POOL_WIN, 27, 27⟩
/-- POOL_WIN.RD_ONLY, RW. -/
abbrev F.POOL_WIN.RD_ONLY : Fld := ⟨.POOL_WIN, 26, 26⟩
/-- POOL_WIN.ATOMIC_EN, RW. -/
abbrev F.POOL_WIN.ATOMIC_EN : Fld := ⟨.POOL_WIN, 25, 25⟩
/-- POOL_WIN.ON_LOSS, RW. -/
abbrev F.POOL_WIN.ON_LOSS : Fld := ⟨.POOL_WIN, 24, 24⟩
/-- POOL_WIN.SIZE_GIB, RW. -/
abbrev F.POOL_WIN.SIZE_GIB : Fld := ⟨.POOL_WIN, 23, 12⟩
/-- POOL_WIN.JOB, RW. -/
abbrev F.POOL_WIN.JOB : Fld := ⟨.POOL_WIN, 11, 0⟩
/-- POOL_TRK_USED.USED, RO. -/
abbrev F.POOL_TRK_USED.USED : Fld := ⟨.POOL_TRK_USED, 14, 0⟩
/-- POOL_SRC_USED.USED, RO. -/
abbrev F.POOL_SRC_USED.USED : Fld := ⟨.POOL_SRC_USED, 12, 0⟩
/-- POOL_RC_USED.USED, RO. -/
abbrev F.POOL_RC_USED.USED : Fld := ⟨.POOL_RC_USED, 13, 0⟩
/-- MNT_CTL.STEP_ARM, WS. -/
abbrev F.MNT_CTL.STEP_ARM : Fld := ⟨.MNT_CTL, 31, 31⟩
/-- MNT_CTL.STEP_ARMED, RO. -/
abbrev F.MNT_CTL.STEP_ARMED : Fld := ⟨.MNT_CTL, 30, 30⟩
/-- MNT_CTL.UPD_PEND, RO. -/
abbrev F.MNT_CTL.UPD_PEND : Fld := ⟨.MNT_CTL, 29, 29⟩
/-- MNT_CTL.SNAP, WS. -/
abbrev F.MNT_CTL.SNAP : Fld := ⟨.MNT_CTL, 28, 28⟩
/-- MNT_CTL.MASTER, RO. -/
abbrev F.MNT_CTL.MASTER : Fld := ⟨.MNT_CTL, 27, 27⟩
/-- MNT_CTL.HOLDOVER, RO. -/
abbrev F.MNT_CTL.HOLDOVER : Fld := ⟨.MNT_CTL, 26, 26⟩
/-- MNT_CTL.PPS_OUT_EN, RW. -/
abbrev F.MNT_CTL.PPS_OUT_EN : Fld := ⟨.MNT_CTL, 25, 25⟩
/-- MNT_CTL.TRAP_EN, RW. -/
abbrev F.MNT_CTL.TRAP_EN : Fld := ⟨.MNT_CTL, 24, 24⟩
/-- MNT_CTL.TRAP_DESK, RW. -/
abbrev F.MNT_CTL.TRAP_DESK : Fld := ⟨.MNT_CTL, 23, 23⟩
/-- MNT_CTL.SERVO_TO, RW. -/
abbrev F.MNT_CTL.SERVO_TO : Fld := ⟨.MNT_CTL, 15, 0⟩
/-- MNT_RATE.RATE, RW. -/
abbrev F.MNT_RATE.RATE : Fld := ⟨.MNT_RATE, 31, 0⟩
/-- MNT_STEP.STEP, WO. -/
abbrev F.MNT_STEP.STEP : Fld := ⟨.MNT_STEP, 63, 0⟩
/-- MNT_SNAP_RAW.RAW, RO. -/
abbrev F.MNT_SNAP_RAW.RAW : Fld := ⟨.MNT_SNAP_RAW, 63, 0⟩
/-- MNT_SNAP_TIME.TIME, RO. -/
abbrev F.MNT_SNAP_TIME.TIME : Fld := ⟨.MNT_SNAP_TIME, 63, 0⟩
/-- MNT_NOW.TIME, RO. -/
abbrev F.MNT_NOW.TIME : Fld := ⟨.MNT_NOW, 63, 0⟩
/-- MNT_PPS_IN_TS.TIME, RO. -/
abbrev F.MNT_PPS_IN_TS.TIME : Fld := ⟨.MNT_PPS_IN_TS, 63, 0⟩
/-- MNT_PPS_CFG.PPS_WIDTH, RW. -/
abbrev F.MNT_PPS_CFG.PPS_WIDTH : Fld := ⟨.MNT_PPS_CFG, 15, 0⟩
/-- MNT_PPS_OFFSET.OFFSET, RW. -/
abbrev F.MNT_PPS_OFFSET.OFFSET : Fld := ⟨.MNT_PPS_OFFSET, 29, 0⟩
/-- MNT_PTP_MAC.MAC, RW. -/
abbrev F.MNT_PTP_MAC.MAC : Fld := ⟨.MNT_PTP_MAC, 47, 0⟩
/-- MNT_LAUNCH.FIRED_AT, RO. -/
abbrev F.MNT_LAUNCH.FIRED_AT : Fld := ⟨.MNT_LAUNCH, 95, 64⟩
/-- MNT_LAUNCH.VALID, RW. -/
abbrev F.MNT_LAUNCH.VALID : Fld := ⟨.MNT_LAUNCH, 63, 63⟩
/-- MNT_LAUNCH.OUTCOME, RO. -/
abbrev F.MNT_LAUNCH.OUTCOME : Fld := ⟨.MNT_LAUNCH, 62, 61⟩
/-- MNT_LAUNCH.IRQ, RW. -/
abbrev F.MNT_LAUNCH.IRQ : Fld := ⟨.MNT_LAUNCH, 60, 60⟩
/-- MNT_LAUNCH.ACTION, RW. -/
abbrev F.MNT_LAUNCH.ACTION : Fld := ⟨.MNT_LAUNCH, 59, 56⟩
/-- MNT_LAUNCH.ARG, RW. -/
abbrev F.MNT_LAUNCH.ARG : Fld := ⟨.MNT_LAUNCH, 47, 32⟩
/-- MNT_LAUNCH.TIME, RW. -/
abbrev F.MNT_LAUNCH.TIME : Fld := ⟨.MNT_LAUNCH, 31, 0⟩
/-- MNT_PTP_TX.GO, WS. -/
abbrev F.MNT_PTP_TX.GO : Fld := ⟨.MNT_PTP_TX, 31, 31⟩
/-- MNT_PTP_TX.TS_REQ, RW. -/
abbrev F.MNT_PTP_TX.TS_REQ : Fld := ⟨.MNT_PTP_TX, 30, 30⟩
/-- MNT_PTP_TX.PORT, RW. -/
abbrev F.MNT_PTP_TX.PORT : Fld := ⟨.MNT_PTP_TX, 26, 16⟩
/-- MNT_PTP_TX.TS_ID, RW. -/
abbrev F.MNT_PTP_TX.TS_ID : Fld := ⟨.MNT_PTP_TX, 15, 0⟩
/-- MNT_PTP_TX_LEN.LEN, RW. -/
abbrev F.MNT_PTP_TX_LEN.LEN : Fld := ⟨.MNT_PTP_TX_LEN, 10, 0⟩
/-- MNT_PTP_RX_WPTR.PTR, RO. -/
abbrev F.MNT_PTP_RX_WPTR.PTR : Fld := ⟨.MNT_PTP_RX_WPTR, 5, 0⟩
/-- MNT_PTP_RX_RPTR.PTR, RW. -/
abbrev F.MNT_PTP_RX_RPTR.PTR : Fld := ⟨.MNT_PTP_RX_RPTR, 5, 0⟩
/-- MNT_CR_POP_DESK.VALID, RC. -/
abbrev F.MNT_CR_POP_DESK.VALID : Fld := ⟨.MNT_CR_POP_DESK, 63, 63⟩
/-- MNT_CR_POP_DESK.PORT, RC. -/
abbrev F.MNT_CR_POP_DESK.PORT : Fld := ⟨.MNT_CR_POP_DESK, 58, 48⟩
/-- MNT_CR_POP_DESK.TS_ID, RC. -/
abbrev F.MNT_CR_POP_DESK.TS_ID : Fld := ⟨.MNT_CR_POP_DESK, 47, 32⟩
/-- MNT_CR_POP_DESK.TIME, RC. -/
abbrev F.MNT_CR_POP_DESK.TIME : Fld := ⟨.MNT_CR_POP_DESK, 31, 0⟩
/-- MNT_CR_STAT_DESK.CR_IRQ_TH, RW. -/
abbrev F.MNT_CR_STAT_DESK.CR_IRQ_TH : Fld := ⟨.MNT_CR_STAT_DESK, 22, 16⟩
/-- MNT_CR_STAT_DESK.HELD, RO. -/
abbrev F.MNT_CR_STAT_DESK.HELD : Fld := ⟨.MNT_CR_STAT_DESK, 6, 0⟩
/-- MNT_CR_POP.VALID, RC. -/
abbrev F.MNT_CR_POP.VALID : Fld := ⟨.MNT_CR_POP, 63, 63⟩
/-- MNT_CR_POP.PORT, RC. -/
abbrev F.MNT_CR_POP.PORT : Fld := ⟨.MNT_CR_POP, 58, 48⟩
/-- MNT_CR_POP.TS_ID, RC. -/
abbrev F.MNT_CR_POP.TS_ID : Fld := ⟨.MNT_CR_POP, 47, 32⟩
/-- MNT_CR_POP.TIME, RC. -/
abbrev F.MNT_CR_POP.TIME : Fld := ⟨.MNT_CR_POP, 31, 0⟩
/-- MNT_CR_STAT.CR_IRQ_TH, RW. -/
abbrev F.MNT_CR_STAT.CR_IRQ_TH : Fld := ⟨.MNT_CR_STAT, 22, 16⟩
/-- MNT_CR_STAT.HELD, RO. -/
abbrev F.MNT_CR_STAT.HELD : Fld := ⟨.MNT_CR_STAT, 6, 0⟩
/-- DESK_PMC_CMD.GO, WS. -/
abbrev F.DESK_PMC_CMD.GO : Fld := ⟨.DESK_PMC_CMD, 31, 31⟩
/-- DESK_PMC_CMD.OP, RW. -/
abbrev F.DESK_PMC_CMD.OP : Fld := ⟨.DESK_PMC_CMD, 30, 28⟩
/-- DESK_PMC_CMD.STATUS, RO. -/
abbrev F.DESK_PMC_CMD.STATUS : Fld := ⟨.DESK_PMC_CMD, 23, 16⟩
/-- DESK_PMC_CMD.WINDOW, RW. -/
abbrev F.DESK_PMC_CMD.WINDOW : Fld := ⟨.DESK_PMC_CMD, 7, 0⟩
/-- DESK_PMC_SNAP_TIME.TIME, RO. -/
abbrev F.DESK_PMC_SNAP_TIME.TIME : Fld := ⟨.DESK_PMC_SNAP_TIME, 31, 0⟩
/-- CLK_ALIGN_CTL.CHECK, WS. -/
abbrev F.CLK_ALIGN_CTL.CHECK : Fld := ⟨.CLK_ALIGN_CTL, 31, 31⟩
/-- CLK_ALIGN_CTL.ALIGNED, RO. -/
abbrev F.CLK_ALIGN_CTL.ALIGNED : Fld := ⟨.CLK_ALIGN_CTL, 30, 30⟩
/-- CLK_ALIGN_STAT.FAILING, RO. -/
abbrev F.CLK_ALIGN_STAT.FAILING : Fld := ⟨.CLK_ALIGN_STAT, 31, 24⟩
/-- CLK_ALIGN_STAT.TIME, RO. -/
abbrev F.CLK_ALIGN_STAT.TIME : Fld := ⟨.CLK_ALIGN_STAT, 23, 0⟩
/-- CLK_ALIGN_DIE.CHECKED, RO. -/
abbrev F.CLK_ALIGN_DIE.CHECKED : Fld := ⟨.CLK_ALIGN_DIE, 31, 31⟩
/-- CLK_ALIGN_DIE.OK, RO. -/
abbrev F.CLK_ALIGN_DIE.OK : Fld := ⟨.CLK_ALIGN_DIE, 30, 30⟩
/-- CLK_ALIGN_DIE.BAD, RO. -/
abbrev F.CLK_ALIGN_DIE.BAD : Fld := ⟨.CLK_ALIGN_DIE, 23, 16⟩
/-- CLK_ALIGN_DIE.PATH_DELAY, RO. -/
abbrev F.CLK_ALIGN_DIE.PATH_DELAY : Fld := ⟨.CLK_ALIGN_DIE, 15, 0⟩
/-- DESK_CWIN.FIRST, RW. -/
abbrev F.DESK_CWIN.FIRST : Fld := ⟨.DESK_CWIN, 127, 112⟩
/-- DESK_CWIN.COUNT, RW. -/
abbrev F.DESK_CWIN.COUNT : Fld := ⟨.DESK_CWIN, 102, 96⟩
/-- DESK_CWIN.PERMIT_V, RW. -/
abbrev F.DESK_CWIN.PERMIT_V : Fld := ⟨.DESK_CWIN, 95, 95⟩
/-- DESK_CWIN.PERMIT_JOB, RW. -/
abbrev F.DESK_CWIN.PERMIT_JOB : Fld := ⟨.DESK_CWIN, 75, 64⟩
/-- DESK_CWIN.DIE_MASK, RW. -/
abbrev F.DESK_CWIN.DIE_MASK : Fld := ⟨.DESK_CWIN, 55, 32⟩
/-- DESK_CWIN.VALID, RW. -/
abbrev F.DESK_CWIN.VALID : Fld := ⟨.DESK_CWIN, 31, 31⟩
/-- DESK_CWIN.PORTS, RW. -/
abbrev F.DESK_CWIN.PORTS : Fld := ⟨.DESK_CWIN, 30, 30⟩
/-- DESK_CWIN.BANK, RW. -/
abbrev F.DESK_CWIN.BANK : Fld := ⟨.DESK_CWIN, 29, 27⟩
/-- DESK_CWIN.DURATION, RW. -/
abbrev F.DESK_CWIN.DURATION : Fld := ⟨.DESK_CWIN, 23, 0⟩
/-- DESK_CWIN_STAT.CLOSE_AT, RO. -/
abbrev F.DESK_CWIN_STAT.CLOSE_AT : Fld := ⟨.DESK_CWIN_STAT, 95, 64⟩
/-- DESK_CWIN_STAT.OPEN_AT, RO. -/
abbrev F.DESK_CWIN_STAT.OPEN_AT : Fld := ⟨.DESK_CWIN_STAT, 63, 32⟩
/-- DESK_CWIN_STAT.STATE, RO. -/
abbrev F.DESK_CWIN_STAT.STATE : Fld := ⟨.DESK_CWIN_STAT, 31, 30⟩
/-- DESK_CWIN_STAT.DIE_MISSING, RO. -/
abbrev F.DESK_CWIN_STAT.DIE_MISSING : Fld := ⟨.DESK_CWIN_STAT, 29, 29⟩
/-- DESK_CWIN_STAT.CUT, RO. -/
abbrev F.DESK_CWIN_STAT.CUT : Fld := ⟨.DESK_CWIN_STAT, 28, 28⟩
/-- XBAR_PMC_CFG0.MODE, RW. -/
abbrev F.XBAR_PMC_CFG0.MODE : Fld := ⟨.XBAR_PMC_CFG0, 31, 30⟩
/-- XBAR_PMC_CFG0.JOB_EN, RW. -/
abbrev F.XBAR_PMC_CFG0.JOB_EN : Fld := ⟨.XBAR_PMC_CFG0, 29, 29⟩
/-- XBAR_PMC_CFG0.PORT_EN, RW. -/
abbrev F.XBAR_PMC_CFG0.PORT_EN : Fld := ⟨.XBAR_PMC_CFG0, 28, 28⟩
/-- XBAR_PMC_CFG0.CLASS_MASK, RW. -/
abbrev F.XBAR_PMC_CFG0.CLASS_MASK : Fld := ⟨.XBAR_PMC_CFG0, 27, 20⟩
/-- XBAR_PMC_CFG0.EVENT, RW. -/
abbrev F.XBAR_PMC_CFG0.EVENT : Fld := ⟨.XBAR_PMC_CFG0, 9, 0⟩
/-- XBAR_PMC_CFG1.JOB, RW. -/
abbrev F.XBAR_PMC_CFG1.JOB : Fld := ⟨.XBAR_PMC_CFG1, 27, 16⟩
/-- XBAR_PMC_CFG1.SEL, RW. -/
abbrev F.XBAR_PMC_CFG1.SEL : Fld := ⟨.XBAR_PMC_CFG1, 5, 0⟩
/-- XBAR_PMC_VAL.VALUE, RO. -/
abbrev F.XBAR_PMC_VAL.VALUE : Fld := ⟨.XBAR_PMC_VAL, 63, 0⟩
/-- XBAR_PMC_SNAP.VALUE, RO. -/
abbrev F.XBAR_PMC_SNAP.VALUE : Fld := ⟨.XBAR_PMC_SNAP, 63, 0⟩
/-- XBAR_PMC_WIN.VALUE, RO. -/
abbrev F.XBAR_PMC_WIN.VALUE : Fld := ⟨.XBAR_PMC_WIN, 63, 0⟩
/-- XBAR_PMC_PORT_RX.VALUE, RO. -/
abbrev F.XBAR_PMC_PORT_RX.VALUE : Fld := ⟨.XBAR_PMC_PORT_RX, 63, 0⟩
/-- XBAR_PMC_PORT_TX.VALUE, RO. -/
abbrev F.XBAR_PMC_PORT_TX.VALUE : Fld := ⟨.XBAR_PMC_PORT_TX, 63, 0⟩
/-- XBAR_PMC_PWIN_RX.VALUE, RO. -/
abbrev F.XBAR_PMC_PWIN_RX.VALUE : Fld := ⟨.XBAR_PMC_PWIN_RX, 63, 0⟩
/-- XBAR_PMC_PWIN_TX.VALUE, RO. -/
abbrev F.XBAR_PMC_PWIN_TX.VALUE : Fld := ⟨.XBAR_PMC_PWIN_TX, 63, 0⟩
/-- CAB_PMC_CFG0.MODE, RW. -/
abbrev F.CAB_PMC_CFG0.MODE : Fld := ⟨.CAB_PMC_CFG0, 31, 30⟩
/-- CAB_PMC_CFG0.JOB_EN, RW. -/
abbrev F.CAB_PMC_CFG0.JOB_EN : Fld := ⟨.CAB_PMC_CFG0, 29, 29⟩
/-- CAB_PMC_CFG0.PORT_EN, RW. -/
abbrev F.CAB_PMC_CFG0.PORT_EN : Fld := ⟨.CAB_PMC_CFG0, 28, 28⟩
/-- CAB_PMC_CFG0.CLASS_MASK, RW. -/
abbrev F.CAB_PMC_CFG0.CLASS_MASK : Fld := ⟨.CAB_PMC_CFG0, 27, 20⟩
/-- CAB_PMC_CFG0.EVENT, RW. -/
abbrev F.CAB_PMC_CFG0.EVENT : Fld := ⟨.CAB_PMC_CFG0, 9, 0⟩
/-- CAB_PMC_CFG1.JOB, RW. -/
abbrev F.CAB_PMC_CFG1.JOB : Fld := ⟨.CAB_PMC_CFG1, 27, 16⟩
/-- CAB_PMC_CFG1.SEL, RW. -/
abbrev F.CAB_PMC_CFG1.SEL : Fld := ⟨.CAB_PMC_CFG1, 5, 0⟩
/-- CAB_PMC_VAL.VALUE, RO. -/
abbrev F.CAB_PMC_VAL.VALUE : Fld := ⟨.CAB_PMC_VAL, 63, 0⟩
/-- CAB_PMC_SNAP.VALUE, RO. -/
abbrev F.CAB_PMC_SNAP.VALUE : Fld := ⟨.CAB_PMC_SNAP, 63, 0⟩
/-- CAB_PMC_WIN.VALUE, RO. -/
abbrev F.CAB_PMC_WIN.VALUE : Fld := ⟨.CAB_PMC_WIN, 63, 0⟩
/-- BUR_CTL.INJ_EN, BOOT. -/
abbrev F.BUR_CTL.INJ_EN : Fld := ⟨.BUR_CTL, 31, 31⟩
/-- BUR_CTL.SPARE, BOOT. -/
abbrev F.BUR_CTL.SPARE : Fld := ⟨.BUR_CTL, 30, 30⟩
/-- BUR_CTL.SPINE_SHADOW, B1C. -/
abbrev F.BUR_CTL.SPINE_SHADOW : Fld := ⟨.BUR_CTL, 29, 29⟩
/-- BUR_CTL.MASTER, RO. -/
abbrev F.BUR_CTL.MASTER : Fld := ⟨.BUR_CTL, 28, 28⟩
/-- BUR_TIMERS.QUIET, RW. -/
abbrev F.BUR_TIMERS.QUIET : Fld := ⟨.BUR_TIMERS, 31, 16⟩
/-- BUR_TIMERS.GRACE, RW. -/
abbrev F.BUR_TIMERS.GRACE : Fld := ⟨.BUR_TIMERS, 15, 0⟩
/-- BUR_GEN.DESK_GEN, RO. -/
abbrev F.BUR_GEN.DESK_GEN : Fld := ⟨.BUR_GEN, 15, 0⟩
/-- BUR_STANDIN.GO, WS. -/
abbrev F.BUR_STANDIN.GO : Fld := ⟨.BUR_STANDIN, 31, 31⟩
/-- BUR_STANDIN.STATUS, RO. -/
abbrev F.BUR_STANDIN.STATUS : Fld := ⟨.BUR_STANDIN, 23, 16⟩
/-- BUR_STANDIN.PLACE, RW. -/
abbrev F.BUR_STANDIN.PLACE : Fld := ⟨.BUR_STANDIN, 7, 0⟩
/-- BUR_ACT.GO, WS. -/
abbrev F.BUR_ACT.GO : Fld := ⟨.BUR_ACT, 31, 31⟩
/-- BUR_ACT.LEVEL, RW. -/
abbrev F.BUR_ACT.LEVEL : Fld := ⟨.BUR_ACT, 30, 28⟩
/-- BUR_ACT.STATUS, RO. -/
abbrev F.BUR_ACT.STATUS : Fld := ⟨.BUR_ACT, 23, 16⟩
/-- BUR_ACT.SOURCE, RW. -/
abbrev F.BUR_ACT.SOURCE : Fld := ⟨.BUR_ACT, 9, 0⟩
/-- BUR_ACT_INST.INST, RW. -/
abbrev F.BUR_ACT_INST.INST : Fld := ⟨.BUR_ACT_INST, 31, 0⟩
/-- BUR_BUDGET_STAT.EXHAUSTED, RO. -/
abbrev F.BUR_BUDGET_STAT.EXHAUSTED : Fld := ⟨.BUR_BUDGET_STAT, 5, 0⟩
/-- BUR_INJ_CMD.GO, WS. -/
abbrev F.BUR_INJ_CMD.GO : Fld := ⟨.BUR_INJ_CMD, 31, 31⟩
/-- BUR_INJ_CMD.ENTRY, RW. -/
abbrev F.BUR_INJ_CMD.ENTRY : Fld := ⟨.BUR_INJ_CMD, 9, 0⟩
/-- BUR_BUDGET.COUNT, RW. -/
abbrev F.BUR_BUDGET.COUNT : Fld := ⟨.BUR_BUDGET, 31, 24⟩
/-- BUR_BUDGET.WINDOW, RW. -/
abbrev F.BUR_BUDGET.WINDOW : Fld := ⟨.BUR_BUDGET, 16, 0⟩
/-- BUR_GROUP.VALID, BOOT. -/
abbrev F.BUR_GROUP.VALID : Fld := ⟨.BUR_GROUP, 31, 31⟩
/-- BUR_GROUP.PLACE, BOOT. -/
abbrev F.BUR_GROUP.PLACE : Fld := ⟨.BUR_GROUP, 7, 0⟩
/-- BUR_SHADOW_CFG.FAST_CMP, RW. -/
abbrev F.BUR_SHADOW_CFG.FAST_CMP : Fld := ⟨.BUR_SHADOW_CFG, 31, 31⟩
/-- BUR_SHADOW_CFG.PASS_TARGET, RW. -/
abbrev F.BUR_SHADOW_CFG.PASS_TARGET : Fld := ⟨.BUR_SHADOW_CFG, 23, 0⟩
/-- BUR_FEED.EN, RW. -/
abbrev F.BUR_FEED.EN : Fld := ⟨.BUR_FEED, 31, 31⟩
/-- BUR_FEED.JOB, RW. -/
abbrev F.BUR_FEED.JOB : Fld := ⟨.BUR_FEED, 27, 16⟩
/-- BUR_FEED.LP, RW. -/
abbrev F.BUR_FEED.LP : Fld := ⟨.BUR_FEED, 9, 0⟩
/-- BUR_SHADOW_PASS.MISMATCH, RO. -/
abbrev F.BUR_SHADOW_PASS.MISMATCH : Fld := ⟨.BUR_SHADOW_PASS, 31, 31⟩
/-- BUR_SHADOW_PASS.MATCHES, RO. -/
abbrev F.BUR_SHADOW_PASS.MATCHES : Fld := ⟨.BUR_SHADOW_PASS, 23, 0⟩
/-- BUR_UNIT.STATE, RO. -/
abbrev F.BUR_UNIT.STATE : Fld := ⟨.BUR_UNIT, 31, 29⟩
/-- BUR_UNIT.STALE, RO. -/
abbrev F.BUR_UNIT.STALE : Fld := ⟨.BUR_UNIT, 28, 28⟩
/-- BUR_UNIT.QUALIFIED, RO. -/
abbrev F.BUR_UNIT.QUALIFIED : Fld := ⟨.BUR_UNIT, 27, 27⟩
/-- BUR_UNIT.CFG_GEN, RO. -/
abbrev F.BUR_UNIT.CFG_GEN : Fld := ⟨.BUR_UNIT, 15, 0⟩
/-- BUR_SRC.LAST, RO. -/
abbrev F.BUR_SRC.LAST : Fld := ⟨.BUR_SRC, 127, 96⟩
/-- BUR_SRC.RECOV, RO. -/
abbrev F.BUR_SRC.RECOV : Fld := ⟨.BUR_SRC, 79, 64⟩
/-- BUR_SRC.PENDING, W1C. -/
abbrev F.BUR_SRC.PENDING : Fld := ⟨.BUR_SRC, 63, 63⟩
/-- BUR_SRC.LEVEL_NOW, RO. -/
abbrev F.BUR_SRC.LEVEL_NOW : Fld := ⟨.BUR_SRC, 62, 60⟩
/-- BUR_SRC.COUNT, RO. -/
abbrev F.BUR_SRC.COUNT : Fld := ⟨.BUR_SRC, 39, 32⟩
/-- BUR_SRC.N, RW. -/
abbrev F.BUR_SRC.N : Fld := ⟨.BUR_SRC, 31, 24⟩
/-- BUR_SRC.W_CODE, RW. -/
abbrev F.BUR_SRC.W_CODE : Fld := ⟨.BUR_SRC, 23, 19⟩
/-- BUR_SRC.LEVEL, RW. -/
abbrev F.BUR_SRC.LEVEL : Fld := ⟨.BUR_SRC, 18, 16⟩
/-- BUR_SRC.CEIL, RW. -/
abbrev F.BUR_SRC.CEIL : Fld := ⟨.BUR_SRC, 15, 13⟩
/-- BUR_SRC.CLASS, RW. -/
abbrev F.BUR_SRC.CLASS : Fld := ⟨.BUR_SRC, 12, 9⟩
/-- BUR_SRC.AUTO_RETURN, RW. -/
abbrev F.BUR_SRC.AUTO_RETURN : Fld := ⟨.BUR_SRC, 8, 8⟩
/-- BUR_SRC.EN, RW. -/
abbrev F.BUR_SRC.EN : Fld := ⟨.BUR_SRC, 7, 7⟩
/-- BUR_INJ.PARAM, RW. -/
abbrev F.BUR_INJ.PARAM : Fld := ⟨.BUR_INJ, 95, 80⟩
/-- BUR_INJ.INTERVAL, RW. -/
abbrev F.BUR_INJ.INTERVAL : Fld := ⟨.BUR_INJ, 79, 64⟩
/-- BUR_INJ.INST, RW. -/
abbrev F.BUR_INJ.INST : Fld := ⟨.BUR_INJ, 63, 32⟩
/-- BUR_INJ.VALID, RW. -/
abbrev F.BUR_INJ.VALID : Fld := ⟨.BUR_INJ, 31, 31⟩
/-- BUR_INJ.DRY, RW. -/
abbrev F.BUR_INJ.DRY : Fld := ⟨.BUR_INJ, 30, 30⟩
/-- BUR_INJ.TYPE, RW. -/
abbrev F.BUR_INJ.TYPE : Fld := ⟨.BUR_INJ, 29, 26⟩
/-- BUR_INJ.SOURCE, RW. -/
abbrev F.BUR_INJ.SOURCE : Fld := ⟨.BUR_INJ, 25, 16⟩
/-- BUR_INJ.REPEAT, RW. -/
abbrev F.BUR_INJ.REPEAT : Fld := ⟨.BUR_INJ, 15, 0⟩
/-- BUR_LOG_WPTR.PTR, RO. -/
abbrev F.BUR_LOG_WPTR.PTR : Fld := ⟨.BUR_LOG_WPTR, 9, 0⟩
/-- BUR_LOG_RPTR.PTR, RW. -/
abbrev F.BUR_LOG_RPTR.PTR : Fld := ⟨.BUR_LOG_RPTR, 9, 0⟩
/-- PWR_CTL.RESUME, WS. -/
abbrev F.PWR_CTL.RESUME : Fld := ⟨.PWR_CTL, 31, 31⟩
/-- PWR_CTL.AUTO_RESUME, RW. -/
abbrev F.PWR_CTL.AUTO_RESUME : Fld := ⟨.PWR_CTL, 30, 30⟩
/-- PWR_CTL.ACT_LIM, RW. -/
abbrev F.PWR_CTL.ACT_LIM : Fld := ⟨.PWR_CTL, 15, 8⟩
/-- PWR_STAT.STATE, RO. -/
abbrev F.PWR_STAT.STATE : Fld := ⟨.PWR_STAT, 31, 28⟩
/-- PWR_STAT.LIM_STEP, RO. -/
abbrev F.PWR_STAT.LIM_STEP : Fld := ⟨.PWR_STAT, 27, 26⟩
/-- PWR_STAT.VR_HOT, RO. -/
abbrev F.PWR_STAT.VR_HOT : Fld := ⟨.PWR_STAT, 25, 25⟩
/-- PWR_STAT.THR_THERM, RO. -/
abbrev F.PWR_STAT.THR_THERM : Fld := ⟨.PWR_STAT, 24, 24⟩
/-- PWR_STAT.SAFE_CAUSE, RO. -/
abbrev F.PWR_STAT.SAFE_CAUSE : Fld := ⟨.PWR_STAT, 23, 20⟩
/-- PWR_PD_CTL.PD, RW. -/
abbrev F.PWR_PD_CTL.PD : Fld := ⟨.PWR_PD_CTL, 29, 16⟩
/-- PWR_PD_CTL.OE, RO. -/
abbrev F.PWR_PD_CTL.OE : Fld := ⟨.PWR_PD_CTL, 15, 0⟩
/-- PWR_PD_STAT.BUSY, RO. -/
abbrev F.PWR_PD_STAT.BUSY : Fld := ⟨.PWR_PD_STAT, 31, 31⟩
/-- PWR_PD_STAT.ON, RO. -/
abbrev F.PWR_PD_STAT.ON : Fld := ⟨.PWR_PD_STAT, 29, 0⟩
/-- PWR_LIMIT.SHORT_A, RW. -/
abbrev F.PWR_LIMIT.SHORT_A : Fld := ⟨.PWR_LIMIT, 24, 16⟩
/-- PWR_LIMIT.LONG_A, RW. -/
abbrev F.PWR_LIMIT.LONG_A : Fld := ⟨.PWR_LIMIT, 8, 0⟩
/-- PWR_VIN_MAIN.LOW, RC. -/
abbrev F.PWR_VIN_MAIN.LOW : Fld := ⟨.PWR_VIN_MAIN, 31, 16⟩
/-- PWR_VIN_MAIN.NOW, RO. -/
abbrev F.PWR_VIN_MAIN.NOW : Fld := ⟨.PWR_VIN_MAIN, 15, 0⟩
/-- PWR_I_MAIN.AVG100, RO. -/
abbrev F.PWR_I_MAIN.AVG100 : Fld := ⟨.PWR_I_MAIN, 31, 16⟩
/-- PWR_I_MAIN.AVG1, RO. -/
abbrev F.PWR_I_MAIN.AVG1 : Fld := ⟨.PWR_I_MAIN, 15, 0⟩
/-- PWR_VIN_AUX.HTR, RO. -/
abbrev F.PWR_VIN_AUX.HTR : Fld := ⟨.PWR_VIN_AUX, 31, 16⟩
/-- PWR_VIN_AUX.AON, RO. -/
abbrev F.PWR_VIN_AUX.AON : Fld := ⟨.PWR_VIN_AUX, 15, 0⟩
/-- PWR_SAFE_REC.CAUSE, RO. -/
abbrev F.PWR_SAFE_REC.CAUSE : Fld := ⟨.PWR_SAFE_REC, 31, 28⟩
/-- PWR_SAFE_REC.STOPS, RO. -/
abbrev F.PWR_SAFE_REC.STOPS : Fld := ⟨.PWR_SAFE_REC, 15, 0⟩
/-- CLK_REF_CTL.AUTO, RW. -/
abbrev F.CLK_REF_CTL.AUTO : Fld := ⟨.CLK_REF_CTL, 31, 31⟩
/-- CLK_REF_CTL.PREF, RW. -/
abbrev F.CLK_REF_CTL.PREF : Fld := ⟨.CLK_REF_CTL, 30, 30⟩
/-- CLK_REF_CTL.SWITCH, WS. -/
abbrev F.CLK_REF_CTL.SWITCH : Fld := ⟨.CLK_REF_CTL, 29, 29⟩
/-- CLK_STAT.REF_A_OK, RO. -/
abbrev F.CLK_STAT.REF_A_OK : Fld := ⟨.CLK_STAT, 31, 31⟩
/-- CLK_STAT.REF_B_OK, RO. -/
abbrev F.CLK_STAT.REF_B_OK : Fld := ⟨.CLK_STAT, 30, 30⟩
/-- CLK_STAT.SEL, RO. -/
abbrev F.CLK_STAT.SEL : Fld := ⟨.CLK_STAT, 29, 29⟩
/-- CLK_STAT.HOLDOVER, RO. -/
abbrev F.CLK_STAT.HOLDOVER : Fld := ⟨.CLK_STAT, 28, 28⟩
/-- CLK_STAT.ROOT_LOCK, RO. -/
abbrev F.CLK_STAT.ROOT_LOCK : Fld := ⟨.CLK_STAT, 27, 27⟩
/-- CLK_STAT.CAB_HALF, RO. -/
abbrev F.CLK_STAT.CAB_HALF : Fld := ⟨.CLK_STAT, 26, 26⟩
/-- CLK_REF_DIFF.DIFF, RO. -/
abbrev F.CLK_REF_DIFF.DIFF : Fld := ⟨.CLK_REF_DIFF, 31, 0⟩
/-- PWR_TEMP.VALID, RO. -/
abbrev F.PWR_TEMP.VALID : Fld := ⟨.PWR_TEMP, 31, 31⟩
/-- PWR_TEMP.THROTTLE, RO. -/
abbrev F.PWR_TEMP.THROTTLE : Fld := ⟨.PWR_TEMP, 30, 30⟩
/-- PWR_TEMP.TRIP, RO. -/
abbrev F.PWR_TEMP.TRIP : Fld := ⟨.PWR_TEMP, 29, 29⟩
/-- PWR_TEMP.TEMP, RO. -/
abbrev F.PWR_TEMP.TEMP : Fld := ⟨.PWR_TEMP, 15, 0⟩

end Sys2Proof.Machine
end

