-- ==== Sys2Proof/Machine/Bits.lean ====
section
/-! DEFINITION. Bit fields, byte orders and small integer helpers shared by every family. -/
namespace Sys2Proof.Machine

/-- Bits [hi:lo] of a natural number. -/
def bitsOf (v hi lo : Nat) : Nat := (v / 2 ^ lo) % 2 ^ (hi + 1 - lo)

/-- Bit `i` of a natural number. -/
def bitAt (v i : Nat) : Bool := v / 2 ^ i % 2 == 1

/-- `v` with bits [hi:lo] replaced by the low bits of `x`. -/
def withBits (v hi lo x : Nat) : Nat :=
  v / 2 ^ (hi + 1) * 2 ^ (hi + 1) + x % 2 ^ (hi + 1 - lo) * 2 ^ lo + v % 2 ^ lo

/-- `v` with bit `i` set or cleared. -/
def withBit (v i : Nat) (b : Bool) : Nat := withBits v i i b.toNat

/-- The unsigned value of bytes, most significant first (network order, R110). -/
def beNat (bs : List Byte) : Nat := bs.foldl (fun a b => a * 256 + b.toNat) 0

/-- The unsigned value of bytes, least significant first (R278: pool operands). -/
def leNat (bs : List Byte) : Nat := bs.foldr (fun b a => b.toNat + 256 * a) 0

/-- `n` bytes of `v`, most significant first. -/
def beBytes : Nat → Nat → List Byte
  | 0, _ => []
  | n + 1, v => beBytes n (v / 256) ++ [BitVec.ofNat 8 v]

/-- `n` bytes of `v`, least significant first. -/
def leBytes : Nat → Nat → List Byte
  | 0, _ => []
  | n + 1, v => BitVec.ofNat 8 v :: leBytes n (v / 256)

/-- Bytes `off` to `off + n - 1` of a frame as an unsigned value in network order. -/
def beAt (bs : List Byte) (off n : Nat) : Nat := beNat ((bs.drop off).take n)

/-- The byte at an offset, zero past the end. -/
def byteAt (bs : List Byte) (off : Nat) : Nat := (bs.getD off 0).toNat

/-- `bs` with the bytes from `off` replaced by `new` (the length is kept). -/
def spliceAt (bs : List Byte) (off : Nat) (new : List Byte) : List Byte :=
  bs.take off ++ new.take (bs.length - off) ++ bs.drop (off + new.length)

/-- The signed value of the low `w` bits of `v` in two's complement. -/
def toSigned (w v : Nat) : Int :=
  let m := v % 2 ^ w
  if m < 2 ^ (w - 1) then (m : Int) else (m : Int) - 2 ^ w

/-- The low `w` bits of an integer in two's complement. -/
def ofSigned (w : Nat) (z : Int) : Nat := (z % (2 ^ w : Int)).toNat

/-- One step of a bitwise CRC over an `w`-bit register with a most-significant-first polynomial. -/
def crcBit (w poly reg : Nat) (b : Bool) : Nat :=
  let top := bitAt reg (w - 1) != b
  let sh := (reg * 2) % 2 ^ w
  if top then Nat.xor sh poly else sh

/-- A CRC over bytes, each byte most significant bit first. -/
def crcBytes (w poly init : Nat) (bs : List Byte) : Nat :=
  bs.foldl (fun r b => (List.range 8).foldl (fun r i => crcBit w poly r (bitAt b.toNat (7 - i))) r) init

/-- One step of a bitwise CRC in the reflected (least significant bit first) form. -/
def crcBitLsb (poly reg : Nat) (b : Bool) : Nat :=
  let low := bitAt reg 0 != b
  let sh := reg / 2
  if low then Nat.xor sh poly else sh

/-- A reflected CRC over bytes, each byte least significant bit first. -/
def crcBytesLsb (poly init : Nat) (bs : List Byte) : Nat :=
  bs.foldl (fun r b => (List.range 8).foldl (fun r i => crcBitLsb poly r (bitAt b.toNat i)) r) init

/-- The number of one bits among the low `n` bits. -/
def popBits (v n : Nat) : Nat := ((List.range n).filter (bitAt v)).length

/-- The positions of the one bits among the low `n` bits, rising. -/
def bitList (v n : Nat) : List Nat := (List.range n).filter (bitAt v)

/-- Ceiling division. -/
def ceilDiv (a b : Nat) : Nat := (a + b - 1) / b

end Sys2Proof.Machine
end

