-- ==== Sys2Proof/Machine/Table.lean ====
section
/-! DEFINITION. Operations on sparse tables. Every one keeps the canonical form: keys strictly rising,
no entry equal to the default. -/
namespace Sys2Proof

/-- Insert or replace one entry, keys kept rising. -/
def Tbl.insert {α : Type} (t : Tbl α) (k : Nat) (v : α) : Tbl α :=
  match t with
  | [] => [(k, v)]
  | (k', v') :: r =>
    if k < k' then (k, v) :: (k', v') :: r
    else if k = k' then (k, v) :: r
    else (k', v') :: Tbl.insert r k v

/-- Remove every entry of a key. -/
def Tbl.erase {α : Type} (t : Tbl α) (k : Nat) : Tbl α :=
  match t with
  | [] => []
  | (k', v') :: r => if k = k' then Tbl.erase r k else (k', v') :: Tbl.erase r k

/-- The entry of a key. -/
def Tbl.find {α : Type} (t : Tbl α) (k : Nat) : Option α :=
  match t with
  | [] => none
  | (k', v') :: r => if k = k' then some v' else Tbl.find r k

/-- The entry of a key, or the table's default. -/
def Tbl.at {α : Type} (t : Tbl α) (d : α) (k : Nat) : α := (t.find k).getD d

/-- Write an entry; writing the default removes it, so that equal tables are equal data. -/
def Tbl.put {α : Type} [DecidableEq α] (t : Tbl α) (d : α) (k : Nat) (v : α) : Tbl α :=
  if v = d then t.erase k else t.insert k v

/-- Change an entry. -/
def Tbl.upd {α : Type} [DecidableEq α] (t : Tbl α) (d : α) (k : Nat) (f : α → α) : Tbl α :=
  t.put d k (f (t.at d k))

/-- Change the value of a listed entry; other tables stay. -/
def Tbl.modify {α : Type} (t : Tbl α) (k : Nat) (f : α → α) : Tbl α :=
  t.map fun e => if e.1 = k then (e.1, f e.2) else e

/-- Keep the entries whose key and value satisfy a test. -/
def Tbl.keep {α : Type} (t : Tbl α) (p : Nat → α → Bool) : Tbl α := t.filter (fun e => p e.1 e.2)

/-- The keys of the listed entries. -/
def Tbl.keys {α : Type} (t : Tbl α) : List Nat := t.map Prod.fst

/-- The canonical form: keys strictly rising and no entry equal to the default. -/
abbrev Tbl.wf {α : Type} (t : Tbl α) (d : α) : Prop :=
  t.Pairwise (fun a b => a.1 < b.1) ∧ ∀ e ∈ t, e.2 ≠ d

/-- The key of a pair of indices. -/
def Machine.key2 (a b : Nat) : Nat := Nat.pair a b

/-- The key of three indices. -/
def Machine.key3 (a b c : Nat) : Nat := Nat.pair a (Nat.pair b c)

/-- The key of four indices. -/
def Machine.key4 (a b c d : Nat) : Nat := Nat.pair a (Nat.pair b (Nat.pair c d))

end Sys2Proof
end

