-- ==== Sys2Proof/Machine/State.lean ====
section
/-! DEFINITION. The state of the block as plain data: the register words of BAR0, the time base, the fabric's
frames and queues, the links, and one record for each unit's state that no register shows; the queue of
waiting commands; the reset state. -/
namespace Sys2Proof.Machine

/-! ## Fabric (chapters 5 to 8) -/

/-- The destination of a cell (Table 7.1): die of the mesh, DEST_KIND and DEST_ID. -/
structure Dest where
  /-- die index 0 to 23 (16 + c for CABc) -/
  die : Nat := 0
  /-- 0 logical port; 1 Cabinet die; 2 ordering tile or line home; 3 local service -/
  kind : Nat := 0
  /-- logical port, or unit number -/
  id : Nat := 0
  deriving DecidableEq, Repr

/-- An item of the stream from a primary die to a shadow die (R248). -/
inductive ShItem where
  | frame (c : Contrib)
  | grant (tag start : Nat)
  | close
  | replay (epoch start : Nat)
  | retry (chunk : Nat)
  | abort (epoch : Nat)
  | reform (removed : List Nat) (epoch : Nat)
  /-- an item that came poisoned -/
  | bad
  deriving DecidableEq, Repr

/-- A shadow stream's item on its way: primary die, handle and item. -/
structure ShMsg where
  /-- primary die -/
  from' : Nat
  /-- handle -/
  handle : Nat
  /-- item -/
  item : ShItem
  deriving DecidableEq, Repr

/-- A frame (or one copy of a multicast frame) held by one die: its bytes, what its cells' descriptors carry
(Table 7.1), and how far its cells have got in that die. -/
structure Frm where
  /-- the bytes from VERSION on, with the tunnel header for a tunnelled frame (R128) -/
  bytes : List Byte := []
  /-- CLASS -/
  cls : Nat := 0
  /-- GEN -/
  gen : Nat := 0
  /-- STAMP: presented time at ingress or origination (R304) -/
  stamp : Nat := 0
  /-- the ingress logical port, or 1024 + the die that originated the frame (R160) -/
  src : Nat := 0
  /-- a replicated frame, its GROUP, and whether it is a flood (R143, R147) -/
  mcast : Bool := false
  /-- GROUP -/
  group : Nat := 0
  /-- flooded under R147: the ingress port is pruned -/
  flood : Bool := false
  /-- destination -/
  dest : Dest := {}
  /-- marked by the ingress tile: FCS bad (R111) -/
  fcsBad : Bool := false
  /-- yellow at its ingress tile (R183) -/
  yellow : Bool := false
  /-- the die that holds it -/
  die : Nat := 0
  /-- ingress account: port 0 to 63, 64 + mesh direction, 68 home, 69 local services -/
  acct : Nat := 0
  /-- output group key of the egress queue: port 0 to 63, 64 + mesh direction, 68 home, 69 local -/
  outq : Nat := 0
  /-- cells charged to the ingress account since the frame entered this die: those that have arrived, or all of an
  admitted lossy frame (R163, R165) -/
  arrived : Nat := 0
  /-- cells that have arrived at this die (R155) -/
  here : Nat := 0
  /-- the frame's number in the device, the same in all its copies -/
  uid : Nat := 0
  /-- the mesh direction it came in by, 4 where it entered the mesh at this die -/
  via : Nat := 4
  /-- its bytes are still arriving at its ingress port: cells form as they come (R155) -/
  part : Bool := false
  /-- cells promoted from the reserve to the shared part, or admitted to it (R163) -/
  prom : Nat := 0
  /-- cells released by the resequencer (R159) -/
  released : Nat := 0
  /-- cells that have left this die -/
  sent : Nat := 0
  /-- indices of poisoned cells (R167) -/
  poisoned : List Nat := []
  /-- cells of it will never come (R159, R174): discarded before transmission, completed with an inverted FCS after -/
  lost : Bool := false
  /-- held in the deep buffer (R168) -/
  spilled : Bool := false
  /-- read back from the deep buffer: no ingress account holds its cells -/
  deep : Bool := false
  /-- frames re-enqueued keep their admission (R179) -/
  reenq : Bool := false
  /-- a further copy of a multicast frame at its die: the first copy returns the credit of the cells (R163) -/
  copy : Bool := false
  /-- an item of a shadow stream on its way between two Cabinet dies (R248) -/
  sh : Option ShMsg := none
  deriving DecidableEq, Repr

/-- A triple of input lane, output group and class of one crossbar (R159). -/
structure Triple where
  /-- SEQ that stage 1 gives the next cell -/
  nextSeq : Nat := 0
  /-- SEQ that the resequencer releases next -/
  relSeq : Nat := 0
  /-- cells that have reached the resequencer, in order of arrival: SEQ, frame, cell index -/
  cells : List (Nat × Nat × Nat) := []
  deriving DecidableEq, Repr

/-- A cell that waits on an input lane, in the staging queue or held before it (R158). -/
structure Staged where
  /-- output group -/
  grp : Nat
  /-- class -/
  cls : Nat
  /-- frame -/
  fid : Nat
  /-- cell index -/
  idx : Nat
  deriving DecidableEq, Repr

/-- A cell in an intermediate (R158, R159). -/
structure MidCell where
  /-- IN_LANE -/
  lane : Nat
  /-- class -/
  cls : Nat
  /-- SEQ of its triple -/
  seq : Nat
  /-- frame -/
  fid : Nat
  /-- cell index -/
  idx : Nat
  deriving DecidableEq, Repr

/-- An egress queue of one die, output and class (R160, R168, R184, R194). -/
structure Queue where
  /-- depth in cells held in the buffer, from admission to transmission -/
  depth : Nat := 0
  /-- frames with a released cell, oldest first -/
  frames : List Nat := []
  /-- spilled frames, oldest first -/
  spill : List Nat := []
  /-- slots of the deep buffer in use -/
  slots : Nat := 0
  /-- SPILLING -/
  spilling : Bool := false
  /-- the average of R184, scaled by 2^16 -/
  avg : Int := 0
  /-- highest depth since the last sample record (R194) -/
  dmax : Nat := 0
  /-- payload bytes sent since the last record -/
  txBytes : Nat := 0
  /-- frames dropped since the last record -/
  drops : Nat := 0
  /-- transmission of the head frame has begun: frame and bytes already sent -/
  cur : Option (Nat × Nat) := none
  deriving DecidableEq, Repr

/-- An ingress account of one die, source and class (and pool of TC4) (R161 to R165). -/
structure Acct where
  /-- cells in the reserve -/
  resv : Nat := 0
  /-- cells in the shared part -/
  shared : Nat := 0
  /-- frames with cells in the reserve, oldest first -/
  order : List Nat := []
  deriving DecidableEq, Repr

/-- One cell on a mesh link: the frame's data, the cell's index and whether it is poisoned. -/
structure WireCell where
  /-- the frame with its descriptor -/
  frm : Frm
  /-- cell index within the frame -/
  idx : Nat
  deriving DecidableEq, Repr

/-- A repair request of R173: the failing lane, a spare or none (group retirement), and the frame number. -/
structure MeshRepair where
  /-- failing lane, 0 to 1407 -/
  lane : Nat
  /-- spare named, or none when the group is to be retired -/
  spare : Option Nat
  /-- frame number of the switch -/
  at' : Nat
  deriving DecidableEq, Repr

/-- A mesh link frame (R171): number, cells, cumulative credits per class and pool, replay and repair requests. -/
structure MeshFrame where
  /-- 16-bit frame number -/
  num : Nat
  /-- the cells of beats 0 to 253 -/
  cells : List WireCell
  /-- cumulative credits returned: (class index, value); index 8 is the spine pool of TC4 -/
  credits : List (Nat × Nat)
  /-- replay request: the frame number to resend from -/
  replay : Option Nat
  /-- repair request -/
  repair : Option MeshRepair
  deriving DecidableEq, Repr

/-- One end of a mesh link at die `a` toward direction `d`: the sender of the outgoing direction and the
receiver of the incoming one (R171 to R173). -/
structure MeshEnd where
  /-- number of the next frame to send -/
  txNum : Nat := 0
  /-- replay store: frames sent and not yet known good, oldest first, at most 64 -/
  store : List MeshFrame := []
  /-- frame number last asked for -/
  lastReq : Option Nat := none
  /-- credits consumed per class index -/
  consumed : Tbl Nat := []
  /-- credits returned by the far end per class index -/
  returned : Tbl Nat := []
  /-- number of the next frame expected -/
  rxNum : Nat := 0
  /-- frames are discarded until the requested one arrives -/
  rxDisc : Bool := false
  /-- a replay request to carry in the next control beat -/
  req : Option Nat := none
  /-- consecutive replays without progress -/
  noProg : Nat := 0
  /-- retrain in progress -/
  retraining : Bool := false
  /-- times (raw ticks) of failed retrains within the last second -/
  failTimes : List Nat := []
  /-- cumulative credits to return to the far end per class index -/
  credOut : Tbl Nat := []
  /-- parity errors per lane: (count, time of the first one in the current millisecond) -/
  parity : Tbl (Nat × Nat) := []
  /-- a repair request to send -/
  repairOut : Option MeshRepair := none
  /-- a repair agreed for a frame number -/
  repair : Option MeshRepair := none
  /-- lanes found failing and not yet named in a request, oldest first (R173) -/
  failing : List Nat := []
  /-- spare lanes steered: spare to 1 + the lane whose place it takes -/
  steer : Tbl Nat := []
  /-- groups of 64 lanes retired (R16) -/
  retired : List Nat := []
  /-- frame records in reception per class index: one per copy of a multicast frame; empty while a refused
  frame's cells are dropped -/
  rxCur : Tbl (List Nat) := []
  /-- replay asked for by the far end, not yet taken -/
  replayAsked : Option Nat := none
  /-- repair asked for by the far end, not yet taken -/
  repairAsked : Option MeshRepair := none
  /-- cells queued toward this direction: turn of the weighted round robin per level (class, used) -/
  turn : Tbl (Nat × Nat) := []
  deriving DecidableEq, Repr

/-- A learn request held by an owner tile (R145, R146). -/
structure LearnReq where
  /-- 0 hit, 1 move, 2 insert -/
  kind : Nat
  /-- VID -/
  vid : Nat
  /-- source MAC -/
  mac : Nat
  /-- the logical port that saw it -/
  lp : Nat
  deriving DecidableEq, Repr

/-- A learning-table entry (Table 6.5). -/
structure LearnEnt where
  /-- VID -/
  vid : Nat
  /-- MAC address -/
  mac : Nat
  /-- STATIC -/
  static : Bool
  /-- HIT -/
  hit : Bool
  /-- STALE -/
  stale : Bool
  /-- TARGET_TYPE: a leaf-table entry -/
  leaf : Bool
  /-- TARGET -/
  target : Nat
  deriving DecidableEq, Repr

/-- A leaf-table entry (Tables 6.1 and 6.2): header word and the member slots. -/
structure LeafEnt where
  /-- header word, bits [31:29] kept -/
  hdr : Nat := 0
  /-- slot n to the 16-bit member word -/
  slots : Tbl Nat := []
  deriving DecidableEq, Repr

/-- The forwarding tables (chapter 6). Banked tables are keyed by bank and entry. -/
structure FwdSt where
  /-- leaf table, key (bank, entry) -/
  leaf : Tbl LeafEnt := []
  /-- multicast tile-mask words, key (bank, group) -/
  mcTile : Tbl Nat := []
  /-- multicast local masks, key (bank, group, tile) -/
  mcLocal : Tbl Nat := []
  /-- VLAN words, key (bank, VID) -/
  vlan : Tbl Nat := []
  /-- the owners' learning table by index (R144) -/
  learn : Tbl LearnEnt := []
  /-- entries of a tile's copy that differ from the owners' table while a change is under way, key (tile, index) -/
  learnLag : Tbl (Option LearnEnt) := []
  /-- owners' changes not yet applied, per tile: index and new content, oldest first -/
  learnUpd : Tbl (List (Nat × Option LearnEnt)) := []
  /-- learn requests held per owner tile -/
  learnQ : Tbl (List LearnReq) := []
  /-- round-robin pointer, key (die, entry, class) (R137) -/
  rr : Tbl Nat := []
  /-- last published load level, key (lp, class) (R139) -/
  level : Tbl Nat := []
  /-- job entry in force, key (job, word) (R131) -/
  job : Tbl (BitVec 32) := []
  deriving DecidableEq, Repr

/-- The switch core (chapter 7). -/
structure CoreSt where
  /-- number of the next frame record -/
  nextFid : Nat := 0
  /-- frames held by dies, by record number -/
  frames : Tbl Frm := []
  /-- cycles of CLK_CORE modulo 112, the same count on every tile (R157) -/
  cyc : Nat := 0
  /-- cells staged on an input lane, oldest first, key (die, lane): the first 64 are its staging queue, the others are
  held in the flit receiver or the link's receive FIFO (R158) -/
  lanes : Tbl (List Staged) := []
  /-- intermediates: one FIFO per output group, key (die, intermediate, group) (R158) -/
  mids : Tbl (List MidCell) := []
  /-- crossbar triples, key (die, input lane, output group, class) -/
  triples : Tbl Triple := []
  /-- slots of a tile's share of the deep-buffer partition (R168) -/
  deep : Tbl Nat := []
  /-- spill writes of a tile: the microsecond of the raw counter, and the slots written in it (R169) -/
  spillBw : Tbl (Nat × Nat) := []
  /-- egress queues, key (die, output, class) -/
  queues : Tbl Queue := []
  /-- ingress accounts, key (die, source, class index); class index 8 is the spine pool of TC4 -/
  accts : Tbl Acct := []
  /-- mesh link ends, key (die, direction) -/
  ends : Tbl MeshEnd := []
  /-- frames on the wire of a mesh link direction, key (sending die, direction), oldest first -/
  wire : Tbl (List MeshFrame) := []
  /-- breakout in force per physical port (R31) -/
  breakout : Tbl Nat := []
  /-- frames consumed and waiting for their unit, key (die, kind): 1 a Cabinet die, 2 an ordering tile, 3 the
  Desk of the tile, 4 responses for the device's own units at their ingress tile -/
  inbox : Tbl (List Frm) := []
  /-- JOB_CTL frames that found a Desk's queue of 64 full (R175) -/
  jobCtlFull : Nat := 0
  deriving DecidableEq, Repr

/-- A token bucket pair in millibits (R181, R190). -/
structure Buckets where
  /-- committed -/
  c : Int := 0
  /-- peak -/
  p : Int := 0
  deriving DecidableEq, Repr

/-- Traffic management (chapter 8). -/
structure TmSt where
  /-- policer buckets, key (tile, policer) -/
  pol : Tbl Buckets := []
  /-- policer words in force, key (tile, policer, word) -/
  polCfg : Tbl (BitVec 32) := []
  /-- policers whose word 0 was written since the last refill, key (tile, policer), with the words taken -/
  polPend : Tbl (List (BitVec 32)) := []
  /-- shaper buckets, key (tile, queue) -/
  shp : Tbl Buckets := []
  /-- shaper words in force, key (tile, queue, word) -/
  shpCfg : Tbl (BitVec 32) := []
  /-- shaper words taken with word 0 and waiting for the next refill, key (tile, queue) -/
  shpPend : Tbl (List (BitVec 32)) := []
  /-- OVH in force, key (tile, port) -/
  ovh : Tbl (BitVec 32) := []
  /-- drop-profile words in force, key (tile, profile, word), where they differ from the register's -/
  wred : Tbl (BitVec 32) := []
  /-- drop-profile random generator per tile, none before its first use (R185) -/
  rnd : Tbl Nat := []
  /-- turn of the weighted round robin, key (lp, level, round): class and flits used (R188) -/
  turn : Tbl (Nat × Nat) := []
  /-- sample records written per tile (SEQ) -/
  smpSeq : Tbl Nat := []
  /-- TM_SMP_SET entries as of the last sample instant, key (tile, n) (R195) -/
  smpOn : Tbl (BitVec 32) := []
  deriving DecidableEq, Repr

/-! ## Links (chapter 2) -/

/-- A DATA flit kept in the retry window (R50). -/
structure Flit where
  /-- SEQ -/
  seq : Nat
  /-- CLASS -/
  cls : Nat
  /-- FIRST -/
  first : Nat
  /-- FILL -/
  fill : Nat
  /-- the valid payload bytes, 8 × FILL of them -/
  payload : List Byte
  deriving DecidableEq, Repr

/-- The byte stream of one class on the receiving side (R44, R112). -/
structure RxStream where
  /-- bytes of the frame in reception -/
  buf : List Byte := []
  /-- its stamp -/
  stamp : Nat := 0
  /-- bytes are lost up to the next FIRST -/
  skip : Bool := true
  /-- bytes lost so far (R112) -/
  lost : Nat := 0
  /-- the frame in reception has been taken in by INGRESS_FRAME: its records at the ingress tile -/
  taken : Option (List Nat) := none
  deriving DecidableEq, Repr

/-- A frame received whole on a port and not yet taken by INGRESS_FRAME. -/
structure RxFrame where
  /-- class of its flits -/
  cls : Nat
  /-- ingress stamp -/
  stamp : Nat
  /-- bytes -/
  bytes : List Byte
  deriving DecidableEq, Repr

/-- A lane-control transaction (R61 to R65). -/
structure LaneTxn where
  /-- operation code of the last message of the transaction: 3 MIRROR, 7 DROP, 9 ADD, 6 LANE_FAULT -/
  op : Nat
  /-- TXN -/
  txn : Nat
  /-- LANE -/
  lane : Nat
  /-- SPARE -/
  spare : Nat
  /-- CW -/
  cw : Nat
  /-- REASON -/
  reason : Nat
  /-- 0 sent, 1 answered, 2 mirroring or switched -/
  phase : Nat
  /-- the far end has answered it -/
  acked : Bool := false
  deriving DecidableEq, Repr

/-- A lane-control message repeated in every LINK_CONTROL flit until it is answered (R61). -/
structure LaneOut where
  /-- OP -/
  op : Nat
  /-- TXN -/
  txn : Nat
  /-- LANE -/
  lane : Nat := 0
  /-- SPARE -/
  spare : Nat := 0
  /-- CW -/
  cw : Nat := 0
  /-- REASON -/
  reason : Nat := 0
  /-- STATUS -/
  status : Nat := 0
  deriving DecidableEq, Repr

/-- A logical port's link state that no register shows (R47 to R66). -/
structure Lp where
  /-- last TRAIN message taken (64 bytes) and how many identical ones with ACK_SEEN came in a row -/
  train : List Byte := []
  /-- identical TRAIN messages with ACK_SEEN = 1 received -/
  trainRx : Nat := 0
  /-- TRAIN messages with ACK_SEEN = 1 sent -/
  trainTx : Nat := 0
  /-- training is complete: the normal marker is due or sent -/
  trained : Bool := false
  /-- training runs with RESUME = 1 -/
  resume : Bool := false
  /-- fast re-acquire agreed -/
  fast : Bool := false
  /-- CREDIT_INIT per index received -/
  credInit : Tbl Nat := []
  /-- CREDIT per index last received -/
  returned : Tbl Nat := []
  /-- credits consumed since training, per index -/
  consumed : Tbl Nat := []
  /-- cumulative CREDIT to advertise, per index -/
  credOut : Tbl Nat := []
  /-- SEQ of the next new DATA flit -/
  txSeq : Nat := 0
  /-- unacknowledged DATA flits, oldest first -/
  window : List Flit := []
  /-- position in the window of the next flit to resend -/
  replay : Option Nat := none
  /-- consecutive replays without progress in ACK, as sender -/
  noProg : Nat := 0
  /-- time (raw) since which the oldest flit waits -/
  oldest : Nat := 0
  /-- SEQ of the last in-order DATA flit received -/
  rxAck : Nat := 65535
  /-- DATA flits are discarded until ACK + 1 arrives -/
  rxDisc : Bool := false
  /-- REPLAY_REQ to set in the next flit -/
  replayReq : Bool := false
  /-- receive streams per class -/
  rx : Tbl RxStream := []
  /-- frames received whole -/
  rxq : List RxFrame := []
  /-- index of the next flit slot after the marker -/
  slot : Nat := 0
  /-- link-control slots still due after a re-acquire burst -/
  burst : Nat := 0
  /-- lane-control transaction as transmitting end -/
  txTxn : Option LaneTxn := none
  /-- lane-control transaction as receiving end -/
  rxTxn : Option LaneTxn := none
  /-- messages repeated in LINK_CONTROL flits, in turn, until they are answered -/
  laneOut : List LaneOut := []
  /-- answers to send once -/
  laneAns : List LaneOut := []
  /-- transactions wanted and not yet opened: operation code, lane, spare (18 for any), REASON -/
  todo : List (Nat × Nat × Nat × Nat) := []
  /-- TXN last answered, and the answer -/
  answered : Option LaneOut := none
  /-- TXN of the next transaction this end opens -/
  nextTxn : Nat := 0
  /-- message bits sent that do not fill a codeword yet (R35) -/
  fec : List Bool := []
  /-- codeword symbols sent since the last marker (R36) -/
  sym : Nat := 0
  /-- scrambler of a position, where it has left its seed (R37) -/
  scr : Tbl Nat := []
  /-- a transaction of the transmit direction that HOLD or RETRAIN interrupted: the receiving end may have switched (R65) -/
  susp : Option LaneTxn := none
  /-- the far end's marker with MARKER_IDX 0 came before this end's training was complete (R56) -/
  farZero : Bool := false
  /-- codeword number of the transmit direction -/
  cwTx : Nat := 0
  /-- codeword number of the receive direction -/
  cwRx : Nat := 0
  /-- LMAP_GEN last received in a flit header -/
  genRx : Nat := 0
  /-- spares known qualified at the far end, by lane -/
  spareOk : List Nat := []
  /-- the transaction was opened by LNK_SWAP_CMD -/
  mgmt : Bool := false
  /-- the state from which a by-pass slot put the port in HOLD (R59) -/
  heldFrom : Nat := 4
  /-- the port has not been in ACTIVE since its last by-pass slot (R60) -/
  back : Bool := false
  /-- light was last seen to be present -/
  light : Bool := false
  /-- DOWN is forced while the unit is out of service (Table 15.4) -/
  forced : Bool := false
  deriving DecidableEq, Repr

/-- A receive lane's state that no register shows (R39, R62). -/
structure LaneSt where
  /-- consecutive good markers since the lane locked -/
  good : Nat := 0
  /-- consecutive good spare markers with a good PRBS31 ratio -/
  spareGood : Nat := 0
  /-- fade readings at or below −1.0 dB, −2.5 dB, and above −0.7 dB in a row (R82) -/
  warn : Nat := 0
  /-- readings at or below −2.5 dB -/
  act : Nat := 0
  /-- readings above −0.7 dB -/
  clear : Nat := 0
  /-- the sub-port whose transmit position a lane out of service still holds, until its swap or drop (R64) -/
  txOut : Option Nat := none
  /-- the same in the receive direction -/
  rxOut : Option Nat := none
  /-- the transmit lane left its map by a DROP (R78) -/
  dropped : Bool := false
  deriving DecidableEq, Repr

/-! ## Time (chapter 13) -/

/-- A parameter update on its way (R299, R301): the tick of its effect and the new rate or the step. -/
structure TimeUpd where
  /-- c_u -/
  at' : Nat
  /-- the new rate, or none for a step -/
  rate : Option Int
  /-- the step in ns -/
  step : Int := 0
  deriving DecidableEq, Repr

/-- A change of a launch entry on its way: tick c_u, entry, arm or cancel, and the entry's words. -/
structure LaunchUpd where
  /-- c_u -/
  at' : Nat
  /-- entry -/
  entry : Nat
  /-- arm rather than cancel -/
  arm : Bool
  /-- TIME -/
  time : Nat
  /-- IRQ -/
  irq : Bool
  /-- ACTION -/
  action : Nat
  /-- ARG -/
  arg : Nat
  deriving DecidableEq, Repr

/-- An armed launch entry (R310, R311). -/
structure Launch where
  /-- TIME -/
  time : Nat
  /-- IRQ -/
  irq : Bool
  /-- ACTION -/
  action : Nat
  /-- ARG -/
  arg : Nat
  /-- the condition of R311 held at the arming tick -/
  past : Bool
  /-- a step made the condition of R311 true -/
  early : Bool := false
  deriving DecidableEq, Repr

/-- A frame held in a Desk's receive ring or a transmit stamp of a Coat Rack (Table 13.1). -/
structure CoatEnt where
  /-- PORT: logical port, or 1024 + Desk for a management port -/
  port : Nat
  /-- TS_ID -/
  tsId : Nat
  /-- TIME -/
  time : Nat
  deriving DecidableEq, Repr

/-- The time base (R297 to R309). -/
structure TimeSt where
  /-- the raw counter of the master Desk -/
  raw : Nat := 0
  /-- base_t in units of 2⁻⁴⁸ ns, modulo 2¹¹² -/
  baseT : Nat := 0
  /-- base_c -/
  baseC : Nat := 0
  /-- rate in force -/
  rate : Int := 0
  /-- pending parameter update -/
  upd : Option TimeUpd := none
  /-- the holdover watch runs from this raw time, once a rate write was accepted (R303) -/
  watch : Option Nat := none
  /-- Coat Racks: tile 0 to 15, 16 + Desk -/
  coat : Tbl (List CoatEnt) := []
  /-- pending arms and cancels -/
  launchUpd : List LaunchUpd := []
  /-- armed entries -/
  launch : Tbl Launch := []
  /-- raw time at which PPS_OUT last rose: it stays high for PPS_WIDTH µs -/
  ppsAt : Option Nat := none
  /-- number of second boundaries passed or pulsed, from PPS_OFFSET − 1 s on -/
  ppsSec : Nat := 0
  /-- raw time of the last accepted PPS_IN edge -/
  ppsIn : Option Nat := none
  deriving DecidableEq, Repr

/-! ## Register accesses (R11, R421) -/

/-- What R11 holds beside the registers. -/
structure BusSt where
  /-- read latch of a Desk and path (2 × Desk + path): key of the register it holds, and the high word -/
  latch : Tbl (Option (Nat × BitVec 32)) := []
  /-- staged low words of writable 64-bit registers, by key of the register -/
  staged : Tbl (BitVec 32) := []
  /-- tiles whose side link has failed: 0 Desk A, 5 SC0, 10 SC1, 15 Desk B (R15, R20) -/
  sideFail : List Nat := []
  deriving DecidableEq, Repr

/-! ## Bureau (chapter 15) -/

/-- An event raised and not yet taken by its agent (R340). -/
structure Raised where
  /-- source number -/
  src : Nat
  /-- INST -/
  inst : Nat
  /-- INST2 -/
  inst2 : Nat
  /-- the event arose from an injected fault -/
  injected : Bool := false
  deriving DecidableEq, Repr

/-- An instance out of service (Table 15.6): 3 QUIET, 5 HELD, 2 RESETTING, and the source that put it there. -/
structure OutInst where
  /-- state -/
  state : Nat
  /-- source -/
  src : Nat
  /-- AUTO_RETURN of that source applies -/
  auto : Bool
  deriving DecidableEq, Repr

/-- An injection entry that runs (R355): what it applies, and the repetitions still due. -/
structure InjRun where
  /-- TYPE -/
  type : Nat
  /-- SOURCE -/
  src : Nat
  /-- INST -/
  inst : Nat
  /-- PARAM -/
  param : Nat
  /-- DRY -/
  dry : Bool
  /-- repetitions still due -/
  left : Nat
  deriving DecidableEq, Repr

/-- The Bureau's state that no register shows (chapter 15). -/
structure BurSt where
  /-- expulsions within their windows: budget type, scope, raw time (R348) -/
  expel : List (Nat × Nat × Nat) := []
  /-- SEQ of the next log record -/
  seq : Nat := 0
  /-- advances of DESK_GEN in all -/
  gens : Nat := 0
  /-- advances of DESK_GEN at the moment a die went out of service, by index of BUR_UNIT (R349) -/
  outGen : Tbl Nat := []
  /-- instances out of service, by INST: lanes, logical ports, mesh directions (R426) and dies -/
  outs : Tbl OutInst := []
  /-- INST and INST2 of the last trip of a source that holds PENDING -/
  tripped : Tbl (Nat × Nat) := []
  /-- grace timers that run, key (unit, class): 1 + the source that escalates (R343) -/
  grace : Tbl Nat := []
  /-- injection entries that run -/
  inj : Tbl InjRun := []
  /-- 1 + the raw time at which a unit's DRY period ends (R356) -/
  dry : Tbl Nat := []
  /-- symbols to corrupt in the next codeword received, by logical port -/
  nextCw : Tbl Nat := []
  /-- mesh directions whose next frame received is corrupted, key (die, direction) -/
  nextMesh : List Nat := []
  /-- 1 + the false LANE of the next marker sent, by 18 × port + lane -/
  nextMark : Tbl Nat := []
  /-- HBM stacks whose next pool read completes DATA_ERROR -/
  nextRead : List Nat := []
  /-- Drawers whose next shelf read is uncorrectable -/
  nextShelf : List Nat := []
  /-- Cabinet dies whose next accumulator or digest-ring word read has an injected uncorrected error (R355, TYPE 2) -/
  nextUe : List Nat := []
  deriving DecidableEq, Repr

/-! ## What the outside world sees -/

/-- What leaves the block, in order. -/
inductive Out where
  /-- a word read by a Desk's path -/
  | read (deskB eth : Bool) (addr : Nat) (value : BitVec 32)
  /-- a flit: logical port and its 320 bytes -/
  | flit (lp : Nat) (bytes : List Byte)
  /-- the 160 bits of a lane marker on a lane of a physical port (R38, R62, R63) -/
  | marker (port lane : Nat) (word : Nat)
  /-- lane symbols of one codeword: field levels −3, −1, +1 and +3 (R29, R36, R37) -/
  | symbols (port lane : Nat) (levels : List Int)
  /-- an idle spare carries PRBS31 up to its next marker (R62) -/
  | prbs31 (port lane : Nat)
  /-- an MSI-X vector of a Desk -/
  | irq (desk vec : Nat)
  /-- a frame on a Desk's management port -/
  | mgmt (desk : Nat) (bytes : List Byte)
  /-- an I²C access of an engine: module, read, register, data -/
  | i2c (oe module : Nat) (read : Bool) (reg data : Nat)
  /-- a pin driven -/
  | pin (name : String) (level : Bool)
  deriving DecidableEq, Repr

/-! ## Boot (chapter 16) -/

/-- The image that a Desk runs (R362, R366). -/
structure RunImg where
  /-- image identifier, 32 bytes -/
  id : List Byte := []
  /-- CFG_DIGEST -/
  cfg : List Byte := []
  /-- digest of the die-agent firmware section -/
  agent : List Byte := []
  /-- VERSION -/
  version : Nat := 0
  /-- SVN -/
  svn : Nat := 0
  /-- the Desk whose flash it came from -/
  desk : Nat := 0
  /-- its slot there -/
  slot : Nat := 0
  deriving DecidableEq, Repr

/-- A request answered on a management port (R373): source MAC, SEQ and the response. -/
structure EthSeen where
  /-- source MAC -/
  mac : Nat
  /-- SEQ -/
  seq : Nat
  /-- the response frame -/
  resp : List Byte
  deriving DecidableEq, Repr

/-- The boot and management state that no register shows. -/
structure BootSt where
  /-- flash bytes that are not erased (0xFF), key (Desk, address) (R361) -/
  flash : Tbl Byte := []
  /-- the fused secret, 256 bits (R377) -/
  uds : BitVec 256 := 0
  /-- the image of each Desk -/
  run : Tbl RunImg := []
  /-- MAC of Desk A's management port; Desk B's is one higher (Table 16.5) -/
  mac : Nat := 0
  /-- SHA3-256 of the loaded calibration body, zero while CAL_OK is 0 (Table 16.11) -/
  calHash : List Byte := List.replicate 32 0
  /-- engines that step 9 has still to enable, in order -/
  engines : List Nat := []
  /-- GiB per stack of the Cabinet spill partition (R275, R364) -/
  spillGib : Nat := 4
  /-- the enrolment self-reset is due (R370) -/
  selfReset : Bool := false
  /-- requests answered on each Desk's management port, oldest first, at most 16 -/
  eth : Tbl (List EthSeen) := []
  deriving DecidableEq, Repr

/-! ## Cabinet dies (chapters 9 to 11) -/

/-- The value of an element: a NaN, an infinity of a sign, or a signed magnitude m × 2ᵉ (a zero keeps its sign). -/
inductive Val where
  | nan
  | inf (neg : Bool)
  | fin (neg : Bool) (m : Nat) (e : Int)
  deriving DecidableEq, Repr

/-- What the shelves hold for one element (R204): nothing yet, an FP32 word, 320 bits, an exact value (MIN, MAX) or an
integer. -/
inductive Acc where
  | empty
  | fast (w : BitVec 32)
  | exact (a : BitVec 320)
  | val (v : Val)
  | int (z : Int)
  deriving DecidableEq, Repr

/-- An allocated chunk that is not complete (R239, R244, R254). -/
structure Chunk where
  /-- payload bytes accepted per contributor index -/
  cnt : Tbl Nat := []
  /-- SPARSE_MERGE: 1 + the length of a contributor's list, known from its LAST frame -/
  ends : Tbl Nat := []
  /-- accumulators by element -/
  acc : Tbl Acc := []
  /-- GATHER: bytes by offset -/
  data : Tbl (BitVec 8) := []
  /-- RETRY: only frames with REPLAY = 1 are accepted -/
  retry : Bool := false
  /-- the chunk has failed in the current epoch -/
  failed : Bool := false
  /-- it failed again and waits for the Drawer-level replay -/
  dead : Bool := false
  /-- its shelves lie in the spill region -/
  spilled : Bool := false
  /-- raw time of its allocation or of the last contribution accepted -/
  rx : Nat := 0
  /-- it has accepted a frame at the current epoch -/
  got : Bool := false
  deriving DecidableEq, Repr

/-- A Drawer context on a Cabinet die, primary or shadow (R226, R231 to R244, R254 to R268). -/
structure DrwCtx where
  /-- slot, 0 to 511 -/
  slot : Nat := 0
  /-- a shadow context -/
  shadow : Bool := false
  /-- STATE: 2 IDLE, 3 ACTIVE, 4 REFORMING -/
  state : Nat := 2
  /-- rank read at the last claim (R228) -/
  rank : Nat := 0
  /-- member set: contributor indices, rising -/
  members : List Nat := []
  /-- EPOCH -/
  epoch : Nat := 0
  /-- raw time of the last advance of the epoch -/
  epochAt : Option Nat := none
  /-- how the epoch began: 1 a Drawer-level replay, 2 a re-placement, 0 otherwise -/
  begun : Nat := 0
  /-- TAG of the current or last operation -/
  tag : Nat := 0
  /-- the last closed TAG -/
  lastTag : Option Nat := none
  /-- START -/
  start : Nat := 0
  /-- W -/
  w : Nat := 0
  /-- LIMIT -/
  limit : Nat := 0
  /-- K of a count round, in place of OP_CHUNKS -/
  k : Option Nat := none
  /-- open chunks by index -/
  chunks : Tbl Chunk := []
  /-- complete chunks at or above W -/
  done : List Nat := []
  /-- TAG of the pending filter -/
  pendTag : Option Nat := none
  /-- MIN_ATTEMPT of the pending filter by contributor -/
  pendMin : Tbl Nat := []
  /-- MIN_ATTEMPT of the active filter by contributor -/
  actMin : Tbl Nat := []
  /-- the operation under way is released (R268) -/
  released : Bool := false
  /-- a release found the Drawer IDLE: its next operation is released (R268) -/
  relNext : Bool := false
  /-- raw time at which the straggler timer started -/
  strag : Option Nat := none
  /-- a Drawer-level replay waits for the epoch guard -/
  replayWait : Bool := false
  /-- count round: 0 none, 1 counts awaited, 2 count results in the output stage, 3 done -/
  phase : Nat := 0
  /-- counts received: key (count chunk, contributor), value 1 + count -/
  counts : Tbl Nat := []
  /-- counts in force for the data phase: key (destination, contributor) -/
  layout : Tbl Nat := []
  /-- count-store entries held -/
  entries : Nat := 0
  /-- the operation under way, or the next one in IDLE, is forwarded to the shadow die (R247) -/
  feeds : Bool := false
  deriving DecidableEq, Repr

/-- A chunk in the output stage (R255 to R257), or count results (kind 1: one result, kind 2: those of ALL_TO_ALL_V). -/
structure OutItem where
  /-- handle -/
  handle : Nat
  /-- 0 data chunk, 1 count result, 2 count and row results -/
  kind : Nat
  /-- chunk index -/
  chunk : Nat
  /-- epoch of completion -/
  epoch : Nat
  /-- tag -/
  tag : Nat
  /-- the chunk's accumulators and bytes -/
  body : Chunk
  /-- n: the size of the member set -/
  n : Nat
  /-- STATUS of the notice: 0 complete, 1 NO_DATA, 2 PARTIAL -/
  status : Nat
  /-- REPLAY of its frames -/
  replay : Bool
  deriving DecidableEq, Repr

/-- A TC6 record of a die to both Desks (R229, R269). -/
structure MirRec where
  /-- handle -/
  handle : Nat
  /-- START -/
  start : Nat
  /-- TAG -/
  tag : Nat
  /-- W -/
  w : Nat
  /-- EPOCH -/
  epoch : Nat
  /-- STATE -/
  state : Nat
  /-- released -/
  released : Bool
  /-- the next operation is released -/
  relNext : Bool
  deriving DecidableEq, Repr

/-- The d of a completed chunk, for comparison (R351). -/
structure ChunkD where
  /-- the other die: the shadow die of a d sent to a primary -/
  die : Nat
  /-- handle -/
  handle : Nat
  /-- epoch -/
  epoch : Nat
  /-- chunk -/
  chunk : Nat
  /-- d -/
  d : Nat
  deriving DecidableEq, Repr

/-- A chunk notice kept until it is acknowledged (R257, R292). -/
structure Notice where
  /-- handle of its Drawer, whose LIMIT and W it takes when it is sent (R239) -/
  drawer : Nat := 0
  /-- SEQ -/
  seq : Nat
  /-- job -/
  job : Nat
  /-- TAG -/
  tag : Nat
  /-- ADDR -/
  addr : Nat
  /-- payload -/
  payload : List Byte
  /-- transmissions so far -/
  tries : Nat
  deriving DecidableEq, Repr

/-- A Cabinet die's stream of notices toward one member (R257, R280, R284). -/
structure NStream where
  /-- SEQ of the next notice -/
  next : Nat := 1
  /-- highest SEQ acknowledged -/
  acked : Nat := 0
  /-- notices held, oldest first -/
  held : List Notice := []
  /-- notices that wait for a SYNC or for room, with no SEQ yet -/
  wait : List Notice := []
  /-- a SYNC is unanswered -/
  sync : Bool := false
  /-- job of the last notice -/
  job : Nat := 0
  deriving DecidableEq, Repr

/-- A REFORM under way (R264, Table 11.5). -/
structure ReformReq where
  /-- the request -/
  req : JobCtl
  /-- removed indices, rising -/
  removed : List Nat
  /-- the die has entered REFORMING -/
  applied : Bool
  /-- STATE before -/
  prev : Nat
  deriving DecidableEq, Repr

/-- The Cabinet dies' and Drawers' state that no register shows. -/
structure CabSt where
  /-- contexts, key (die 0 to 7, handle) -/
  ctx : Tbl DrwCtx := []
  /-- output stage per die, oldest first -/
  outQ : Tbl (List OutItem) := []
  /-- handles with a pending allocation per die, oldest first (R234, R239) -/
  allocQ : Tbl (List Nat) := []
  /-- records to the Desks per die, oldest first -/
  mir : Tbl (List MirRec) := []
  /-- shadow streams per shadow die, oldest first -/
  stream : Tbl (List ShMsg) := []
  /-- d values of a primary's chunks that wait for a partner, per primary die -/
  primD : Tbl (List ChunkD) := []
  /-- d values sent by shadow dies, per primary die, oldest first -/
  shadowD : Tbl (List ChunkD) := []
  /-- notice streams, key (die, DST of the member) -/
  notes : Tbl NStream := []
  /-- reforms under way by handle -/
  reforms : Tbl ReformReq := []
  /-- released state mirrored at the Desks, by handle: of the operation under way, of the next one -/
  released : Tbl (Bool × Bool) := []
  /-- round-robin pointer of the arbiter's claims: key (die, rank), a slot number (R234) -/
  rr : Tbl Nat := []
  /-- cells of a shadow stream sent and not yet accumulated: key (primary die, shadow die) (R248) -/
  shCred : Tbl Nat := []
  /-- raw time of the last advance of a handle's epoch, where it has advanced since its open (R242) -/
  adv : Tbl Nat := []
  /-- REQ_ID values executed per job: REQ_ID, STATUS, raw time; at most 16 (R127) -/
  jobReq : Tbl (List (Nat × Nat × Nat)) := []
  deriving DecidableEq, Repr

/-! ## Optical engines and the Sideboard (chapters 3 and 4) -/

/-- A ring's state that no register shows (R71 to R75). -/
structure RingSt where
  /-- lock-in updates in a row within ±2.0 GHz, at most 10 (R72) -/
  ok : Nat := 0
  /-- heater code at entry to HOLD -/
  held : Nat := 0
  /-- t_ring at entry to HOLD -/
  heldT : Int := 0
  /-- t_ring of the last evaluation, in 0.125 °C -/
  temp : Int := 0
  /-- a re-acquisition runs: two good markers are still due after LOCKED -/
  reacq : Bool := false
  /-- after a safe stop the ring starts from its latched code (R91) -/
  latched : Bool := false
  /-- in HOLD because light was lost, and not for a by-pass slot (R73) -/
  unlit : Bool := false
  /-- peak code of the last window sweep (Table 3.5) -/
  peak : Nat := 0
  /-- dark offset of its monitor (Table 3.5) -/
  dark : Nat := 0
  /-- refinement of the tempco in the hour under way: its start in raw ticks, and the sum of the changes (Table 3.5) -/
  refine : Nat × Int := (0, 0)
  deriving DecidableEq, Repr

/-- The optical engines' state that no register shows. -/
structure OeSt where
  /-- rings, key 576 × engine + ring index -/
  rings : Tbl RingSt := []
  /-- failed polls in a row, key 2 × engine + module (R88) -/
  polls : Tbl Nat := []
  /-- last transmit lane freed by rotation, as 18k + j, plus 1 (R85) -/
  rot : Tbl Nat := []
  /-- lane that a rotation is freeing, as 18k + j, plus 1 -/
  rotating : Tbl Nat := []
  /-- the standby comb reports ready, per engine -/
  combS : Tbl Bool := []
  deriving DecidableEq, Repr

/-- The Sideboard's state that no register shows (R97 to R107). -/
structure SbdSt where
  /-- extended time of the start of the live slot -/
  slotStart : Nat := 0
  /-- an armed swap: the launch time L -/
  swapAt : Option Nat := none
  /-- GUARD in force, taken at the last swap (Table 4.10) -/
  guard : Nat := 0x14
  /-- circuits lit, by output: 1 + the input (Table 4.6) -/
  lit : Tbl Nat := []
  /-- gain in force, by output (R104) -/
  gain : Tbl (BitVec 32) := []
  /-- switches with a cell out: 0 to 7 input, 8 to 15 middle, 16 to 23 output (R105) -/
  cellOut : List Nat := []
  /-- switch dies without drive: 0 to 3 SB0 to SB3 (R107) -/
  noDrive : List Nat := []
  /-- ports lost under R107, electrical until the next swap -/
  lost : List Nat := []
  /-- middle switch of each circuit of the shadow table, as its check assigned it (R94): key (slot, output), value 1 + switch -/
  shadowRoute : Tbl Nat := []
  /-- the same of the live table -/
  liveRoute : Tbl Nat := []
  deriving DecidableEq, Repr

/-! ## Counters (chapter 14) -/

/-- The counters' and counter windows' state that no register shows. General counter k of die n (tile 0 to 15, 16 +
Cabinet die) has number 16n + k. -/
structure PmcSt where
  /-- level counters whose event has occurred since the last tick -/
  seen : List Nat := []
  /-- counters whose state event was set at the last tick -/
  was : List Nat := []
  /-- windows with a CLOSE on its way -/
  closing : List Nat := []
  /-- dies of an OPEN or DONE window that did not open -/
  missing : Tbl (List Nat) := []
  /-- a SNAP is pending: the Desk that asked for it -/
  snap : Option Nat := none
  deriving DecidableEq, Repr

/-! ## Gnoari pool (chapter 12) -/

/-- A request that its ordering tile has passed to its line home, or that waits there for a mirror acknowledgement. -/
structure HomeReq where
  /-- the request -/
  r : GnReq
  /-- status forced by a CLOSE or a loss of its window (R274, R291) -/
  force : Option Nat := none
  deriving DecidableEq, Repr

/-- A completion on its way to the ordering tile. -/
structure GnDone where
  /-- the request -/
  r : GnReq
  /-- STATUS -/
  status : Nat
  /-- response payload -/
  payload : List Byte
  deriving DecidableEq, Repr

/-- A source tracker (R279), keyed by source identifier. -/
structure Tracker where
  /-- synced -/
  synced : Bool := false
  /-- W -/
  w : Nat := 0
  /-- SEQ values above W that are executed or retired -/
  marks : List Nat := []
  /-- flagged and mirror writes held -/
  held : List HomeReq := []
  /-- SEQ values at their line home -/
  flight : List Nat := []
  /-- executed or retired writes not yet answered -/
  answers : List GnDone := []
  /-- raw time at which the gap timer started -/
  gap : Option Nat := none
  /-- EVICT_HI -/
  evictHi : Option Nat := none
  /-- raw time of creation -/
  created : Nat := 0
  /-- JOB of the last request -/
  job : Nat := 0
  /-- raw time of the last request -/
  last : Nat := 0
  deriving DecidableEq, Repr

/-- A receipt-cache entry (R285): a result, or a tombstone. -/
structure RcEnt where
  /-- the result, STATUS and payload; none for a tombstone -/
  result : Option (Nat × List Byte)
  /-- job of its request -/
  job : Nat
  /-- raw time at which the result was stored, or the tombstone made -/
  at' : Nat
  deriving DecidableEq, Repr

/-- An MWRITE or MREAD of a line home toward a partner place (R286, R290). -/
structure MItem where
  /-- SEQ of an MWRITE; number of an MREAD in its stream -/
  seq : Nat
  /-- an MREAD -/
  read : Bool
  /-- window of this device -/
  win : Nat
  /-- ADDR at the partner -/
  addr : Nat
  /-- the line -/
  data : List Byte
  /-- the request that waits for the acknowledgement -/
  waiter : Option GnDone
  /-- it belongs to the granule being copied, and its offset in the window -/
  copy : Option Nat
  /-- the window's partner was declared lost: nothing waits for it any more -/
  orphan : Bool := false
  /-- answered BUSY: sent again after 10 µs -/
  busy : Bool := false
  deriving DecidableEq, Repr

/-- A line home's stream toward a partner place. -/
structure MStream where
  /-- SEQ of the next MWRITE -/
  next : Nat := 1
  /-- highest SEQ acknowledged -/
  acked : Nat := 0
  /-- a SYNC is unanswered -/
  sync : Bool := false
  /-- sent and unanswered, oldest first -/
  out : List MItem := []
  /-- not yet sent, oldest first -/
  wait : List MItem := []
  /-- number of the next MREAD -/
  tag : Nat := 0
  deriving DecidableEq, Repr

/-- A resilver under way (R289, R290). -/
structure Resil where
  /-- the granule being copied -/
  cur : Option Nat := none
  /-- lines of it that are done, 0 to 31 -/
  lines : List Nat := []
  /-- granules copied above the first one not copied (RESILVER_PULL) -/
  copied : List Nat := []
  /-- granules that requests moved to the head -/
  head : List Nat := []
  deriving DecidableEq, Repr

/-- The pool's state that no register shows. -/
structure PoolSt where
  /-- bytes of the pool partition by linear position (R276) -/
  mem : List Host.Cell := []
  /-- lines with a bad CRC, by position div 128, rising (R277, R290) -/
  bad : Tbl Bool := []
  /-- source trackers, key (SRC_TYPE, SRC) -/
  trk : Tbl Tracker := []
  /-- receipt cache, key (SRC_TYPE, SRC, TAG) -/
  rc : Tbl RcEnt := []
  /-- requests at a line home, oldest first -/
  home : Tbl (List HomeReq) := []
  /-- completions at an ordering tile, oldest first -/
  comp : Tbl (List GnDone) := []
  /-- mirror streams, key (line home tile, partner place) -/
  mst : Tbl MStream := []
  /-- state that a window in OPENING enters -/
  target : Tbl Nat := []
  /-- resilvers by window -/
  resil : Tbl Resil := []
  /-- windows whose CLOSE waits for changes that have begun (R274); the value is 1 + the Desk whose command waits for it, or
  0 where no command does -/
  closing : Tbl Nat := []
  deriving DecidableEq, Repr

/-! ## Power (chapter 17) -/

/-- The power and clock units' state that no register shows. -/
structure PwrSt where
  /-- domains requested on, oldest first; the first is turning on (R394) -/
  pdq : List Nat := []
  /-- step of the limiter itself: 0 to 2 (R395); VR_HOT_N imposes both steps beside it -/
  limStep : Nat := 0
  /-- causes of SAFE that persist (R391) -/
  causes : List Nat := []
  /-- FAULT_N is driven low: before step 4 of Table 17.2, in SAFE and in STAGE FAILED (Table 17.14) -/
  faultLow : Bool := true
  /-- THERMTRIP_N is driven low (R397) -/
  tripLow : Bool := false
  deriving DecidableEq, Repr

/-! ## The block -/

/-- Everything but the queue of waiting commands. -/
structure Dev where
  /-- register words that differ from their reset value, key (register, entry, word) -/
  regs : Tbl (BitVec 32) := []
  /-- time -/
  time : TimeSt := {}
  /-- forwarding tables -/
  fwd : FwdSt := {}
  /-- switch core -/
  core : CoreSt := {}
  /-- traffic management -/
  tm : TmSt := {}
  /-- logical ports -/
  lps : Tbl Lp := []
  /-- lanes, key 18 × port + lane -/
  lanes : Tbl LaneSt := []
  /-- optical engines -/
  oe : OeSt := {}
  /-- the Sideboard -/
  sbd : SbdSt := {}
  /-- Cabinet dies and Drawers -/
  cab : CabSt := {}
  /-- the Gnoari pool -/
  pool : PoolSt := {}
  /-- power and clocks -/
  pwr : PwrSt := {}
  /-- accesses to 64-bit registers -/
  bus : BusSt := {}
  /-- counters -/
  pmc : PmcSt := {}
  /-- boot and management -/
  boot : BootSt := {}
  /-- the Bureau -/
  bur : BurSt := {}
  /-- events raised and not yet taken -/
  raised : List Raised := []
  /-- what has left the block, oldest first -/
  out : List Out := []
  /-- counter from which free values are drawn: the model's own field, not the manual's -/
  fresh : Nat := 0
  deriving DecidableEq, Repr

/-- The state: the block and the commands that wait, first in, first out. -/
structure State where
  /-- the block -/
  dev : Dev
  /-- the queue of waiting commands -/
  pending : List Instr
  deriving DecidableEq, Repr

/-- Why a step stops with a fault. -/
inductive Fault where
  /-- raised by no command of this model: every command has an effect in every state; kept as the name under
  which a command that is not well formed would stop (safe) -/
  | illFormed
  deriving DecidableEq, Repr

/-- Why a command has no meaning. -/
inductive Refusal where
  /-- a command whose meaning is not modelled yet, by its mnemonic (safe: the run stops) -/
  | notModelled (mnemonic : String)
  deriving DecidableEq, Repr

/-- The machine right after device reset (R424): every register at its reset value, nothing held. -/
def State.reset : State := { dev := {}, pending := [] }

end Sys2Proof.Machine
end

