-- ==== Sys2Proof/Machine/Ops.lean ====
section
/-! DEFINITION. The named operations that every family shares: reading and writing register words and
fields, counters, time, raising Bureau events, interrupts, outputs, and running a command. -/
namespace Sys2Proof.Machine

/-! ## Register words -/

/-- The key of word `w` of entry `i` of a register. -/
def rkey (r : Reg) (i w : Nat) : Nat := key3 r.num i w

/-- The stored value of a register word: its reset value where nothing is listed. -/
def Dev.rd (d : Dev) (r : Reg) (i : Nat) (w : Nat := 0) : Word :=
  d.regs.at (r.reset i w) (rkey r i w)

/-- Store a register word. -/
def Dev.wr (d : Dev) (r : Reg) (i w : Nat) (v : Word) : Dev :=
  { d with regs := d.regs.put (r.reset i w) (rkey r i w) v }

/-- The words `a` to `b` of an entry as one number, the first the least significant. -/
def Dev.rdWide (d : Dev) (r : Reg) (i a : Nat) : Nat → Nat
  | 0 => 0
  | n + 1 => (d.rd r i a).toNat + 2 ^ 32 * d.rdWide r i (a + 1) n

/-- Store `n` words from word `a` on. -/
def Dev.wrWide (d : Dev) (r : Reg) (i a : Nat) (v : Nat) : Nat → Dev
  | 0 => d
  | n + 1 => (d.wr r i a (BitVec.ofNat 32 v)).wrWide r i (a + 1) (v / 2 ^ 32) n

/-- The value of a field of entry `i`. -/
def Dev.get (d : Dev) (f : Fld) (i : Nat) : Nat :=
  let a := f.lo / 32
  bitsOf (d.rdWide f.reg i a (f.hi / 32 + 1 - a)) (f.hi - 32 * a) (f.lo - 32 * a)

/-- Write a field of entry `i`, the other bits kept. -/
def Dev.set (d : Dev) (f : Fld) (i v : Nat) : Dev :=
  let a := f.lo / 32
  let n := f.hi / 32 + 1 - a
  d.wrWide f.reg i a (withBits (d.rdWide f.reg i a n) (f.hi - 32 * a) (f.lo - 32 * a) v) n

/-- A one-bit field as a truth value. -/
def Dev.bit (d : Dev) (f : Fld) (i : Nat) : Bool := d.get f i == 1

/-- Write a one-bit field. -/
def Dev.setB (d : Dev) (f : Fld) (i : Nat) (b : Bool) : Dev := d.set f i b.toNat

/-- Add to a 32-bit event counter, which saturates (R10). -/
def Dev.add (d : Dev) (r : Reg) (i : Nat) (n : Nat) : Dev :=
  d.wr r i 0 (BitVec.ofNat 32 (min ((d.rd r i).toNat + n) 0xFFFFFFFF))

/-- Count one event. -/
def Dev.count (d : Dev) (r : Reg) (i : Nat := 0) : Dev := d.add r i 1

/-- Add to a 64-bit event counter, which saturates (R10). -/
def Dev.add64 (d : Dev) (r : Reg) (i : Nat) (n : Nat) : Dev :=
  d.wrWide r i 0 (min (d.rdWide r i 0 2 + n) 0xFFFFFFFFFFFFFFFF) 2

/-- Add to a 64-bit counter that wraps. -/
def Dev.addWrap64 (d : Dev) (r : Reg) (i : Nat) (n : Nat) : Dev :=
  d.wrWide r i 0 ((d.rdWide r i 0 2 + n) % 2 ^ 64) 2

/-- A 16-bit field of a register counted up, saturating. -/
def Dev.bumpSat (d : Dev) (f : Fld) (i : Nat) : Dev :=
  d.set f i (min (d.get f i + 1) (2 ^ (f.hi + 1 - f.lo) - 1))

/-! ## Time (R297, R298) -/

/-- The increment of t per tick, in 2⁻⁴⁸ ns. -/
def TimeSt.inc (t : TimeSt) : Int := 0x1400000000000 + 320 * t.rate

/-- The fixed-point time t at a raw count, modulo 2¹¹² (64 integer bits and 48 fraction bits). -/
def TimeSt.at (t : TimeSt) (c : Nat) : Nat :=
  (((t.baseT : Int) + ((c : Int) - (t.baseC : Int)) * t.inc) % (2 ^ 112 : Int)).toNat

/-- Extended time t_ns, 64 bits. -/
def TimeSt.ext (t : TimeSt) : Nat := t.at t.raw / 2 ^ 48

/-- Presented time, 32 bits. -/
def TimeSt.presented (t : TimeSt) : Nat := t.ext % 2 ^ 32

/-- Presented time of the device (R298). -/
def Dev.now (d : Dev) : Nat := d.time.presented

/-- The raw counter. -/
def Dev.raw (d : Dev) : Nat := d.time.raw

/-- Ticks of CLK_TIME since a raw count, the counter wrapping at 2⁶⁴. -/
def Dev.since (d : Dev) (r : Nat) : Nat := (d.time.raw + 2 ^ 64 - r) % 2 ^ 64

/-- Ticks (1.25 ns each) in a number of nanoseconds, rounded up. -/
def ticksOfNs (ns : Nat) : Nat := (ns * 4 + 4) / 5

/-- Ticks in a number of microseconds (800 per microsecond). -/
def ticksOfUs (us : Nat) : Nat := us * 800

/-- Presented time elapsed since a 32-bit stamp. -/
def Dev.age (d : Dev) (stamp : Nat) : Nat := (d.now + 2 ^ 32 - stamp % 2 ^ 32) % 2 ^ 32

/-- One tick of CLK_TIME: the raw counter rises by one and wraps at 2⁶⁴ (R297). -/
def Dev.tick (d : Dev) : Dev := { d with time := { d.time with raw := (d.time.raw + 1) % 2 ^ 64 } }

/-! ## Desks -/

/-- The number of a Desk: 0 for A, 1 for B. -/
def deskNo (b : Bool) : Nat := b.toNat

/-- The master Desk (R337): MASTER of BUR_CTL. -/
def Dev.master (d : Dev) : Nat := d.get F.BUR_CTL.MASTER 0

/-! ## Outputs, interrupts and Bureau events -/

/-- Something leaves the block. -/
def Dev.emit (d : Dev) (o : Out) : Dev := { d with out := d.out ++ [o] }

/-- Set an interrupt bit of a Desk; the vector is sent when the bit goes from 0 to 1 unmasked (R374). -/
def Dev.irq (d : Dev) (desk vec : Nat) : Dev :=
  let st := (d.rd .DESK_IRQ_STAT desk).toNat
  let d' := d.wr .DESK_IRQ_STAT desk 0 (BitVec.ofNat 32 (withBit st vec true))
  if !bitAt st vec && !bitAt (d.rd .DESK_IRQ_MASK desk).toNat vec then d'.emit (.irq desk vec) else d'

/-- Set an interrupt bit at both Desks. -/
def Dev.irqBoth (d : Dev) (vec : Nat) : Dev := (d.irq 0 vec).irq 1 vec

/-- Raise a Bureau event of source 16u + k (R340). The agent takes it with BUREAU_EVENT. -/
def Dev.raise (d : Dev) (u k inst : Nat) (inst2 : Nat := 0) : Dev :=
  { d with raised := d.raised ++ [{ src := 16 * u + k, inst := inst, inst2 := inst2 }] }

/-- Events raised from position `n` of the list on arise from an injected fault (R355). -/
def Dev.flagFrom (d : Dev) (n : Nat) : Dev :=
  { d with raised := d.raised.take n ++ (d.raised.drop n).map fun e => { e with injected := true } }

/-- Change the Bureau's state. -/
def Dev.updBur (d : Dev) (f : BurSt → BurSt) : Dev := { d with bur := f d.bur }

/-- INST of a die, by index d of BUR_UNIT (Table 15.7). -/
def instDie (n : Nat) : Nat := n

/-- INST of a lane. -/
def instLane (port lane : Nat) : Nat := 0x10000000 + port * 256 + lane

/-- INST of a logical port. -/
def instLp (lp : Nat) : Nat := 0x20000000 + lp

/-- INST of a mesh link direction of die index `n`. -/
def instMesh (n dir : Nat) : Nat := 0x30000000 + n * 32 + dir

/-- INST of a pool window. -/
def instWin (w : Nat) : Nat := 0x40000000 + w

/-- INST of a Drawer. -/
def instDrawer (h : Nat) : Nat := 0x50000000 + h

/-- INST of an HBM stack. -/
def instStack (n : Nat) : Nat := 0x60000000 + n

/-! ## Free values -/

/-- Draw a fresh index for a free value. -/
def Dev.draw (d : Dev) : Nat × Dev := (d.fresh, { d with fresh := d.fresh + 1 })

/-! ## Sub-records -/

/-- A logical port's record. -/
def Dev.lp (d : Dev) (n : Nat) : Lp := d.lps.at {} n

/-- Change a logical port's record. -/
def Dev.updLp (d : Dev) (n : Nat) (f : Lp → Lp) : Dev := { d with lps := d.lps.upd {} n f }

/-- A lane's record, by 18 × port + lane. -/
def Dev.lane (d : Dev) (n : Nat) : LaneSt := d.lanes.at {} n

/-- Change a lane's record. -/
def Dev.updLane (d : Dev) (n : Nat) (f : LaneSt → LaneSt) : Dev := { d with lanes := d.lanes.upd {} n f }

/-- Change the switch core. -/
def Dev.updCore (d : Dev) (f : CoreSt → CoreSt) : Dev := { d with core := f d.core }

/-- Change the forwarding tables. -/
def Dev.updFwd (d : Dev) (f : FwdSt → FwdSt) : Dev := { d with fwd := f d.fwd }

/-- Change the traffic management. -/
def Dev.updTm (d : Dev) (f : TmSt → TmSt) : Dev := { d with tm := f d.tm }

/-- Apply a change for each element of a list, in order. -/
def Dev.each {α : Type} (d : Dev) (l : List α) (f : Dev → α → Dev) : Dev := l.foldl f d

/-! ## General counters (R329, R330) -/

/-- CFG0 of general counter k of die n (tile 0 to 15, 16 + Cabinet die). -/
def Dev.pmcCfg0 (d : Dev) (n k : Nat) : Nat :=
  (d.rd (if n < 16 then .XBAR_PMC_CFG0 else .CAB_PMC_CFG0) (16 * (n % 16) + k)).toNat

/-- CFG1 of general counter k of die n. -/
def Dev.pmcCfg1 (d : Dev) (n k : Nat) : Nat :=
  (d.rd (if n < 16 then .XBAR_PMC_CFG1 else .CAB_PMC_CFG1) (16 * (n % 16) + k)).toNat

/-- Add to general counter k of die n, which wraps at 2⁶⁴. -/
def Dev.pmcAdd (d : Dev) (n k m : Nat) : Dev :=
  d.addWrap64 (if n < 16 then .XBAR_PMC_VAL else .CAB_PMC_VAL) (16 * (n % 16) + k) m

/-- Events that PORT_EN qualifies (Table 14.5). -/
def evPort (e : Nat) : Bool := decide (1 ≤ e ∧ e ≤ 6) || e == 0xA || e == 0xB || e == 0xC

/-- Events that CLASS_MASK qualifies. -/
def evClass (e : Nat) : Bool := decide (1 ≤ e ∧ e ≤ 4) || e == 9 || e == 0xA || e == 0xC

/-- Events that JOB_EN qualifies. -/
def evJob (e : Nat) : Bool := e == 1 || e == 2 || e == 0x10 || decide (0x20 ≤ e ∧ e ≤ 0x24)

/-- The qualifiers of a counter admit an occurrence on a port, class and job (R330). -/
def pmcQual (c0 c1 e : Nat) (sel cls job : Option Nat) : Bool :=
  let mesh := e == 0xA || e == 0xB
  let mask := bitsOf c0 27 20
  (!evJob e || !bitAt c0 29 || job == some (bitsOf c1 27 16)) &&
  (!evPort e || !bitAt c0 28 || sel == some (if mesh then c1 % 4 else c1 % 64)) &&
  (!evClass e || mask == 0 || (match cls with | some c => bitAt mask c | none => false))

/-- A pulse event occurs `m` times at die `n`: edge counters add it, level counters note it for the tick. -/
def Dev.pulse (d : Dev) (n e m : Nat) (sel cls job : Option Nat) : Dev :=
  if m = 0 then d
  else d.each (List.range 16) fun d k =>
    let c0 := d.pmcCfg0 n k
    if c0 % 1024 = e ∧ pmcQual c0 (d.pmcCfg1 n k) e sel cls job then
      match c0 / 2 ^ 30 with
      | 1 => d.pmcAdd n k m
      | 2 => { d with pmc := { d.pmc with seen := if d.pmc.seen.contains (16 * n + k) then d.pmc.seen
                                              else d.pmc.seen ++ [16 * n + k] } }
      | _ => d
    else d

/-! ## Running a command -/

/-- Run a command whose effect is a change of the block: it always completes. -/
def run (f : Dev → Dev) (s : State) : Host.Outcome State Fault Refusal := .next { s with dev := f s.dev }

end Sys2Proof.Machine
end

