-- ==== Sys2Proof/Machine/Mesh.lean ====
section
/-! DEFINITION. The die mesh: coordinates, neighbours, routes and failed links (R13, R17, R19, R23). -/
namespace Sys2Proof.Machine

/-- Column of die `m` of the mesh: tiles 0 to 15, then CAB0 to CAB7 as 16 to 23 (R13). -/
def meshX (m : Nat) : Nat := m % 4

/-- Row of die `m`. -/
def meshY (m : Nat) : Nat := if m < 16 then m / 4 + 1 else if m < 20 then 0 else 5

/-- The die at a coordinate (Table 1.1). -/
def dieAt (x y : Nat) : Nat := if y = 0 then 16 + x else if y = 5 then 20 + x else 4 * (y - 1) + x

/-- The neighbour of a die in direction 0 (x − 1), 1 (x + 1), 2 (y − 1) or 3 (y + 1). -/
def meshNbr (m dir : Nat) : Option Nat :=
  match dir with
  | 0 => if meshX m = 0 then none else some (dieAt (meshX m - 1) (meshY m))
  | 1 => if meshX m = 3 then none else some (dieAt (meshX m + 1) (meshY m))
  | 2 => if meshY m = 0 then none else some (dieAt (meshX m) (meshY m - 1))
  | 3 => if meshY m = 5 then none else some (dieAt (meshX m) (meshY m + 1))
  | _ => none

/-- The opposite direction. -/
def meshOpp (dir : Nat) : Nat := match dir with | 0 => 1 | 1 => 0 | 2 => 3 | _ => 2

/-- The next direction from die `a` toward die `b`: along the row first, then along the column (R17). -/
def meshDir (a b : Nat) : Option Nat :=
  if meshX b < meshX a then some 0
  else if meshX a < meshX b then some 1
  else if meshY b < meshY a then some 2
  else if meshY a < meshY b then some 3
  else none

/-- The route from die `a` to die `b` as the links crossed: sending die and direction (R17). -/
def meshRoute (a b : Nat) : Nat → List (Nat × Nat)
  | 0 => []
  | n + 1 =>
    match meshDir a b with
    | none => []
    | some dir =>
      match meshNbr a dir with
      | none => []
      | some c => (a, dir) :: meshRoute c b n

/-- The whole route: at most 3 + 5 links. -/
def route (a b : Nat) : List (Nat × Nat) := meshRoute a b 8

/-- The index of a mesh direction's registers. -/
def meshReg (m dir : Nat) : Nat := 4 * m + dir

/-- A mesh link is failed in either direction (R19): STATE 4 at either end. -/
def Dev.linkFailed (d : Dev) (m dir : Nat) : Bool :=
  d.get F.XBAR_MESH_STAT.STATE (meshReg m dir) == 4 ||
  (match meshNbr m dir with
   | some c => d.get F.XBAR_MESH_STAT.STATE (meshReg c (meshOpp dir)) == 4
   | none => false)

/-- Die `b` is unreachable from die `a`: its route crosses a failed link (R19). -/
def Dev.unreachable (d : Dev) (a b : Nat) : Bool := (route a b).any (fun h => d.linkFailed h.1 h.2)

/-- The tile whose counters a die's own lookups count in (R154): itself, or the tile its attach link joins. -/
def countTile (m : Nat) : Nat := if m < 16 then m else if m < 20 then m - 16 else m - 8

/-- The Bureau unit of a mesh die (Table 15.1). -/
def meshUnit (m : Nat) : Nat := if m < 16 then m else m + 16

/-- The tiles of a mask in a column and beyond a row. -/
def maskIn (mask x : Nat) (p : Nat → Bool) : Bool :=
  (List.range 16).any (fun t => bitAt mask t && meshX t == x && p (meshY t))

/-- The directions in which a die at `m` passes a multicast frame on, that came in from direction `from'`
(4: it entered the mesh here), with its tile mask (R23): along the row while columns beyond hold set tiles,
and into the column. -/
def mcDirs (m from' mask : Nat) : List Nat :=
  let x := meshX m
  let y := meshY m
  let anyCol (p : Nat → Bool) : Bool := (List.range 4).any (fun c => p c && maskIn mask c (fun _ => true))
  let west := (from' == 4 || from' == 1) && anyCol (fun c => c < x)
  let east := (from' == 4 || from' == 0) && anyCol (fun c => x < c)
  let down := from' != 2 && maskIn mask x (fun r => r < y)
  let up := from' != 3 && maskIn mask x (fun r => y < r)
  (if west then [0] else []) ++ (if east then [1] else []) ++
  (if down then [2] else []) ++ (if up then [3] else [])

end Sys2Proof.Machine
end

