-- ==== Sys2Proof/Machine/Access.lean ====
section
/-! DEFINITION. Register addresses, and which accesses a Desk completes with effect (R360, R414 to R423). -/
namespace Sys2Proof.Machine

/-- The description of a register. -/
def Reg.desc (r : Reg) : RegDesc := (regTable.find? (fun e => e.reg == r)).getD ⟨r, 0, [], 1, false⟩

/-- The byte offset of a flat entry index (row-major over the dimensions). -/
def dimOffset : List (Nat × Nat) → Nat → Nat
  | [], _ => 0
  | (_, s) :: r, i =>
    let inner := (r.map Prod.fst).foldl (· * ·) 1
    i / inner * s + dimOffset r (i % inner)

/-- The flat entry index and the byte offset inside the entry of a byte offset, if it lies in the array. -/
def dimIndex : List (Nat × Nat) → Nat → Option (Nat × Nat)
  | [], off => some (0, off)
  | (c, s) :: r, off =>
    if off / s < c then
      match dimIndex r (off % s) with
      | some (i, o) => some (off / s * (r.map Prod.fst).foldl (· * ·) 1 + i, o)
      | none => none
    else none

/-- The entries of one copy of a register. -/
def RegDesc.entries (r : RegDesc) : Nat := (r.dims.map Prod.fst).foldl (· * ·) 1

/-- The BAR0 address of a register word. A Desk-local register has the same address in each Desk. -/
def regAddr (r : Reg) (i w : Nat) : Nat :=
  let e := r.desc
  e.base + dimOffset e.dims (if e.perDesk then i % e.entries else i) + 4 * w

/-- Whether an entry of a register exists: a Cabinet die has the mesh registers of its own directions only (R178). -/
def Reg.present (r : Reg) (i : Nat) : Bool :=
  let at' (k : Nat) : Bool := decide (k / 4 < 16) || (meshNbr (k / 4) (k % 4)).isSome
  match r with
  | .XBAR_MESH_STAT | .XBAR_MESH_REPAIR | .XBAR_MESH_REPLAY | .XBAR_MESH_RETRAIN | .XBAR_MESH_CRC_ERR | .XBAR_MESH_CFG => at' i
  | .XBAR_MESH_LANE_BAD => at' (i / 44)
  | _ => true

/-- The register word at an address reached through a Desk, none where no chapter assigns one (R9). -/
def decodeAddr (desk addr : Nat) : Option (Reg × Nat × Nat) :=
  regTable.findSome? fun e =>
    if addr < e.base then none
    else match dimIndex e.dims (addr - e.base) with
      | some (i, o) =>
        if o / 4 < e.words ∧ e.reg.present i then some (e.reg, if e.perDesk then desk * e.entries + i else i, o / 4)
        else none
      | none => none

/-- A Desk is in service: its unit is IN_SERVICE (Table 15.6). -/
def Dev.deskUp (d : Dev) (desk : Nat) : Bool := d.get F.BUR_UNIT.STATE (26 + desk) == 0

/-- The tile that a Desk's side link joins (Table 1.2). -/
def deskTile (desk : Nat) : Nat := if desk = 0 then 0 else 15

/-- The side link of a Sideboard control die, at tile 5 (SC0) or 10 (SC1), is up and the die's domain, PD28 or PD29, is
on. -/
def Dev.scUp (d : Dev) (t : Nat) : Bool :=
  bitAt (d.get F.PWR_PD_STAT.ON 0) (if t = 5 then 28 else 29) && !d.bus.sideFail.contains t

/-- The mesh dies by which the accesses to an address's block may go: a tile, a Cabinet die, or the tile of a Sideboard
control die (R20, Table 1.2); none for registers of the Desks. The spec does not say which control die serves the
Sideboard's one register block: an access goes by SC0 at tile 5 or by SC1 at tile 10, whichever is up and can be reached
(DESIGN CHOICE, log 156). -/
def Dev.blockDies (d : Dev) (addr : Nat) : Option (List Nat) :=
  if addr < 0x1000000 then none
  else if addr < 0x2000000 then some [(addr - 0x1000000) / 0x100000]
  else if addr < 0x2800000 then some [16 + (addr - 0x2000000) / 0x100000]
  else if addr < 0x3000000 then some ([5, 10].filter d.scUp)
  else none

/-- A Desk reaches a die: its side link is up, the tile there is in service, and no link of the route has failed (R20). -/
def Dev.deskReaches (d : Dev) (desk m : Nat) : Bool :=
  let t := deskTile desk
  !d.bus.sideFail.contains t && d.get F.BUR_UNIT.STATE t == 0 && !d.unreachable t m

/-- The block of an address is held off: SAFE, or a switched domain that is off (R390, R419, Table 17.6A). The
register OE_ENG_CFG, whose ENABLE turns an engine's domain on, answers while that domain is off. -/
def Dev.blockOff (d : Dev) (addr : Nat) : Bool :=
  let on := d.get F.PWR_PD_STAT.ON 0
  let off := (addr - 0x1000000) % 0x100000
  d.get F.PWR_STAT.STATE 0 == 2 ||
  (if addr < 0x2000000 then
     decide (0x80000 < off ∧ off < 0x90000) && !bitAt on ((addr - 0x1000000) / 0x100000)
   else if addr < 0x2800000 then !bitAt on (16 + (addr - 0x2000000) / 0x100000)
   else !(bitAt on 28 || bitAt on 29))

/-- What becomes of an access before it reaches its register. -/
inductive Gate where
  | ok
  | silent
  | cause (n : Nat)
  deriving DecidableEq, Repr

/-- Write the RW bits of a register word; the other bits stay (R8). -/
def Dev.writeRw (d : Dev) (r : Reg) (i w : Nat) (v : Word) : Dev :=
  let m := (r.masks w).rw
  d.wr r i w ((d.rd r i w &&& ~~~m) ||| (v &&& m))

/-- The registers that answer before the lock (R360). -/
def preLock (addr : Nat) : Bool :=
  addr == 0 || addr == 4 || decide (0x100010 ≤ addr ∧ addr < 0x10001C) || decide (0x160000 ≤ addr ∧ addr < 0x170000)

/-- The gate of an access through a Desk and path (R360, R419, Table 15.4 for an isolated Desk). -/
def Dev.gate (d : Dev) (a : Access) (addr : Nat) : Gate :=
  if !d.deskUp a.deskB.toNat then .silent
  else if !d.bit F.DESK_PROT_LOCK.LOCKED 0 && (a.eth || !preLock addr) then .silent
  else match d.blockDies addr with
    | none => .ok
    | some l =>
      if d.blockOff addr then .cause 3
      else if l.any (d.deskReaches a.deskB.toNat) then .ok
      else .cause 2

/-- Record an access completed without effect (R423). -/
def Dev.accErr (d : Dev) (a : Access) (cause addr : Nat) (write : Bool) : Dev :=
  let k := a.deskB.toNat
  (d.count .DESK_ACC_ERR k).wr .DESK_ACC_LAST k 0
    (BitVec.ofNat 32 (cause * 2 ^ 28 + a.eth.toNat * 2 ^ 27 + write.toNat * 2 ^ 26 + addr % 2 ^ 26))

/-- A locked-write event is reported through the Desk by which the write came (Table 0.5, Table 15.3). -/
def Dev.lockedWrite (d : Dev) (a : Access) : Dev :=
  d.raise (41 + a.deskB.toNat) 1 (instDie (26 + a.deskB.toNat))

/-- Carry out the effect of a write to a register word if the access reaches it. A write before the lock is
raised as a locked-write event (R360); a busy command register refuses with cause 4 (R420). -/
def Dev.onWrite (d : Dev) (a : Access) (r : Reg) (i w : Nat) (f : Dev → Dev) : Dev :=
  let addr := regAddr r i w
  match d.gate a addr with
  | .silent => if d.deskUp a.deskB.toNat then d.lockedWrite a else d
  | .cause n => d.accErr a n addr true
  | .ok => if r.isCmd && bitAt (d.rd r i 0).toNat 31 then d.accErr a 4 (regAddr r i 0) true else f d

end Sys2Proof.Machine
end

