-- ==== Sys2Proof/Machine/Frames.lean ====
section
/-! DEFINITION. Frame headers, extensions and their checks (chapter 5), as functions of the frame's bytes. -/
namespace Sys2Proof.Machine

/-! ## Checks and CRCs -/

/-- CRC-16 of the header and of the lane marker (Tables 2.3, 5.1). -/
def crc16 (bs : List Byte) : Nat := crcBytes 16 0x1021 0xFFFF bs

/-- CRC-32C of R111 with a chosen initial value (R144). -/
def crc32cFrom (init : Nat) (bs : List Byte) : Nat :=
  Nat.xor (crcBytesLsb 0x82F63B78 init bs) 0xFFFFFFFF

/-- CRC-32C of R111. -/
def crc32c (bs : List Byte) : Nat := crc32cFrom 0xFFFFFFFF bs

/-- CRC-64/ECMA-182 of R42. -/
def crc64 (bs : List Byte) : Nat := crcBytes 64 0x42F0E1EBA9EA3693 0 bs

/-! ## Header fields (Table 5.1) -/

/-- VERSION -/
def fVersion (b : List Byte) : Nat := byteAt b 0 / 16
/-- FORMAT -/
def fFormat (b : List Byte) : Nat := byteAt b 0 % 16
/-- KIND -/
def fKind (b : List Byte) : Nat := byteAt b 1
/-- LENGTH -/
def fLength (b : List Byte) : Nat := beAt b 2 2
/-- DST_TYPE -/
def fDstType (b : List Byte) : Nat := byteAt b 4 / 64
/-- SRC_TYPE -/
def fSrcType (b : List Byte) : Nat := byteAt b 4 / 16 % 4
/-- TS_REQ -/
def fTsReq (b : List Byte) : Bool := bitAt (byteAt b 4) 3
/-- DST -/
def fDst (b : List Byte) : Nat := beAt b 5 3
/-- SRC -/
def fSrc (b : List Byte) : Nat := beAt b 8 3
/-- JOB -/
def fJob (b : List Byte) : Nat := beAt b 12 2 % 4096
/-- VID -/
def fVid (b : List Byte) : Nat := beAt b 12 2 % 4096
/-- TS_ID -/
def fTsId (b : List Byte) : Nat := beAt b 16 2
/-- HCRC is right. -/
def hcrcOk (b : List Byte) : Bool := decide (24 ≤ b.length) && crc16 (b.take 22) == beAt b 22 2
/-- The FCS of a fabric frame is right (R111). -/
def fcsOk (b : List Byte) : Bool :=
  decide (28 ≤ b.length) && crc32c ((b.drop 24).take (b.length - 28)) == beAt b (b.length - 4) 4

/-- Stored size S (R155): the frame, or the Ethernet frame alone of a tunnelled frame. -/
def storedSize (b : List Byte) : Nat := if fFormat b = 1 then b.length - 24 else b.length

/-- Cells of a frame (R155). -/
def cellsOf (b : List Byte) : Nat := ceilDiv (storedSize b) 256

/-- Credits of a frame (R47): LENGTH in 256-byte units. -/
def creditsOf (b : List Byte) : Nat := ceilDiv b.length 256

/-- A row of Table 5.2. -/
structure KindRow where
  /-- KIND -/
  kind : Nat
  /-- FORMAT -/
  fmt : Nat
  /-- class -/
  cls : Nat
  /-- DST_TYPE values allowed -/
  dst : List Nat
  /-- shortest LENGTH -/
  lo : Nat
  /-- longest LENGTH -/
  hi : Nat
  deriving DecidableEq, Repr

/-- Table 5.2. -/
def kindTable : List KindRow :=
  [⟨0x01, 0, 1, [0, 2], 29, 4352⟩, ⟨0x02, 1, 0, [0, 1, 2, 3], 88, 9240⟩, ⟨0x03, 1, 7, [0, 1, 2, 3], 88, 1546⟩,
   ⟨0x10, 0, 2, [1], 60, 4276⟩, ⟨0x11, 0, 3, [0, 2], 60, 4276⟩, ⟨0x12, 0, 3, [0, 1], 52, 52⟩,
   ⟨0x13, 0, 3, [0], 52, 180⟩, ⟨0x20, 0, 4, [1], 52, 180⟩, ⟨0x21, 0, 5, [0, 1], 52, 180⟩,
   ⟨0x30, 0, 6, [1], 44, 1068⟩, ⟨0x31, 0, 6, [0, 2], 44, 1068⟩]

/-- The row of a KIND. -/
def kindRow (k : Nat) : Option KindRow := kindTable.find? (fun r => r.kind == k)

/-- OPCODE SYNC of the Gnoari extension (Table 12.2). -/
def opSync : Nat := 0x05

/-- VERSION, FORMAT, KIND, class, LENGTH and DST_TYPE agree with Table 5.2 (a CHUNK_NOTICE has
LENGTH 52 with OPCODE SYNC and 60 to 180 without), and VID with R128. The bytes given
are the whole frame, so their number must be LENGTH. -/
def kindOk (cls : Nat) (b : List Byte) : Bool :=
  match kindRow (fKind b) with
  | none => false
  | some r =>
    fVersion b == 1 && fFormat b == r.fmt && cls == r.cls && fLength b == b.length &&
    decide (r.lo ≤ b.length ∧ b.length ≤ r.hi) && r.dst.contains (fDstType b) &&
    (fKind b != 0x13 || (if byteAt b 24 == opSync then b.length == 52 else decide (60 ≤ b.length))) &&
    (r.fmt == 0 || (fVid b != 0 && fVid b != 4095))

/-! ## Building frames (R113) -/

/-- The header of a frame that the device originates: TS_REQ 0, TS_ID 0, STAMP 0, a correct HCRC. -/
def mkHeader (kind len dstType srcType dst src job flow : Nat) : List Byte :=
  let h := beBytes 1 0x10 ++ beBytes 1 kind ++ beBytes 2 len ++ beBytes 1 (dstType * 64 + srcType * 16) ++
    beBytes 3 dst ++ beBytes 3 src ++ beBytes 1 0 ++ beBytes 2 job ++ beBytes 2 flow ++ beBytes 2 0 ++ beBytes 4 0
  h ++ beBytes 2 (crc16 h)

/-- A whole fabric frame from its header fields and the bytes after the header, with LENGTH and FCS. -/
def mkFrame (kind dstType srcType dst src job flow : Nat) (rest : List Byte) : List Byte :=
  mkHeader kind (24 + rest.length + 4) dstType srcType dst src job flow ++ rest ++ beBytes 4 (crc32c rest)

/-- Write STAMP and recompute HCRC (R129). -/
def writeStamp (b : List Byte) (stamp : Nat) : List Byte :=
  let h := spliceAt (b.take 22) 18 (beBytes 4 stamp)
  h ++ beBytes 2 (crc16 h) ++ b.drop 24

/-- Invert every byte of the last four: the FCS of a poisoned frame in transmission (R167). -/
def invertFcs (b : List Byte) : List Byte :=
  b.take (b.length - 4) ++ (b.drop (b.length - 4)).map (fun x => ~~~x)

end Sys2Proof.Machine
end

