-- ==== Sys2Proof/Machine/Arith.lean ====
section
/-! DEFINITION. Cabinet arithmetic (chapter 9) as pure functions: element formats, decoding, binary32 addition and
multiply-add, exact accumulators, rounding, MX block scales, the rounding noise and the digest. -/
namespace Sys2Proof.Machine

/-! ## Exact values -/

/-- Shift left by an integer number of places, the result being exact where the shift is not negative. -/
def shl (n : Nat) (k : Int) : Nat := n * 2 ^ k.toNat

/-- The exponent floor(log2(n / d)) of a positive rational. -/
def ratLog2 (n d : Nat) : Int :=
  let k : Int := (Nat.log2 n : Int) - (Nat.log2 d : Int)
  if shl d k ≤ shl n (-k) then k else k - 1

/-! ## Formats (Table 9.1) -/

/-- A floating-point element format. -/
structure FpFmt where
  /-- element bits -/
  bits : Nat
  /-- significand bits, the hidden bit included -/
  p : Nat
  /-- bias -/
  bias : Nat
  /-- emax -/
  emax : Int
  /-- the significand of the largest finite value, in units of 2^(emax − p + 1) -/
  kmax : Nat
  /-- 0: exponent all ones is infinity or NaN; 1: S.1111.111 alone is NaN; 2: every code is finite -/
  special : Nat
  deriving DecidableEq, Repr

/-- emin of a format. -/
def FpFmt.emin (f : FpFmt) : Int := 1 - f.bias

/-- The format of an ELEM_FMT code (Tables 5.5, 9.1). -/
def fpFmt (code : Nat) : Option FpFmt :=
  match code with
  | 0x00 => some ⟨32, 24, 127, 127, 2 ^ 24 - 1, 0⟩
  | 0x01 => some ⟨16, 8, 127, 127, 2 ^ 8 - 1, 0⟩
  | 0x02 => some ⟨16, 11, 15, 15, 2 ^ 11 - 1, 0⟩
  | 0x03 => some ⟨8, 4, 7, 8, 14, 1⟩
  | 0x04 => some ⟨8, 3, 15, 15, 7, 0⟩
  | 0x05 => some ⟨8, 4, 7, 8, 14, 1⟩
  | 0x06 => some ⟨8, 3, 15, 15, 7, 0⟩
  | 0x07 => some ⟨6, 3, 3, 4, 7, 2⟩
  | 0x08 => some ⟨6, 4, 1, 2, 15, 2⟩
  | 0x09 => some ⟨4, 2, 1, 2, 3, 2⟩
  | _ => none

/-- FP32. -/
def fp32 : FpFmt := ⟨32, 24, 127, 127, 2 ^ 24 - 1, 0⟩

/-- A floating-point format code. -/
def isFp (code : Nat) : Bool := decide (code ≤ 9)

/-- An MX format code. -/
def isMx (code : Nat) : Bool := decide (5 ≤ code ∧ code ≤ 9)

/-- An integer format code. -/
def isInt (code : Nat) : Bool := decide (0x10 ≤ code ∧ code ≤ 0x14)

/-- Element bits of a format (Table 9.1). -/
def elemBits (code : Nat) : Nat :=
  match fpFmt code with
  | some f => f.bits
  | none => match code with | 0x10 => 8 | 0x11 => 16 | 0x12 => 32 | _ => 64

/-- Bytes of a block group of an MX format (R200). -/
def groupBytes (code : Nat) : Nat := 8 + 32 * elemBits code

/-- The packed size of a chunk of `n` elements (R201). -/
def packedSize (code n : Nat) : Nat :=
  if isMx code then n / 256 * groupBytes code else n * elemBits code / 8

/-- The value of an element code (R197). -/
def FpFmt.decode (f : FpFmt) (x : Nat) : Val :=
  let neg := bitAt x (f.bits - 1)
  let frac := x % 2 ^ (f.p - 1)
  let ex := bitsOf x (f.bits - 2) (f.p - 1)
  let top := 2 ^ (f.bits - f.p) - 1
  if f.special = 0 ∧ ex = top then (if frac = 0 then .inf neg else .nan)
  else if f.special = 1 ∧ ex = top ∧ frac = 2 ^ (f.p - 1) - 1 then .nan
  else if ex = 0 then .fin neg frac (f.emin - f.p + 1)
  else .fin neg (2 ^ (f.p - 1) + frac) ((ex : Int) - f.bias - f.p + 1)

/-- The value of an MX element under its block's scale byte (R197, R200). -/
def mxValue (scale : Nat) (v : Val) : Val :=
  if scale = 255 then .nan
  else match v with
    | .fin neg m e => .fin neg m (e + (scale : Int) - 127)
    | v => v

/-- Element `i` of packed elements (R199). -/
def packedElem (bits : Nat) (bs : List Byte) (i : Nat) : Nat :=
  if bits = 4 then (if i % 2 = 0 then byteAt bs (i / 2) / 16 else byteAt bs (i / 2) % 16)
  else if bits = 6 then
    let w := beAt bs (3 * (i / 4)) 3
    bitsOf w (23 - 6 * (i % 4)) (18 - 6 * (i % 4))
  else beAt bs (i * (bits / 8)) (bits / 8)

/-- The number of elements in `n` payload bytes. -/
def elemsIn (code n : Nat) : Nat :=
  if isMx code then n / groupBytes code * 256 else n * 8 / elemBits code

/-- The raw code of element `i` of a payload and its block's scale byte (zero outside the MX formats). -/
def rawElem (code : Nat) (bs : List Byte) (i : Nat) : Nat × Nat :=
  if isMx code then
    let g := (bs.drop (i / 256 * groupBytes code)).take (groupBytes code)
    (packedElem (elemBits code) (g.drop 8) (i % 256), byteAt g (i % 256 / 32))
  else (packedElem (elemBits code) bs i, 0)

/-- The value of element `i` of a floating-point payload. -/
def elemValue (code : Nat) (bs : List Byte) (i : Nat) : Val :=
  match fpFmt code with
  | none => .nan
  | some f =>
    let (x, s) := rawElem code bs i
    if isMx code then mxValue s (f.decode x) else f.decode x

/-- The value of an integer element: two's complement except UINT64. -/
def intValue (code x : Nat) : Int := if code = 0x14 then (x : Int) else toSigned (elemBits code) x

/-! ## Rounding (R214) -/

/-- Rounding modes: nearest even, toward zero, stochastic with the draw u. -/
inductive Round where
  | rne | rtz | sr (u : Nat)
  deriving DecidableEq, Repr

/-- Round the quotient a / b to an integer. -/
def roundDiv (r : Round) (a b : Nat) : Nat :=
  let k := a / b
  let rem := a % b
  match r with
  | .rne => if b < 2 * rem ∨ (2 * rem = b ∧ k % 2 = 1) then k + 1 else k
  | .rtz => k
  | .sr u => if u < rem * 2 ^ 24 / b then k + 1 else k

/-- The outcome of rounding a finite magnitude n / d to a format: its significand k and exponent e, or overflow. -/
def FpFmt.roundMag (f : FpFmt) (r : Round) (n d : Nat) : Option (Nat × Int) :=
  let e := max (ratLog2 n d) f.emin
  let s := e - f.p + 1
  let k := roundDiv r (shl n (-s)) (shl d s)
  if e > f.emax ∨ (e = f.emax ∧ f.kmax < k) then none else some (k, e)

/-- The code of a significand and exponent, with its sign. -/
def FpFmt.pack (f : FpFmt) (neg : Bool) (k : Nat) (e : Int) : Nat :=
  neg.toNat * 2 ^ (f.bits - 1) +
    (if k < 2 ^ (f.p - 1) then k else (e + f.bias).toNat * 2 ^ (f.p - 1) + (k - 2 ^ (f.p - 1)))

/-- The code of the largest finite value of a sign. -/
def FpFmt.maxCode (f : FpFmt) (neg : Bool) : Nat := f.pack neg f.kmax f.emax

/-- The code of an infinity of a sign, in a format that has one. -/
def FpFmt.infCode (f : FpFmt) (neg : Bool) : Nat :=
  neg.toNat * 2 ^ (f.bits - 1) + (2 ^ (f.bits - f.p) - 1) * 2 ^ (f.p - 1)

/-- The canonical NaN (Table 9.2). -/
def FpFmt.nanCode (f : FpFmt) : Nat :=
  if f.special = 1 then 0x7F else f.infCode false + 2 ^ (f.p - 2)

/-- An infinite result: that infinity, or in FP8 E4M3 a NaN, ±448 under SAT (R214). -/
def FpFmt.infResult (f : FpFmt) (sat neg : Bool) : Nat :=
  if f.special = 1 then (if sat then f.maxCode neg else f.nanCode) else f.infCode neg

/-- A finite value that overflows (R214). -/
def FpFmt.overflow (f : FpFmt) (sat neg : Bool) : Nat :=
  if sat then f.maxCode neg else if f.special = 1 then f.nanCode else f.infCode neg

/-! ## binary32 (R206 to R208) -/

/-- A signed rational with denominator 2^298: every finite FP32 value and every product of two. -/
def fixOf (v : Val) : Int :=
  match v with
  | .fin neg m e => let x : Int := shl m (e + 298); if neg then -x else x
  | _ => 0

/-- The sign of a finite or infinite value. -/
def Val.neg : Val → Bool
  | .nan => false
  | .inf n => n
  | .fin n _ _ => n

/-- A NaN. -/
def Val.isNan : Val → Bool | .nan => true | _ => false

/-- An infinity. -/
def Val.isInf : Val → Bool | .inf _ => true | _ => false

/-- Round an exact integer multiple of 2⁻²⁹⁸ to FP32, an exact zero taking the sign given. -/
def fp32Round (x : Int) (zeroNeg : Bool) : Nat :=
  if x = 0 then fp32.pack zeroNeg 0 fp32.emin
  else
    let neg := decide (x < 0)
    match fp32.roundMag .rne x.natAbs (2 ^ 298) with
    | some (k, e) => fp32.pack neg k e
    | none => fp32.infCode neg

/-- The value of an FP32 word. -/
def fp32Val (w : Nat) : Val := fp32.decode w

/-- The product of two values as IEEE 754 forms it before rounding: exact, with 0 × ∞ a NaN. -/
def mulVal (a b : Val) : Val :=
  match a, b with
  | .nan, _ => .nan
  | _, .nan => .nan
  | .inf s, .inf t => .inf (s != t)
  | .inf s, .fin t m _ => if m = 0 then .nan else .inf (s != t)
  | .fin s m _, .inf t => if m = 0 then .nan else .inf (s != t)
  | .fin s m e, .fin t n f => .fin (s != t) (m * n) (e + f)

/-- The binary32 sum of an exact addend and an FP32 word, rounded once to nearest even (R206): addition for an
FP32 addend, fused multiply-add for an exact product. -/
def fp32Add (x : Val) (acc : Nat) : Nat :=
  match x, fp32Val acc with
  | .nan, _ => fp32.nanCode
  | _, .nan => fp32.nanCode
  | .inf s, .inf t => if s = t then fp32.infCode s else fp32.nanCode
  | .inf s, .fin _ _ _ => fp32.infCode s
  | .fin _ _ _, .inf t => fp32.infCode t
  | .fin s m e, .fin t n f => fp32Round (fixOf (.fin s m e) + fixOf (.fin t n f)) (s && t)

/-- The binary32 product of two FP32 words. -/
def fp32Mul (a b : Nat) : Nat :=
  match mulVal (fp32Val a) (fp32Val b) with
  | .nan => fp32.nanCode
  | .inf s => fp32.infCode s
  | .fin s m e => fp32Round (fixOf (.fin s m e)) s

/-- 1 / n rounded to FP32 with ties to even (R208). -/
def fp32Recip (n : Nat) : Nat :=
  match fp32.roundMag .rne 1 n with
  | some (k, e) => fp32.pack false k e
  | none => fp32.infCode false

/-- An input element decoded to FP32 (R207): an MX product beyond the range becomes an infinity; true: counted. -/
def fastDecode (v : Val) : Val × Bool :=
  match v with
  | .fin neg m e =>
    if m ≠ 0 ∧ 128 ≤ (Nat.log2 m : Int) + e then (.inf neg, true) else (v, false)
  | v => (v, false)

/-! ## Exact accumulators (R209 to R212) -/

/-- An accumulator of 320 bits whose top bits read 01 or 10 holds no finite value. -/
def isSpecial (a : BitVec 320) : Bool := a.getLsbD 319 != a.getLsbD 318

/-- A special accumulator with flags POS_INF, NEG_INF, NAN in bits 2 to 0. -/
def specialAcc (flags : Nat) : BitVec 320 := BitVec.ofNat 320 (2 ^ 318 + flags)

/-- Add a special addend's flag. -/
def addSpecial (a : BitVec 320) (flag : Nat) : BitVec 320 :=
  if isSpecial a then a ||| BitVec.ofNat 320 flag else specialAcc flag

/-- The exact addend of a finite value: x × 2¹⁶⁰, rounded once to nearest even where a weight makes it smaller. -/
def exactAddend (neg : Bool) (m : Nat) (e : Int) : Int :=
  let s := e + 160
  let k := roundDiv .rne (shl m s) (2 ^ (-s).toNat)
  if neg then -(k : Int) else k

/-- Add a value to an exact accumulator (R209, R211). -/
def exactAdd (x : Val) (a : BitVec 320) : BitVec 320 :=
  match x with
  | .nan => addSpecial a 1
  | .inf neg => addSpecial a (if neg then 2 else 4)
  | .fin neg m e => if isSpecial a then a else a + BitVec.ofInt 320 (exactAddend neg m e)

/-! ## Values at output -/

/-- A value at output: special, or a signed exact rational num / den. -/
inductive OutVal where
  | nan
  | inf (neg : Bool)
  | num (neg : Bool) (n d : Nat)
  deriving DecidableEq, Repr

/-- An FP32 word at output; a zero keeps its sign. -/
def OutVal.ofVal (v : Val) : OutVal :=
  match v with
  | .nan => .nan
  | .inf s => .inf s
  | .fin s m e => .num s (shl m e) (2 ^ (-e).toNat)

/-- An exact accumulator at output, divided by `n` (R212); an exact zero is +0. -/
def OutVal.ofExact (a : BitVec 320) (n : Nat) : OutVal :=
  if isSpecial a then
    let f := a.toNat % 8
    if f % 2 = 1 ∨ f = 6 then .nan else .inf (f == 2)
  else
    let z := a.toInt
    .num (decide (z < 0)) z.natAbs (2 ^ 160 * n)

/-- One element rounded to a format that is not MX (R214): the code, and whether it overflowed. -/
def FpFmt.roundOut (f : FpFmt) (r : Round) (sat : Bool) (v : OutVal) : Nat × Bool :=
  match v with
  | .nan => (f.nanCode, false)
  | .inf s => (f.infResult sat s, false)
  | .num s n d =>
    if n = 0 then (f.pack s 0 f.emin, false)
    else match f.roundMag r n d with
      | some (k, e) => (f.pack s k e, false)
      | none => (f.overflow sat s, true)

/-- The bits of FP32, BF16, FP16 and FP8 outputs that read as a NaN (R214, R225). -/
def FpFmt.isNanCode (f : FpFmt) (x : Nat) : Bool := (f.decode x).isNan

/-- Compare two magnitudes n / d. -/
def ratLt (a b : Nat × Nat) : Bool := decide (a.1 * b.2 < b.1 * a.2)

/-- The magnitude of a finite output value. -/
def OutVal.mag : OutVal → Nat × Nat
  | .num _ n d => (n, d)
  | _ => (0, 1)

/-- The value is not finite. -/
def OutVal.special : OutVal → Bool
  | .num _ _ _ => false
  | _ => true

/-- A block of 32 values in an MX format (R215): the scale byte, the element codes, and how many elements overflowed.
`u i` is the rounding of element `i`. -/
def mxBlock (f : FpFmt) (rs : List Round) (vs : List OutVal) : Nat × List Nat × Nat :=
  if vs.any OutVal.special then (0xFF, vs.map fun _ => 0, 0)
  else
    let amax := vs.foldl (fun m v => if ratLt m v.mag then v.mag else m) (0, 1)
    if amax.1 = 0 then (0, vs.map fun _ => 0, 0)
    else
      let x := max (-127) (min 127 (ratLog2 amax.1 amax.2 - f.emax))
      let out := (vs.zip rs).map fun (v, r) =>
        match v with
        | .num s n d => f.roundOut r true (.num s (shl n (-x)) (shl d x))
        | v => f.roundOut r true v
      ((x + 127).toNat, out.map Prod.fst, (out.filter Prod.snd).length)

/-! ## Rounding noise (R219) -/

/-- The rounding-noise generator. -/
def noise (w0 w1 : Nat) : Nat :=
  let ks := [0xA3D91C7B5E64F0B3, 0x6B2EF84D93C1A577, 0x8F3A65C1D4B72E95]
  let x := ks.foldl (fun x k =>
    let x := Nat.xor x (x / 2 ^ 29)
    let x := x * k % 2 ^ 64
    Nat.xor x (x / 2 ^ 32)) ((w0 + w1 * 0x8F3A65C1D4B72E95) % 2 ^ 64)
  bitsOf x 63 40

/-- The draw u of element `i` of chunk `c`, tag `g`, job `j`, with the Drawer's seed. -/
def noiseOf (seed j g c i : Nat) : Nat :=
  noise (j % 4096 * 2 ^ 52 + c % 2 ^ 24 * 2 ^ 28 + i % 2 ^ 21) (seed % 2 ^ 32 * 2 ^ 32 + g % 2 ^ 32)

/-! ## Accumulators -/

/-- The arithmetic descriptor (Table 9.3). -/
structure Desc where
  /-- IN_FMT -/
  inFmt : Nat
  /-- OUT_FMT -/
  outFmt : Nat
  /-- OP -/
  op : Nat
  /-- EXACT -/
  exact : Bool
  /-- ROUND -/
  round : Nat
  /-- SAT -/
  sat : Bool
  /-- N -/
  n : Nat
  /-- SR_SEED -/
  seed : Nat
  /-- WEIGHT_BASE -/
  wbase : Nat
  deriving DecidableEq, Repr

/-- Read a descriptor from its 128 bits. -/
def descOf (v : Nat) : Desc :=
  { inFmt := bitsOf v 63 59, outFmt := bitsOf v 58 54, op := bitsOf v 53 49, exact := bitAt v 48,
    round := bitsOf v 47 46, sat := bitAt v 45, n := 256 * (bitsOf v 44 32 + 1), seed := bitsOf v 31 0,
    wbase := bitsOf v 79 64 }

/-- SUM, WEIGHTED_SUM, AVERAGE and SPARSE_MERGE: the operations with an exact mode (Table 9.5). -/
def summing (op : Nat) : Bool := op == 0 || op == 1 || op == 2 || op == 10

/-- AND, OR, XOR, INT_SUM_WRAP and INT_SUM_SAT. -/
def integral (op : Nat) : Bool := decide (5 ≤ op ∧ op ≤ 9)

/-- MIN and MAX. -/
def extremal (op : Nat) : Bool := op == 3 || op == 4

/-- A format code of Table 5.5. -/
def fmtDefined (c : Nat) : Bool := isFp c || isInt c

/-- The accumulator width in thirty-seconds of a byte per element (Table 9.5; MX scales take 1/32 byte). -/
def Desc.width32 (a : Desc) : Nat :=
  let w := elemBits a.inFmt
  if summing a.op then (if a.exact then 40 else 4) * 32
  else if extremal a.op then 8 * 32
  else if a.op = 9 then (if w ≤ 16 then 4 else if w = 32 then 8 else 16) * 32
  else if integral a.op then max 4 (w / 8) * 32
  else 4 * w + (if isMx a.inFmt then 1 else 0)

/-- Shelves per chunk: ceil(N × width / 65,536) (R204). -/
def Desc.shelves (a : Desc) : Nat := ceilDiv (a.n * a.width32) (32 * 65536)

/-- The packed size of one chunk in IN_FMT. -/
def Desc.inSize (a : Desc) : Nat := packedSize a.inFmt a.n

/-- A weight is finite with a magnitude of at most 16 (Table 9.4, code 8). -/
def weightOk (w : Nat) : Bool :=
  match fp32Val w with
  | .fin _ m e => decide (shl m e ≤ 16 * 2 ^ (-e).toNat)
  | _ => false

/-- The first check of Table 9.4 that fails, 0 where none does; `weight i` is the weight-store entry of member `i`. -/
def Desc.check (a : Desc) (weights : List Nat) : Nat :=
  if !fmtDefined a.inFmt || !fmtDefined a.outFmt || a.round == 3 then 1
  else if 12 ≤ a.op then 2
  else if (summing a.op && a.op != 10 && !isFp a.inFmt) || (a.op == 10 && a.inFmt != 0) ||
      (integral a.op && !isInt a.inFmt) then 3
  else if (summing a.op && !isFp a.outFmt) || (extremal a.op && isFp a.inFmt && !isFp a.outFmt) ||
      (((extremal a.op && isInt a.inFmt) || integral a.op || a.op == 11) && a.outFmt != a.inFmt) then 4
  else if a.exact && !summing a.op then 5
  else if a.inSize < 4096 ∨ 1048576 < a.inSize then 6
  else if a.op = 1 ∧ 65536 < a.wbase + 1024 then 7
  else if a.op == 1 && weights.any (fun w => !weightOk w) then 8
  else 0

/-- The events that accumulating one element counts. -/
structure Evt where
  /-- CAB_NAN_IN -/
  nan : Nat := 0
  /-- CAB_INF_IN -/
  inf : Nat := 0
  /-- CAB_DECODE_OVF -/
  ovf : Nat := 0
  deriving DecidableEq, Repr

/-- The order of MIN and MAX on values that are not NaN: −∞, finite values, +∞, with −0 below +0 (R213). -/
def valLt (a b : Val) : Bool :=
  match a, b with
  | .inf s, .inf t => s && !t
  | .inf s, .fin _ _ _ => s
  | .fin _ _ _, .inf t => !t
  | .fin s m e, .fin t n f =>
    let k := min e f
    let x : Int := shl m (e - k)
    let y : Int := shl n (f - k)
    let x := if s then -x else x
    let y := if t then -y else y
    decide (x < y) || (decide (x = y) && s && !t)
  | _, _ => false

/-- MIN or MAX of two values; a NaN stays (Table 9.6). -/
def valMin (greatest : Bool) (a b : Val) : Val :=
  if a.isNan || b.isNan then .nan
  else if greatest then (if valLt a b then b else a)
  else if valLt b a then b else a

/-- Add a floating-point value to an element's accumulator, with its weight (R206, R209, R211, R213). -/
def accumVal (a : Desc) (weight : Nat) (x : Val) (acc : Acc) : Acc × Evt :=
  let ev : Evt := { nan := x.isNan.toNat, inf := x.isInf.toNat }
  if extremal a.op then
    (match acc with | .val v => .val (valMin (a.op == 4) v x) | _ => .val x, ev)
  else if a.exact then
    let y := if a.op = 1 then mulVal (fp32Val weight) x else x
    (.exact (exactAdd y (match acc with | .exact v => v | _ => 0)), ev)
  else
    let (x, o) := fastDecode x
    let y := if a.op = 1 then mulVal (fp32Val weight) x else x
    (.fast (BitVec.ofNat 32 (fp32Add y (match acc with | .fast w => w.toNat | _ => 0x80000000))),
     { ev with ovf := o.toNat })

/-- Combine an integer element with its accumulator (R216); bitwise operations act on the element's bits. -/
def accumInt (a : Desc) (x : Nat) (acc : Acc) : Acc :=
  let w := elemBits a.inFmt
  let v := intValue a.inFmt x
  match acc with
  | .int z =>
    match a.op with
    | 3 => .int (min z v)
    | 4 => .int (max z v)
    | 5 => .int (Nat.land z.toNat x)
    | 6 => .int (Nat.lor z.toNat x)
    | 7 => .int (Nat.xor z.toNat x)
    | 8 => .int ((z + x) % (2 ^ w : Int))
    | _ => .int (z + v)
  | _ => if a.op = 5 ∨ a.op = 6 ∨ a.op = 7 ∨ a.op = 8 then .int x else .int v

/-- Accumulate element `i` of a payload. -/
def accumElem (a : Desc) (weight : Nat) (bs : List Byte) (i : Nat) (acc : Acc) : Acc × Evt :=
  if isFp a.inFmt then accumVal a weight (elemValue a.inFmt bs i) acc
  else (accumInt a (rawElem a.inFmt bs i).1 acc, {})

/-! ## Output of a chunk -/

/-- The value that an element is rounded from; `n` contributors (R208, R212). An element that SPARSE_MERGE names
nowhere is +0 (R218); a fast accumulator that nothing reached still holds −0 (R206). -/
def outValue (a : Desc) (n : Nat) (acc : Acc) : OutVal :=
  match acc with
  | .fast w => .ofVal (fp32Val (if a.op = 2 then fp32Mul w.toNat (fp32Recip n) else w.toNat))
  | .exact v => .ofExact v (if a.op = 2 then n else 1)
  | .val v => .ofVal v
  | .int z => .num (decide (z < 0)) z.natAbs 1
  | .empty => .num (!a.exact && a.op != 10 && summing a.op) 0 1

/-- The code of an integer element at output (R216), and whether it was clamped. -/
def intOut (a : Desc) (acc : Acc) : Nat × Bool :=
  let w := elemBits a.inFmt
  let z : Int := match acc with | .int z => z | _ => 0
  if a.op = 9 then
    let lo : Int := if a.inFmt = 0x14 then 0 else -(2 ^ (w - 1) : Int)
    let hi : Int := if a.inFmt = 0x14 then 2 ^ 64 - 1 else 2 ^ (w - 1) - 1
    (ofSigned w (max lo (min hi z)), decide (z < lo ∨ hi < z))
  else (ofSigned w z, false)

/-- The rounding of element `i`. -/
def Desc.roundOf (a : Desc) (job tag chunk i : Nat) : Round :=
  match a.round with
  | 0 => .rne
  | 1 => .rtz
  | _ => .sr (noiseOf a.seed job tag chunk i)

/-- The bytes of packed element codes (R199). -/
def packCodes (bits : Nat) : List Nat → List Byte
  | [] => []
  | a :: b :: c :: d :: r =>
    if bits = 4 then beBytes 2 (a * 4096 + b * 256 + c * 16 + d) ++ packCodes bits r
    else if bits = 6 then beBytes 3 (((a * 64 + b) * 64 + c) * 64 + d) ++ packCodes bits r
    else beBytes (bits / 8) a ++ beBytes (bits / 8) b ++ beBytes (bits / 8) c ++ beBytes (bits / 8) d ++
      packCodes bits r
  | a :: r => beBytes (bits / 8) a ++ packCodes bits r

/-- What rounding a chunk gives: the packed bytes, and the counts of CAB_OUT_OVF and CAB_OUT_NAN. -/
structure Packed where
  /-- packed output -/
  bytes : List Byte
  /-- elements that overflowed, saturated or clamped -/
  ovf : Nat
  /-- NaN elements and blocks -/
  nan : Nat
  deriving DecidableEq, Repr

/-- One MX block: its scale, its codes and its counts. -/
def outBlock (a : Desc) (f : FpFmt) (job tag chunk n : Nat) (accs : Nat → Acc) (b : Nat) : Nat × List Nat × Nat :=
  let is := (List.range 32).map fun k => 32 * b + k
  mxBlock f (is.map fun i => a.roundOf job tag chunk i) (is.map fun i => outValue a n (accs i))

/-- One block group of an MX output (R200). -/
def outGroup (a : Desc) (f : FpFmt) (job tag chunk n : Nat) (accs : Nat → Acc) (g : Nat) : Packed :=
  let bl := (List.range 8).map fun k => outBlock a f job tag chunk n accs (8 * g + k)
  { bytes := (bl.map fun b => BitVec.ofNat 8 b.1) ++ packCodes f.bits (bl.flatMap fun b => b.2.1),
    ovf := (bl.map fun b => b.2.2).sum,
    nan := (bl.filter fun b => b.1 == 0xFF).length }

/-- A value written unchanged (R216): MIN or MAX whose OUT_FMT equals IN_FMT in a format that is not MX. -/
def outUnchanged (a : Desc) : Bool := extremal a.op && a.outFmt == a.inFmt

/-- One element of an output that is not MX. -/
def outElem (a : Desc) (job tag chunk n : Nat) (acc : Acc) (i : Nat) : Nat × Bool × Bool :=
  match fpFmt a.outFmt with
  | none => let (x, o) := intOut a acc; (x, o, false)
  | some f =>
    match outUnchanged a, acc with
    | true, .val (.inf s) => (f.infCode s, false, false)
    | true, .val (.fin s m e) =>
      let (x, o) := f.roundOut .rne false (.ofVal (.fin s m e))
      (x, o, false)
    | _, _ =>
      let (x, o) := f.roundOut (a.roundOf job tag chunk i) a.sat (outValue a n acc)
      (x, o, f.isNanCode x)

/-- The packed output of a chunk of `a.n` elements (R199 to R201, R214, R215), for any operation but GATHER. -/
def packOut (a : Desc) (job tag chunk n : Nat) (accs : Nat → Acc) : Packed :=
  if isMx a.outFmt then
    match fpFmt a.outFmt with
    | none => ⟨[], 0, 0⟩
    | some f =>
      let gs := (List.range (a.n / 256)).map (outGroup a f job tag chunk n accs)
      ⟨gs.flatMap Packed.bytes, (gs.map Packed.ovf).sum, (gs.map Packed.nan).sum⟩
  else
    let es := (List.range a.n).map fun i => outElem a job tag chunk n (accs i) i
    ⟨packCodes (elemBits a.outFmt) (es.map Prod.fst), (es.filter fun e => e.2.1).length,
     (es.filter fun e => e.2.2).length⟩

/-! ## Digest (R221) -/

/-- The digest after a chunk whose CRC is `c`. -/
def digestStep (d c chunk : Nat) : Nat := (d + c * (2 * chunk + 1)) % 2 ^ 64

end Sys2Proof.Machine
end

