-- ==== Sys2Proof/Config.lean ====
section
/-! DEFINITION. What the manual leaves open: free values, opaque constants without a body. -/
namespace Sys2Proof.Config

/-- TAG[11:0] of an MWRITE or MREAD, which R286 leaves free, by draw. -/
opaque freeTag : Nat → BitVec 12

/-- VID of a frame that MNT_PTP_TX sends on a logical port, which the manual does not state (R307), by draw. -/
opaque freeVid : Nat → BitVec 12

/-- SEQ (bits 47 to 32) and ADDRESS (bits 31 to 0) of an EVENT frame, which R373 does not state, by draw. -/
opaque freeEvent : Nat → BitVec 48

/-- VIN_HTR in mV and the frequency difference of the references, measured values that no command delivers, by draw. -/
opaque freeMeasure : Nat → BitVec 32

/-- Public key of ML-DSA.KeyGen_internal for a seed (FIPS 204), which R377 does not state. -/
opaque mlDsaPub : List Byte → List Byte

/-- ML-DSA-44 signature under the key of a seed over a message, by draw (FIPS 204, R377). -/
opaque mlDsaSign : List Byte → List Byte → Nat → List Byte

/-- A public key, a message and a signature verify under ML-DSA-44 with an empty context (FIPS 204, R362). -/
opaque mlDsaVerify : List Byte → List Byte → List Byte → Bool

end Sys2Proof.Config
end

