-- ==== Sys2Proof/Machine/Budget.lean ====
section
/-! DEFINITION. Expulsion budgets (R348): which expulsions a scope still holds, and taking one; instances out of
service (R426). -/
namespace Sys2Proof.Machine

/-- Expulsions of a budget type and scope within its WINDOW. -/
def Dev.expelled (d : Dev) (n scope : Nat) : Nat :=
  (d.bur.expel.filter fun e =>
    e.1 == n && e.2.1 == scope &&
    decide (d.since e.2.2 ≤ max 1 (d.get F.BUR_BUDGET.WINDOW n) * 800000000)).length

/-- The scope already holds COUNT expulsions within the last WINDOW seconds. -/
def Dev.budgetOut (d : Dev) (n scope : Nat) : Bool := decide (d.get F.BUR_BUDGET.COUNT n ≤ d.expelled n scope)

/-- Count an expulsion in its scope. -/
def Dev.expel (d : Dev) (n scope : Nat) : Dev :=
  { d with bur := { d.bur with expel := d.bur.expel ++ [(n, scope, d.raw)] } }

/-- An instance returns to service (R426). -/
def Dev.backIn (d : Dev) (inst : Nat) : Dev := { d with bur := { d.bur with outs := d.bur.outs.erase inst } }

/-- A HELD instance returns to service when management acts on it (R426). -/
def Dev.heldBack (d : Dev) (inst : Nat) : Dev :=
  match d.bur.outs.find inst with
  | some o => if o.state = 5 then d.backIn inst else d
  | none => d

/-- An instance is out of service by a reaction of the Bureau. -/
def Dev.isOut (d : Dev) (inst : Nat) : Bool := (d.bur.outs.find inst).isSome

/-- The source BUDGET_EXHAUSTED trips: INST names the instance refused, INST2 the budget type. -/
def Dev.budgetExhausted (d : Dev) (n inst : Nat) : Dev := d.raise 43 3 inst n

/-- Take an expulsion if the budget allows it; otherwise BUDGET_EXHAUSTED is raised. True: taken. -/
def Dev.tryExpel (d : Dev) (n scope inst : Nat) : Bool × Dev :=
  if d.budgetOut n scope then (false, d.budgetExhausted n inst) else (true, d.expel n scope)

/-- Take an expulsion that a unit's own rule forces, whatever the budget; BUDGET_EXHAUSTED is still raised. -/
def Dev.forceExpel (d : Dev) (n scope inst : Nat) : Dev :=
  (if d.budgetOut n scope then d.budgetExhausted n inst else d).expel n scope

/-- BUR_BUDGET_STAT: bit n while some scope of type n holds COUNT expulsions within the WINDOW. -/
def Dev.budgetStat (d : Dev) : Nat :=
  ((List.range 6).map fun n =>
    if d.bur.expel.any (fun e => e.1 == n && d.budgetOut n e.2.1) ∨ d.get F.BUR_BUDGET.COUNT n = 0 then 2 ^ n
    else 0).sum

end Sys2Proof.Machine
end

