-- ==== Sys2Proof/Machine/Rings.lean ====
section
/-! DEFINITION. The rings of the optical engines: state, window, sweep, failure and retirement (R68 to R76). -/
namespace Sys2Proof.Machine

/-- The register index of a ring: select (0) or drop (1) ring of a lane of a physical port (R68). -/
def ringIx (port lane drop : Nat) : Nat := 576 * (port / 16) + 36 * (port % 16) + 2 * lane + drop

/-- The physical port of a ring. -/
def ringPort (x : Nat) : Nat := 16 * (x / 576) + x % 576 / 36

/-- The lane of a ring. -/
def ringLane (x : Nat) : Nat := x % 36 / 2

/-- A drop ring. -/
def ringDrop (x : Nat) : Bool := x % 2 == 1

/-- A ring's record. -/
def Dev.ring (d : Dev) (x : Nat) : RingSt := d.oe.rings.at {} x

/-- Change a ring's record. -/
def Dev.updRing (d : Dev) (x : Nat) (f : RingSt → RingSt) : Dev :=
  { d with oe := { d.oe with rings := d.oe.rings.upd {} x f } }

/-- The state of a ring (Table 3.3). -/
def Dev.ringState (d : Dev) (x : Nat) : Nat := d.get F.OE_RING_STAT.STATE x

/-- MODE of a ring (Table 3.11). -/
def Dev.ringMode (d : Dev) (x : Nat) : Nat := d.get F.OE_RING_CTL.MODE x

/-- The heater code of a ring. -/
def Dev.heater (d : Dev) (x : Nat) : Nat := d.get F.OE_RING_CTL.HEATER x

/-- Set a heater code, within 0 to 65,535. -/
def Dev.setHeater (d : Dev) (x : Nat) (h : Int) : Dev := d.set F.OE_RING_CTL.HEATER x (min h.toNat 65535)

/-- Enter a ring state. RX_LOCK of the lane follows the drop ring. -/
def Dev.ringGo (d : Dev) (x st : Nat) : Dev :=
  let d := d.set F.OE_RING_STAT.STATE x st
  if ringDrop x then d.setB F.LNK_LANE_STAT.RX_LOCK (18 * ringPort x + ringLane x) (st == 4) else d

/-- tempco, signed, in 1/16 code per °C. -/
def Dev.tempco (d : Dev) (x : Nat) : Int := toSigned 16 (d.get F.OE_RING_TEMPCO.TEMPCO x)

/-- The centre of the commissioned window at a ring temperature (R71). -/
def Dev.ringCentre (d : Dev) (x : Nat) (t : Int) : Int :=
  (d.get F.OE_RING_CAL.COMM_CODE x : Int) +
    (d.tempco x * (t - 4 * (d.get F.OE_RING_CAL.T_COMM x : Int))).tdiv 128

/-- The half-width in codes. -/
def Dev.halfCodes (d : Dev) (x : Nat) : Int := 32 * (d.get F.OE_RING_CAL.HALF_WIDTH x : Int)

/-- in_window of R71. -/
def Dev.inWindow (d : Dev) (x : Nat) (t : Int) : Bool :=
  decide (((d.heater x : Int) - d.ringCentre x t).natAbs ≤ (d.halfCodes x).toNat)

/-- An uncommissioned ring: its window check is not applied (R71). -/
def Dev.uncommissioned (d : Dev) (x : Nat) : Bool := d.get F.OE_RING_CAL.COMM_CODE x == 0

/-- Start a sweep at the cold side of the window, or at code 0 for an uncommissioned ring (R74). -/
def Dev.ringSweep (d : Dev) (x : Nat) : Dev :=
  let cold : Int := if d.uncommissioned x then 0 else d.ringCentre x (d.ring x).temp - d.halfCodes x
  (d.ringGo x 2).setHeater x cold

/-- Set the role of a lane in one direction (Table 2.16). -/
def Dev.setRole (d : Dev) (port lane : Nat) (rx : Bool) (role : Nat) : Dev :=
  d.set (if rx then F.LNK_LANE_CFG.RX_ROLE else F.LNK_LANE_CFG.TX_ROLE) (18 * port + lane) role

/-- A spare whose ring goes OUT takes role 110 (Table 3.3). -/
def Dev.spareOut (d : Dev) (port lane : Nat) (rx : Bool) : Dev :=
  if d.get (if rx then F.LNK_LANE_CFG.RX_ROLE else F.LNK_LANE_CFG.TX_ROLE) (18 * port + lane) = 4 then d.setRole port lane rx 6
  else d

/-- Enter OUT, to be re-acquired: the sweep starts at once up to the first failure in ten minutes, and by
OUT_RETRY_TIMER after later ones (R73). -/
def Dev.ringOut (d : Dev) (x : Nat) : Dev :=
  let d := (d.ringGo x 6).updRing x fun r => { r with reacq := true, ok := 0 }
  let d := d.spareOut (ringPort x) (ringLane x) (ringDrop x)
  if d.get F.OE_RING_STAT.FAIL_CNT x ≤ 1 ∧ d.ringMode x = 1 then d.ringSweep x else d

/-- Re-acquire a ring that holds its lane's line: LOCKED (or HOLD) to OUT. -/
def Dev.ringReacquire (d : Dev) (x : Nat) : Dev :=
  if d.ringState x = 4 ∨ d.ringState x = 5 then d.ringOut x else d

/-- INST of a ring's lane. -/
def ringInst (x : Nat) : Nat := instLane (ringPort x) (ringLane x)

/-- A re-acquisition fails (R75): the third failure in ten minutes retires the ring and the lane. -/
def Dev.ringFail (d : Dev) (x : Nat) : Dev :=
  let oe := x / 576
  let n := d.get F.OE_RING_STAT.FAIL_CNT x + 1
  let d := (d.count .OE_REACQ_FAIL_CNT oe).set F.OE_RING_STAT.FAIL_CNT x (min n 3)
  if 3 ≤ n then
    let d := ((d.ringGo x 7).setHeater x 0).updRing x fun r => { r with reacq := false, ok := 0 }
    ((d.setRole (ringPort x) (ringLane x) (ringDrop x) 5).count .OE_LANE_RETIRE_CNT oe).raise (16 + oe) 3 (ringInst x)
  else d.ringOut x

/-- A ring starts automatic acquisition: ramp to the window centre (R73), or, after a safe stop, stay at the latched
code (R91). An uncommissioned ring, which has no window centre, heats to code 0, where its sweep starts (DESIGN CHOICE,
log 160). -/
def Dev.ringPreheat (d : Dev) (x : Nat) : Dev :=
  if d.ringMode x = 1 then
    let kept := (d.ring x).latched
    let d := (d.ringGo x 1).updRing x fun r => { r with reacq := true, ok := 0, latched := false }
    if kept then d else d.setHeater x (if d.uncommissioned x then 0 else d.ringCentre x (d.ring x).temp)
  else d

/-- Put a ring in HOLD at its code (R73). -/
def Dev.ringHold (d : Dev) (x : Nat) : Dev :=
  (d.ringGo x 5).updRing x fun r => { r with held := d.heater x, heldT := r.temp, unlit := false }

/-- A LOCKED drop ring that loses its light holds its code (R73). -/
def Dev.ringUnlit (d : Dev) (x : Nat) : Dev :=
  if d.ringState x = 4 then (d.ringHold x).updRing x fun r => { r with unlit := true } else d

/-- The drop rings of a physical port in a state, moved to another. -/
def Dev.dropRings (d : Dev) (port : Nat) (st : Nat) (f : Dev → Nat → Dev) : Dev :=
  d.each (List.range 18) fun d j => if d.ringState (ringIx port j 1) = st then f d (ringIx port j 1) else d

end Sys2Proof.Machine
end

