-- ==== Sys2Proof/Machine/Fabric.lean ====
section
/-! DEFINITION. The switch core's bookkeeping (chapter 7): ingress accounts, credits, egress queues, the crossbar's
input lanes, admission and discard of frames. -/
namespace Sys2Proof.Machine

/-! ## Frame records -/

/-- A frame record. -/
def Dev.frm (d : Dev) (fid : Nat) : Option Frm := d.core.frames.find fid

/-- Write a frame record. -/
def Dev.putFrm (d : Dev) (fid : Nat) (f : Frm) : Dev :=
  d.updCore fun c => { c with frames := c.frames.insert fid f }

/-- Remove a frame record. -/
def Dev.delFrm (d : Dev) (fid : Nat) : Dev :=
  d.updCore fun c => { c with frames := c.frames.erase fid }

/-- A new frame record and its number; a frame new in the device takes its device-wide number from it. -/
def Dev.newFrm (d : Dev) (f : Frm) : Nat × Dev :=
  (d.core.nextFid,
   d.updCore fun c =>
    { c with
      nextFid := c.nextFid + 1
      frames := c.frames.insert c.nextFid { f with uid := if f.uid = 0 then c.nextFid + 1 else f.uid } })

/-- Cells of a frame record. -/
def Frm.cells (f : Frm) : Nat := cellsOf f.bytes

/-- A frame with nothing of it released, promoted, sent or spilled yet. -/
def Frm.fresh (f : Frm) : Frm :=
  { f with arrived := 0, here := 0, prom := 0, released := 0, sent := 0, spilled := false, deep := false }

/-- The class index for credits and accounts: 8 is the spine pool of TC4 (R49), whose frames have SRC_TYPE 01. -/
def Frm.ci (f : Frm) : Nat := if f.cls = 4 ∧ fFormat f.bytes = 0 ∧ fSrcType f.bytes = 1 then 8 else f.cls

/-- A lossless class (R47). -/
def lossless (cls : Nat) : Bool := decide (2 ≤ cls)

/-! ## Queues, triples and accounts -/

/-- An egress queue. -/
def Dev.queue (d : Dev) (die out cls : Nat) : Queue := d.core.queues.at {} (key3 die out cls)

/-- Change an egress queue. -/
def Dev.updQueue (d : Dev) (die out cls : Nat) (f : Queue → Queue) : Dev :=
  d.updCore fun c => { c with queues := c.queues.upd {} (key3 die out cls) f }

/-- The queue of a logical port and class. -/
def Dev.lpQueue (d : Dev) (lp cls : Nat) : Queue := d.queue (lp / 64) (lp % 64) cls

/-- Depth under R184 and R192: cells in the buffer plus deep-buffer slots. -/
def Queue.whole (q : Queue) : Nat := q.depth + q.slots

/-- A crossbar triple. -/
def Dev.triple (d : Dev) (die lane grp cls : Nat) : Triple := d.core.triples.at {} (key4 die lane grp cls)

/-- Change a crossbar triple. -/
def Dev.updTriple (d : Dev) (die lane grp cls : Nat) (f : Triple → Triple) : Dev :=
  d.updCore fun c => { c with triples := c.triples.upd {} (key4 die lane grp cls) f }

/-- An ingress account. -/
def Dev.acct (d : Dev) (die src ci : Nat) : Acct := d.core.accts.at {} (key3 die src ci)

/-- Change an ingress account. -/
def Dev.updAcct (d : Dev) (die src ci : Nat) (f : Acct → Acct) : Dev :=
  d.updCore fun c => { c with accts := c.accts.upd {} (key3 die src ci) f }

/-- A mesh end. -/
def Dev.meshEnd (d : Dev) (die dir : Nat) : MeshEnd := d.core.ends.at {} (key2 die dir)

/-- Change a mesh end. -/
def Dev.updEnd (d : Dev) (die dir : Nat) (f : MeshEnd → MeshEnd) : Dev :=
  d.updCore fun c => { c with ends := c.ends.upd {} (key2 die dir) f }

/-- The breakout in force of a physical port (R31). -/
def Dev.breakout (d : Dev) (port : Nat) : Nat := d.core.breakout.at 0 port

/-- Logical ports that a breakout defines (R31; none under the reserved code 11). -/
def lpsOfBreakout (b : Nat) : Nat := match b with | 0 => 1 | 1 => 2 | 2 => 4 | _ => 0

/-- The reserve of an ingress account in cells (R161, R163): the two pools of TC4 share XBAR_RSV[4]. -/
def Dev.reserve (d : Dev) (die src ci : Nat) : Nat :=
  let cls := if ci = 8 then 4 else ci
  let base :=
    if src < 64 then d.get F.XBAR_RSV.CELLS (8 * die + cls)
    else if src < 68 then d.get F.XBAR_MESH_RSV.CELLS die
    else d.get F.XBAR_LOCAL_RSV.CELLS die
  let spine := d.get F.XBAR_RSV4S.CELLS die
  if 68 ≤ src then base
  else if ci = 8 then spine else if ci = 4 then base - spine else base

/-- The sum of every ingress-account reserve of a die (R161). -/
def Dev.reserveSum (d : Dev) (die : Nat) : Nat :=
  let perLp := ((List.range 8).map fun c => d.get F.XBAR_RSV.CELLS (8 * die + c)).sum
  let lpCount :=
    if die < 16 then ((List.range 16).map fun k => lpsOfBreakout (d.breakout (16 * die + k))).sum else 0
  let dirs := ((List.range 4).filter fun x => (meshNbr die x).isSome).length
  lpCount * perLp + dirs * 8 * d.get F.XBAR_MESH_RSV.CELLS die + 2 * 8 * d.get F.XBAR_LOCAL_RSV.CELLS die

/-- shared_size of a die (R161). -/
def Dev.sharedSize (d : Dev) (die : Nat) : Nat := 262144 - d.reserveSum die

/-- Shared cells in use. -/
def Dev.sharedUsed (d : Dev) (die : Nat) : Nat := d.get F.XBAR_SHARED_USED.CELLS die

/-- The dynamic limit of a class (R164). -/
def Dev.limit (d : Dev) (die cls : Nat) : Nat :=
  let free := d.sharedSize die - d.sharedUsed die
  free * 2 ^ bitsOf (d.rd .XBAR_ALPHA die).toNat (4 * cls + 3) (4 * cls) / 128

/-- Return credits to the source of an account (R48, R163, R18): a logical port, of a lossless class, or a mesh
neighbour, of any class. -/
def Dev.returnCredit (d : Dev) (die src ci n : Nat) : Dev :=
  if n = 0 ∨ (ci < 2 ∧ src < 64) then d
  else if src < 64 then
    let idx := if ci = 8 then 0 else ci
    d.updLp (64 * die + src) fun l => { l with credOut := l.credOut.upd 0 idx fun v => (v + n) % 65536 }
  else if src < 68 then
    d.updEnd die (src - 64) fun e => { e with credOut := e.credOut.upd 0 ci fun v => (v + n) % 65536 }
  else d

/-- Free `k` shared cells and `r` reserve cells of an account, and return `c` credits. -/
def Dev.freeCells (d : Dev) (die src ci k r c : Nat) : Dev :=
  let d := d.updAcct die src ci fun a => { a with shared := a.shared - k, resv := a.resv - r }
  let d := d.set F.XBAR_SHARED_USED.CELLS die (d.sharedUsed die - k)
  d.returnCredit die src ci c

/-- The crossbar input lane of a frame's cells (Table 1.3). Of the lanes of a mesh direction, of the home group or of
local services, frames of one source take one lane, so that their order holds (R160). -/
def laneOf (f : Frm) : Nat :=
  if f.acct < 64 then f.acct / 4
  else if f.acct < 68 then 16 + 20 * (f.acct - 64) + f.src % 20
  else if f.acct = 68 then 96 + f.src % 8
  else 104 + f.src % 8

/-- The output group of an egress queue (Table 7.2): port k as k, mesh direction d as 16 + d, home 20, local 21. -/
def groupOf (out : Nat) : Nat := if out < 64 then out / 4 else out - 48

/-! ## Discard and departure -/

/-- No ingress account holds the cells of a frame in the deep buffer, or read back from it. -/
def Frm.uncharged (f : Frm) : Bool := f.spilled || f.deep

/-- A queue with no spilled frame and a depth below XBAR_SPILL_OFF returns to NORMAL (R168). -/
def Queue.settle (off : Nat) (q : Queue) : Queue :=
  if q.spill = [] ∧ q.depth < off then { q with spilling := false } else q

/-- XBAR_SPILL_OFF of a die. -/
def Dev.spillOff (d : Dev) (die : Nat) : Nat := d.get F.XBAR_SPILL_OFF.CELLS die

/-- One cell of a frame leaves the die (R163): its account is freed and the queue's depth falls. -/
def Dev.cellLeave (d : Dev) (fid : Nat) : Dev :=
  match d.frm fid with
  | none => d
  | some f =>
    let shared := decide (f.sent < f.prom)
    let reserved := !shared && decide (f.sent < f.arrived)
    let off := d.spillOff f.die
    let d := if f.uncharged then d
      else d.freeCells f.die f.acct f.ci shared.toNat reserved.toNat (if f.copy then 0 else reserved.toNat)
    let d := d.updAcct f.die f.acct f.ci fun a =>
      if f.sent + 1 = f.cells then { a with order := a.order.filter (fun x => x != fid) } else a
    let d := d.updQueue f.die f.outq f.cls fun q => { q with depth := q.depth - 1 }.settle off
    d.putFrm fid { f with sent := f.sent + 1, prom := max f.prom (f.sent + 1) }

/-- Remove a frame from its die: accounts, queue and record (its cells still in the crossbar are dropped when
they are released). -/
def Dev.removeFrm (d : Dev) (fid : Nat) : Dev :=
  match d.frm fid with
  | none => d
  | some f =>
    let k := f.prom - f.sent
    let r := f.arrived - max f.prom f.sent
    let off := d.spillOff f.die
    let d := if f.uncharged then d
      else d.freeCells f.die f.acct f.ci k r (if f.copy then 0 else f.here - max f.prom f.sent)
    let d := d.updAcct f.die f.acct f.ci fun a => { a with order := a.order.filter (fun x => x != fid) }
    let d := d.updQueue f.die f.outq f.cls fun q =>
      { q with
        depth := if f.spilled then q.depth else q.depth - (f.cells - f.sent)
        slots := if f.spilled then q.slots - (f.cells + 1) else q.slots
        frames := q.frames.filter (fun x => x != fid)
        spill := q.spill.filter (fun x => x != fid)
        cur := match q.cur with | some (g, o) => if g = fid then none else some (g, o) | none => none }.settle off
    d.delFrm fid

/-- Whether transmission of a frame has begun at its die. -/
def Dev.begun (d : Dev) (f : Frm) (fid : Nat) : Bool :=
  decide (0 < f.sent) || (match (d.queue f.die f.outq f.cls).cur with | some (g, _) => g == fid | none => false)

/-- The rest of a frame will never come: it is removed, or completed with an inverted FCS if a port has begun it. -/
def Dev.cutFrm (d : Dev) (fid : Nat) : Dev :=
  match d.frm fid with
  | none => d
  | some f =>
    if f.outq < 64 ∧ d.begun f fid then
      d.putFrm fid { f with lost := true, part := false, here := f.cells, released := f.cells }
    else d.removeFrm fid

/-! ## The contribution buffer of a Cabinet die (R175, R241) -/

/-- Cells that a Cabinet die's contribution buffer holds: 8 MiB. -/
def contribBuf : Nat := 32768

/-- An ingress account still holds the cells of a frame that waits at its unit. -/
def Frm.charged (f : Frm) : Bool := decide (f.arrived ≠ 0)

/-- The frames that wait at the unit of a Cabinet die, oldest first. -/
def Dev.cabInbox (d : Dev) (die : Nat) : List Frm := d.core.inbox.at [] (key2 die 1)

/-- Cells in the contribution buffer of a Cabinet die. -/
def Dev.bufUsed (d : Dev) (die : Nat) : Nat :=
  (((d.cabInbox die).filter fun f => !f.charged).map Frm.cells).sum

/-- The contribution buffer of a die is full: a frame waits for room in it, and no TC2 mesh credit returns. -/
def Dev.bufFull (d : Dev) (die : Nat) : Bool := (d.cabInbox die).any Frm.charged

/-- A frame's cells are freed in its account, with the credit of those that no promotion returned. -/
def Dev.uncharge (d : Dev) (f : Frm) : Dev :=
  d.freeCells f.die f.acct f.ci (f.prom - f.sent) (f.arrived - max f.prom f.sent) (f.here - max f.prom f.sent)

/-- The oldest frame that waits for room enters the contribution buffer once there is room for it. -/
def Dev.bufNext (d : Dev) (die : Nat) : Dev :=
  match (d.cabInbox die).find? Frm.charged with
  | none => d
  | some f =>
    if d.bufUsed die + f.cells ≤ contribBuf then
      (d.uncharge f).updCore fun c =>
        { c with inbox := c.inbox.put [] (key2 die 1) ((d.cabInbox die).map fun g => if g = f then f.fresh else g) }
    else d

/-- Room in the contribution buffer is given to the frames that wait for it. -/
def Dev.bufFill (d : Dev) (die : Nat) : Dev := d.each (d.cabInbox die) fun d _ => d.bufNext die

/-! ## Promotion (R163) -/

/-- Promote the oldest reserve cell of an account to the shared part and return one credit, if the account's
shared count is below the limit and the shared part has a free cell. TC2 of a Cabinet die whose contribution buffer is full
returns no credit (R241). -/
def Dev.promote (d : Dev) (die src ci : Nat) : Dev :=
  if 16 ≤ die ∧ ci = 2 ∧ d.bufFull die then d
  else
  let a := d.acct die src ci
  let cls := if ci = 8 then 4 else ci
  match a.order with
  | [] => d
  | fid :: _ =>
    match d.frm fid with
    | none => d.updAcct die src ci fun a => { a with order := a.order.drop 1 }
    | some f =>
      if f.prom < f.here ∧ a.shared < d.limit die cls ∧ d.sharedUsed die < d.sharedSize die then
        let d := d.putFrm fid { f with prom := f.prom + 1 }
        let d := d.updAcct die src ci fun a =>
          { a with resv := a.resv - 1, shared := a.shared + 1,
                   order := if f.prom + 1 = f.cells then a.order.drop 1 else a.order }
        let d := d.set F.XBAR_SHARED_USED.CELLS die (d.sharedUsed die + 1)
        if f.copy then d else d.returnCredit die src ci 1
      else d

/-! ## Entering a die -/

/-- Charge `n` arriving cells of a frame to the reserve of its account. -/
def Dev.chargeReserve (d : Dev) (fid n : Nat) : Dev :=
  match d.frm fid with
  | none => d
  | some f =>
    let d := d.putFrm fid { f with arrived := f.arrived + n, here := f.here + n }
    d.updAcct f.die f.acct f.ci fun a =>
      { a with resv := a.resv + n, order := if a.order.contains fid then a.order else a.order ++ [fid] }

/-- The cells `i` to `i + n − 1` of a frame arrive on their input lane of the crossbar (R158). -/
def Dev.intoCrossbar (d : Dev) (fid : Nat) (f : Frm) (i n : Nat) : Dev :=
  d.updCore fun c =>
    { c with lanes := c.lanes.upd [] (key2 f.die (laneOf f)) fun l =>
        l ++ (List.range n).map fun k => { grp := groupOf f.outq, cls := f.cls, fid := fid, idx := i + k } }

/-- The class may spill from a queue (R168). -/
def Dev.maySpill (d : Dev) (die out cls : Nat) : Bool :=
  decide (die < 16) && decide (out < 64) && d.bit F.XBAR_CFG.SPILL_EN die &&
  (if cls = 1 then bitAt (d.get F.XBAR_CFG.SPILL_CLASS die) 1
   else if cls = 0 then bitAt (d.get F.XBAR_CFG.SPILL_CLASS die) 0 else false)

/-- The outcome of R165 and R168 for a lossy frame of `n` cells: refused, admitted to the buffer from the
reserve or the shared part, or written to the deep buffer. -/
inductive Admit where
  | refused | spillRefused
  | buffer (fromShared : Bool)
  | deep
  deriving DecidableEq, Repr

/-- Free slots of a tile's deep buffer: its share of the partition less the slots its queues hold. -/
def Dev.deepFree (d : Dev) (t : Nat) : Nat :=
  d.core.deep.at 0 t - (d.core.queues.map fun e => if (Nat.unpair e.1).1 = t then e.2.slots else 0).sum

/-- Slots written to the deep buffer of a tile in the present microsecond of the raw counter. -/
def Dev.spillNow (d : Dev) (t : Nat) : Nat :=
  let w := d.core.spillBw.at (0, 0) t
  if w.1 = d.raw / 800 then w.2 else 0

/-- `n` more slots of 2,048 bits would take the spill writes of a tile above SPILL_BW (R169), measured over each
microsecond of the raw counter (DESIGN CHOICE, log 178). -/
def Dev.spillBwOver (d : Dev) (t n : Nat) : Bool :=
  decide (100000 * max 1 (d.get F.XBAR_SPILL_BW.RATE t) < 2048 * (d.spillNow t + n))

/-- Admission of a lossy frame (R165), with the spill decision (R168, R169). -/
def Dev.admitLossy (d : Dev) (f : Frm) : Admit :=
  let n := f.cells
  let a := d.acct f.die f.acct f.ci
  let lim := d.limit f.die f.cls
  let fromReserve := decide (a.resv + n ≤ d.reserve f.die f.acct f.ci)
  let fromShared := decide (a.shared + n ≤ lim ∧ d.sharedUsed f.die + n ≤ d.sharedSize f.die)
  let q := d.queue f.die f.outq f.cls
  let spill := q.spilling ||
    (d.maySpill f.die f.outq f.cls && decide (d.get F.XBAR_SPILL_ON.CELLS f.die ≤ q.depth))
  if (!fromReserve && !fromShared) || decide (lim < q.depth + n) then .refused
  else if spill then
    if q.slots + n + 1 > d.get F.XBAR_SPILL_MAX.SLOTS f.die ∨ d.deepFree f.die < n + 1 ∨ d.spillBwOver f.die (n + 1) then
      .spillRefused
    else .deep
  else .buffer (!fromReserve)

/-- The depth of a queue rises; the highest since the last sample is kept (R194). -/
def Queue.grow (q : Queue) (n : Nat) : Queue :=
  { q with depth := q.depth + n, dmax := max q.dmax (q.depth + n + q.slots) }

/-- Count a frame dropped on its way into a queue (R194). -/
def Dev.countDrop (d : Dev) (die out cls : Nat) : Dev :=
  d.updQueue die out cls fun q => { q with drops := q.drops + 1 }

/-- A lossy frame enters a die as a whole under R165, with its first `k` cells here; its record if it was admitted. Cells
that no reserve holds return their credit as they arrive. -/
def Dev.enterLossy (d : Dev) (f : Frm) (k : Nat) : Option Nat × Dev :=
  let n := f.cells
  match d.admitLossy f with
  | .refused => 
    (none, ((d.count .XBAR_ADMIT_DROP (8 * f.die + f.cls)).pulse f.die 0x003 1 (some f.outq) (some f.cls) none).countDrop
      f.die f.outq f.cls)
  | .spillRefused => (none, (d.count .XBAR_SPILL_DROP f.die).countDrop f.die f.outq f.cls)
  | .buffer sh =>
    let (fid, d) := d.newFrm { f.fresh with arrived := n, here := k, prom := if sh then n else 0 }
    let d := d.updAcct f.die f.acct f.ci fun a =>
      if sh then { a with shared := a.shared + n }
      else { a with resv := a.resv + n, order := a.order ++ [fid] }
    let d := if sh then d.set F.XBAR_SHARED_USED.CELLS f.die (d.sharedUsed f.die + n) else d
    let d := if sh && !f.copy then d.returnCredit f.die f.acct f.ci k else d
    let d := d.updQueue f.die f.outq f.cls (·.grow n)
    (some fid, d.intoCrossbar fid f 0 k)
  | .deep =>
    -- the cells pass the crossbar and leave the buffer for the deep buffer (R168): n + 1 slots
    let (fid, d) := d.newFrm { f.fresh with arrived := n, here := k, spilled := true }
    let d := if f.copy then d else d.returnCredit f.die f.acct f.ci k
    let d := d.updQueue f.die f.outq f.cls fun q =>
      { q with spilling := true, slots := q.slots + n + 1, spill := q.spill ++ [fid],
               dmax := max q.dmax (q.depth + q.slots + n + 1) }
    let d := d.updCore fun c => { c with spillBw := c.spillBw.put (0, 0) f.die (d.raw / 800, d.spillNow f.die + n + 1) }
    let d := (d.add64 .XBAR_SPILL_CELLS f.die (n + 1)).pulse f.die 0x00C (n + 1) (some (f.outq % 64)) (some f.cls) none
    (some fid, d.intoCrossbar fid f 0 k)

/-- A lossless frame enters a die, or a frame that a unit there originates: its cells are charged to the
reserve and go into the crossbar of a tile, or straight to the mesh output of a Cabinet die. -/
def Dev.enterLossless (d : Dev) (f : Frm) (n : Nat) : Nat × Dev :=
  let (fid, d) := d.newFrm f.fresh
  let d := d.chargeReserve fid n
  let d := d.updQueue f.die f.outq f.cls (·.grow f.cells)
  if f.die < 16 then (fid, d.intoCrossbar fid f 0 n)
  else
    let d := match d.frm fid with | some g => d.putFrm fid { g with released := n } | none => d
    (fid, d.updQueue f.die f.outq f.cls fun q => { q with frames := q.frames ++ [fid] })

/-- Some record of a frame in reception returns the credit of its cells to an account. -/
def Dev.rxCharged (d : Dev) (l : List Nat) (acct : Nat) : Bool :=
  l.any fun x => match d.frm x with | some f => f.acct == acct && !f.copy | none => false

/-- Put a consumed frame into the inbox of its unit: key (die, kind), kind as in Table 7.1. -/
def Dev.toInbox (d : Dev) (die kind : Nat) (f : Frm) : Dev :=
  d.updCore fun c => { c with inbox := c.inbox.upd [] (key2 die kind) (fun l => l ++ [f]) }

/-- The egress queue by which a frame leaves a die on its way to its destination: a mesh direction, or at the
destination die the logical port, home or local group. -/
def outqOf (die : Nat) (dest : Dest) : Nat :=
  match meshDir die dest.die with
  | some dir => 64 + dir
  | none => if dest.kind = 0 then dest.id % 64 else if dest.kind = 2 then 68 else 69

/-! ## Cells with a generation bit (R151) -/

/-- The frames of a mesh output that the far end has not taken yet, each once: on the wire, or kept for a replay. -/
def Dev.meshOut (d : Dev) (die dir : Nat) : List MeshFrame :=
  let rx := match meshNbr die dir with | some c => (d.meshEnd c (meshOpp dir)).rxNum | none => 0
  ((d.core.wire.at [] (key2 die dir) ++ (d.meshEnd die dir).store).foldl
    (fun l m => if l.any (fun x => x.num == m.num) then l else l ++ [m]) []).filter
    fun m => decide ((m.num + 65536 - rx) % 65536 < 32768)

/-- The cells of a mesh output that the far end has not taken yet. -/
def Dev.meshOutCells (d : Dev) (die dir : Nat) : List WireCell := (d.meshOut die dir).flatMap (·.cells)

/-- Cells that a die holds with a generation bit (R151): those that have arrived and not left, in the crossbar, in
buffers and in the deep buffer, and those on its mesh outputs. -/
def Dev.drainCells (d : Dev) (die g : Nat) : Nat :=
  (d.core.frames.map fun e => if e.2.die = die ∧ e.2.gen = g then e.2.here - e.2.sent else 0).sum +
  ((List.range 4).map fun dir => ((d.meshOutCells die dir).filter fun c => c.frm.gen == g).length).sum

/-! ## Frames whose rest will not come (R167, R174, R425) -/

/-- More cells of a frame can still reach its die: its bytes are still arriving at the port, or the die that it comes
from holds it or has it on the link. -/
def Dev.fed (d : Dev) (f : Frm) : Bool :=
  f.part || decide (f.cells ≤ f.here) ||
  match meshNbr f.die f.via with
  | none => false
  | some u =>
    d.core.frames.any (fun e => e.2.uid == f.uid && e.2.die == u && e.2.outq == 64 + meshOpp f.via) ||
    (d.meshOutCells u (meshOpp f.via)).any (fun c => c.frm.uid == f.uid && decide (f.here ≤ c.idx))

/-- Cut every frame whose rest will not come: after the failure of a link its cells are counted in XBAR_LINK_DROP
(R174), otherwise it counts as poisoned (R167). -/
def Dev.orphanPass (d : Dev) (link : Bool) : Dev :=
  d.each (d.core.frames.filter fun e => !d.fed e.2 && !e.2.lost) fun d e =>
    (if link then d.add .XBAR_LINK_DROP e.2.die (e.2.here - e.2.sent) else d.count .XBAR_POISON e.2.die).cutFrm e.1

/-- The same along every route: at most eight links. -/
def Dev.orphans (d : Dev) (link : Bool) : Dev := d.each (List.range 8) fun d _ => d.orphanPass link

end Sys2Proof.Machine
end

