-- ==== Sys2Proof/Machine/Crossbar.lean ====
section
/-! DEFINITION. The cycles of the crossbar of every tile (R157, R158, Tables 1.3 and 7.2): staging queues, the two
connection patterns, and the intermediates with their group FIFOs and caps. -/
namespace Sys2Proof.Machine

/-- The intermediate that input lane `i` feeds in cycle `n`. -/
def stageOne (n i : Nat) : Nat := (i + n) % 112

/-- The output lane that intermediate `m` feeds in cycle `n`. -/
def stageTwo (n m : Nat) : Nat := (m + n) % 112

/-- The output group of a lane of tile `t`; the lanes of an absent neighbour belong to none (R21). -/
def laneGroup (t lane : Nat) : Option Nat :=
  if lane < 16 then some lane
  else if lane < 96 then
    match meshNbr t ((lane - 16) / 20) with
    | some _ => some (16 + (lane - 16) / 20)
    | none => none
  else if lane < 104 then some 20 else some 21

/-- Cap of a group's FIFO in an intermediate (Table 7.2). -/
def groupCap (g : Nat) : Nat := if g < 16 then 4 else if g < 20 then 80 else 32

/-- The FIFO of a group in intermediate `m` of a tile. -/
def CoreSt.fifo (c : CoreSt) (t m g : Nat) : List MidCell := c.mids.at [] (key3 t m g)

/-- Cells that an intermediate holds. -/
def CoreSt.midFill (c : CoreSt) (t m : Nat) : Nat := ((List.range 22).map fun g => (c.fifo t m g).length).sum

/-- Stage 2 of a cycle for one FIFO: intermediate `m` delivers its head if the lane it feeds is one of the group. -/
def CoreSt.deliver (c : CoreSt) (k : Nat) : CoreSt :=
  let t := (Nat.unpair k).1
  let m := (Nat.unpair (Nat.unpair k).2).1
  let g := (Nat.unpair (Nat.unpair k).2).2
  if laneGroup t (stageTwo c.cyc m) = some g then
    match c.mids.at [] k with
    | [] => c
    | x :: r =>
      { c with
        mids := c.mids.put [] k r
        triples := c.triples.upd {} (key4 t x.lane g x.cls) fun y => { y with cells := y.cells ++ [(x.seq, x.fid, x.idx)] } }
  else c

/-- A staged cell may be sent to an intermediate: its group's FIFO there is below the cap. -/
def CoreSt.room (c : CoreSt) (t m : Nat) (x : Staged) : Bool := decide ((c.fifo t m x.grp).length < groupCap x.grp)

/-- The cell that an input lane sends to intermediate `m`: the oldest of its staging queue of 64 that finds room, if
the intermediate holds fewer than 128 cells. -/
def CoreSt.pick (c : CoreSt) (t lane m : Nat) : Option Staged :=
  if c.midFill t m < 128 then ((c.lanes.at [] (key2 t lane)).take 64).find? (c.room t m) else none

/-- Stage 1 of a cycle for one input lane: the cell sent takes the next SEQ of its triple (R159). -/
def CoreSt.send (c : CoreSt) (k : Nat) : CoreSt :=
  let t := (Nat.unpair k).1
  let lane := (Nat.unpair k).2
  let m := stageOne c.cyc lane
  match c.pick t lane m with
  | none => c
  | some x =>
    let seq := (c.triples.at {} (key4 t lane x.grp x.cls)).nextSeq
    { c with
      lanes := c.lanes.put [] k ((c.lanes.at [] k).erase x)
      mids := c.mids.upd [] (key3 t m x.grp) (· ++ [{ lane := lane, cls := x.cls, seq := seq, fid := x.fid, idx := x.idx }])
      triples := c.triples.upd {} (key4 t lane x.grp x.cls) fun y => { y with nextSeq := (seq + 1) % 65536 } }

/-- One cycle of CLK_CORE: stage 2 on the cells that the intermediates hold, stage 1, and the count (R157). -/
def CoreSt.cycle (c : CoreSt) : CoreSt :=
  let c := c.mids.keys.foldl CoreSt.deliver c
  let c := c.lanes.keys.foldl CoreSt.send c
  { c with cyc := (c.cyc + 1) % 112 }

/-- Cells are on their way through a crossbar. -/
def CoreSt.crossing (c : CoreSt) : Bool := !c.lanes.isEmpty || !c.mids.isEmpty

/-- `n` cycles; with nothing on its way only the count moves. -/
def CoreSt.cycles : Nat → CoreSt → CoreSt
  | 0, c => c
  | n + 1, c => if c.crossing then CoreSt.cycles n c.cycle else { c with cyc := (c.cyc + n + 1) % 112 }

/-- `n` cycles of CLK_CORE pass on every tile. -/
def Dev.xbarRun (d : Dev) (n : Nat) : Dev := d.updCore (CoreSt.cycles n)

/-- The cell of a triple that the resequencer releases next has reached it. -/
def Triple.headHere (t : Triple) : Bool := t.cells.any fun x => x.1 == t.relSeq

/-- Cycles pass, at most `n`, until the next cell of a triple has reached its resequencer or nothing is on its way. -/
def CoreSt.cyclesTo (k : Nat) : Nat → CoreSt → CoreSt
  | 0, c => c
  | n + 1, c => if !c.crossing || (c.triples.at {} k).headHere then c else CoreSt.cyclesTo k n c.cycle

/-- Cycles in which every cell that is staged or in an intermediate can cross: a period of 112 for each of them. -/
def CoreSt.crossTime (c : CoreSt) : Nat :=
  112 * ((c.lanes.map fun e => e.2.length).sum + (c.mids.map fun e => e.2.length).sum + 1)

/-- The cycles pass that bring the next cell of a triple to its resequencer. -/
def Dev.xbarTo (d : Dev) (die lane grp cls : Nat) : Dev :=
  d.updCore fun c => CoreSt.cyclesTo (key4 die lane grp cls) c.crossTime c

/-- An input lane of a tile is held: its staging queue is full (R158; Table 14.5, STAGE1_HELD). -/
def Dev.stageHeld (d : Dev) (t : Nat) : Bool :=
  d.core.lanes.any fun e => (Nat.unpair e.1).1 == t && decide (64 ≤ e.2.length)

/-- A later cell waits for a missing SEQ of a triple (Table 14.5, RESEQ_WAIT). -/
def Triple.waits (t : Triple) : Bool := !t.cells.isEmpty && !t.headHere

end Sys2Proof.Machine
end

