-- ==== Sys2Proof/Machine/Forward.lean ====
section
/-! DEFINITION. Leaf, multicast, VLAN and learning tables: lookup, member choice, fences and learning
(chapter 6), and the job table and rank map (R118 to R120, R131). -/
namespace Sys2Proof.Machine

/-! ## Banks and ports -/

/-- The live bank, which is the generation bit of new frames (R149). -/
def Dev.liveBank (d : Dev) : Nat := d.get F.FWD_BANK_CTL.LIVE_BANK 0

/-- The state of a logical port (Table 2.7). -/
def Dev.lpState (d : Dev) (lp : Nat) : Nat := d.get F.LNK_LP_STATE.STATE lp

/-- The fence bit of a logical port (R143). -/
def Dev.fenced (d : Dev) (lp : Nat) : Bool := bitAt (d.rd .FWD_FENCE (lp / 32)).toNat (lp % 32)

/-- The withdraw bit of a logical port (R141). -/
def Dev.withdrawn (d : Dev) (lp : Nat) : Bool := bitAt (d.rd .FWD_LP_WITHDRAW (lp / 32)).toNat (lp % 32)

/-- A logical port that frames may be queued toward: ACTIVE, HOLD, REACQUIRE or RETRAIN (R135). -/
def upState (st : Nat) : Bool := decide (4 ≤ st ∧ st ≤ 7)

/-- A logical port that frames may be queued toward; one that a by-pass slot has put in HOLD or REACQUIRE before it had
been in ACTIVE takes none (DESIGN CHOICE, log 157). -/
def Dev.lpUp (d : Dev) (lp : Nat) : Bool :=
  let st := d.lpState lp
  upState st && ((st != 5 && st != 6) || decide (4 ≤ (d.lp lp).heldFrom))

/-- Eligible, apart from the slot's VALID bit (R135). -/
def Dev.eligible (d : Dev) (lp : Nat) : Bool := d.lpUp lp && !d.fenced lp && !d.withdrawn lp

/-- Available (R135). -/
def Dev.available (d : Dev) (lp : Nat) : Bool := d.eligible lp && d.lpState lp == 4

/-! ## Leaf table (R134 to R138) -/

/-- A leaf-table entry of a bank. -/
def Dev.leafEnt (d : Dev) (bank e : Nat) : LeafEnt := d.fwd.leaf.at {} (key2 bank e)

/-- The VALID member slots in slot order: slot and logical port. -/
def LeafEnt.members (l : LeafEnt) : List (Nat × Nat) :=
  (l.slots.filter fun s => bitAt s.2 15).map fun s => (s.1, s.2 % 1024)

/-- The hash choice of R138 over a list. -/
def hashChoice (b : List Byte) (l : List Nat) : Option Nat :=
  let k := (b.drop 5).take 6 ++ (b.drop 12).take 4
  l[crc32c k % 65536 * l.length / 65536]?

/-- The load level of a queue depth (R139): min(15, bits needed to write it). -/
def levelOf (depth : Nat) : Nat := min 15 (if depth = 0 then 0 else Nat.log2 depth + 1)

/-- The load level that a die holds for a port and class: current depth for its own ports, else the last
published one (R139). -/
def Dev.levelAt (d : Dev) (die lp cls : Nat) : Nat :=
  if die < 16 ∧ lp / 64 = die then levelOf (d.lpQueue lp cls).whole else d.fwd.level.at 0 (key2 lp cls)

/-- The first member at or after the pointer in slot order, wrapping (R137). -/
def firstFrom (ptr : Nat) (ms : List (Nat × Nat)) : Option (Nat × Nat) :=
  match ms.find? (fun m => ptr ≤ m.1) with
  | some m => some m
  | none => ms.head?

/-- The member that spraying picks (R137). -/
def sprayPick (d : Dev) (die cls ptr : Nat) (adaptive : Bool) (ms : List (Nat × Nat)) : Option (Nat × Nat) :=
  if adaptive then
    let lo := (ms.map fun m => d.levelAt die m.2 cls).foldl min 15
    firstFrom ptr (ms.filter fun m => d.levelAt die m.2 cls == lo)
  else firstFrom ptr ms

/-- What the member choice answers: a port, suppression by the fence, or no route. -/
inductive Member where
  | lp (n : Nat) | fenced | none
  deriving DecidableEq, Repr

/-- The member choice of R135 at a die, for one frame and one entry; the round-robin pointer moves (R137). -/
def Dev.memberChoice (d : Dev) (die bank e cls : Nat) (spray : Bool) (b : List Byte) : Member × Dev :=
  let l := d.leafEnt bank e
  let ms := if bitAt l.hdr 31 then l.members else []
  let avail := ms.filter fun m => d.available m.2
  let elig := ms.filter fun m => d.eligible m.2
  let rrk := key3 die e cls
  if avail ≠ [] then
    if spray && bitAt (d.get F.FWD_SPRAY_CLASS.CLASSES 0 * 2) cls && bitAt l.hdr 30 then
      match sprayPick d die cls (d.fwd.rr.at 0 rrk) (bitAt l.hdr 29) avail with
      | some m => (.lp m.2, d.updFwd fun w => { w with rr := w.rr.put 0 rrk ((m.1 + 1) % 64) })
      | none => (.none, d)
    else match hashChoice b (avail.map Prod.snd) with
      | some n => (.lp n, d)
      | none => (.none, d)
  else if elig ≠ [] then
    match hashChoice b (elig.map Prod.snd) with
    | some n => (.lp n, d)
    | none => (.none, d)
  else if ms.any (fun m => d.fenced m.2) then (.fenced, d)
  else (.none, d)

/-! ## Multicast (R142, R143) -/

/-- The tile-mask word of a group. -/
def Dev.mcWord (d : Dev) (bank g : Nat) : Nat := d.fwd.mcTile.at 0 (key2 bank g)

/-- The local mask of a group on a tile. -/
def Dev.mcMask (d : Dev) (bank g t : Nat) : Nat := d.fwd.mcLocal.at 0 (key3 bank g t)

/-! ## Learning table (R144 to R148) -/

/-- The key bytes of R144. -/
def learnKey (vid mac : Nat) : List Byte := beBytes 2 (vid % 4096) ++ beBytes 6 mac

/-- The seeds of ways 0 to 3. -/
def learnSeed (w : Nat) : Nat :=
  match w with | 0 => 0xFFFFFFFF | 1 => 0x5A5A5A5A | 2 => 0xA5A5A5A5 | _ => 0x3C3C3C3C

/-- The hash of a way. -/
def learnHash (w vid mac : Nat) : Nat := crc32cFrom (learnSeed w) (learnKey vid mac)

/-- The index of a key's set in way `w`. -/
def learnIdx (w vid mac : Nat) : Nat := 65536 * w + learnHash w vid mac % 65536

/-- The owner tile of a key. -/
def learnOwner (vid mac : Nat) : Nat := learnHash 0 vid mac / 65536 % 16

/-- The entry of an index in a tile's copy: the owners' table, or the former content until the change is applied (R145). -/
def Dev.copyAt (d : Dev) (t i : Nat) : Option LearnEnt :=
  match d.fwd.learnLag.find (key2 t i) with
  | some x => x
  | none => d.fwd.learn.find i

/-- The overflow indices that some copy or the owners' table lists. -/
def Dev.overflowIdx (d : Dev) (t : Nat) : List Nat :=
  ((d.fwd.learn.keys ++ (d.fwd.learnLag.keys.filter fun k => (Nat.unpair k).1 == t).map fun k =>
    (Nat.unpair k).2).filter fun i => decide (262144 ≤ i)).eraseDups

/-- Whether an entry holds a key. -/
def LearnEnt.has (e : LearnEnt) (vid mac : Nat) : Bool := e.vid == vid && e.mac == mac

/-- The indices where a key may lie: its four sets, then the overflow store. -/
def Dev.learnCands (d : Dev) (t vid mac : Nat) : List Nat :=
  ((List.range 4).map fun w => learnIdx w vid mac) ++ d.overflowIdx t

/-- Look a key up in a tile's copy: index and entry. -/
def Dev.learnFind (d : Dev) (t vid mac : Nat) : Option (Nat × LearnEnt) :=
  (d.learnCands t vid mac).findSome? fun i =>
    match d.copyAt t i with
    | some e => if e.has vid mac then some (i, e) else none
    | none => none

/-- Look a key up in the owners' table. -/
def Dev.ownerFind (d : Dev) (vid mac : Nat) : Option (Nat × LearnEnt) :=
  (((List.range 4).map fun w => learnIdx w vid mac) ++
    (d.fwd.learn.keys.filter fun i => decide (262144 ≤ i))).findSome? fun i =>
    match d.fwd.learn.find i with
    | some e => if e.has vid mac then some (i, e) else none
    | none => none

/-- A key's four sets and the overflow store all hold entries in a tile's copy: LEARN_FAIL (R146). -/
def Dev.learnFull (d : Dev) (t vid mac : Nat) : Bool :=
  (List.range 4).all (fun w => (d.copyAt t (learnIdx w vid mac)).isSome) &&
  decide (16384 ≤ ((d.overflowIdx t).filter fun i => (d.copyAt t i).isSome).length)

/-- Where the owner places a new key: the lowest way whose set is empty, else the lowest free overflow entry. -/
def Dev.learnPlace (d : Dev) (vid mac : Nat) : Option Nat :=
  match (List.range 4).find? (fun w => (d.fwd.learn.find (learnIdx w vid mac)).isNone) with
  | some w => some (learnIdx w vid mac)
  | none => ((List.range 16384).find? fun n => (d.fwd.learn.find (262144 + n)).isNone).map (262144 + ·)

/-- The owner changes an entry: its own copy at once, every other tile's copy when it applies the change (R145). -/
def Dev.learnChange (d : Dev) (owner i : Nat) (new : Option LearnEnt) : Dev :=
  let old := d.fwd.learn.find i
  d.updFwd fun w =>
    let tiles := (List.range 16).filter (· != owner)
    { w with
      learn := match new with | some e => w.learn.insert i e | none => w.learn.erase i
      learnLag := tiles.foldl (fun t k =>
        if (t.find (key2 k i)).isSome then t else Tbl.insert t (key2 k i) old) w.learnLag
      learnUpd := tiles.foldl (fun t k => Tbl.upd t [] k (· ++ [(i, new)])) w.learnUpd }

/-- Every copy applies every change at once: the end of a management command (R133, R153). -/
def Dev.learnSync (d : Dev) : Dev := d.updFwd fun w => { w with learnLag := [], learnUpd := [] }

/-- A learn request enters its owner's queue of 256, or is counted in FWD_LEARN_DROP (R145). -/
def Dev.learnAsk (d : Dev) (r : LearnReq) : Dev :=
  let o := learnOwner r.vid r.mac
  let q := d.fwd.learnQ.at [] o
  if 256 ≤ q.length then d.count .FWD_LEARN_DROP o
  else d.updFwd fun w => { w with learnQ := w.learnQ.put [] o (q ++ [r]) }

/-- Entries that point at a port entering DOWN or FAULT are removed by their owners (R148). -/
def Dev.learnFlush (d : Dev) (lp : Nat) : Dev :=
  d.each (d.fwd.learn.filter fun e => !e.2.static && !e.2.leaf && e.2.target == lp) fun d e =>
    let o := learnOwner e.2.vid e.2.mac
    (d.learnChange o e.1 none).count .FWD_AGE_REMOVE o

/-! ## Job table and rank map -/

/-- Word `w` of a job entry in force on the dies (R131). -/
def Dev.jobWord (d : Dev) (j w : Nat) : Nat := (d.fwd.job.at 0 (key2 j w)).toNat

/-- VALID of a job. -/
def Dev.jobValid (d : Dev) (j : Nat) : Bool := bitAt (d.jobWord j 0) 31

/-- ALLOW_CLASS bit of a job (R118). -/
def Dev.jobAllows (d : Dev) (j cls : Nat) : Bool := d.jobValid j && bitAt (d.jobWord j 0) (16 + cls)

/-- DRAWER_RANK of a job. -/
def Dev.jobRank (d : Dev) (j : Nat) : Nat := bitsOf (d.jobWord j 0) 30 28

/-- The rank-map index of a rank (R119), none where the job has no such rank. -/
def Dev.rankEntry (d : Dev) (j q : Nat) : Option Nat :=
  if q < bitsOf (d.jobWord j 3) 18 0 then some (bitsOf (d.jobWord j 2) 17 0 + q) else none

/-- The DST of a rank of a job, or none where it is missing (R120). -/
def Dev.rankDst (d : Dev) (j q : Nat) : Option Nat :=
  match d.rankEntry j q with
  | none => none
  | some e =>
    let w := (d.rd .FWD_RANK_MAP e).toNat
    if bitAt w 31 then some (w % 2 ^ 24) else none

/-- The device's place. -/
def Dev.place (d : Dev) : Nat := d.get F.FWD_PLACE.PLACE 0

/-! ## Draining (R149 to R152) -/

/-- A configuration write to state that every die holds a copy of has completed: DESK_GEN rises (R349). -/
def Dev.genBump (d : Dev) : Dev :=
  { d.set F.BUR_GEN.DESK_GEN 0 (d.get F.BUR_GEN.DESK_GEN 0 + 1) with bur := { d.bur with gens := d.bur.gens + 1 } }

/-- The routing banks swap, or the swap is refused while DRAINING (R149, R152). -/
def Dev.routeSwap (d : Dev) : Dev :=
  if d.bit F.FWD_BANK_CTL.DRAINING 0 then
    (d.count .FWD_SWAP_REFUSE_CNT).raise (41 + d.master) 4 (instDie (26 + d.master))
  else
    let d := d.set F.FWD_BANK_CTL.LIVE_BANK 0 (1 - d.liveBank)
    let d := d.set F.FWD_BANK_CTL.ROUTE_GEN 0 (d.get F.FWD_BANK_CTL.ROUTE_GEN 0 + 1)
    d.setB F.FWD_BANK_CTL.DRAINING 0 true

end Sys2Proof.Machine
end

