-- ==== Sys2Proof/Machine/Tm.lean ====
section
/-! DEFINITION. Traffic management (chapter 8): policers, drop profiles, shapers, the egress scheduler's choice,
refills, and queue sampling. -/
namespace Sys2Proof.Machine

/-! ## Policers (R180 to R183) -/

/-- A policer word in force. -/
def Dev.polWord (d : Dev) (t n w : Nat) : Nat := (d.tm.polCfg.at 0 (key3 t n w)).toNat

/-- A policer's buckets. -/
def Dev.polBuckets (d : Dev) (t n : Nat) : Buckets := d.tm.pol.at {} (key2 t n)

/-- The rule mark of R181: colour 0 green, 1 yellow, 2 red, and the buckets after. -/
def mark (k : Buckets) (b : Int) (preYellow : Bool) : Nat × Buckets :=
  if k.p < b then (2, k)
  else if preYellow || decide (k.c < b) then (1, { k with p := k.p - b })
  else (0, { c := k.c - b, p := k.p - b })

/-- Meter a frame in policer `n` of a tile and count its colour; a policer with EN = 0 is not met. -/
def Dev.meter (d : Dev) (t n size : Nat) (preYellow : Bool) : Nat × Dev :=
  if bitAt (d.polWord t n 0) 31 then
    let (c, k) := mark (d.polBuckets t n) (8000 * size) preYellow
    let d := d.updTm fun m => { m with pol := m.pol.put {} (key2 t n) k }
    let i := 1024 * t + n
    (c, match c with
      | 0 => d.count .TM_POL_GREEN i
      | 1 => d.count .TM_POL_YELLOW i
      | _ => d.count .TM_POL_RED i)
  else (preYellow.toNat, d)

/-- A policer selection word: none with EN = 0 (R180). -/
def polSel (w : Word) : Option Nat := if bitAt w.toNat 31 then some (w.toNat % 1024) else none

/-- Police a lossy frame at its ingress tile: the port-class policer, then the job policer (R180, R181). -/
def Dev.police (d : Dev) (lp cls : Nat) (b : List Byte) : Nat × Dev :=
  let t := lp / 64
  if !d.bit F.TM_CFG.POL_EN t then (0, d)
  else
    let (c, d) := match polSel (d.rd .TM_PORT_POL (128 * t + 2 * (lp % 64) + cls)) with
      | some n => d.meter t n (storedSize b) false
      | none => (0, d)
    let (c, d) :=
      if c = 2 then (c, d)
      else if cls = 1 ∧ fFormat b = 0 then
        match polSel (d.rd .TM_JOB_POL (fJob b)) with
        | some n => d.meter t n (storedSize b) (c == 1)
        | none => (c, d)
      else (c, d)
    (c, if c = 2 then d.count .TM_RED_DROP (2 * t + cls) else d)

/-- POLICER_WORD0_WRITE's rule (R183): the rules hold for words 1 to 3. -/
def polRulesOk (w1 w2 w3 : Nat) : Bool :=
  decide (bitsOf w1 25 0 ≤ bitsOf w2 25 0) && decide (9216 ≤ 256 * bitsOf w3 15 0) &&
  decide (9216 ≤ 256 * bitsOf w3 31 16)

/-- A write of policer word 0 (R183): words 1 to 3 go with it at the next refill, or TM_POL_BAD is raised. -/
def Dev.policerWord0 (d : Dev) (desk t n : Nat) (v : Word) : Dev :=
  let i := 1024 * t + n
  let w1 := d.rd .TM_POL i 1
  let w2 := d.rd .TM_POL i 2
  let w3 := d.rd .TM_POL i 3
  if polRulesOk w1.toNat w2.toNat w3.toNat then
    let v := v &&& 0x80000000
    (d.wr .TM_POL i 0 v).updTm fun m => { m with polPend := m.polPend.put [] (key2 t n) [v, w1, w2, w3] }
  else d.raise (41 + desk) 3 (instDie t)

/-- POLICER_WORD0_WRITE -/
def execPolicerWord0Write (a : Access) (tile : Fin 16) (n : Fin 1024) (v : Word) (s : State) :
    Host.Outcome State Fault Refusal :=
  run (fun d => d.onWrite a .TM_POL (1024 * tile + n) 0 fun d => d.policerWord0 a.deskB.toNat tile n v) s

/-! ## Drop profiles (R184, R185) -/

/-- A word of a drop profile in force (Table 8.3: word 0 takes words 1 and 2 with it). -/
def Dev.wredWord (d : Dev) (t p w : Nat) : Nat := (d.tm.wred.at (Reg.TM_WRED.reset 0 w) (key3 t p w)).toNat

/-- One step of the x³¹ + x²⁸ + 1 generator: the new bit enters at the low end. -/
def lfsr31 (s : Nat) : Nat := (s * 2 + (bitAt s 30 != bitAt s 27).toNat) % 2 ^ 31

/-- `n` steps of the generator. -/
def lfsr31Steps : Nat → Nat → Nat
  | 0, s => s
  | n + 1, s => lfsr31Steps n (lfsr31 s)

/-- The generator of a tile: seeded with 0x2AAA_AAAA ^ t at reset (R185). -/
def Dev.rndOf (d : Dev) (t : Nat) : Nat := d.tm.rnd.at (Nat.xor 0x2AAAAAAA t) t

/-- The profile that a class and colour select (TM_WRED_SEL). -/
def Dev.wredSel (d : Dev) (t cls : Nat) (yellow : Bool) : Nat :=
  let v := (d.rd .TM_WRED_SEL t).toNat
  let lo := 8 * cls + 4 * yellow.toNat
  bitsOf v (lo + 3) lo

/-- The decision of R185 on an average depth `a` with 16 random bits: a profile with MIN_TH at or above MAX_TH drops at
MAX_TH and admits below it. -/
def wredSays (en : Bool) (minTh maxTh maxP a rnd : Nat) : Bool :=
  if !en then false
  else if maxTh ≤ a then true
  else if a < minTh then false
  else decide (rnd < maxP * (a - minTh) * 65536 / (256 * (maxTh - minTh)))

/-- The decision of R185 on a queue's average: true drops. The generator moves 16 steps at every decision. -/
def Dev.wredDrop (d : Dev) (t cls : Nat) (yellow : Bool) (q : Queue) : Bool × Dev :=
  let p := d.wredSel t cls yellow
  let w0 := d.wredWord t p 0
  let s := lfsr31Steps 16 (d.rndOf t)
  (wredSays (d.bit F.TM_CFG.WRED_EN t && bitAt w0 31) (bitsOf (d.wredWord t p 1) 24 0) (bitsOf (d.wredWord t p 2) 24 0)
     (w0 % 256) (q.avg / 65536).toNat (s % 65536),
   d.updTm fun m => { m with rnd := m.rnd.put (Nat.xor 0x2AAAAAAA t) t s })

/-- Step 6 of Table 8.1 at a tile: the drop profile; true drops, counted by colour. -/
def Dev.wredStep (d : Dev) (t : Nat) (f : Frm) : Bool × Dev :=
  if lossless f.cls || f.reenq || decide (16 ≤ t) || decide (68 ≤ f.outq) then (false, d)
  else
    let (dr, d) := d.wredDrop t f.cls f.yellow (d.queue t f.outq f.cls)
    if dr then
      (true, (if f.yellow then d.count .TM_WRED_DROP_Y (2 * t + f.cls)
        else d.count .TM_WRED_DROP_G (2 * t + f.cls)).countDrop t f.outq f.cls)
    else (false, d)

/-! ## Shapers (R190, R191) -/

/-- A shaper word in force. -/
def Dev.shpWord (d : Dev) (t q w : Nat) : Nat := (d.tm.shpCfg.at 0 (key3 t q w)).toNat

/-- A shaper's buckets. -/
def Dev.shpBuckets (d : Dev) (t q : Nat) : Buckets := d.tm.shp.at {} (key2 t q)

/-- A burst size in 64-byte units; below 320 bytes it acts as 320 (R190). -/
def burst64 (v : Nat) : Int := 8000 * (max 320 (64 * v) : Nat)

/-- SHAPE_EN of a queue; TC6 and TC7 are never shaped (R190). -/
def Dev.shaped (d : Dev) (lp cls : Nat) : Bool :=
  decide (cls < 6) && bitAt (d.shpWord (lp / 64) (8 * (lp % 64) + cls) 0) 31

/-- Buckets as TM_SHP_STAT shows them. -/
def Dev.shpStat (d : Dev) (t q : Nat) (k : Buckets) : Dev :=
  d.wr .TM_SHP_STAT (512 * t + q) 0
    (BitVec.ofNat 32 ((decide (0 ≤ k.c)).toNat * 2 ^ 31 + (decide (0 ≤ k.p)).toNat * 2 ^ 30))

/-- OVH in force: signed, from −32 (Table 8.3). -/
def Dev.ovhOf (d : Dev) (lp : Nat) : Int :=
  max (-32) (toSigned 7 (d.tm.ovh.at 0 (key2 (lp / 64) (lp % 64))).toNat)

/-- A bucket after a debit: it falls below zero by at most one flit's debit (R190). -/
def debited (k b : Int) : Int := if k - b < -b then min k (-b) else k - b

/-- The debit of a DATA flit of a class (R190): 8 × FILL bytes plus OVH for each frame that starts in it. Both buckets
are debited, whether the class is shaped or not; TC6 and TC7 have none. -/
def Dev.shaperDebit (d : Dev) (lp cls fill starts : Nat) : Dev :=
  if 6 ≤ cls then d
  else
    let t := lp / 64
    let q := 8 * (lp % 64) + cls
    let b : Int := ((8 * fill : Nat) + (starts : Int) * d.ovhOf lp) * 8000
    let k := d.shpBuckets t q
    let k' : Buckets := { c := debited k.c b, p := debited k.p b }
    (d.updTm fun m => { m with shp := m.shp.put {} (key2 t q) k' }).shpStat t q k'

/-! ## The scheduler's choice (R187 to R189) -/

/-- PRIO of a class on a die: fixed at 0 for TC6 and TC7; a Cabinet die has the values of Table 8.5. -/
def Dev.prio (d : Dev) (die cls : Nat) : Nat :=
  if 6 ≤ cls then 0
  else if die < 16 then d.get F.TM_SCHED.PRIO (8 * die + cls)
  else bitsOf (Reg.TM_SCHED.reset cls 0).toNat 31 30

/-- WEIGHT of a class; 0 acts as 1. -/
def Dev.weight (d : Dev) (die cls : Nat) : Nat :=
  max 1 (if die < 16 then d.get F.TM_SCHED.WEIGHT (8 * die + cls) else (Reg.TM_SCHED.reset cls 0).toNat % 256)

/-- The weighted round robin over the classes of one level: the class chosen and the turn after (R188). -/
def wrrPick (weight : Nat → Nat) (turn : Nat × Nat) (cs : List Nat) : Option (Nat × (Nat × Nat)) :=
  if cs.contains turn.1 ∧ turn.2 < weight turn.1 then some (turn.1, (turn.1, turn.2 + 1))
  else
    match cs.find? (fun c => turn.1 < c) with
    | some c => some (c, (c, 1))
    | none => match cs.head? with
      | some c => some (c, (c, 1))
      | none => none

/-- A class that is not eligible loses the remainder of its turn (R188): the turn then passes on. -/
def turnLost (elig : List Nat) (turn : Nat × Nat) : Nat × Nat := if elig.contains turn.1 then turn else (turn.1, 255)

/-- The classes of the lowest PRIO among `cs`, with that level. -/
def lowestLevel (prio : Nat → Nat) (cs : List Nat) : Option (Nat × List Nat) :=
  match cs with
  | [] => none
  | c :: r =>
    let lo := (r.map prio).foldl min (prio c)
    some (lo, cs.filter fun x => prio x == lo)

/-- Every turn of a port's levels passes on where its class is not eligible in the level's round: committed 0, excess 1. -/
def Dev.turnsLost (d : Dev) (lp : Nat) (rounds : List (Nat × List Nat)) : Dev :=
  d.updTm fun m =>
    { m with turn := rounds.foldl (fun t r =>
        (List.range 4).foldl (fun t lvl =>
          Tbl.upd t (7, 255) (key3 lp lvl r.1) (turnLost (r.2.filter fun c => d.prio (lp / 64) c == lvl))) t) m.turn }

/-- The choice of one round: the lowest level with an eligible class, and there the class whose turn it is. -/
def Dev.schedRound (d : Dev) (lp round : Nat) (cs : List Nat) : Option (Nat × Dev) :=
  match lowestLevel (d.prio (lp / 64)) cs with
  | none => none
  | some (lvl, cs) =>
    let key := key3 lp lvl round
    (wrrPick (d.weight (lp / 64)) (d.tm.turn.at (7, 255) key) cs).map fun r =>
      (r.1, d.updTm fun m => { m with turn := m.turn.put (7, 255) key r.2 })

/-- The class of the next DATA flit of a port among the eligible classes (R188): committed round, then excess. -/
def Dev.schedPick (d : Dev) (lp : Nat) (elig : List Nat) : Option Nat × Dev :=
  let k (c : Nat) := d.shpBuckets (lp / 64) (8 * (lp % 64) + c)
  let peakOk (c : Nat) : Bool :=
    !bitAt (d.shpWord (lp / 64) (8 * (lp % 64) + c) 0) 30 || decide (0 ≤ (k c).p)
  let committed := elig.filter fun c => !d.shaped lp c || (decide (0 ≤ (k c).c) && peakOk c)
  let excess := elig.filter fun c => d.shaped lp c && decide ((k c).c < 0) && peakOk c
  let d := d.turnsLost lp [(0, committed), (1, excess)]
  match d.schedRound lp 0 committed with
  | some r => (some r.1, r.2)
  | none =>
    match d.schedRound lp 1 excess with
    | some r => (some r.1, r.2)
    | none => (none, d)

/-! ## Refill instants (R182, R184, R190, R191) -/

/-- Take the pending words of a policer, then refill it (R182, R183). -/
def Dev.refillPol (d : Dev) (t n : Nat) : Dev :=
  let pend := d.tm.polPend.at [] (key2 t n)
  let wasOn := bitAt (d.polWord t n 0) 31
  let d := if pend = [] then d else
    d.updTm fun m =>
      { m with
        polPend := m.polPend.erase (key2 t n)
        polCfg := (List.range 4).foldl (fun c w => Tbl.put c 0 (key3 t n w) (pend.getD w 0)) m.polCfg }
  let on := bitAt (d.polWord t n 0) 31
  let capC : Int := 8000 * (256 * bitsOf (d.polWord t n 3) 15 0 : Nat)
  let capP : Int := 8000 * (256 * bitsOf (d.polWord t n 3) 31 16 : Nat)
  let k := d.polBuckets t n
  let k' : Buckets :=
    if on && !wasOn then { c := capC, p := capP }
    else { c := min capC (k.c + (256 * bitsOf (d.polWord t n 1) 25 0 : Nat)),
           p := min capP (k.p + (256 * bitsOf (d.polWord t n 2) 25 0 : Nat)) }
  d.updTm fun m => { m with pol := m.pol.put {} (key2 t n) k' }

/-- Take the pending words of a shaper, then refill it (R190, R191). -/
def Dev.refillShp (d : Dev) (t q : Nat) : Dev :=
  let pend := d.tm.shpPend.at [] (key2 t q)
  let wasOn := bitAt (d.shpWord t q 0) 31
  let d := if pend = [] then d else
    d.updTm fun m =>
      { m with
        shpPend := m.shpPend.erase (key2 t q)
        shpCfg := (List.range 4).foldl (fun c w => Tbl.put c 0 (key3 t q w) (pend.getD w 0)) m.shpCfg }
  let on := bitAt (d.shpWord t q 0) 31
  let capC := burst64 (bitsOf (d.shpWord t q 3) 15 0)
  let capP := burst64 (bitsOf (d.shpWord t q 3) 31 16)
  let k := d.shpBuckets t q
  let k' : Buckets :=
    if on && !wasOn then { c := capC, p := capP }
    else { c := min capC (k.c + (256 * bitsOf (d.shpWord t q 1) 21 0 : Nat)),
           p := min capP (k.p + (256 * bitsOf (d.shpWord t q 2) 21 0 : Nat)) }
  (d.updTm fun m => { m with shp := m.shp.put {} (key2 t q) k' }).shpStat t q k'

/-- Update the average of a lossy queue (R184); W is the field of the profile its class selects for green. -/
def Dev.refillAvg (d : Dev) (t out cls : Nat) : Dev :=
  let w := bitsOf (d.wredWord t (d.wredSel t cls false) 0) 27 24
  d.updQueue t out cls fun q =>
    { q with avg := q.avg + (((q.whole : Int) * 65536 - q.avg) / (2 ^ w : Int)) }

/-- The second components of the keys of a table whose first component is `t`. -/
def keysOf {α : Type} (tb : Tbl α) (t : Nat) : List Nat :=
  (tb.keys.filter fun k => (Nat.unpair k).1 == t).map fun k => (Nat.unpair k).2

/-- A refill instant of a tile (R182): policers, shapers, averages, and OVH. -/
def Dev.refill (d : Dev) (t : Nat) : Dev :=
  let pols := (keysOf d.tm.polPend t ++ (keysOf d.tm.polCfg t).map fun k => (Nat.unpair k).1).eraseDups
  let shps := (keysOf d.tm.shpPend t ++ (keysOf d.tm.shpCfg t).map fun k => (Nat.unpair k).1).eraseDups
  let d := d.each pols fun d n => d.refillPol t n
  let d := d.each shps fun d q => d.refillShp t q
  let d := d.each (List.range 64) fun d l =>
    d.updTm fun m => { m with ovh := m.ovh.put 0 (key2 t l) (d.rd .TM_LP_OVH (64 * t + l)) }
  d.each (keysOf d.core.queues t) fun d k =>
    if (Nat.unpair k).2 < 2 ∧ (Nat.unpair k).1 < 68 then d.refillAvg t (Nat.unpair k).1 (Nat.unpair k).2 else d

/-- REFILL_INSTANT -/
def execRefillInstant (tile : Fin 16) (s : State) : Host.Outcome State Fault Refusal := run (·.refill tile) s

/-! ## Load levels (R139) -/

/-- A tile publishes the load levels of its logical ports. -/
def Dev.publishLevels (d : Dev) (t : Nat) : Dev :=
  let ks := (keysOf d.core.queues t).filter fun k => (Nat.unpair k).1 < 64
  let old := d.fwd.level.keys.filter fun k => (Nat.unpair k).1 / 64 == t
  let d := d.updFwd fun w => { w with level := old.foldl (fun l k => Tbl.erase l k) w.level }
  d.each ks fun d k =>
    let l := (Nat.unpair k).1
    let c := (Nat.unpair k).2
    d.updFwd fun w => { w with level := w.level.put 0 (key2 (64 * t + l) c) (levelOf (d.queue t l c).whole) }

/-- LOAD_LEVEL_PUBLISH -/
def execLoadLevelPublish (tile : Fin 16) (s : State) : Host.Outcome State Fault Refusal :=
  run (·.publishLevels tile) s

/-! ## Sampling (R194, R195) -/

/-- Write the eight words of a sample record into the ring. -/
def Dev.putSample (d : Dev) (t : Nat) (ws : List Nat) : Dev :=
  let wp := d.get F.TM_SMP_WPTR.PTR t
  let rp := d.get F.TM_SMP_RPTR.PTR t
  let next := (wp + 1) % 2048
  let write (d : Dev) : Dev :=
    (d.each (List.range 8) fun d w => d.wr .TM_SMP_RING (2048 * t + wp) w (BitVec.ofNat 32 (ws.getD w 0))).set
      F.TM_SMP_WPTR.PTR t next
  if next = rp then
    if d.bit F.TM_SMP_CFG.WRAP t then
      ((write d).set F.TM_SMP_RPTR.PTR t ((rp + 1) % 2048)).count .TM_SMP_OVERRUN t
    else d.count .TM_SMP_LOST t
  else write d

/-- The record of one VALID entry (Table 8.2); an entry new at this instant counts from it (R195). -/
def Dev.sampleOne (d : Dev) (t n : Nat) : Dev :=
  let e := d.rd .TM_SMP_SET (64 * t + n)
  if !bitAt e.toNat 31 then d.updTm fun m => { m with smpOn := m.smpOn.erase (key2 t n) }
  else
    let l := bitsOf e.toNat 8 3
    let c := e.toNat % 8
    let fresh := d.tm.smpOn.at 0 (key2 t n) != e
    let q := d.queue t l c
    let stamp := match q.frames.head? with
      | some fid => match d.frm fid with | some f => some f.stamp | none => none
      | none => none
    let empty := q.whole == 0
    let delay := if empty then 0 else match stamp with | some x => d.age x | none => 0
    let seq := d.tm.smpSeq.at 0 t
    let ws := [d.now,
      c * 2 ^ 29 + l * 2 ^ 23 + empty.toNat * 2 ^ 22 + q.spilling.toNat * 2 ^ 21 + seq % 65536,
      delay, q.whole % 2 ^ 25, (if fresh then q.whole else max q.dmax q.whole) % 2 ^ 25,
      min 0xFFFFFFFF (if fresh then 0 else q.txBytes), min 0xFFFFFFFF (if fresh then 0 else q.drops), 0]
    let d := d.putSample t ws
    let d := d.updQueue t l c fun q => { q with dmax := q.whole, txBytes := 0, drops := 0 }
    d.updTm fun m =>
      { m with smpSeq := m.smpSeq.put 0 t ((seq + 1) % 65536), smpOn := m.smpOn.put 0 (key2 t n) e }

/-- A sample instant of a tile. -/
def Dev.sample (d : Dev) (t : Nat) : Dev :=
  if d.bit F.TM_SMP_CFG.EN t then d.each (List.range 64) fun d n => d.sampleOne t n else d

/-- SAMPLE_INSTANT -/
def execSampleInstant (tile : Fin 16) (s : State) : Host.Outcome State Fault Refusal := run (·.sample tile) s

end Sys2Proof.Machine
end

