-- ==== Sys2Proof/Machine/Ingress.lean ====
section
/-! DEFINITION. A frame's way into the device and out of a unit: the ingress checks (R112 to R118), stamping, PTP
traps, policing, lookup, learning, flooding, admission and multicast; and the frames that units originate. -/
namespace Sys2Proof.Machine

/-! ## Sending from a die -/

/-- A frame enters the crossbar (or, on a Cabinet die, the mesh output) of a die, its egress queue being set:
step 6 of Table 8.1 for a lossy class, credit-assured admission otherwise. `k` cells are here; the answer is the
record of the frame, none where it was refused. -/
def Dev.enterDieWith (d : Dev) (f : Frm) (k : Nat) : Option Nat × Dev :=
  if lossless f.cls || f.reenq then
    let (fid, d) := d.enterLossless f k
    (some fid, d)
  else
    let (dr, d) := d.wredStep f.die f
    if dr then (none, d) else d.enterLossy f k

/-- A frame enters a die: whole, or those of its cells that have formed (R155). -/
def Dev.enterDie (d : Dev) (f : Frm) : Dev := (d.enterDieWith f (if f.here = 0 then f.cells else f.here)).2

/-- Send a unicast frame from a die toward its destination: cells for an unreachable die are dropped (R19). -/
def Dev.sendFrom (d : Dev) (f : Frm) : Dev :=
  if d.unreachable f.die f.dest.die then
    (d.add .XBAR_UNREACH_CNT f.die f.cells).raise (countTile f.die) 11 (instDie f.dest.die)
  else d.enterDie { f with outq := outqOf f.die f.dest }

/-- Copy a multicast frame at a die onward along the tree and, on a tile of the mask, to the local group (R23). -/
def Dev.mcCopies (d : Dev) (f : Frm) (from' : Nat) : List Frm :=
  let mask := d.mcWord f.gen f.group % 65536
  ((mcDirs f.die from' mask).map fun dir => { f with outq := 64 + dir }) ++
  (if f.die < 16 ∧ bitAt mask f.die then [{ f with outq := 69 }] else [])

/-- A copy leaves a die by a mesh direction whose link has failed. -/
def Dev.deadCopy (d : Dev) (f : Frm) : Bool :=
  decide (64 ≤ f.outq ∧ f.outq < 68) && d.linkFailed f.die (f.outq - 64)

/-- Of the copies of a frame at a die the first returns the credit of the cells (R163). -/
def oneCredit : List Frm → List Frm
  | [] => []
  | f :: l => { f with copy := false } :: l.map fun g => { g with copy := true }

/-- A multicast frame enters the mesh at a die (R23, R142); a copy across a failed link is dropped (R19). -/
def Dev.sendMc (d : Dev) (f : Frm) : Dev :=
  if !bitAt (d.mcWord f.gen f.group) 31 then d.count .FWD_NO_ROUTE (countTile f.die)
  else
    let l := d.mcCopies f 4
    let d := d.each (l.filter d.deadCopy) fun d c =>
      (d.add .XBAR_UNREACH_CNT f.die f.cells).raise (countTile f.die) 11 (instMesh f.die (c.outq - 64))
    d.each (oneCredit (l.filter fun c => !d.deadCopy c)) fun d c => d.enterDie c

/-- Send a frame to a logical port. -/
def Dev.sendLp (d : Dev) (f : Frm) (lp : Nat) : Dev :=
  d.sendFrom { f with dest := { die := lp / 64, kind := 0, id := lp } }

/-- Count a frame suppressed or discarded by the member choice (R135), or send it. -/
def Dev.sendMember (d : Dev) (f : Frm) (m : Member) : Dev :=
  match m with
  | .lp n => d.sendLp f n
  | .fenced => d.count .FWD_FENCE_SUPP (countTile f.die)
  | .none => d.count .FWD_NO_ROUTE (countTile f.die)

/-- The yellow load check of R186 before a frame goes to a port: true discards. -/
def Dev.yellowDrop (d : Dev) (f : Frm) (lp : Nat) : Bool :=
  f.yellow && decide (lp / 64 ≠ f.die) &&
  decide (d.get F.TM_CFG.YEL_LL_TH f.die ≤ d.fwd.level.at 0 (key2 lp f.cls))

/-- Send an ingress frame to the member chosen, after the yellow load check. -/
def Dev.sendChecked (d : Dev) (f : Frm) (m : Member) : Dev :=
  match m with
  | .lp n => if d.yellowDrop f n then d.count .TM_YEL_LL_DROP (2 * f.die + f.cls) else d.sendLp f n
  | m => d.sendMember f m

/-- Look a fabric frame up in the leaf or multicast table of its bank (R132) and send it. -/
def Dev.forwardFabric (d : Dev) (f : Frm) : Dev :=
  let b := f.bytes
  if fDstType b = 2 then d.sendMc { f with mcast := true, group := fDst b % 65536 }
  else
    let e := if fDstType b = 0 then fDst b / 4096 else 0xF00 + fDst b / 65536
    let (m, d) := d.memberChoice f.die f.gen e f.cls true b
    d.sendChecked f m

/-! ## Frames that units originate (R113, R120, R132, R154) -/


/-- SRC of a unit of the device: place, unit kind 0 tile, 1 Cabinet die, 2 Desk, and its number (R114). -/
def Dev.unitSrc (d : Dev) (kind n : Nat) : Nat := d.place * 65536 + kind * 4096 + n

/-- The DST_TYPE of a reply to a source (R120). -/
def replyType (srcType : Nat) : Nat := if srcType = 1 then 1 else 0

/-! ## PTP receive rings (R307) -/

/-- Store bytes into the words of a register entry, byte n in word n div 4 at bits 8(n mod 4) (R7). -/
def Dev.putBytes (d : Dev) (r : Reg) (i w : Nat) (bs : List Byte) : Dev :=
  match bs with
  | [] => d
  | b0 :: rest =>
    let n := (b0 :: rest).length
    d.each (List.range ((n + 3) / 4)) fun d k =>
      d.wr r i (w + k) (BitVec.ofNat 32 (leNat (((b0 :: rest).drop (4 * k)).take 4)))

/-- The first `n` bytes of a register entry. -/
def Dev.getBytes (d : Dev) (r : Reg) (i n : Nat) : List Byte :=
  ((List.range ((n + 3) / 4)).flatMap fun k => leBytes 4 (d.rd r i k).toNat).take n

/-- Put a frame into a Desk's receive ring with its 16-byte header, or drop it when the ring is full (R307). -/
def Dev.ptpRx (d : Dev) (desk stamp port : Nat) (eth : List Byte) : Dev :=
  let wp := d.get F.MNT_PTP_RX_WPTR.PTR desk
  let next := (wp + 1) % 64
  if next = d.get F.MNT_PTP_RX_RPTR.PTR desk then d.count .MNT_PTP_RX_DROP
  else
    let rec' := beBytes 4 stamp ++ beBytes 2 port ++ beBytes 2 eth.length ++ beBytes 8 0 ++ eth
    let i := 64 * desk + wp
    let d := d.putBytes .MNT_PTP_RX_REC i 0 (rec' ++ List.replicate (2048 - rec'.length) 0)
    (d.set F.MNT_PTP_RX_WPTR.PTR desk next).irq desk 3

/-! ## Coat Racks (R305, R306) -/

/-- A transmit stamp enters a Coat Rack (tile 0 to 15, 16 + Desk); a full one counts MNT_CR_OVF. -/
def Dev.coatPut (d : Dev) (rack : Nat) (e : CoatEnt) : Dev :=
  let q := d.time.coat.at [] rack
  if 64 ≤ q.length then if rack < 16 then d.count .MNT_CR_OVF rack else d.count .MNT_CR_OVF_DESK (rack - 16)
  else
    let n := q.length + 1
    let d := { d with time := { d.time with coat := d.time.coat.put [] rack (q ++ [e]) } }
    if rack < 16 then
      let d := d.set F.MNT_CR_STAT.HELD rack n
      if d.get F.MNT_CR_STAT.CR_IRQ_TH rack = n then d.irqBoth 2 else d
    else
      let d := d.set F.MNT_CR_STAT_DESK.HELD (rack - 16) n
      if d.get F.MNT_CR_STAT_DESK.CR_IRQ_TH (rack - 16) = n then d.irq (rack - 16) 2 else d

/-! ## Tunnelled Ethernet (R128, R144 to R147) -/

/-- Destination MAC of a tunnelled frame. -/
def ethDst (b : List Byte) : Nat := beAt b 24 6

/-- Source MAC of a tunnelled frame. -/
def ethSrc (b : List Byte) : Nat := beAt b 30 6

/-- The I/G bit of a MAC address. -/
def groupMac (m : Nat) : Bool := bitAt m 40

/-- Flood a frame to its VLAN's group, its ingress port pruned (R147). -/
def Dev.floodFrame (d : Dev) (f : Frm) (vlan : Nat) : Dev :=
  d.sendMc { f with mcast := true, flood := true, group := vlan % 65536 }

/-- What the source lookup of R146 decides for the frame: discard, flood whatever the destination, or go on. -/
inductive LearnFate where
  | discard | flood | goOn
  deriving DecidableEq, Repr

/-- The source lookup of R146 in the ingress tile's copy. -/
def Dev.learnSource (d : Dev) (t lp : Nat) (b : List Byte) : LearnFate × Dev :=
  let vid := fVid b
  let mac := ethSrc b
  if groupMac mac then (.discard, d.count .FWD_ETH_FILTER t)
  else match d.learnFind t vid mac with
    | some (_, e) =>
      if !e.leaf && e.target % 1024 == lp then
        if e.hit then (.goOn, d) else (.goOn, d.learnAsk ⟨0, vid, mac, lp⟩)
      else if e.static then (.goOn, d.count .FWD_STATIC_VIOL t)
      else (.goOn, d.learnAsk ⟨1, vid, mac, lp⟩)
    | none =>
      if d.learnFull t vid mac then (.flood, d.count .FWD_LEARN_FAIL t)
      else (.goOn, d.learnAsk ⟨2, vid, mac, lp⟩)

/-- The destination lookup of R147. -/
def Dev.ethForward (d : Dev) (f : Frm) (lp vlan : Nat) : Dev :=
  let t := f.die
  let mac := ethDst f.bytes
  if groupMac mac then (d.count .FWD_FLOOD t).floodFrame f vlan
  else match d.learnFind t (fVid f.bytes) mac with
    | none => (d.count .FWD_FLOOD t).floodFrame f vlan
    | some (_, e) =>
      if e.leaf then
        let (m, d) := d.memberChoice t f.gen e.target f.cls false f.bytes
        d.sendChecked f m
      else if e.target % 1024 = lp then d.count .FWD_ETH_FILTER t
      else if d.eligible (e.target % 1024) then d.sendChecked f (.lp (e.target % 1024))
      else d.count .FWD_NO_ROUTE t

/-- A tunnelled frame: VLAN, source, destination. -/
def Dev.forwardEth (d : Dev) (f : Frm) (lp : Nat) : Dev :=
  let vlan := d.fwd.vlan.at 0 (key2 f.gen (fVid f.bytes))
  if !bitAt vlan 31 then d.count .FWD_VLAN_DROP f.die
  else
    let (fate, d) := if bitAt vlan 30 then d.learnSource f.die lp f.bytes else (.goOn, d)
    match fate with
    | .discard => d
    | .flood => d.floodFrame f vlan
    | .goOn => d.ethForward f lp vlan

/-! ## Consumed frames (R116) -/

/-- The ordering tile of a source identifier (R279). -/
def orderTile (srcType src : Nat) : Nat :=
  (List.range 6).foldl (fun t k => Nat.xor t (bitsOf src (4 * k + 3) (4 * k))) (srcType % 4)

/-- Kinds whose FCS the device checks when it consumes them (R111). -/
def consumedKind (k : Nat) : Bool := k == 0x10 || k == 0x12 || k == 0x21 || k == 0x20 || k == 0x30

/-- A frame for the device's own place goes to its unit (R116); a bad FCS is counted and the frame marked. That of a frame
whose bytes still arrive is checked as its last bytes pass (R111). -/
def Dev.consume (d : Dev) (f : Frm) : Dev :=
  let b := f.bytes
  let t := countTile f.die
  let bad := !f.part && !fcsOk b
  let d := if bad && consumedKind (fKind b) then d.count .FWD_FCS_ERR t else d
  let f := { f with fcsBad := bad }
  match fKind b with
  | 0x10 | 0x12 =>
    let w := (d.rd .DRW_STEER (4096 * t + beAt b 24 4 / 2 ^ 20)).toNat
    if bitAt w 31 then d.sendFrom { f with dest := { die := 16 + w % 8, kind := 1, id := w % 8 } }
    else d.count .CAB_STEER_MISS t
  | 0x20 =>
    let o := orderTile (fSrcType b) (fSrc b)
    d.sendFrom { f with dest := { die := o, kind := 2, id := o } }
  | 0x21 => if bad then d else d.toInbox t 4 f
  | 0x30 => d.sendFrom { f with dest := { die := deskTile d.master, kind := 3, id := d.master } }
  | _ => d.count .FWD_KIND_ERR t

/-- A frame that a unit at a die originates: stamped now, in the live bank; a shadow spine discards it (R353).
One for the device's own place is consumed there (R116). -/
def Dev.originate (d : Dev) (die : Nat) (cls : Nat) (bytes : List Byte) : Dev :=
  if d.bit F.BUR_CTL.SPINE_SHADOW 0 then d.count .BUR_SUPPRESS
  else
    let f : Frm := { bytes := bytes, cls := cls, gen := d.liveBank, stamp := d.now, src := 1024 + die, die := die,
                     acct := 69 }
    if fDstType bytes = 1 ∧ fDst bytes / 65536 = d.place then d.consume f
    else if fDstType bytes = 0 ∧ 0xF00 ≤ fDst bytes / 4096 then d.count .FWD_PLACE_ERR (countTile die)
    else d.forwardFabric f

/-! ## INGRESS_FRAME -/

/-- Place and path checks of R115 and R116: true discards the frame into FWD_PLACE_ERR. -/
def Dev.placeBad (d : Dev) (lp : Nat) (b : List Byte) : Bool :=
  let own := !d.bit F.BUR_CTL.SPARE 0 && fDst b / 65536 == d.place
  if fDstType b = 0 then decide (0xF00 ≤ fDst b / 4096)
  else if fDstType b = 1 then
    (fKind b == 0x20 && beAt b 32 1 != fDst b / 65536) ||
    (!own && d.get F.LNK_LP_PARTNER.NODE_KIND lp != 2)
  else false

/-- The source check of R117: true discards. -/
def Dev.srcSpoof (d : Dev) (lp : Nat) (b : List Byte) : Bool :=
  d.bit F.FWD_FRAME_CFG.SRC_CHECK 0 &&
  ((fSrcType b == 0 && d.get F.LNK_LP_PARTNER.NODE_KIND lp == 1 &&
      fSrc b / 4096 != d.get F.LNK_LP_PARTNER.NODE_ID lp % 4096) ||
   (fSrcType b == 1 && fSrc b / 65536 == d.place))

/-- The destination MAC is one that TRAP_EN traps (R307). -/
def Dev.ptpTrapped (d : Dev) (b : List Byte) : Bool :=
  d.bit F.MNT_CTL.TRAP_EN 0 && fKind b == 0x03 &&
  (ethDst b == 0x011B19000000 || ethDst b == 0x0180C200000E || ethDst b == d.get F.MNT_PTP_MAC.MAC 0)

/-- Cells of a frame that have formed once its first `n` bytes are here (R155); those of a tunnelled frame follow its
header. -/
def formedCells (b : List Byte) (n : Nat) : Nat :=
  if b.length ≤ n then cellsOf b else (n - if fFormat b = 1 then 24 else 0) / 256

/-- The frame of `len` bytes in reception as far as it is known: zeros stand for the bytes to come. -/
def rxBytes (buf : List Byte) (len : Nat) : List Byte := buf ++ List.replicate (len - buf.length) 0

/-- A frame for the ingress tile: its stamp, the bytes, and how many cells of it are here. -/
structure RxTake where
  /-- stamp -/
  stamp : Nat
  /-- bytes, zeros for those to come -/
  bytes : List Byte
  /-- cells formed -/
  cells : Nat
  /-- it came whole, or now, and not out of a class stream -/
  fresh : Bool := false
  deriving DecidableEq, Repr

/-- Take a received frame: one off the port's queue of whole frames, with its stamp; the frame in reception, once its first
cell has formed (R155); a frame that is neither arrives now, whole, and is accepted only in ACTIVE (R55). -/
def Dev.takeRx (d : Dev) (lp cls : Nat) (b : List Byte) : Option RxTake × Dev :=
  let r := (d.lp lp).rx.at {} cls
  match (d.lp lp).rxq.find? (fun r => r.cls == cls && r.bytes == b) with
  | some r => (some { stamp := r.stamp, bytes := b, cells := cellsOf b }, d.updLp lp fun l => { l with rxq := l.rxq.erase r })
  | none =>
    if r.taken = none ∧ 0 < formedCells b r.buf.length ∧ r.buf.length < b.length ∧ b.length = fLength r.buf ∧
        b.take r.buf.length = r.buf then
      (some { stamp := r.stamp, bytes := rxBytes r.buf b.length, cells := formedCells b r.buf.length }, d)
    else if d.lpState lp = 4 then (some { stamp := d.now, bytes := b, cells := cellsOf b, fresh := true }, d)
    else (none, d)

/-- A frame for a unit of the device itself: its place is the device's own, and the device is no spare (R116). -/
def Dev.ownFrame (d : Dev) (b : List Byte) : Bool :=
  fFormat b == 0 && fDstType b == 1 && fDst b / 65536 == d.place && !d.bit F.BUR_CTL.SPARE 0

/-- The checks of a received frame in their order, and its way on (Table 8.1). -/
def Dev.ingressFrame (d : Dev) (lp cls : Nat) (x : RxTake) : Dev :=
  let t := lp / 64
  let b := x.bytes
  if !hcrcOk b then
    let d := d.count .FWD_HCRC_ERR t
    if x.fresh then
      d.updLp lp fun l => { l with rx := l.rx.upd {} cls fun r => { r with buf := [], skip := true, lost := 0 } }
    else d
  else if !kindOk cls b then d.count .FWD_KIND_ERR t
  else
    let fabric := fFormat b == 0
    let d := d.pulse t 0x001 1 (some (lp % 64)) (some cls) (if fabric then some (fJob b) else none)
    if fabric && d.placeBad lp b then d.count .FWD_PLACE_ERR t
    else if fabric && d.srcSpoof lp b then d.count .FWD_SRC_SPOOF t
    else if fabric && !d.jobAllows (fJob b) cls then d.count .FWD_JOB_DENY t
    else
      let b := if fKind b = 0x03 then writeStamp b x.stamp else b
      let f : Frm := { bytes := b, cls := cls, gen := d.liveBank, stamp := x.stamp, src := lp, die := t,
                       acct := lp % 64, here := x.cells, part := decide (x.cells < cellsOf b) }
      if d.ptpTrapped b then d.ptpRx (d.get F.MNT_CTL.TRAP_DESK 0) x.stamp lp (b.drop 24)
      else if cls < 2 then
        let (colour, d) := d.police lp cls b
        if colour = 2 then d
        else
          let f := { f with yellow := colour == 1 }
          if fabric then d.forwardFabric f else d.forwardEth f lp
      else if !fabric then d.forwardEth f lp
      else if d.ownFrame b then d.consume f
      else d.forwardFabric f

/-- The records of a frame's copies that entered since the record numbers stood at `n`. -/
def Dev.recordsSince (d : Dev) (n : Nat) : List Nat :=
  ((List.range (d.core.nextFid - n)).map (n + ·)).filter fun x => (d.frm x).isSome

/-- Return to a logical port the credit of `k` cells of a frame that no record of it will return (R48, R163). -/
def Dev.refundRx (d : Dev) (lp cls : Nat) (b : List Byte) (l : List Nat) (k : Nat) : Dev :=
  let f : Frm := { bytes := b, cls := cls }
  if d.rxCharged l (lp % 64) then d else d.returnCredit (lp / 64) (lp % 64) f.ci k

/-- A frame arriving on a logical port (Table 8.1). What PTP traps and a response inbox takes waits for the whole frame; of
another frame in reception the records are kept, for the cells to come. The credit of what is discarded or consumed here
returns at once. -/
def Dev.ingress (d : Dev) (lp cls : Nat) (b : List Byte) : Dev :=
  match d.takeRx lp cls b with
  | (none, d) => d
  | (some x, d) =>
    let part := decide (x.cells < cellsOf x.bytes)
    if part && (d.ptpTrapped b || (d.ownFrame b && fKind b == 0x21)) then d
    else
      let n := d.core.nextFid
      let d := d.ingressFrame lp cls x
      let l := d.recordsSince n
      let d := if hcrcOk b then
          (d.refundRx lp cls b [] (creditsOf b - cellsOf b)).refundRx lp cls b l x.cells
        else d
      if part then d.updLp lp fun p => { p with rx := p.rx.upd {} cls fun r => { r with taken := some l } } else d

/-- INGRESS_FRAME -/
def execIngressFrame (lp : Fin 1024) (cls : Fin 8) (bytes : List Byte) (s : State) :
    Host.Outcome State Fault Refusal := run (·.ingress lp cls bytes) s

end Sys2Proof.Machine
end

