-- ==== Sys2Proof/Machine/Xbar.lean ====
section
/-! DEFINITION. Cells inside the package (chapter 7): resequencing, multicast replication, promotion, poison, spill, and
the frames of the mesh links. -/
namespace Sys2Proof.Machine

/-! ## Resequencer (R159, R23, R143, R425) -/

/-- The multicast copies of a local mask (R143): ports left after the fence and the flood's pruning. -/
def Dev.mcLocalCopies (d : Dev) (f : Frm) : List Nat × List Nat :=
  let lps := (bitList (d.mcMask f.gen f.group f.die) 64).map fun b => 64 * f.die + b
  let lps := lps.filter fun l => !(f.flood && l == f.src)
  (lps.filter fun l => !d.fenced l, lps.filter fun l => d.fenced l)

/-- Replicate a multicast frame at its egress tile onto the ports of the local mask (R23, R143); its colour is kept, so
that copies at the ingress tile meet the profile of the frame's colour (R179, R186). -/
def Dev.mcReplicate (d : Dev) (f : Frm) : Dev :=
  let (go, held) := d.mcLocalCopies f
  let d := d.add .FWD_FENCE_SUPP f.die held.length
  if go = [] then d.count .FWD_MC_EMPTY f.die
  else d.each go fun d l =>
    d.enterDie { f with dest := { die := f.die, kind := 0, id := l }, outq := l % 64, acct := 69, via := 4, here := 0 }

/-- A frame whose cells have all been released at its unit's tile: multicast replication, an ordering tile, or a
Desk's queue of 64. A frame with a bad FCS, or short of a cell, is discarded; so is a poisoned one (XBAR_POISON), but for
a pool request, whose ordering tile treats it as an uncorrected error (R167). -/
def Dev.deliverTile (d : Dev) (fid : Nat) (f : Frm) : Dev :=
  let d := d.removeFrm fid
  if f.lost then d
  else if f.poisoned.contains 0 ∨ f.poisoned ≠ [] ∧ (f.mcast ∨ f.dest.kind ≠ 2) then d.count .XBAR_POISON f.die
  else if f.mcast then d.mcReplicate f
  else if f.fcsBad then d
  else if f.dest.kind = 2 then d.toInbox f.die 2 f
  else if 64 ≤ (d.core.inbox.at [] (key2 f.die 3)).length then
    d.updCore fun c => { c with jobCtlFull := c.jobCtlFull + 1 }
  else d.toInbox f.die 3 f

/-- A cell of a frame lands in the packet buffer of its tile; at the first one the frame joins its egress queue, unless
the port is down (R425). A spilled frame has its place among the spilled frames since its admission (R168). -/
def Dev.land (d : Dev) (fid : Nat) : Dev :=
  match d.frm fid with
  | none => d
  | some f =>
    let g := { f with released := f.released + 1 }
    let d := d.putFrm fid g
    if f.outq < 64 then
      if f.released ≠ 0 ∨ f.lost then d
      else if !d.lpUp (64 * f.die + f.outq) then
        (d.removeFrm fid).count .LNK_DOWN_DROP (64 * f.die + f.outq)
      else if f.spilled then d
      else d.updQueue f.die f.outq f.cls fun q => { q with frames := q.frames ++ [fid] }
    else if f.outq < 68 then
      if f.released ≠ 0 then d
      else d.updQueue f.die f.outq f.cls fun q => { q with frames := q.frames ++ [fid] }
    else if g.released = g.cells then d.deliverTile fid g else d

/-- Take a cell with a SEQ off the resequencer of a triple. -/
def Triple.take (t : Triple) (seq : Nat) : Triple := { t with cells := t.cells.filter fun x => x.1 != seq }

/-- The frame and cell index with a SEQ at the resequencer of a triple. -/
def Triple.cellAt (t : Triple) (seq : Nat) : Option (Nat × Nat) := (t.cells.find? fun x => x.1 == seq).map Prod.snd

/-- Release up to `n` cells of a triple in SEQ order, each as soon as it has crossed. -/
def Dev.reseqRelease (d : Dev) (die lane grp cls : Nat) : Nat → Dev
  | 0 => d
  | n + 1 =>
    let d := d.xbarTo die lane grp cls
    let t := d.triple die lane grp cls
    match t.cellAt t.relSeq with
    | some (fid, _) =>
      ((d.updTriple die lane grp cls fun t => { t.take t.relSeq with relSeq := (t.relSeq + 1) % 65536 }).land
        fid).reseqRelease die lane grp cls n
    | none => d

/-- RESEQ_RELEASE -/
def execReseqRelease (tile : Fin 16) (lane : Fin 112) (group : Fin 22) (cls : Fin 8) (n : Nat) (s : State) :
    Host.Outcome State Fault Refusal := run (·.reseqRelease tile lane group cls n) s

/-! ## Poison (R167) -/

/-- A cell of a frame is poisoned (R167): a frame whose transmission has not begun is discarded, one that a port has begun
is completed with an inverted FCS, and both are counted in XBAR_POISON; a frame on its way over the mesh carries
the mark on, and one for a unit of the device goes to its unit. A poisoned first cell always discards its frame. -/
def Dev.poisonAt (d : Dev) (fid idx : Nat) : Dev :=
  match d.frm fid with
  | none => d
  | some f =>
    let g := { f with poisoned := f.poisoned ++ [idx] }
    if idx < f.sent ∨ f.lost then d
    else if f.outq < 64 ∧ d.begun f fid then
      let d := d.putFrm fid g
      if f.poisoned = [] then d.count .XBAR_POISON f.die else d
    else if 0 < f.sent ∨ (idx ≠ 0 ∧ f.dest.kind ≠ 0 ∧ !f.mcast) then d.putFrm fid g
    else (d.removeFrm fid).count .XBAR_POISON f.die

/-- An uncorrectable error poisons a cell of a frame: the Bureau event XBAR_POISON, and R167. -/
def Dev.poison (d : Dev) (fid idx : Nat) : Dev :=
  match d.frm fid with
  | none => d
  | some f => (d.raise (meshUnit f.die) (if f.die < 16 then 1 else 12) (instDie f.die)).poisonAt fid idx

/-- POISON_MARK -/
def execPoisonMark (frame cell : Nat) (s : State) : Host.Outcome State Fault Refusal := run (·.poison frame cell) s

/-! ## Lost cells (R159) -/

/-- Mark a frame that lost a cell (R159): discarded, or poisoned where its transmission has begun. -/
def Dev.markLost (d : Dev) (fid idx : Nat) : Dev :=
  match d.frm fid with
  | none => d
  | some f =>
    if d.begun f fid then (d.putFrm fid { f with released := f.released + 1 }).poison fid idx else d.removeFrm fid

/-- The cell with the SEQ that a triple's resequencer waits for, wherever it is on its way. -/
def Dev.awaited (d : Dev) (die lane grp cls : Nat) : Option (Nat × Nat) :=
  let t := d.triple die lane grp cls
  match t.cellAt t.relSeq with
  | some x => some x
  | none => (List.range 112).findSome? fun m =>
      ((d.core.fifo die m grp).find? fun x => x.lane == lane && x.cls == cls && x.seq == t.relSeq).map fun x => (x.fid, x.idx)

/-- Take the cell that a triple waits for out of the intermediates and the resequencer: it is lost. -/
def Dev.loseAwaited (d : Dev) (die lane grp cls : Nat) : Dev :=
  let seq := (d.triple die lane grp cls).relSeq
  let d := d.updCore fun c =>
    { c with mids := (List.range 112).foldl (fun t m =>
        Tbl.upd t [] (key3 die m grp) fun l => l.filter fun x => !(x.lane == lane && x.cls == cls && x.seq == seq)) c.mids }
  d.updTriple die lane grp cls fun t => { t.take seq with relSeq := (seq + 1) % 65536 }

/-- RESEQ_TO has passed with a cell of a triple missing while a later SEQ waits (R159): the missing cell is declared lost,
its frame marked, and the later cells are released. -/
def Dev.reseqTimeout (d : Dev) (die lane grp cls : Nat) : Dev :=
  let d := d.xbarRun (max 1 (d.get F.XBAR_CFG.RESEQ_TO die))
  let t := d.triple die lane grp cls
  if t.cells.any (fun x => x.1 != t.relSeq) then
    let gone := d.awaited die lane grp cls
    let d := d.loseAwaited die lane grp cls
    let d := match gone with | some x => d.markLost x.1 x.2 | none => d
    ((d.count .XBAR_RESEQ_TO die).raise (meshUnit die) 2 (instDie die)).reseqRelease die lane grp cls t.cells.length
  else d

/-- RESEQ_TIMEOUT -/
def execReseqTimeout (tile : Fin 16) (lane : Fin 112) (group : Fin 22) (cls : Fin 8) (s : State) :
    Host.Outcome State Fault Refusal := run (·.reseqTimeout tile lane group cls) s

/-! ## Promotion (R163) -/

/-- CELL_PROMOTION -/
def execCellPromotion (die : Fin 24) (src : Fin 70) (ci : Fin 9) (s : State) : Host.Outcome State Fault Refusal :=
  run (·.promote die src ci) s

/-! ## Spill (R168 to R170) -/

/-- A frame admitted to a queue's buffer before a frame has not reached the queue yet: the order of R160 waits for it. -/
def Dev.earlierComing (d : Dev) (fid : Nat) (f : Frm) : Bool :=
  d.core.frames.any fun e => decide (e.1 < fid ∧ e.2.released = 0) && e.2.die == f.die && e.2.outq == f.outq &&
    e.2.cls == f.cls && !e.2.spilled

/-- Read the oldest spilled frame back into the queue's buffer part, up to 256 cells ahead of the port, in the order of
admission (R160). -/
def Dev.spillRead (d : Dev) (lp cls : Nat) (ue : Bool) : Dev :=
  let t := lp / 64
  let q := d.lpQueue lp cls
  let off := d.spillOff t
  match q.spill with
  | [] => d.updQueue t (lp % 64) cls (Queue.settle off)
  | fid :: rest =>
    match d.frm fid with
    | none => d.updQueue t (lp % 64) cls fun q => { q with spill := rest }.settle off
    | some f =>
      if f.released = 0 ∨ d.earlierComing fid f then d
      else if ue then ((d.removeFrm fid).count .XBAR_SPILL_ERR t).raise t 1 (instDie t)
      else if !d.lpUp lp then (d.removeFrm fid).count .LNK_DOWN_DROP lp
      else if q.depth + f.cells ≤ 256 ∨ q.depth = 0 then
        let d := d.putFrm fid { f with spilled := false, deep := true }
        d.updQueue t (lp % 64) cls fun q =>
          ({ q with slots := q.slots - (f.cells + 1), spill := rest, frames := q.frames ++ [fid] }.grow f.cells).settle off
      else d

/-- SPILL_READBACK -/
def execSpillReadback (lp : Fin 1024) (cls : Fin 8) (uncorrectable : Bool) (s : State) :
    Host.Outcome State Fault Refusal := run (·.spillRead lp cls uncorrectable) s

/-! ## Mesh links (R171 to R174, R189) -/

/-- Cells that one frame of a mesh link carries with `g` groups in service: 64 lanes × 254 beats each, 2,176 bits
per cell and descriptor. -/
def meshCap (g : Nat) : Nat := 64 * g * 254 / 2176

/-- Mesh credit available to a class index toward a neighbour (R18, R163). -/
def Dev.meshAvail (d : Dev) (die dir ci : Nat) : Nat :=
  match meshNbr die dir with
  | none => 0
  | some c =>
    let e := d.meshEnd die dir
    (d.reserve c (64 + meshOpp dir) ci + e.returned.at 0 ci + 65536 - e.consumed.at 0 ci) % 65536

/-- The frame from which a mesh direction's class would send its next cell: the one in progress, else the first
with a released cell and credit for its pool. -/
def Dev.meshHead (d : Dev) (die dir cls : Nat) : Option (Nat × Frm) :=
  let q := d.queue die (64 + dir) cls
  let ready (fid : Nat) : Option (Nat × Frm) :=
    match d.frm fid with
    | some f =>
      if f.sent < f.released ∧ 0 < d.meshAvail die dir f.ci then some (fid, f) else none
    | none => none
  match q.cur with
  | some (fid, _) => ready fid
  | none =>
    match q.frames with
    | [] => none
    | fid :: rest =>
      match ready fid with
      | some r => some r
      | none =>
        if cls = 4 then
          -- a frame of the other pool may start while the head waits for its own pool's credit (R49, R163)
          match d.frm fid with
          | some f => rest.findSome? fun x => match ready x with
            | some (y, g) => if g.ci ≠ f.ci then some (y, g) else none
            | none => none
          | none => none
        else none

/-- Take the next cell of a class off a mesh queue. -/
def Dev.meshTake (d : Dev) (die dir cls : Nat) (fid : Nat) (f : Frm) : WireCell × Dev :=
  let wc : WireCell := { frm := f, idx := f.sent }
  let d := d.cellLeave fid
  let last := decide (f.sent + 1 = f.cells)
  let d := d.updQueue die (64 + dir) cls fun q =>
    { q with cur := if last then none else some (fid, 0),
             frames := if last then q.frames.filter (fun x => x != fid) else q.frames }
  let d := d.updEnd die dir fun e => { e with consumed := e.consumed.upd 0 f.ci fun v => (v + 1) % 65536 }
  (wc, if last then d.delFrm fid else d)

/-- The classes of a mesh direction that are not eligible lose the remainder of their turns (R188, R189). -/
def Dev.meshTurns (d : Dev) (die dir : Nat) (cs : List Nat) : Dev :=
  d.updEnd die dir fun e =>
    { e with turn := (List.range 4).foldl (fun t lvl =>
        Tbl.upd t (7, 255) lvl (turnLost (cs.filter fun c => d.prio die c == lvl))) e.turn }

/-- Choose and take cells for one frame of a mesh direction (R189). -/
def Dev.meshFill (d : Dev) (die dir : Nat) (cells : List WireCell) : Nat → List WireCell × Dev
  | 0 => (cells, d)
  | n + 1 =>
    let cs := (List.range 8).filter fun c => (d.meshHead die dir c).isSome
    let d := d.meshTurns die dir cs
    match lowestLevel (d.prio die) cs with
    | none => (cells, d)
    | some (lvl, lc) =>
      match wrrPick (d.weight die) ((d.meshEnd die dir).turn.at (7, 255) lvl) lc with
      | none => (cells, d)
      | some (c, turn) =>
        let d := d.updEnd die dir fun e => { e with turn := e.turn.put (7, 255) lvl turn }
        match d.meshHead die dir c with
        | none => (cells, d)
        | some (fid, f) =>
          let (wc, d) := d.meshTake die dir c fid f
          let d := d.pulse die 0x00A 1 (some dir) (some c) none
          d.meshFill die dir (cells ++ [wc]) n

/-- Send one frame on a mesh link direction that is up. -/
def Dev.meshSend (d : Dev) (die dir : Nat) : Dev :=
  match meshNbr die dir with
  | none => d
  | some c =>
    let r := meshReg c (meshOpp dir)
    if d.get F.XBAR_MESH_STAT.STATE r ≠ 2 then d
    else
      let (cells, d) := d.meshFill die dir [] (meshCap (d.get F.XBAR_MESH_STAT.GROUPS r))
      let e := d.meshEnd die dir
      let m : MeshFrame := { num := e.txNum, cells := cells, credits := e.credOut, replay := e.req,
                             repair := e.repairOut }
      let d := d.updEnd die dir fun e =>
        { e with txNum := (e.txNum + 1) % 65536, req := none, repairOut := none,
                 store := (e.store ++ [m]).drop ((e.store.length + 1) - 64) }
      d.updCore fun k => { k with wire := k.wire.upd [] (key2 die dir) (· ++ [m]) }

/-- MESH_FRAME_SEND -/
def execMeshFrameSend (die : Fin 24) (dir : Fin 4) (s : State) : Host.Outcome State Fault Refusal :=
  run (·.meshSend die dir) s

/-- A frame for a Cabinet die's own unit is whole: an item of a shadow stream goes to its reserved space (R248); a CONTRIB
waits for CONTRIB_RECEIVED in the contribution buffer, and until that has room with its cells still charged (R241); a
COLL_STATUS is discarded into CAB_FMT_DROP (R116). -/
def Dev.deliverCab (d : Dev) (fid : Nat) (f : Frm) : Dev :=
  match f.sh with
  | some m =>
    let m := if f.poisoned = [] then m else { m with item := .bad }
    let d := d.removeFrm fid
    { d with cab := { d.cab with stream := d.cab.stream.upd [] (f.die - 16) (· ++ [m]) } }
  | none =>
    if fKind f.bytes = 0x12 ∨ f.poisoned.contains 0 then
      let d := d.removeFrm fid
      if fKind f.bytes = 0x12 then d.count .CAB_FMT_DROP (f.die - 16) else d
    else ((d.delFrm fid).toInbox f.die 1 f).bufFill f.die

/-- A cell that no reserve holds returns its mesh credit as it arrives (R163). -/
def Dev.freeRide (d : Dev) (f : Frm) : Dev :=
  if (f.uncharged || decide (f.cells ≤ f.prom)) && !f.copy then d.returnCredit f.die f.acct f.ci 1 else d

/-- A later cell of a frame arrives at a die or forms at its ingress port, with the frame's bytes as they are now known and
the ingress tile's mark of a bad FCS. -/
def Dev.laterCell (d : Dev) (fid idx : Nat) (bytes : List Byte) (fcsBad bad : Bool) : Dev :=
  match d.frm fid with
  | none => d
  | some f0 =>
    let f := { f0 with bytes := bytes, fcsBad := f0.fcsBad || fcsBad, part := f0.part && decide (idx + 1 < cellsOf bytes) }
    let d := if lossless f.cls || f.reenq then (d.putFrm fid f).chargeReserve fid 1
      else (d.putFrm fid { f with here := f.here + 1 }).freeRide f
    let d :=
      if f.die < 16 then d.intoCrossbar fid f idx 1
      else match d.frm fid with
        | some g => d.putFrm fid { g with released := g.released + 1 }
        | none => d
    let d := if bad then d.poisonAt fid idx else d
    match d.frm fid with
    | some g =>
      if 16 ≤ g.die ∧ g.dest.kind = 1 ∧ g.dest.die = g.die ∧ !g.mcast ∧ g.released = g.cells then d.deliverCab fid g else d
    | none => d

/-- The copies of a frame that a die makes on its way, and the number of those whose link has failed. -/
def Dev.passCopies (d : Dev) (f : Frm) (from' : Nat) : List Frm × Nat :=
  if f.mcast then
    let l := d.mcCopies f from'
    (oneCredit (l.filter fun c => !d.deadCopy c), (l.filter d.deadCopy).length)
  else if d.unreachable f.die f.dest.die then ([], 1)
  else ([{ f with outq := outqOf f.die f.dest }], 0)

/-- A frame as it enters a die from direction `dir`: green (R186), and with nothing of it here yet. -/
def Frm.enters (f : Frm) (die dir : Nat) : Frm :=
  { f.fresh with die := die, acct := 64 + dir, via := dir, yellow := false, part := false, copy := false, outq := 69 }

/-- The first cell of a frame arrives at a die from direction `dir`: the copies it makes there, admitted; those bound
across a failed link are discarded (R174). -/
def Dev.firstCell (d : Dev) (die dir : Nat) (w : WireCell) : List Nat × Dev :=
  let f := w.frm.enters die dir
  if w.frm.poisoned.contains 0 then ([], d.count .XBAR_POISON die)
  else if 16 ≤ die ∧ f.dest.die = die ∧ !f.mcast then
    let (fid, d) := d.newFrm f
    let d := d.chargeReserve fid 1
    match d.frm fid with
    | some g =>
      let g := { g with released := 1 }
      ([fid], if g.cells = 1 then (d.putFrm fid g).deliverCab fid g else d.putFrm fid g)
    | none => ([], d)
  else
    let (copies, dead) := d.passCopies f dir
    copies.foldl (fun (acc : List Nat × Dev) c =>
      match acc.2.enterDieWith c 1 with
      | (some fid, d) => (acc.1 ++ [fid], d)
      | (none, d) => (acc.1, d)) ([], d.add .XBAR_LINK_DROP die dead)


/-- A cell arrives on a mesh link. Its credit returns at once where nothing of its frame is held here (R163). -/
def Dev.meshCell (d : Dev) (die dir : Nat) (w : WireCell) : Dev :=
  let ci := w.frm.ci
  let own := decide (16 ≤ die ∧ w.frm.dest.die = die) && !w.frm.mcast
  let refund (d : Dev) (l : List Nat) : Dev :=
    if d.rxCharged l (64 + dir) then d else d.returnCredit die (64 + dir) ci 1
  if w.idx = 0 then
    let (l, d) := d.firstCell die dir w
    let d := if own && l != [] then d else refund d l
    d.updEnd die dir fun e => { e with rxCur := e.rxCur.put [] ci l }
  else
    let l := (d.meshEnd die dir).rxCur.at [] ci
    let dead := if own then 0 else (d.passCopies (w.frm.enters die dir) dir).2
    let d := (refund d l).add .XBAR_LINK_DROP die dead
    d.each l fun d fid => d.laterCell fid w.idx w.frm.bytes w.frm.fcsBad (w.frm.poisoned.contains w.idx)

/-- A lane of a link direction is marked failed or retired in XBAR_MESH_LANE_BAD. -/
def Dev.laneIsBad (d : Dev) (r l : Nat) : Bool := bitAt (d.rd .XBAR_MESH_LANE_BAD (44 * r + l / 32)).toNat (l % 32)

/-- Mark lanes `l` to `l + n − 1` of a link direction failed or retired. -/
def Dev.laneBad (d : Dev) (r l n : Nat) : Dev :=
  d.each (List.range n) fun d k =>
    let i := 44 * r + (l + k) / 32
    d.wr .XBAR_MESH_LANE_BAD i 0 (BitVec.ofNat 32 (withBit (d.rd .XBAR_MESH_LANE_BAD i).toNat ((l + k) % 32) true))

/-- A qualified spare of a link direction (spares are lanes 1,344 to 1,407): the lowest one that is not failed and not
steered in place of another lane. -/
def Dev.freeSpare (d : Dev) (die dir : Nat) : Option Nat :=
  let r := meshReg die dir
  if d.get F.XBAR_MESH_STAT.SPARES r = 0 then none
  else ((List.range 64).map (1344 + ·)).find? fun s =>
    !d.laneIsBad r s && ((d.meshEnd die dir).steer.find s).isNone

/-- The receiver names the oldest lane that fails, a spare, and the frame 16 frames ahead, when no request of it is
open (R173). -/
def Dev.nameLane (d : Dev) (die dir : Nat) : Dev :=
  let e := d.meshEnd die dir
  match e.failing with
  | [] => d
  | l :: rest =>
    if e.repairOut = none ∧ e.repair = none then
      d.updEnd die dir fun e =>
        { e with failing := rest
                 repairOut := some { lane := l, spare := d.freeSpare die dir, at' := (e.rxNum + 16) % 65536 } }
    else d

/-- A lane of a link direction is found failing (R173): one in use is named in a repair request, an idle spare is lost. -/
def Dev.laneFails (d : Dev) (die dir l : Nat) : Dev :=
  let r := meshReg die dir
  let e := d.meshEnd die dir
  let named (m : Option MeshRepair) : Bool := match m with | some x => x.lane == l | none => false
  if d.laneIsBad r l || e.failing.contains l || named e.repairOut || named e.repair then d
  else if 1344 ≤ l ∧ (e.steer.find l).isNone then
    (d.laneBad r l 1).set F.XBAR_MESH_STAT.SPARES r (d.get F.XBAR_MESH_STAT.SPARES r - 1)
  else (d.updEnd die dir fun e => { e with failing := e.failing ++ [l] }).nameLane die dir

/-- Count parity errors of lanes; a lane that reaches LANE_ERR_TH within 1 ms is failing (R173). -/
def Dev.meshParity (d : Dev) (die dir : Nat) (lanes : List Nat) : Dev :=
  d.each lanes fun d l =>
    let e := d.meshEnd die dir
    let (n, t0) := e.parity.at (0, 0) l
    let (n, t0) := if n = 0 ∨ d.since t0 > 800000 then (1, d.raw) else (n + 1, t0)
    let th := max 1 (d.get F.XBAR_MESH_CFG.LANE_ERR_TH (meshReg die dir))
    if th ≤ n then (d.updEnd die dir fun e => { e with parity := e.parity.put (0, 0) l (0, 0) }).laneFails die dir l
    else d.updEnd die dir fun e => { e with parity := e.parity.put (0, 0) l (n, t0) }

/-- Receive the next frame of a mesh link direction at die `die` from its neighbour in direction `dir`. -/
def Dev.meshRecv (d : Dev) (die dir : Nat) (crcBad : Bool) (parity : List Nat) : Dev :=
  match meshNbr die dir with
  | none => d
  | some c =>
    let k := key2 c (meshOpp dir)
    match d.core.wire.at [] k with
    | [] => d
    | m :: rest =>
      let d := d.updCore fun x => { x with wire := x.wire.put [] k rest }
      let d := d.meshParity die dir parity
      let e := d.meshEnd die dir
      let hit := d.bur.nextMesh.contains (key2 die dir)
      let d := if hit then d.updBur fun b => { b with nextMesh := b.nextMesh.erase (key2 die dir) } else d
      if crcBad ∨ hit then
        let d := d.count .XBAR_MESH_CRC_ERR (meshReg die dir)
        d.updEnd die dir fun e => { e with rxDisc := true, req := some e.rxNum }
      else if m.num ≠ e.rxNum then
        -- a frame already taken, or one behind a missing frame that is asked for once
        if e.rxDisc ∨ (e.rxNum + 65536 - m.num) % 65536 < 32768 then d
        else d.updEnd die dir fun e => { e with rxDisc := true, req := some e.rxNum }
      else
        let d := d.updEnd die dir fun e =>
          { e with rxNum := (e.rxNum + 1) % 65536, rxDisc := false, req := none,
                   returned := m.credits, replayAsked := (match m.replay with | some r => some r | none => e.replayAsked),
                   repairAsked := (match m.repair with | some r => some r | none => e.repairAsked) }
        d.each m.cells fun d w => d.meshCell die dir w

/-- MESH_FRAME_RECEIVED -/
def execMeshFrameReceived (die : Fin 24) (dir : Fin 4) (crcBad : Bool) (parity : List (Fin 1408)) (s : State) :
    Host.Outcome State Fault Refusal := run (·.meshRecv die dir crcBad (parity.map Fin.val)) s

/-- The sender at `die` takes the far end's replay request: every stored frame from the one requested on is sent
again (R172); sixteen replays without progress retrain the direction. -/
def Dev.meshReplay (d : Dev) (die dir : Nat) : Dev :=
  match meshNbr die dir, (d.meshEnd die dir).replayAsked with
  | some c, some n =>
    let r := meshReg c (meshOpp dir)
    let e := d.meshEnd die dir
    let again := e.store.dropWhile fun m => m.num != n
    let np := if e.lastReq = some n then e.noProg + 1 else 1
    let d := (d.count .XBAR_MESH_REPLAY r).pulse c 0x00B 1 (some (meshOpp dir)) none none
    let d := d.updEnd die dir fun e => { e with replayAsked := none, lastReq := some n, noProg := np }
    if 16 ≤ np then
      let d := d.updEnd die dir fun e => { e with noProg := 0 }
      let d := d.updEnd c (meshOpp dir) fun e => { e with retraining := true }
      (d.count .XBAR_MESH_RETRAIN r).set F.XBAR_MESH_STAT.STATE r 3
    else d.updCore fun x => { x with wire := x.wire.upd [] (key2 die dir) fun w => w ++ again }
  | _, _ => d

/-- MESH_REPLAY_REQUEST -/
def execMeshReplayRequest (die : Fin 24) (dir : Fin 4) (s : State) : Host.Outcome State Fault Refusal :=
  run (·.meshReplay die dir) s

/-- Discard the frames queued toward a failed link at every die (R174): the cells that each die holds are counted. -/
def Dev.linkDrop (d : Dev) : Dev :=
  d.each d.core.frames fun d e =>
    let f := e.2
    let hit :=
      if f.mcast && decide (f.outq ≠ 69) && decide (64 ≤ f.outq) then d.linkFailed f.die (f.outq - 64)
      else !f.mcast && d.unreachable f.die f.dest.die
    if hit then (d.add .XBAR_LINK_DROP f.die (f.here - f.sent)).removeFrm e.1 else d

/-- A mesh link fails (R19, R172, R174): STATE 4, no groups in service, what it carried is lost, the frames queued toward it
and the parts of frames beyond it are discarded, MESH_LINK is raised. -/
def Dev.linkFail (d : Dev) (die dir : Nat) : Dev :=
  let r := meshReg die dir
  let d := (d.set F.XBAR_MESH_STAT.STATE r 4).set F.XBAR_MESH_STAT.GROUPS r 0
  let d := d.updEnd die dir fun e =>
    { e with retraining := false, repair := none, repairOut := none, failing := [], store := [] }
  let d := match meshNbr die dir with
    | some c =>
      (d.updCore fun x => { x with wire := (x.wire.erase (key2 c (meshOpp dir))).erase (key2 die dir) }).updEnd c
        (meshOpp dir) fun e => { e with store := [] }
    | none => d
  ((d.linkDrop).orphans true).raise (meshUnit die) 6 (instMesh die dir)

/-- The sender at `die` takes a repair request: both ends agree it, unless the mesh-lane budget of the direction is
spent (R173, R348). -/
def Dev.meshRepair (d : Dev) (die dir : Nat) : Dev :=
  match meshNbr die dir, (d.meshEnd die dir).repairAsked with
  | some c, some r =>
    let d := d.updEnd die dir fun e => { e with repairAsked := none }
    let (ok, d) := d.tryExpel 2 (meshReg c (meshOpp dir)) (instMesh c (meshOpp dir))
    if ok then
      (d.updEnd die dir fun e => { e with repair := some r }).updEnd c (meshOpp dir) fun e => { e with repair := some r }
    else d
  | _, _ => d

/-- MESH_REPAIR_REQUEST -/
def execMeshRepairRequest (die : Fin 24) (dir : Fin 4) (s : State) : Host.Outcome State Fault Refusal :=
  run (·.meshRepair die dir) s

end Sys2Proof.Machine
end

