-- ==== Sys2Proof/Machine/Tables.lean ====
section
/-! DEFINITION. Commands on the forwarding tables (chapter 6): withdrawal, learning, ageing, bank swaps and drains, and
the indirect block; the job entry and the rank map (R119, R131). -/
namespace Sys2Proof.Machine

/-! ## Withdrawal (R141) -/

/-- A frame in reception goes on as another record: the mesh directions and the class streams of its die follow it. -/
def Dev.moveRx (d : Dev) (t old new : Nat) : Dev :=
  let go (l : List Nat) : List Nat := l.map fun x => if x = old then new else x
  let d := d.each (List.range 4) fun d dir =>
    d.updEnd t dir fun e => { e with rxCur := e.rxCur.map fun x => (x.1, go x.2) }
  d.each (List.range 64) fun d k =>
    d.updLp (64 * t + k) fun l => { l with rx := l.rx.map fun x => (x.1, { x.2 with taken := x.2.taken.map go }) }

/-- Choose a frame's member again in the bank of its own generation bit (R141); no eligible member drops it. -/
def Dev.reenqueue (d : Dev) (t old : Nat) (f : Frm) : Dev :=
  let entry : Option (Nat × Bool) :=
    if fFormat f.bytes = 0 then
      if fDstType f.bytes = 0 then some (fDst f.bytes / 4096, true)
      else if fDstType f.bytes = 1 then some (0xF00 + fDst f.bytes / 65536, true) else none
    else match d.learnFind t (fVid f.bytes) (ethDst f.bytes) with
      | some (_, e) => if e.leaf then some (e.target, false) else none
      | none => none
  match entry with
  | none => d.count .FWD_REENQ_DROP t
  | some (e, spray) =>
    match d.memberChoice t f.gen e f.cls spray f.bytes with
    | (.lp n, d) =>
      let new := d.core.nextFid
      ((d.count .FWD_REENQ t).sendLp { f with die := t, acct := 69, reenq := true } n).moveRx t old new
    | (_, d) => d.count .FWD_REENQ_DROP t

/-- Re-enqueue every frame queued at a port that has not begun transmission; multicast copies stay. -/
def Dev.withdrawQueues (d : Dev) (lp : Nat) : Dev :=
  d.each (List.range 8) fun d c =>
    let q := d.lpQueue lp c
    d.each (q.frames ++ q.spill) fun d fid =>
      match d.frm fid with
      | some f => if f.mcast || d.begun f fid then d else (d.removeFrm fid).reenqueue (lp / 64) fid f
      | none => d

/-- A write of a word of withdraw bits: the bits change together, then the ports whose bit went from 0 to 1 give their
queued frames back. -/
def Dev.withdrawWrite (d : Dev) (i : Nat) (v : Word) : Dev :=
  let old := (d.rd .FWD_LP_WITHDRAW i).toNat
  let d := d.wr .FWD_LP_WITHDRAW i 0 v
  d.each ((bitList v.toNat 32).filter fun n => !bitAt old n) fun d n => d.withdrawQueues (32 * i + n)

/-- A withdraw bit goes to 1. -/
def Dev.withdraw (d : Dev) (lp : Nat) : Dev :=
  d.withdrawWrite (lp / 32) (BitVec.ofNat 32 (withBit (d.rd .FWD_LP_WITHDRAW (lp / 32)).toNat (lp % 32) true))

/-- LP_WITHDRAW -/
def execLpWithdraw (a : Access) (lp : Fin 1024) (s : State) : Host.Outcome State Fault Refusal :=
  run (fun d => d.onWrite a .FWD_LP_WITHDRAW (lp / 32) 0 fun d => d.withdraw lp) s

/-! ## Learning (R145, R146, R148) -/

/-- Take the oldest learn request of an owner tile if it is of a kind. -/
def Dev.takeLearn (d : Dev) (t kind : Nat) : Option LearnReq × Dev :=
  match d.fwd.learnQ.at [] t with
  | r :: rest =>
    if r.kind = kind then (some r, d.updFwd fun w => { w with learnQ := w.learnQ.put [] t rest }) else (none, d)
  | [] => (none, d)

/-- The owner sets HIT and clears STALE on a reported entry. -/
def Dev.learnHit (d : Dev) (t : Nat) : Dev :=
  match d.takeLearn t 0 with
  | (some r, d) =>
    match d.ownerFind r.vid r.mac with
    | some (i, e) => d.learnChange t i (some { e with hit := true, stale := false })
    | none => d
  | (none, d) => d

/-- LEARN_HIT_REPORT -/
def execLearnHitReport (tile : Fin 16) (s : State) : Host.Outcome State Fault Refusal := run (·.learnHit tile) s

/-- The owner rewrites TARGET of a moved key. -/
def Dev.learnMove (d : Dev) (t : Nat) : Dev :=
  match d.takeLearn t 1 with
  | (some r, d) =>
    match d.ownerFind r.vid r.mac with
    | some (i, e) =>
      if e.static then d
      else (d.learnChange t i (some { e with leaf := false, target := r.lp, hit := true, stale := false })).count
        .FWD_LEARN_MOVE t
    | none => d
  | (none, d) => d

/-- LEARN_MOVE_REQUEST -/
def execLearnMoveRequest (tile : Fin 16) (s : State) : Host.Outcome State Fault Refusal := run (·.learnMove tile) s

/-- The owner inserts a learned key, or counts FWD_LEARN_FAIL; a key that it holds already is left in its place. -/
def Dev.learnInsert (d : Dev) (t : Nat) : Dev :=
  match d.takeLearn t 2 with
  | (some r, d) =>
    match d.ownerFind r.vid r.mac with
    | some _ => d
    | none =>
      match d.learnPlace r.vid r.mac with
      | some i => d.learnChange t i (some ⟨r.vid, r.mac, false, true, false, false, r.lp⟩)
      | none => d.count .FWD_LEARN_FAIL t
  | (none, d) => d

/-- LEARN_INSERT_REQUEST -/
def execLearnInsertRequest (tile : Fin 16) (s : State) : Host.Outcome State Fault Refusal := run (·.learnInsert tile) s

/-- A tile's copy applies the oldest change it has not applied (R145). -/
def Dev.learnApply (d : Dev) (t : Nat) : Dev :=
  match d.fwd.learnUpd.at [] t with
  | [] => d
  | (i, new) :: rest =>
    d.updFwd fun w =>
      { w with
        learnUpd := w.learnUpd.put [] t rest
        learnLag := if rest.any (fun u => u.1 == i) then w.learnLag.insert (key2 t i) new
          else w.learnLag.erase (key2 t i) }

/-- LEARN_UPDATE_APPLY -/
def execLearnUpdateApply (tile : Fin 16) (s : State) : Host.Outcome State Fault Refusal := run (·.learnApply tile) s

/-- The sweeper of a tile visits every non-static entry it owns once (R148). -/
def Dev.ageSweep (d : Dev) (t : Nat) : Dev :=
  if !d.bit F.FWD_AGE_CFG.AGE_EN 0 then d
  else d.each (d.fwd.learn.filter fun e => !e.2.static && learnOwner e.2.vid e.2.mac == t) fun d e =>
    let (i, x) := e
    if x.hit then d.learnChange t i (some { x with hit := false, stale := false })
    else if !x.stale then d.learnChange t i (some { x with stale := true })
    else (d.learnChange t i none).count .FWD_AGE_REMOVE t

/-- AGE_SWEEP -/
def execAgeSweep (tile : Fin 16) (s : State) : Host.Outcome State Fault Refusal := run (·.ageSweep tile) s

/-! ## Bank swaps and drains (R149 to R152) -/

/-- SWAP_NOW -/
def execSwapNow (a : Access) (s : State) : Host.Outcome State Fault Refusal :=
  run (fun d => d.onWrite a .FWD_BANK_CTL 0 0 Dev.routeSwap) s

/-- DRAINING clears: the old bank becomes the shadow. -/
def Dev.drainClear (d : Dev) : Dev := d.setB F.FWD_BANK_CTL.DRAINING 0 false

/-- Every die reports no old-generation cell. -/
def Dev.drainComplete (d : Dev) : Dev :=
  if d.bit F.FWD_BANK_CTL.DRAINING 0 ∧
      (List.range 24).all (fun m => d.drainCells m (1 - d.liveBank) == 0) then d.drainClear
  else d

/-- DRAIN_COMPLETE -/
def execDrainComplete (s : State) : Host.Outcome State Fault Refusal := run Dev.drainComplete s

/-- Count cells discarded under R151 at a die and raise FWD_STALE_DROP of its unit. -/
def Dev.staleDrop (d : Dev) (m n : Nat) : Dev :=
  if n = 0 then d
  else if m < 16 then (d.add .FWD_STALE_DROP m n).raise m 11 (instDie m)
  else (d.add .FWD_STALE_DROP_CAB (m - 16) n).raise (m + 16) 9 (instDie m)

/-- The frames whose transmission a port has begun. -/
def Dev.begunUids (d : Dev) : List Nat :=
  (d.core.frames.filter fun e => decide (e.2.outq < 64) && d.begun e.2 e.1).map fun e => e.2.uid

/-- A frame of a generation that is discarded, `on` being those that a port has begun to send. -/
def Frm.stale (f : Frm) (g : Nat) (on : List Nat) : Bool := f.gen == g && !on.contains f.uid

/-- The frames of a mesh output without the cells of discarded frames. -/
def withoutStale (g : Nat) (on : List Nat) (l : List MeshFrame) : List MeshFrame :=
  l.map fun w => { w with cells := w.cells.filter fun c => !c.frm.stale g on }

/-- A die discards every frame of a generation that no port has begun to send: the cells it holds and those on its mesh
outputs, whose mesh credit returns (R151). -/
def Dev.dropOld (d : Dev) (g : Nat) (on : List Nat) (m : Nat) : Dev :=
  let olds := d.core.frames.filter fun e => e.2.die == m && e.2.stale g on
  let n := (olds.map fun e => e.2.here - e.2.sent).sum
  let out (dir : Nat) : List WireCell := (d.meshOutCells m dir).filter fun c => c.frm.stale g on
  let wired := ((List.range 4).map fun dir => (out dir).length).sum
  let d := d.each olds fun d e => d.removeFrm e.1
  let d := d.each (List.range 4) fun d dir =>
    (d.updCore fun c => { c with wire := c.wire.upd [] (key2 m dir) (withoutStale g on) }).updEnd m dir fun e =>
      { e with store := withoutStale g on e.store,
               consumed := (out dir).foldl (fun t c => Tbl.upd t 0 c.frm.ci fun v => (v + 65535) % 65536) e.consumed }
  d.staleDrop m (n + wired)

/-- At L + 100 µs each die discards the old generation, and DRAINING clears (R151). -/
def Dev.drainTimeout (d : Dev) : Dev :=
  if d.bit F.FWD_BANK_CTL.DRAINING 0 then
    let g := 1 - d.liveBank
    let on := d.begunUids
    (d.each (List.range 24) fun d m => d.dropOld g on m).drainClear
  else d

/-- DRAIN_TIMEOUT -/
def execDrainTimeout (s : State) : Host.Outcome State Fault Refusal := run Dev.drainTimeout s

/-! ## The indirect block (R153) -/

/-- A command of a Desk's indirect block ends with a STATUS; CMD_DONE is raised at that Desk. -/
def Dev.indDone (d : Dev) (k op table : Nat) (bank : Bool) (status : Nat) : Dev :=
  (d.wr .FWD_IND_CMD k 0
    (BitVec.ofNat 32 (op * 2 ^ 28 + table * 2 ^ 24 + bank.toNat * 2 ^ 23 + status * 2 ^ 20))).irq k 4

/-- Entries of an indirect table, none for a reserved TABLE code. -/
def indSize (table : Nat) : Option Nat :=
  match table with
  | 0 => some 4096 | 1 => some 4096 | 2 => some 65536 | 3 => some 65536 | 4 => some 278528 | 5 => some 4096
  | _ => none

/-- A bank accepts writes (R150). -/
def Dev.bankWritable (d : Dev) (bank : Nat) : Bool :=
  !(bank == d.liveBank && d.bit F.DESK_PROT_LOCK.LOCKED 0) &&
  !(bank != d.liveBank && d.bit F.FWD_BANK_CTL.DRAINING 0)

/-- A data word of a Desk's indirect block. -/
def Dev.indData (d : Dev) (k n : Nat) : Nat := (d.rd .FWD_IND_DATA (32 * k + n)).toNat

/-- Write a data word. -/
def Dev.setInd (d : Dev) (k n v : Nat) : Dev := d.wr .FWD_IND_DATA (32 * k + n) 0 (BitVec.ofNat 32 v)

/-- The three words of a learning entry (Table 6.5). -/
def LearnEnt.words (e : LearnEnt) : List Nat :=
  [e.mac % 2 ^ 32, e.vid * 65536 + e.mac / 2 ^ 32,
   2 ^ 31 + e.static.toNat * 2 ^ 30 + e.hit.toNat * 2 ^ 29 + e.stale.toNat * 2 ^ 28 + e.leaf.toNat * 2 ^ 27 + e.target]

/-- The learning entry that three data words name. -/
def learnOfWords (w0 w1 w2 : Nat) : LearnEnt :=
  { vid := bitsOf w1 27 16, mac := w1 % 65536 * 2 ^ 32 + w0, static := bitAt w2 30, hit := bitAt w2 29,
    stale := bitAt w2 28, leaf := bitAt w2 27, target := w2 % 4096 }

/-- Put a learning entry's words into the data words. -/
def Dev.setIndLearn (d : Dev) (k : Nat) (ws : List Nat) : Dev :=
  ((d.setInd k 0 (ws.getD 0 0)).setInd k 1 (ws.getD 1 0)).setInd k 2 (ws.getD 2 0)

/-- Read an entry into the data words. -/
def Dev.indReadTo (d : Dev) (k table bank i : Nat) : Dev :=
  match table with
  | 0 => d.setInd k 0 (d.leafEnt bank i).hdr
  | 1 => d.each (List.range 32) fun d n =>
      let l := d.leafEnt bank i
      d.setInd k n (l.slots.at 0 (2 * n) + 65536 * l.slots.at 0 (2 * n + 1))
  | 2 => d.setInd k 0 (d.mcWord bank i)
  | 3 =>
    let m := d.mcMask bank i (d.get F.FWD_IND_SUB.TILE k)
    (d.setInd k 0 (m % 2 ^ 32)).setInd k 1 (m / 2 ^ 32)
  | 4 => match d.copyAt (deskTile k) i with
    | some e => d.setIndLearn k e.words
    | none => d.setIndLearn k [0, 0, 0]
  | _ => d.setInd k 0 (d.fwd.vlan.at 0 (key2 bank i))

/-- An indirect read. -/
def Dev.indRead (d : Dev) (k table : Nat) (bank : Bool) : Dev :=
  let i := d.get F.FWD_IND_INDEX.INDEX k
  match indSize table with
  | none => d.indDone k 0 table bank 5
  | some n => if n ≤ i then d.indDone k 0 table bank 1 else (d.indReadTo k table bank.toNat i).indDone k 0 table bank 0

/-- FWD_IND_READ -/
def execFwdIndRead (a : Access) (table : Fin 16) (bank : Bool) (s : State) : Host.Outcome State Fault Refusal :=
  run (fun d => d.onWrite a .FWD_IND_CMD a.deskB.toNat 0 fun d => d.indRead a.deskB.toNat table bank) s

/-- Write the data words into an entry of a banked table on every copy. -/
def Dev.indWriteTo (d : Dev) (k table bank i : Nat) : Dev :=
  match table with
  | 0 => d.updFwd fun w =>
      { w with leaf := w.leaf.upd {} (key2 bank i) fun l => { l with hdr := d.indData k 0 / 2 ^ 29 * 2 ^ 29 } }
  | 1 => d.updFwd fun w =>
      { w with leaf := w.leaf.upd {} (key2 bank i) fun l =>
        { l with slots := (List.range 64).foldl (fun t n =>
            let v := d.indData k (n / 2) / (if n % 2 = 0 then 1 else 65536) % 65536
            Tbl.put t 0 n (v / 32768 * 32768 + v % 1024)) [] } }
  | 2 => d.updFwd fun w =>
      { w with mcTile := w.mcTile.put 0 (key2 bank i) (d.indData k 0 / 2 ^ 31 * 2 ^ 31 + d.indData k 0 % 65536) }
  | 3 =>
    let v := d.indData k 0 + 2 ^ 32 * d.indData k 1
    d.updFwd fun w => { w with mcLocal := w.mcLocal.put 0 (key3 bank i (d.get F.FWD_IND_SUB.TILE k)) v }
  | _ => d.updFwd fun w =>
      { w with vlan := w.vlan.put 0 (key2 bank i) (d.indData k 0 / 2 ^ 30 * 2 ^ 30 + d.indData k 0 % 65536) }

/-- An indirect write: refused out of range, into a bank that is not writable, and for a learning entry that is not
static. -/
def Dev.indWrite (d : Dev) (k table : Nat) (bank : Bool) : Dev :=
  let i := d.get F.FWD_IND_INDEX.INDEX k
  match indSize table with
  | none => d.indDone k 1 table bank 5
  | some n =>
    if n ≤ i then d.indDone k 1 table bank 1
    else if table = 4 then
      let w2 := d.indData k 2
      if !bitAt w2 30 then d.indDone k 1 table bank 5
      else
        let e := learnOfWords (d.indData k 0) (d.indData k 1) w2
        let d := d.learnChange (learnOwner e.vid e.mac) i (if bitAt w2 31 then some e else none)
        (d.learnSync).indDone k 1 table bank 0
    else if !d.bankWritable bank.toNat then (d.count .FWD_LATE_WR_CNT).indDone k 1 table bank 2
    else ((d.indWriteTo k table bank.toNat i).genBump).indDone k 1 table bank 0

/-- FWD_IND_WRITE -/
def execFwdIndWrite (a : Access) (table : Fin 16) (bank : Bool) (s : State) : Host.Outcome State Fault Refusal :=
  run (fun d => d.onWrite a .FWD_IND_CMD a.deskB.toNat 0 fun d => d.indWrite a.deskB.toNat table bank) s

/-- Where an inserted static entry goes, with its HIT and STALE: in place of an entry of the same key, which keeps them, or
as R146 places one, with HIT = 1. -/
def Dev.insertPlace (d : Dev) (e : LearnEnt) : Option (Nat × LearnEnt) :=
  match d.ownerFind e.vid e.mac with
  | some (i, x) => some (i, { e with static := true, hit := x.hit, stale := x.stale })
  | none => (d.learnPlace e.vid e.mac).map fun i => (i, { e with static := true, hit := true, stale := false })

/-- An indirect insert (TABLE 4) of a static entry. -/
def Dev.indInsert (d : Dev) (k table : Nat) (bank : Bool) : Dev :=
  if table ≠ 4 ∨ !bitAt (d.indData k 2) 30 then d.indDone k 2 table bank 5
  else
    match d.insertPlace (learnOfWords (d.indData k 0) (d.indData k 1) (d.indData k 2)) with
    | none => d.indDone k 2 table bank 4
    | some (i, e) =>
      let d := (d.learnChange (learnOwner e.vid e.mac) i (some e)).learnSync
      ((d.set F.FWD_IND_INDEX.INDEX k i).setIndLearn k e.words).indDone k 2 table bank 0

/-- BANK of a Desk's indirect block as it stands. -/
def Dev.indBank (d : Dev) (k : Nat) : Bool := bitAt (d.rd .FWD_IND_CMD k).toNat 23

/-- FWD_IND_INSERT -/
def execFwdIndInsert (a : Access) (table : Fin 16) (s : State) : Host.Outcome State Fault Refusal :=
  run (fun d => d.onWrite a .FWD_IND_CMD a.deskB.toNat 0 fun d =>
    d.indInsert a.deskB.toNat table (d.indBank a.deskB.toNat)) s

/-- An indirect delete (TABLE 4). -/
def Dev.indDelete (d : Dev) (k table : Nat) (bank : Bool) : Dev :=
  if table ≠ 4 then d.indDone k 3 table bank 5
  else
    let e := learnOfWords (d.indData k 0) (d.indData k 1) 0
    match d.ownerFind e.vid e.mac with
    | some (i, _) => ((d.learnChange (learnOwner e.vid e.mac) i none).learnSync).indDone k 3 table bank 0
    | none => d.indDone k 3 table bank 3

/-- FWD_IND_DELETE -/
def execFwdIndDelete (a : Access) (table : Fin 16) (s : State) : Host.Outcome State Fault Refusal :=
  run (fun d => d.onWrite a .FWD_IND_CMD a.deskB.toNat 0 fun d =>
    d.indDelete a.deskB.toNat table (d.indBank a.deskB.toNat)) s

/-- An indirect search (TABLE 4): the key's owner answers (R153). -/
def Dev.indSearch (d : Dev) (k table : Nat) (bank : Bool) : Dev :=
  if table ≠ 4 then d.indDone k 4 table bank 5
  else
    let e := learnOfWords (d.indData k 0) (d.indData k 1) 0
    match d.ownerFind e.vid e.mac with
    | some (i, x) => ((d.set F.FWD_IND_INDEX.INDEX k i).setIndLearn k x.words).indDone k 4 table bank 0
    | none => d.indDone k 4 table bank 3

/-- FWD_IND_SEARCH -/
def execFwdIndSearch (a : Access) (table : Fin 16) (s : State) : Host.Outcome State Fault Refusal :=
  run (fun d => d.onWrite a .FWD_IND_CMD a.deskB.toNat 0 fun d =>
    d.indSearch a.deskB.toNat table (d.indBank a.deskB.toNat)) s

/-! ## Rank map and job entry -/

/-- The bits of a rank-map entry that exist (Table 5.12). -/
def rankMapMask : Word := 0xB0FFFFFF

/-- Write a rank-map entry on all 24 copies (R119). -/
def Dev.rankMapPut (d : Dev) (e : Nat) (v : Word) : Dev := (d.wr .FWD_RANK_MAP e 0 (v &&& rankMapMask)).genBump

/-- RANK_MAP_REG_WRITE -/
def execRankMapRegWrite (a : Access) (e : Fin 262144) (v : Word) (s : State) : Host.Outcome State Fault Refusal :=
  run (fun d => d.onWrite a .FWD_RANK_MAP e 0 fun d => d.rankMapPut e v) s

/-- The bits of FWD_JOB word 0 that exist (Table 5.11). -/
def jobWord0Mask : Word := 0xF0FF0000

/-- Put all four words of a job entry in force on every die (R131). -/
def Dev.jobPut (d : Dev) (j : Nat) (ws : List Word) : Dev :=
  (List.range 4).foldl (fun d w =>
    (d.wr .FWD_JOB j w (ws.getD w 0)).updFwd fun x => { x with job := x.job.put 0 (key2 j w) (ws.getD w 0) }) d

/-- A write of word 0 of FWD_JOB commits all four words, or raises FWD_JOB_BAD and leaves the entry as it is; either way
all four words then read the entry in force (R131). -/
def Dev.jobCommit (d : Dev) (desk j : Nat) (v : Word) : Dev :=
  let w1 := d.rd .FWD_JOB j 1
  let w2 := d.rd .FWD_JOB j 2
  let w3 := d.rd .FWD_JOB j 3
  if bitsOf w2.toNat 17 0 + bitsOf w3.toNat 18 0 ≤ 262144 then
    (d.jobPut j [v &&& jobWord0Mask, w1, w2, w3]).genBump
  else
    (d.each [1, 2, 3] fun d w => d.wr .FWD_JOB j w (BitVec.ofNat 32 (d.jobWord j w))).raise (41 + desk) 3 (instDie (26 + desk))

/-- JOB_ENTRY_COMMIT -/
def execJobEntryCommit (a : Access) (j : Fin 4096) (v : Word) (s : State) : Host.Outcome State Fault Refusal :=
  run (fun d => d.onWrite a .FWD_JOB j 0 fun d => d.jobCommit a.deskB.toNat j v) s

end Sys2Proof.Machine
end

