-- ==== Sys2Proof/Machine/Phy.lean ====
section
/-! DEFINITION. What leaves a logical port on its lanes: the lane map, codewords, striping, scrambling, levels, lane
markers and the pattern of idle spares (R29, R31 to R38, R62, R63). -/
namespace Sys2Proof.Machine

/-! ## Lane maps (R31 to R34) -/

/-- The physical port of a logical port (R31). -/
def lpPort (lp : Nat) : Nat := lp / 4

/-- The sub-port of a logical port (R31). -/
def lpSub (lp : Nat) : Nat := lp % 4

/-- The register index of a lane of a physical port. -/
def laneIx (port lane : Nat) : Nat := 18 * port + lane

/-- The role of a lane in one direction (Table 2.2). -/
def Dev.role (d : Dev) (port lane : Nat) (rx : Bool) : Nat :=
  d.get (if rx then F.LNK_LANE_CFG.RX_ROLE else F.LNK_LANE_CFG.TX_ROLE) (laneIx port lane)

/-- The position of a lane in one direction. -/
def Dev.pos (d : Dev) (port lane : Nat) (rx : Bool) : Nat :=
  d.get (if rx then F.LNK_LANE_CFG.RX_POS else F.LNK_LANE_CFG.TX_POS) (laneIx port lane)

/-- Set the position of a lane in one direction. -/
def Dev.setPos (d : Dev) (port lane : Nat) (rx : Bool) (p : Nat) : Dev :=
  d.set (if rx then F.LNK_LANE_CFG.RX_POS else F.LNK_LANE_CFG.TX_POS) (laneIx port lane) p

/-- The lanes of a physical port that hold a role in one direction. -/
def Dev.lanesOf (d : Dev) (port role : Nat) (rx : Bool) : List Nat :=
  (List.range 18).filter fun j => d.role port j rx == role

/-- The lanes that serve a logical port in one direction. -/
def Dev.lpLanes (d : Dev) (lp : Nat) (rx : Bool) : List Nat := d.lanesOf (lpPort lp) (lpSub lp) rx

/-- The sub-port whose position in one direction a lane out of service still holds. -/
def LaneSt.out (x : LaneSt) (rx : Bool) : Option Nat := if rx then x.rxOut else x.txOut

/-- A lane holds the position of a sub-port in one direction while out of service, or none. -/
def LaneSt.setOut (x : LaneSt) (rx : Bool) (s : Option Nat) : LaneSt :=
  if rx then { x with rxOut := s } else { x with txOut := s }

/-- The lanes out of service whose position the logical port has not given to another lane yet (R64). -/
def Dev.heldLanes (d : Dev) (lp : Nat) (rx : Bool) : List Nat :=
  (List.range 18).filter fun j => (d.lane (laneIx (lpPort lp) j)).out rx == some (lpSub lp)

/-- A lane has a position of a logical port in one direction, in service or out of it. -/
def Dev.holds (d : Dev) (lp lane : Nat) (rx : Bool) : Bool :=
  d.role (lpPort lp) lane rx == lpSub lp || (d.lane (laneIx (lpPort lp) lane)).out rx == some (lpSub lp)

/-- Positions of the transmit direction: n of R36. -/
def Dev.stripes (d : Dev) (lp : Nat) : Nat := (d.lpLanes lp false).length + (d.heldLanes lp false).length

/-! ## RS(544,514) over GF(2¹⁰) (R35) -/

/-- Multiply a symbol by x modulo x¹⁰ + x³ + 1. -/
def gfDouble (a : Nat) : Nat := if 512 ≤ a then Nat.xor (2 * a) 0x409 else 2 * a

/-- The product of two symbols, the second taken over its low `k` bits. -/
def gfMul (a b : Nat) : Nat → Nat
  | 0 => 0
  | k + 1 => Nat.xor (if bitAt b 0 then a else 0) (gfMul (gfDouble a) (b / 2) k)

/-- αⁱ, α being x. -/
def gfPow : Nat → Nat
  | 0 => 1
  | i + 1 => gfDouble (gfPow i)

/-- A polynomial, lowest coefficient first, times (x − r). -/
def timesRoot (p : List Nat) (r : Nat) : List Nat :=
  List.zipWith Nat.xor (0 :: p) (p.map (fun c => gfMul c r 10) ++ [0])

/-- The generator polynomial, the product of x − αⁱ for i from 0 to 29, lowest coefficient first. -/
def rsGen : List Nat := (List.range 30).foldl (fun p i => timesRoot p (gfPow i)) [1]

/-- One step of the division by the generator: `r` holds the 30 coefficients of the remainder, the highest first. -/
def rsStep (low : List Nat) (r : List Nat) (s : Nat) : List Nat :=
  let top := Nat.xor s (r.headD 0)
  List.zipWith Nat.xor (r.drop 1 ++ [0]) (low.map fun g => gfMul g top 10)

/-- The 30 parity symbols of a message, the highest coefficient first. -/
def rsParity (msg : List Nat) : List Nat := msg.foldl (rsStep (rsGen.take 30).reverse) (List.replicate 30 0)

/-- The value of bits, the first the most significant. -/
def bitsVal (l : List Bool) : Nat := l.foldl (fun a b => 2 * a + b.toNat) 0

/-- The low `n` bits of a value, the most significant first. -/
def msbBits (v n : Nat) : List Bool := (List.range n).map fun i => bitAt v (n - 1 - i)

/-- Bytes as bits, each most significant bit first (R7, R42). -/
def bytesBits (bs : List Byte) : List Bool := bs.flatMap fun b => msbBits b.toNat 8

/-- Symbols of ten consecutive bits. -/
def symbolsOf (bits : List Bool) : Nat → List Nat
  | 0 => []
  | n + 1 => bitsVal (bits.take 10) :: symbolsOf (bits.drop 10) n

/-- The codeword of 5,140 message bits: 514 message symbols and 30 of parity. -/
def codewordOf (bits : List Bool) : List Nat :=
  let msg := symbolsOf bits 514
  msg ++ rsParity msg

/-! ## Striping, scrambling and levels (R29, R36, R37) -/

/-- The symbols that position `p` of `n` takes of a stream that goes on at symbol number `i`. -/
def dealt (n p i : Nat) : List Nat → List Nat
  | [] => []
  | s :: r => if i % n = p then s :: dealt n p (i + 1) r else dealt n p (i + 1) r

/-- The scrambler's seed at the first bit after a marker. -/
def scrSeed (pos port : Nat) : Nat := Nat.xor (Nat.xor 0x2AAAAAAA (pos * 256)) port

/-- Each bit XORed with the next output bit of the scrambler, which is the new bit of its register (R185; DEDUCED, log 169: R37
names the polynomial alone); the register after. -/
def scramble : Nat → List Bool → List Bool × Nat
  | s, [] => ([], s)
  | s, b :: r =>
    let s := lfsr31 s
    let x := scramble s r
    ((b != bitAt s 0) :: x.1, x.2)

/-- Two bits as a field level, in Gray code. -/
def grayLevel (a b : Bool) : Int :=
  match a, b with
  | false, false => -3
  | false, true => -1
  | true, true => 1
  | true, false => 3

/-- Bits as lane symbols, two to each, first bit first. -/
def levelsOf : List Bool → List Int
  | a :: b :: r => grayLevel a b :: levelsOf r
  | _ => []

/-- The lane that mirrors a position now, with the lane that it mirrors (R63): from CW − 4,096 to SWITCH_DONE. -/
def Lp.mirror (l : Lp) : Option LaneTxn :=
  match l.txTxn with
  | some t => if t.op = 3 ∧ t.phase = 2 then some t else none
  | none => none

/-- The lanes that carry a position of a logical port, with the position: those of the map, and a spare that mirrors. -/
def Dev.carriers (d : Dev) (lp : Nat) : List (Nat × Nat) :=
  let p := lpPort lp
  ((d.lpLanes lp false).map fun j => (j, d.pos p j false)) ++
  match (d.lp lp).mirror with
  | some t => [(t.spare, d.pos p t.lane false)]
  | none => []

/-- The bits of one codeword for a position, scrambled: the scrambler goes on from where it stands. -/
def Dev.lineBits (d : Dev) (lp p : Nat) (word : List Nat) : List Bool × Nat :=
  let l := d.lp lp
  scramble (l.scr.at (scrSeed p (lpPort lp)) p) ((dealt (d.stripes lp) p l.sym word).flatMap fun s => msbBits s 10)

/-- A codeword leaves on the lanes of a logical port. -/
def Dev.sendCodeword (d : Dev) (lp : Nat) (word : List Nat) : Dev :=
  let port := lpPort lp
  let e := d.each (d.carriers lp) fun e c => e.emit (.symbols port c.1 (levelsOf (d.lineBits lp c.2 word).1))
  e.updLp lp fun l =>
    { l with sym := l.sym + word.length
             scr := (List.range (d.stripes lp)).foldl (fun t p => Tbl.put t (scrSeed p port) p (d.lineBits lp p word).2) l.scr }

/-- Message bits enter the stream of a logical port: each 5,140 of them leave as a codeword. -/
def Dev.sendBits (d : Dev) (lp : Nat) (bits : List Bool) : Dev :=
  let all := (d.lp lp).fec ++ bits
  if 5140 ≤ all.length then
    (d.updLp lp fun l => { l with fec := all.drop 5140 }).sendCodeword lp (codewordOf (all.take 5140))
  else d.updLp lp fun l => { l with fec := all }

/-- The codeword in progress is filled with zeros and leaves: the next marker, or the loss of light at a by-pass slot, comes
at a codeword boundary (DESIGN CHOICE, log 168). -/
def Dev.flushBits (d : Dev) (lp : Nat) : Dev :=
  let f := (d.lp lp).fec
  if f = [] then d else d.sendBits lp (List.replicate (5140 - f.length) false)

/-! ## Lane markers (R38, R62, R63, Table 2.3) -/

/-- SYNC -/
def markerSync : Nat := 0x4B1DE27C93A605F8

/-- What a marker says. -/
structure MarkerInfo where
  /-- PORT -/
  port : Nat
  /-- LANE -/
  lane : Nat
  /-- MIRROR_OF, 31 for none -/
  mirrorOf : Nat := 31
  /-- POS -/
  pos : Nat
  /-- SUB -/
  sub : Nat
  /-- BREAKOUT -/
  breakout : Nat
  /-- LMAP_GEN -/
  gen : Nat
  /-- MARKER_IDX -/
  idx : Nat
  /-- KIND -/
  kind : Nat

/-- The 160 bits of a marker, with its CRC. -/
def MarkerInfo.word (m : MarkerInfo) : Nat :=
  let body := m.port * 2 ^ 88 + m.lane * 2 ^ 83 + m.mirrorOf * 2 ^ 78 + m.pos * 2 ^ 74 + m.sub * 2 ^ 72 +
    m.breakout * 2 ^ 70 + m.gen * 2 ^ 62 + m.idx * 2 ^ 46 + m.kind * 2 ^ 44
  let v := markerSync * 2 ^ 96 + body
  v + crc16 (beBytes 18 (v / 65536))

/-- The marker of a lane of a logical port. -/
def Dev.markerOf (d : Dev) (lp lane pos kind idx mirrorOf : Nat) : MarkerInfo :=
  { port := lpPort lp, lane := lane, mirrorOf := mirrorOf, pos := pos, sub := lpSub lp, breakout := d.breakout (lpPort lp),
    gen := d.get F.LNK_LP_STATE.LMAP_GEN lp, idx := idx, kind := kind }

/-- A marker leaves on a lane; an injected fault gives it a false LANE (Table 15.10). -/
def Dev.putMarker (d : Dev) (m : MarkerInfo) : Dev :=
  let i := laneIx m.port m.lane
  match d.bur.nextMark.at 0 i with
  | 0 => d.emit (.marker m.port m.lane m.word)
  | n + 1 =>
    (d.emit (.marker m.port m.lane ({ m with lane := n } : MarkerInfo).word)).updBur fun b =>
      { b with nextMark := b.nextMark.erase i }

/-- The logical ports of a physical port that send (Table 2.7: ALIGN to ACTIVE, REACQUIRE and RETRAIN). -/
def Dev.senders (d : Dev) (port : Nat) : List Nat :=
  ((List.range 4).map (4 * port + ·)).filter fun lp => [2, 3, 4, 6, 7].contains (d.lpState lp)

/-- A spare is wanted lit (R62): HOT_SPARE, a SPARE_LIGHT that names it, or a far end that has qualified it. -/
def Dev.spareWanted (d : Dev) (port lane : Nat) : Bool :=
  d.bit F.LNK_PORT_CFG.HOT_SPARE port ||
  (List.range 4).any fun s =>
    let l := d.lp (4 * port + s)
    l.laneOut.any (fun m => m.op == 1 && m.lane == lane) || l.spareOk.contains lane

/-- The lanes of a physical port that are lit with the spare pattern: spares, and lanes kept lit in role 110 (R62, R78),
whose select ring is LOCKED and which mirror no position. -/
def Dev.idleSpares (d : Dev) (port : Nat) : List Nat :=
  (List.range 18).filter fun j =>
    let r := d.role port j false
    d.ringState (ringIx port j 0) == 4 && (d.lane (laneIx port j)).txOut.isNone &&
    ((r == 4 && d.spareWanted port j) || r == 6) &&
    (List.range 4).all fun s => ((d.lp (4 * port + s)).mirror.map LaneTxn.spare) != some j

/-- The idle spares send a marker and go on with PRBS31. They follow the markers of the lowest sub-port that sends, whose
SUB, LMAP_GEN and MARKER_IDX the marker carries, with POS 0 (DESIGN CHOICE, log 170: R62 gives KIND and
LANE alone). -/
def Dev.spareMarkers (d : Dev) (lp idx : Nat) : Dev :=
  let p := lpPort lp
  if (d.senders p).head? = some lp then
    d.each (d.idleSpares p) fun d j => (d.putMarker (d.markerOf lp j 0 3 idx 31)).emit (.prbs31 p j)
  else d

/-- The markers of a logical port leave on every lane that carries a position (R38): a spare that mirrors names the lane
that it mirrors, with KIND 00 outside a burst (R63). Striping and scramblers start anew (R36, R37). -/
def Dev.sendMarkers (d : Dev) (lp kind idx : Nat) : Dev :=
  let p := lpPort lp
  let d := d.each (d.lpLanes lp false) fun d j => d.putMarker (d.markerOf lp j (d.pos p j false) kind idx 31)
  let d := match (d.lp lp).mirror with
    | some t => d.putMarker (d.markerOf lp t.spare (d.pos p t.lane false) kind idx t.lane)
    | none => d
  let d := if kind = 2 then d else d.spareMarkers lp idx
  d.updLp lp fun l => { l with fec := [], sym := 0, scr := [] }

end Sys2Proof.Machine
end

