-- ==== Sys2Proof/Machine/Schedule.lean ====
section
/-! DEFINITION. Slot tables of the Sideboard as data: which ports are in by-pass in a slot, and when the next guard
of a port opens (R93, R97, R101). -/
namespace Sys2Proof.Machine

/-- The Sideboard index of a physical port, none where it has no by-pass elements (R93). -/
def sbdIndex (port : Nat) : Option Nat := if port % 16 < 4 then some (4 * (port / 16) + port % 16) else none

/-- The physical port of a Sideboard index. -/
def sbdPort (i : Nat) : Nat := 16 * (i / 4) + i % 4

/-- The map byte of an output in a slot of the shadow or live table (Table 4.4). -/
def Dev.slotByte (d : Dev) (r : Reg) (n o : Nat) : Nat :=
  (d.rd r n (1 + o / 4)).toNat / 2 ^ (8 * (o % 4)) % 256

/-- The Sideboard input that a slot connects to an output. -/
def Dev.slotSrc (d : Dev) (r : Reg) (n o : Nat) : Option Nat :=
  let b := d.slotByte r n o
  if bitAt b 7 then some (b % 64) else none

/-- DURATION of a slot in units of 100 ns. -/
def Dev.slotLen (d : Dev) (r : Reg) (n : Nat) : Nat := (d.rd r n 0).toNat % 2 ^ 24

/-- Index `i` is in by-pass in a slot: an output with VALID = 1, or the SRC of one (R97). -/
def Dev.inBypass (d : Dev) (r : Reg) (n i : Nat) : Bool :=
  (d.slotSrc r n i).isSome || (List.range 64).any (fun o => d.slotSrc r n o == some i)

/-- N of the live table. -/
def Dev.liveN (d : Dev) : Nat := d.get F.SBD_LIVE_N.N 0

/-- The slot in progress. -/
def Dev.liveSlot (d : Dev) : Nat := d.get F.SBD_POS.LIVE_SLOT 0

/-- The slot after slot `n`. -/
def Dev.nextSlot (d : Dev) (n : Nat) : Nat := if n + 1 < d.liveN then n + 1 else 0

/-- Sideboard state RUNNING (Table 4.8). -/
def Dev.sbdRunning (d : Dev) : Bool := d.get F.SBD_STAT.STATE 0 == 2

/-- Bit `i` of SBD_PORT_BYP: the index is in by-pass now. -/
def Dev.bypassed (d : Dev) (i : Nat) : Bool := bitAt (d.rdWide .SBD_PORT_BYP 0 0 2) i

/-- A physical port is in by-pass now. -/
def Dev.portBypassed (d : Dev) (port : Nat) : Bool :=
  match sbdIndex port with
  | some i => d.bypassed i
  | none => false

/-- GUARD in force in ns; lower values act as 5 (Table 4.10). -/
def Dev.guardNs (d : Dev) : Nat := 100 * max 5 d.sbd.guard

/-- Sum of the durations of slots `n` to `m − 1` of the live table, in ns. -/
def Dev.slotsNs (d : Dev) (n m : Nat) : Nat :=
  100 * (((List.range m).drop n).map fun k => d.slotLen .SBD_LIVE_SLOT k).sum

/-- The extended time at which an armed swap takes effect: L + 32 µs with no live table, else the first table-cycle
boundary at or after it. -/
def Dev.swapTime (d : Dev) (l : Nat) : Nat :=
  let t := l + 32000
  if d.sbdRunning then
    let b := d.sbd.slotStart + d.slotsNs d.liveSlot d.liveN
    let p := max 1 (d.slotsNs 0 d.liveN)
    if t ≤ b then b else b + ceilDiv (t - b) p * p
  else t

/-- Search the coming slots of a table of `n`, from the slot that begins at `t` on, for one in which index `i` enters
by-pass: the extended time of its boundary. -/
def Dev.findGuard (d : Dev) (r : Reg) (n i slot t : Nat) : Nat → Option Nat
  | 0 => none
  | k + 1 =>
    let t := t + 100 * d.slotLen r slot
    let next := if slot + 1 < n then slot + 1 else 0
    if !d.inBypass r slot i && d.inBypass r next i then some t else d.findGuard r n i next t k

/-- The boundary of the live table at which index `i` next enters by-pass. -/
def Dev.liveEntry (d : Dev) (i : Nat) : Option Nat :=
  if d.sbdRunning then d.findGuard .SBD_LIVE_SLOT d.liveN i d.liveSlot d.sbd.slotStart (d.liveN + 1) else none

/-- The boundary of the table that an armed swap brings, at extended time `t`, at which index `i` first enters by-pass. -/
def Dev.armedEntry (d : Dev) (i t : Nat) : Option Nat :=
  let n := d.get F.SBD_SHADOW_N.N 0
  if n = 0 then none
  else if !(d.sbdRunning && d.inBypass .SBD_LIVE_SLOT (d.liveN - 1) i) && d.inBypass .SBD_SHADOW_SLOT 0 i then some t
  else d.findGuard .SBD_SHADOW_SLOT n i 0 t (n + 1)

/-- The boundary at which an index next enters by-pass, an armed swap being seen (R65, R84). -/
def Dev.nextEntry (d : Dev) (i : Nat) : Option Nat :=
  match d.sbd.swapAt with
  | none => d.liveEntry i
  | some l =>
    match d.liveEntry i with
    | some t => if t < d.swapTime l then some t else d.armedEntry i (d.swapTime l)
    | none => d.armedEntry i (d.swapTime l)

/-- The extended time at which the next guard of a physical port opens, if a slot is scheduled on it. -/
def Dev.nextGuard (d : Dev) (port : Nat) : Option Nat :=
  match sbdIndex port with
  | none => none
  | some i => (d.nextEntry i).map fun t => t - d.guardNs

end Sys2Proof.Machine
end

