-- ==== Sys2Proof/Machine/Link.lean ====
section
/-! DEFINITION. Logical ports: breakout, lane maps, the link states and what entering each does (R31 to R34, R55,
R58, R59, R65, R425). -/
namespace Sys2Proof.Machine

/-! ## Lane maps (R31 to R34) -/

/-- The positions of a logical port's lanes run from 0 to n − 1 and are unique (R33). -/
def Dev.mapOk (d : Dev) (lp : Nat) (rx : Bool) : Bool :=
  let ps := (d.lpLanes lp rx).map fun j => d.pos (lpPort lp) j rx
  (List.range ps.length).all (fun p => ps.contains p)

/-- The map breaks R33, or the reserved breakout is in force. -/
def Dev.mapInvalid (d : Dev) (lp : Nat) : Bool :=
  d.breakout (lpPort lp) == 3 || !d.mapOk lp false || !d.mapOk lp true

/-- Lanes in service of a logical port: those that serve it in both directions' counts. -/
def Dev.lanesUp (d : Dev) (lp : Nat) : Nat := min (d.lpLanes lp false).length (d.lpLanes lp true).length

/-- Fewest active lanes of a physical port; 0 acts as 1. -/
def Dev.minLanes (d : Dev) (port : Nat) : Nat := max 1 (d.get F.LNK_PORT_CFG.MIN_LANES port)

/-- ADMIN_UP of a logical port. -/
def Dev.adminUp (d : Dev) (lp : Nat) : Bool := bitAt (d.get F.LNK_PORT_CFG.ADMIN_UP (lpPort lp)) (lpSub lp)

/-- Lanes that a breakout sets for a sub-port (Table 2.15). -/
def nominalLanes (b s : Nat) : Nat := if s < lpsOfBreakout b then 16 / lpsOfBreakout b else 0

/-- A new BREAKOUT takes effect once every logical port of the physical port is in DOWN (R31). -/
def Dev.breakoutApply (d : Dev) (port : Nat) : Dev :=
  if (List.range 4).all (fun s => d.lpState (4 * port + s) == 0) then
    let b := d.get F.LNK_PORT_CFG.BREAKOUT port
    let d := d.updCore fun c => { c with breakout := c.breakout.put 0 port b }
    d.each (List.range 4) fun d s => d.set F.LNK_LP_STATE.NOMINAL_LANES (4 * port + s) (nominalLanes b s)
  else d

/-- Positions above a removed one move down by one in one direction, so that they run from 0 to n − 1. -/
def Dev.closeGap (d : Dev) (lp : Nat) (rx : Bool) (p : Nat) : Dev :=
  d.each (d.lpLanes lp rx ++ d.heldLanes lp rx) fun d j =>
    if p < d.pos (lpPort lp) j rx then d.setPos (lpPort lp) j rx (d.pos (lpPort lp) j rx - 1) else d

/-- The transmit-map generation rises by one. -/
def Dev.lmapBump (d : Dev) (lp : Nat) : Dev :=
  d.set F.LNK_LP_STATE.LMAP_GEN lp (d.get F.LNK_LP_STATE.LMAP_GEN lp + 1)

/-- A lane gives up the position that it held while out of service: the others close up. -/
def Dev.giveUp (d : Dev) (lp lane : Nat) (rx : Bool) : Dev :=
  (d.updLane (laneIx (lpPort lp) lane) fun x => x.setOut rx none).closeGap lp rx (d.pos (lpPort lp) lane rx)

/-- Show the number of active lanes. -/
def Dev.showLanes (d : Dev) (lp : Nat) : Dev := d.set F.LNK_LP_STATE.ACTIVE_LANES lp (d.lanesUp lp)

/-! ## Entering a state (R55, R425) -/

/-- Raise the event of a logical port that enters RETRAIN or FAULT (Table 15.3). -/
def Dev.portEvent (d : Dev) (lp : Nat) : Dev := d.raise (lp / 64) 7 (instLp lp)

/-- Set the link state. -/
def Dev.lpGo (d : Dev) (lp st : Nat) : Dev := d.set F.LNK_LP_STATE.STATE lp st

/-- The rest of the frame in reception on a class stream will not come: the cells that it has formed count as poisoned
(R112, R425). -/
def Dev.rxCut (d : Dev) (lp cls : Nat) : Dev :=
  match ((d.lp lp).rx.at {} cls).taken with
  | none => d
  | some l =>
    (d.each l fun d fid => match d.frm fid with
      | some f => d.putFrm fid { f with part := false }
      | none => d).orphans false

/-- Discard every frame queued at a logical port and every frame received in part (R55, R425). -/
def Dev.lpDiscard (d : Dev) (lp : Nat) : Dev :=
  let d := d.each (List.range 8) fun d c =>
    let q := d.lpQueue lp c
    let l := q.frames ++ q.spill
    (d.each l fun d fid => d.removeFrm fid).add .LNK_DOWN_DROP lp l.length
  d.each (List.range 8) fun d c =>
    if ((d.lp lp).rx.at {} c).buf = [] then d else (d.rxCut lp c).count .LNK_DOWN_DROP lp

/-- The averages of a logical port's queues are 0 in DOWN (R184). -/
def Dev.clearAvg (d : Dev) (lp : Nat) : Dev :=
  d.each (List.range 8) fun d c => d.updQueue (lp / 64) (lp % 64) c fun q => { q with avg := 0 }

/-- Lanes out of service give up their positions, so that those of the map run from 0 again. -/
def Dev.releaseHeld (d : Dev) (lp : Nat) : Dev :=
  let d := d.each (d.heldLanes lp false) fun d j => d.giveUp lp j false
  d.each (d.heldLanes lp true) fun d j => d.giveUp lp j true

/-- What a logical port keeps when it leaves the link behind: frames received whole, light, and lane-control numbers. -/
def Lp.kept (l : Lp) : Lp :=
  { rxq := l.rxq, forced := l.forced, light := l.light, nextTxn := l.nextTxn, answered := l.answered }

/-- A rotation that frees a lane is over (R85). -/
def Dev.endRotation (d : Dev) (port lane : Nat) : Dev :=
  if d.oe.rotating.at 0 (port / 16) = 18 * (port % 16) + lane + 1 then
    { d with oe := { d.oe with rotating := d.oe.rotating.erase (port / 16) } }
  else d

/-- Enter DOWN (0) or FAULT (8): queued frames are discarded, retry and credit state is cleared, the owners flush the
learned entries, and a waiting breakout may take effect (R31, R55, R148, R170, R184, R425). -/
def Dev.linkDown (d : Dev) (lp st : Nat) : Dev :=
  let was := d.lpState lp
  let d := if upState was then d.lpDiscard lp else d
  let d := if st = 0 then d.clearAvg lp else d
  let d := if (d.lp lp).mgmt then d.setB F.LNK_SWAP_CMD.GO (lpPort lp) false else d
  let d := d.each (d.lpLanes lp false) fun d j => d.endRotation (lpPort lp) j
  let d := (d.updLp lp Lp.kept).releaseHeld lp
  let d := ((d.lpGo lp st).set F.LNK_LP_STATE.ACTIVE_LANES lp 0).setB F.LNK_LP_STATE.SWAP_BUSY lp false
  let d := d.setB F.LNK_LP_STATE.EXT_ON lp false
  let d := d.learnFlush lp
  let d := if st = 8 then d.portEvent lp else d
  d.breakoutApply (lpPort lp)

/-- Enter FAULT under R33. -/
def Dev.mapFault (d : Dev) (lp : Nat) : Dev := (d.linkDown lp 8).setB F.LNK_LP_STATE.MAP_INVALID lp true

/-- The engine of a logical port is in PHASE 5 (R89 step 8). -/
def Dev.engineReady (d : Dev) (oe : Nat) : Bool := d.get F.OE_ENG_STAT.PHASE oe == 5

/-- The drop rings of an enabled logical port with light acquire its lanes, and with HOT_SPARE = 1 the spares (R33, R55,
R62). -/
def Dev.tryAcquire (d : Dev) (lp : Nat) : Dev :=
  let l := d.lp lp
  if d.lpState lp ≠ 0 ∨ !d.adminUp lp ∨ l.forced ∨ lpsOfBreakout (d.breakout (lpPort lp)) ≤ lpSub lp then d
  else if l.light && d.engineReady (lp / 64) then
    d.each (d.lpLanes lp true ++ if d.bit F.LNK_PORT_CFG.HOT_SPARE (lpPort lp) then d.lanesOf (lpPort lp) 4 true else [])
        fun d j =>
      if d.ringState (ringIx (lpPort lp) j 1) = 0 then d.ringPreheat (ringIx (lpPort lp) j 1) else d
  else d

/-- Enable a logical port: an invalid map faults it at once, otherwise it waits for light. -/
def Dev.enableLp (d : Dev) (lp : Nat) : Dev :=
  if d.lpState lp ≠ 0 ∨ !d.adminUp lp ∨ (d.lp lp).forced then d
  else if d.mapInvalid lp then d.mapFault lp
  else if lpsOfBreakout (d.breakout (lpPort lp)) ≤ lpSub lp then d
  else if (d.lp lp).light && d.engineReady (lp / 64) then (d.tryAcquire lp).lpGo lp 1
  else d

/-- A write of a sub-port's ADMIN_UP bit (R33, R55, R426). -/
def Dev.adminWrite (d : Dev) (lp : Nat) (up : Bool) : Dev :=
  let p := lpPort lp
  let d := d.set F.LNK_PORT_CFG.ADMIN_UP p (withBit (d.get F.LNK_PORT_CFG.ADMIN_UP p) (lpSub lp) up)
  if up then d.enableLp lp
  else
    let d := d.heldBack (instLp lp)
    let d := d.updLp lp fun l => { l with forced := d.isOut (instLp lp) }
    let d := if d.lpState lp = 0 then d.breakoutApply p else d.linkDown lp 0
    (d.setB F.LNK_LP_STATE.MAP_INVALID lp false).setB F.LNK_LP_STATE.MISMATCH lp false

/-- ADMIN_UP_WRITE -/
def execAdminUpWrite (a : Access) (lp : Fin 1024) (up : Bool) (s : State) : Host.Outcome State Fault Refusal :=
  run (fun d => d.onWrite a .LNK_PORT_CFG (lp / 4) 0 fun d => d.adminWrite lp up) s

/-- The logical ports that a lane serves in either direction. -/
def Dev.laneLps (d : Dev) (port lane : Nat) : List Nat :=
  ([d.role port lane false, d.role port lane true].filter (· < 4)).map (4 * port + ·)

/-- A write to LNK_LANE_CFG: applied only while the logical ports that the lane serves, and those that it is to serve, are
in DOWN. The lane gives up a position that it held out of service; a drop ring that lost its light sweeps for a lane that
management assigns again (R73). -/
def Dev.laneCfgWrite (d : Dev) (port lane : Nat) (v : Word) : Dev :=
  let new := ([bitsOf v.toNat 14 12, bitsOf v.toNat 6 4].filter (· < 4)).map (4 * port + ·)
  if (d.laneLps port lane ++ new).all (fun lp => d.lpState lp == 0) then
    let x := ringIx port lane 1
    let d := (d.wr .LNK_LANE_CFG (laneIx port lane) 0 (v &&& 0x7F7F)).updLane (laneIx port lane) fun l =>
      { l with txOut := none, rxOut := none, dropped := false }
    if d.ringState x = 5 ∧ (d.ring x).unlit ∧ bitsOf v.toNat 6 4 < 5 then
      (d.updRing x fun r => { r with unlit := false }).ringSweep x
    else d
  else d

/-- LANE_CFG_WRITE -/
def execLaneCfgWrite (a : Access) (port : Fin 256) (lane : Fin 18) (v : Word) (s : State) :
    Host.Outcome State Fault Refusal :=
  run (fun d => d.onWrite a .LNK_LANE_CFG (18 * port + lane) 0 fun d => d.laneCfgWrite port lane v) s

/-- Light arrives on a logical port. -/
def Dev.lightPresent (d : Dev) (lp : Nat) : Dev := (d.updLp lp fun l => { l with light := true }).enableLp lp

/-- LIGHT_PRESENT -/
def execLightPresent (lp : Fin 1024) (s : State) : Host.Outcome State Fault Refusal := run (·.lightPresent lp) s

/-- Rings and polarisation are locked on the assigned lanes: ALIGN. -/
def Dev.ringsLocked (d : Dev) (lp : Nat) : Dev := if d.lpState lp = 1 then d.lpGo lp 2 else d

/-- RINGS_LOCKED_ALIGN -/
def execRingsLockedAlign (lp : Fin 1024) (s : State) : Host.Outcome State Fault Refusal := run (·.ringsLocked lp) s

/-- FEC lock: ALIGN to TRAIN, the counts of training messages starting anew (R56). -/
def Dev.fecLock (d : Dev) (lp : Nat) : Dev :=
  if d.lpState lp = 2 then
    (d.updLp lp Lp.kept).lpGo lp 3
  else d

/-- FEC_LOCK -/
def execFecLock (lp : Fin 1024) (s : State) : Host.Outcome State Fault Refusal := run (·.fecLock lp) s

/-- Training did not complete in 100 ms: back to ALIGN. -/
def Dev.trainTimeout (d : Dev) (lp : Nat) : Dev :=
  if d.lpState lp = 2 ∨ d.lpState lp = 3 then
    ((d.updLp lp fun l => { l with train := [], trainRx := 0, trainTx := 0, trained := false, farZero := false }).lpGo lp 2).count
      .LNK_TRAIN_FAIL lp
  else d

/-- TRAIN_TIMEOUT -/
def execTrainTimeout (lp : Fin 1024) (s : State) : Host.Outcome State Fault Refusal := run (·.trainTimeout lp) s

/-- A lane-control transaction that is in progress at HOLD or RETRAIN (R65): it completes later if the receiving end
had switched, whose SWITCH_DONE is then still to come or still to be heard; otherwise it is abandoned, and the opening end
starts it again after the return. -/
def Lp.suspendTxn (l : Lp) : Lp :=
  let again : List (Nat × Nat × Nat × Nat) := match l.txTxn with
    | some t => [(t.op, t.lane, t.spare, t.reason)]
    | none => []
  { l with
    txTxn := none
    susp := match l.txTxn with | some t => some t | none => l.susp
    todo := again ++ l.todo
    laneOut := l.laneOut.filter fun m => m.op == 1 || m.op == 5 || m.op == 6
    laneAns := []
    rxTxn := none }

/-- Enter RETRAIN (R51, R55, R58): sequence numbers, window, credits and queues are kept; three good markers of each lane are
due again. -/
def Dev.toRetrain (d : Dev) (lp : Nat) : Dev :=
  let d := d.updLp lp fun l =>
    { l.suspendTxn with train := [], trainRx := 0, trainTx := 0, trained := false, farZero := false, resume := true,
                        noProg := 0, rxDisc := false, replayReq := false }
  let d := d.each (d.lpLanes lp true) fun d j => d.updLane (laneIx (lpPort lp) j) fun x => { x with good := 0 }
  let d := (d.lpGo lp 7).setB F.LNK_LP_STATE.SWAP_BUSY lp false
  (d.count .LNK_RETRAIN_CNT lp).portEvent lp

/-- Still in RETRAIN 10 ms after entering it: DOWN. -/
def Dev.retrainTimeout (d : Dev) (lp : Nat) : Dev := if d.lpState lp = 7 then d.linkDown lp 0 else d

/-- RETRAIN_TIMEOUT -/
def execRetrainTimeout (lp : Fin 1024) (s : State) : Host.Outcome State Fault Refusal := run (·.retrainTimeout lp) s

/-- An LMAP_GEN disagreement has persisted for 4 marker periods: RETRAIN. -/
def Dev.lmapMismatch (d : Dev) (lp : Nat) : Dev := if d.lpState lp = 4 then d.toRetrain lp else d

/-- LMAP_GEN_MISMATCH_TIMEOUT -/
def execLmapGenMismatchTimeout (lp : Fin 1024) (s : State) : Host.Outcome State Fault Refusal :=
  run (·.lmapMismatch lp) s

/-- The guard before a by-pass slot (R59): every logical port that is not in DOWN or FAULT enters HOLD, one LINK_CONTROL
flit being due where it sends. The state it came from is kept (DESIGN CHOICE, log 157). -/
def Dev.toHold (d : Dev) (lp : Nat) : Dev :=
  let st := d.lpState lp
  if st = 0 ∨ st = 5 ∨ st = 8 then d
  else
    let from' := if st = 6 then (d.lp lp).heldFrom else st
    ((d.updLp lp fun l => { l.suspendTxn with burst := if st = 1 then 0 else 1, heldFrom := from' }).lpGo lp 5).setB
      F.LNK_LP_STATE.SWAP_BUSY lp false

/-- The burst of four markers that opens the stream after a by-pass slot, each with the next MARKER_IDX, the transmit
codeword number going on from the fourth (R38, R60; DESIGN CHOICE, log 167: R60 says that MARKER_IDX continues and not
by how much). -/
def Dev.sendBurst (d : Dev) (lp : Nat) : Dev :=
  let idx := (d.lp lp).cwTx / 16384
  (d.each (List.range 4) fun d n => d.sendMarkers lp 2 ((idx + 1 + n) % 65536)).updLp lp fun l =>
    { l with cwTx := (idx + 4) % 65536 * 16384 }

/-- The end of a by-pass slot: HOLD to REACQUIRE with a burst of four markers (R60); a port that had not been in ACTIVE
before the slot starts again at ALIGN, or at ACQUIRE if it came from there (DESIGN CHOICE, log 157). -/
def Dev.toReacquire (d : Dev) (lp : Nat) : Dev :=
  if d.lpState lp = 5 then
    let from' := (d.lp lp).heldFrom
    if from' < 4 then
      (d.updLp lp Lp.kept).lpGo lp (if from' = 1 then 1 else 2)
    else ((d.sendBurst lp).updLp lp fun l => { l with burst := 4, slot := 0, back := true }).lpGo lp 6
  else d

/-- Not back in ACTIVE 5 µs after light returned: RETRAIN (R60). -/
def Dev.fastReacqTimeout (d : Dev) (lp : Nat) : Dev := if d.lpState lp = 6 then d.toRetrain lp else d

/-- FAST_REACQ_TIMEOUT -/
def execFastReacqTimeout (lp : Fin 1024) (s : State) : Host.Outcome State Fault Refusal :=
  run (·.fastReacqTimeout lp) s

end Sys2Proof.Machine
end

