-- ==== Sys2Proof/Machine/Lanes.lean ====
section
/-! DEFINITION. Replacing a lane: lane-control transactions of both ends, faults of lanes, and management's swap
commands (R61 to R66, R77, R78). -/
namespace Sys2Proof.Machine

/-! ## Codeword numbers and the by-pass guard (R40, R65) -/

/-- The transmit codeword number now, from the flit slot: 32,896 slots to 16,384 codewords (R40, R42). -/
def Lp.cwNow (l : Lp) : Nat := (l.cwTx + l.slot * 16384 / 32896) % 2 ^ 30

/-- Codeword time in units of 10 ps (Table 2.4). -/
def codewordTime (b : Nat) : Nat := match b with | 0 => 295 | 1 => 590 | _ => 1181

/-- A codeword `ahead` codewords from now comes before the next guard of the port (R65). -/
def Dev.cwOk (d : Dev) (lp ahead : Nat) : Bool :=
  match d.nextGuard (lpPort lp) with
  | none => true
  | some g => decide (d.time.ext + ahead * codewordTime (d.breakout (lpPort lp)) / 100 ≤ g)

/-- How far ahead the device puts CW: past the 5,120 codewords of R63 (MIRROR) or the 256 of R64 (DROP, ADD), with
the codewords that may pass before the first copy leaves. -/
def cwAhead (op : Nat) : Nat := if op = 3 then 5248 else 384

/-! ## Opening and closing a transaction -/

/-- SWAP_BUSY follows the open transactions. -/
def Dev.showBusy (d : Dev) (lp : Nat) : Dev :=
  d.setB F.LNK_LP_STATE.SWAP_BUSY lp ((d.lp lp).txTxn.isSome || (d.lp lp).rxTxn.isSome)

/-- Open a transaction of the transmit direction, or leave it waiting: one is open, the port is not in ACTIVE, or
its CW would fall after a guard. -/
def Dev.openTxn (d : Dev) (lp op lane spare reason : Nat) (mgmt : Bool) : Dev :=
  let l := d.lp lp
  if d.lpState lp ≠ 4 ∨ l.txTxn.isSome ∨ !d.cwOk lp (cwAhead op) then
    d.updLp lp fun l => { l with todo := l.todo ++ [(op, lane, spare, reason)] }
  else
    let cw := (l.cwNow + cwAhead op) % 2 ^ 30
    let t : LaneTxn := { op := op, txn := l.nextTxn, lane := lane, spare := spare, cw := cw, reason := reason, phase := 0 }
    let m : LaneOut := { op := op, txn := l.nextTxn, lane := lane, spare := spare, cw := cw, reason := reason }
    (d.updLp lp fun l =>
      { l with txTxn := some t, laneOut := l.laneOut ++ [m], nextTxn := (l.nextTxn + 1) % 256, mgmt := mgmt || l.mgmt }).showBusy lp

/-- Send a message that opens no transaction of the transmit direction, repeated until it is answered. -/
def Dev.sendLane (d : Dev) (lp op lane spare reason status : Nat) : Dev :=
  d.updLp lp fun l =>
    { l with
      laneOut := l.laneOut ++ [{ op := op, txn := l.nextTxn, lane := lane, spare := spare, reason := reason, status := status }]
      nextTxn := (l.nextTxn + 1) % 256 }

/-- Send an answer once, and remember it for a repeated message. -/
def Dev.answerLane (d : Dev) (lp : Nat) (m : LaneOut) : Dev :=
  d.updLp lp fun l => { l with laneAns := l.laneAns ++ [m], answered := some m }

/-- Spares of a physical port free for a swap of its transmit direction: role 100, known qualified at the far end,
and named by no open transaction (R62 to R64). -/
def Dev.freeSpares (d : Dev) (port : Nat) : List Nat :=
  (d.lanesOf port 4 false).filter fun j =>
    (List.range 4).any (fun s => (d.lp (4 * port + s)).spareOk.contains j) &&
    (List.range 4).all fun s => match (d.lp (4 * port + s)).txTxn with
      | some t => t.spare != j || t.op != 3
      | none => true

/-- The line of a transmit lane is above −1.0 dB of its commissioned power (R82). -/
def Dev.lineGood (d : Dev) (port lane : Nat) : Bool :=
  let i := laneIx port lane
  decide (-100 < toSigned 16 (d.get F.OE_LINE_PWR.NOW i) - toSigned 16 (d.get F.OE_LINE_PWR.COMM i))

/-- A lane of the transmit direction is named by a transaction of a logical port, open or waiting. -/
def Dev.laneNamed (d : Dev) (lp lane : Nat) : Bool :=
  let l := d.lp lp
  l.todo.any (fun x => x.2.1 == lane) || (match l.txTxn with | some t => t.lane == lane | none => false)

/-- The spares of a port that may take the position of a lane removed for a REASON: under 1, laser fade, only those whose
own line is good (R82). -/
def Dev.swapSpares (d : Dev) (port reason : Nat) : List Nat :=
  (d.freeSpares port).filter fun j => reason != 1 || d.lineGood port j

/-- Dark spares that a port with HOT_SPARE = 0 may light (R62). -/
def Dev.darkSpares (d : Dev) (port : Nat) : List Nat :=
  if d.bit F.LNK_PORT_CFG.HOT_SPARE port then []
  else (d.lanesOf port 4 false).filter fun j => (List.range 4).all fun s => !(d.lp (4 * port + s)).spareOk.contains j

/-- Light a dark spare: SPARE_LIGHT goes out once its select ring is LOCKED. -/
def Dev.lightSpare (d : Dev) (lp j reason : Nat) : Dev :=
  let x := ringIx (lpPort lp) j 0
  if d.ringState x = 4 then
    if (d.lp lp).laneOut.any (fun m => m.op == 1 && m.lane == j) then d else d.sendLane lp 1 j j reason 0
  else if d.ringState x = 0 then d.ringPreheat x else d

/-- A spare is being lit for a logical port. -/
def Dev.lighting (d : Dev) (lp : Nat) : Bool :=
  (d.lp lp).laneOut.any (fun m => m.op == 1) ||
  (d.darkSpares (lpPort lp)).any fun j => [1, 2, 3].contains (d.ringState (ringIx (lpPort lp) j 0))

/-- Run R63 onto a free qualified spare for a lane of the transmit direction; light a dark spare first with
HOT_SPARE = 0; DROP the lane when there is none (R64, R82). -/
def Dev.txRemove (d : Dev) (lp lane reason : Nat) : Dev :=
  let p := lpPort lp
  if !d.holds lp lane false ∨ (d.lp lp).txTxn.map LaneTxn.lane = some lane then d
  else
    match d.swapSpares p reason with
    | j :: _ => d.openTxn lp 3 lane j reason false
    | [] =>
      match d.darkSpares p with
      | j :: _ => (d.lightSpare lp j reason).updLp lp fun l => { l with todo := l.todo ++ [(3, lane, 18, reason)] }
      | [] => d.openTxn lp 7 lane 0 reason false

/-- A removal that waited for a spare: it starts, waits on while a spare is being lit, or becomes a DROP. -/
def Dev.txAgain (d : Dev) (lp lane reason : Nat) : Dev :=
  if !d.holds lp lane false then d
  else
    match d.swapSpares (lpPort lp) reason with
    | j :: _ => d.openTxn lp 3 lane j reason false
    | [] =>
      if d.lighting lp then d.updLp lp fun l => { l with todo := l.todo ++ [(3, lane, 18, reason)] }
      else d.openTxn lp 7 lane 0 reason false

/-- Start the oldest transaction that waits, when none is open. -/
def Dev.nextTodo (d : Dev) (lp : Nat) : Dev :=
  let l := d.lp lp
  if d.lpState lp ≠ 4 ∨ l.txTxn.isSome then d
  else match l.todo with
    | [] => d
    | (op, lane, spare, reason) :: rest =>
      let d := d.updLp lp fun l => { l with todo := rest }
      if op = 3 ∧ (spare = 18 ∨ !(d.freeSpares (lpPort lp)).contains spare) then d.txAgain lp lane reason
      else d.openTxn lp op lane spare reason false

/-- The select ring of a spare that is lit on demand is LOCKED: the logical ports that wait for a spare send SPARE_LIGHT. -/
def Dev.spareLocked (d : Dev) (port lane : Nat) : Dev :=
  if d.role port lane false ≠ 4 ∨ d.bit F.LNK_PORT_CFG.HOT_SPARE port then d
  else d.each (List.range 4) fun d s =>
    let lp := 4 * port + s
    match (d.lp lp).todo.find? fun x => x.1 == 3 && x.2.2.1 == 18 with
    | some x => if d.lpState lp = 4 then d.lightSpare lp lane x.2.2.2 else d
    | none => d

/-- Close the open transaction of the transmit direction, its messages and SWAP_BUSY with it. -/
def Dev.closeTx (d : Dev) (lp : Nat) : Dev :=
  match (d.lp lp).txTxn with
  | none => d
  | some t =>
    (((d.endRotation (lpPort lp) t.lane).updLp lp fun l =>
      { l with txTxn := none, mgmt := false, laneOut := l.laneOut.filter fun m => m.txn != t.txn || m.op != t.op }).showBusy
      lp).nextTodo lp

/-- A transaction ends with a STATUS: RESULT shows it, and GO of a management command clears. -/
def Dev.finishTx (d : Dev) (lp status : Nat) : Dev :=
  let d := d.set F.LNK_SWAP_CMD.RESULT (lpPort lp) status
  let d := if (d.lp lp).mgmt then d.setB F.LNK_SWAP_CMD.GO (lpPort lp) false else d
  d.closeTx lp

/-- The role that a lane takes when it has lost its position: 110 and lit with the spare pattern for REASON 2 to 4,
otherwise 101 (R78, Table 2.12). -/
def goneRole (reason : Nat) : Nat := if 2 ≤ reason ∧ reason ≤ 4 then 6 else 5

/-- Too few active lanes fault the port (R66); otherwise the count is shown. -/
def Dev.afterMap (d : Dev) (lp : Nat) : Dev :=
  if upState (d.lpState lp) then
    if d.lanesUp lp < d.minLanes (lpPort lp) then d.linkDown lp 8 else d.showLanes lp
  else d

/-- A position of one direction moves from a lane to a spare. -/
def Dev.movePos (d : Dev) (lp lane spare reason : Nat) (rx : Bool) : Dev :=
  let p := lpPort lp
  let pos := d.pos p lane rx
  let d := (d.setRole p spare rx (lpSub lp)).setPos p spare rx pos
  let d := if d.role p lane rx = lpSub lp then d.setRole p lane rx (goneRole reason) else d
  d.updLane (laneIx p lane) fun x => { x.setOut rx none with dropped := x.dropped && rx }

/-- A lane leaves one direction's map: the others close up. -/
def Dev.dropPos (d : Dev) (lp lane reason : Nat) (rx : Bool) : Dev :=
  let p := lpPort lp
  let d := if d.role p lane rx = lpSub lp then d.setRole p lane rx (goneRole reason) else d
  (d.giveUp lp lane rx).updLane (laneIx p lane) fun x => { x with dropped := x.dropped || !rx }

/-- A lane joins one direction's map at the highest position. -/
def Dev.addPos (d : Dev) (lp lane : Nat) (rx : Bool) : Dev :=
  let p := lpPort lp
  let n := (d.lpLanes lp rx).length + (d.heldLanes lp rx).length
  ((d.setRole p lane rx (lpSub lp)).setPos p lane rx n).updLane (laneIx p lane) fun x =>
    { x.setOut rx none with dropped := x.dropped && rx }

/-! ## Lane faults at the receiving end (R64, R66, R77, R78) -/

/-- Send a message on every logical port of a fibre that is in ACTIVE: a spare belongs to none of them (DESIGN CHOICE, log
158). -/
def Dev.sendFibre (d : Dev) (port op lane reason : Nat) : Dev :=
  d.each (List.range 4) fun d s =>
    if d.lpState (4 * port + s) = 4 then d.sendLane (4 * port + s) op lane 0 reason 0 else d

/-- A receive lane of a sub-port leaves service in a role: it holds its position, and LANE_FAULT goes out. -/
def Dev.rxTakeOut (d : Dev) (port lane s role reason : Nat) : Dev :=
  let lp := 4 * port + s
  let d := (d.setRole port lane true role).updLane (laneIx port lane) fun x => { x with rxOut := some s }
  if upState (d.lpState lp) then (d.sendLane lp 6 lane 0 reason 0).showLanes lp else d

/-- The device takes a receive lane out of service: role, LANE_FAULT, the budget and the Bureau's event. A removal
for a wrong line or a loss of light is forced; one for REASON 4 is refused when the budget is spent (R348). -/
def Dev.rxLaneOut (d : Dev) (port lane role reason : Nat) : Dev :=
  let s := d.role port lane true
  if s < 4 then
    let (ok, d) := if reason = 4 then d.tryExpel 0 port (instLane port lane)
      else (true, d.forceExpel 0 port (instLane port lane))
    if !ok then d
    else
      (d.raise (16 + port / 16) 2 (instLane port lane)).rxTakeOut port lane s role reason
  else if s = 4 then
    ((d.setRole port lane true role).updLane (laneIx port lane) fun x => { x with spareGood := 0 }).sendFibre port 6 lane reason
  else d

/-- The logical port that a lane served, if it served one, has too few lanes: FAULT (R66). -/
def Dev.afterLoss (d : Dev) (port s : Nat) : Dev := if s < 4 then d.afterMap (4 * port + s) else d

/-- A wrong-line fault of a receive lane: counted and shown, the lane in role 110 and its drop ring re-acquired (R64,
R77). -/
def Dev.rxWrongLine (d : Dev) (port lane reason : Nat) : Dev :=
  let i := laneIx port lane
  let s := d.role port lane true
  let d := (d.count .OE_WRONG_LINE_CNT (port / 16)).setB F.LNK_LANE_STAT.WRONG_LINE i true
  let d := d.setB F.OE_RING_STAT.WRONG_LINE (ringIx port lane 1) true
  let d := d.updLane i fun x => { x with good := 0, spareGood := 0 }
  ((d.rxLaneOut port lane 6 reason).ringReacquire (ringIx port lane 1)).afterLoss port s

/-- A transmit lane of a logical port goes out of service at once, in role 110, and holds its position until the swap or
drop (R64). -/
def Dev.txLaneOut (d : Dev) (port lane s : Nat) : Dev :=
  (d.setRole port lane false 6).updLane (laneIx port lane) fun x => { x with txOut := some s }

/-- No far end counts a transmit lane as a qualified spare any more. -/
def Dev.unqualify (d : Dev) (port lane : Nat) : Dev :=
  d.each (List.range 4) fun d s =>
    d.updLp (4 * port + s) fun l => { l with spareOk := l.spareOk.filter (· != lane) }

/-- The device removes a transmit lane whose select ring left its window (R77): R63 or DROP with REASON 2. -/
def Dev.txWrongLine (d : Dev) (port lane : Nat) : Dev :=
  let s := d.role port lane false
  let d := d.count .OE_WRONG_LINE_CNT (port / 16)
  if s < 4 then
    let d := (d.forceExpel 0 port (instLane port lane)).raise (16 + port / 16) 2 (instLane port lane)
    ((d.txLaneOut port lane s).txRemove (4 * port + s) lane 2).afterMap (4 * port + s)
  else d.unqualify port lane

/-- Loss of light on a lane outside a by-pass slot: NO_LIGHT, the drop ring in HOLD, the lane out of service in role
101. Where that leaves a logical port fewer receive lanes than MIN_LANES, its light is lost and it goes to DOWN (R55, R64,
R73, R103; DESIGN CHOICE, log 159: Table 2.7 says 'too many lanes' and gives no number). -/
def Dev.lossOfLight (d : Dev) (port lane : Nat) : Dev :=
  if d.portBypassed port then d
  else
    let i := laneIx port lane
    let s := d.role port lane true
    let d := (d.setB F.LNK_LANE_STAT.NO_LIGHT i true).setB F.LNK_LANE_STAT.MARKER_OK i false
    let d := d.updLane i fun x => { x with good := 0, spareGood := 0 }
    let d := (d.ringUnlit (ringIx port lane 1)).rxLaneOut port lane 5 5
    if s < 4 then
      let lp := 4 * port + s
      if d.lpState lp ≠ 0 ∧ d.lpState lp ≠ 8 ∧ (d.lpLanes lp true).length < d.minLanes port then
        (d.updLp lp fun l => { l with light := false }).linkDown lp 0
      else d
    else d

/-- LANE_LOSS_OF_LIGHT -/
def execLaneLossOfLight (port : Fin 256) (lane : Fin 18) (s : State) : Host.Outcome State Fault Refusal :=
  run (·.lossOfLight port lane) s

/-- Loss of marker lock on an active lane: the lane is taken out of service where a drop of it is possible, otherwise
the port enters RETRAIN (R55). -/
def Dev.markerLoss (d : Dev) (port lane : Nat) : Dev :=
  let i := laneIx port lane
  let s := d.role port lane true
  let d := (d.setB F.LNK_LANE_STAT.MARKER_OK i false).updLane i fun x => { x with good := 0, spareGood := 0 }
  if s < 4 ∧ d.lpState (4 * port + s) = 4 then
    let lp := 4 * port + s
    if d.minLanes port ≤ (d.lpLanes lp true).length - 1 then d.rxWrongLine port lane 3 else d.toRetrain lp
  else d

/-- MARKER_LOCK_LOSS -/
def execMarkerLockLoss (port : Fin 256) (lane : Fin 18) (s : State) : Host.Outcome State Fault Refusal :=
  run (·.markerLoss port lane) s

/-- More than one symbol error in a thousand over a marker period takes a receive lane out with REASON 4; its drop
ring stays LOCKED (R78). The errors are counted for the lane. -/
def Dev.symbolCheck (d : Dev) (port lane errors symbols : Nat) : Dev :=
  let d := d.add64 .LNK_LANE_SYMERR (laneIx port lane) errors
  let s := d.role port lane true
  if s < 4 ∧ symbols < errors * 1000 ∧ d.lpState (4 * port + s) = 4 then
    (d.rxLaneOut port lane 6 4).afterMap (4 * port + s)
  else d

/-- SYMBOL_ERROR_CHECK -/
def execSymbolErrorCheck (port : Fin 256) (lane : Fin 18) (errors symbols : BitVec 32) (s : State) :
    Host.Outcome State Fault Refusal := run (·.symbolCheck port lane errors.toNat symbols.toNat) s

/-! ## Lane-control messages (Table 2.11) -/

/-- A receive lane is qualified as a spare (R62). -/
def Dev.qualified (d : Dev) (port lane : Nat) : Bool := decide (2 ≤ (d.lane (laneIx port lane)).spareGood)

/-- A message with a TXN already answered is answered again and not applied again (R61). -/
def Dev.repeated (d : Dev) (lp op txn : Nat) : Option LaneOut :=
  match (d.lp lp).answered with
  | some m => if m.txn = txn ∧ (m.op = op ∨ m.op = 15) then some m else none
  | none => none

/-- An answer of the receiving end to a message. -/
def answerTo (m : LaneMsg) (op status : Nat) : LaneOut :=
  { op := op, txn := m.txn.toNat, lane := m.lane, spare := m.spare, cw := m.cw.toNat, reason := m.reason.toNat,
    status := status }

/-- NAK with a STATUS; it is remembered as the answer to its TXN. -/
def Dev.nakLane (d : Dev) (lp : Nat) (m : LaneMsg) (status : Nat) : Dev := d.answerLane lp (answerTo m 15 status)

/-- SPARE_LIGHT: the spare is lit; its drop ring acquires it, and it is answered once it is qualified. -/
def Dev.msgSpareLight (d : Dev) (lp : Nat) (m : LaneMsg) : Dev :=
  let p := lpPort lp
  if d.qualified p m.lane then d.answerLane lp (answerTo m 2 0)
  else if d.ringState (ringIx p m.lane 1) = 0 then d.ringPreheat (ringIx p m.lane 1) else d

/-- SPARE_LIGHT -/
def execSpareLight (lp : Fin 1024) (m : LaneMsg) (s : State) : Host.Outcome State Fault Refusal :=
  run (·.msgSpareLight lp m) s

/-- The logical port of a fibre in ACTIVE that runs on fewer transmit lanes than its breakout sets, lowest first. -/
def Dev.shortLp (d : Dev) (port : Nat) : Option Nat :=
  ((List.range 4).map (4 * port + ·)).find? fun lp =>
    d.lpState lp == 4 && decide (d.stripes lp < d.get F.LNK_LP_STATE.NOMINAL_LANES lp)

/-- A transmit lane that the far end has qualified returns: by ADD with REASON 6 if it left its map by a DROP, and as a
spare otherwise (R78); a free spare reverses a drop (R64). -/
def Dev.laneReturn (d : Dev) (port lane : Nat) : Dev :=
  let x := d.lane (laneIx port lane)
  let named := (List.range 4).any fun s => d.laneNamed (4 * port + s) lane
  if d.role port lane false = 6 ∧ x.txOut = none ∧ !d.isOut (instLane port lane) then
    match d.shortLp port with
    | some lp => if !x.dropped then d.setRole port lane false 4 else if named then d else d.openTxn lp 9 lane 0 6 false
    | none => d.setRole port lane false 4
  else if d.role port lane false = 4 ∧ (d.freeSpares port).contains lane ∧ !named then
    match d.shortLp port with
    | some lp => if (d.lp lp).txTxn = none ∧ (d.lp lp).todo = [] then d.openTxn lp 9 lane 0 6 false else d
    | none => d
  else d

/-- SPARE_READY: the far end has qualified a lane of the transmit direction. What waited for a spare starts; otherwise the
lane returns (R64, R78). -/
def Dev.msgSpareReady (d : Dev) (lp : Nat) (m : LaneMsg) : Dev :=
  let d := d.updLp lp fun l =>
    { l with spareOk := if l.spareOk.contains m.lane.val then l.spareOk else l.spareOk ++ [m.lane.val]
             laneOut := l.laneOut.filter fun x => x.op != 1 || x.lane != m.lane.val }
  (d.nextTodo lp).laneReturn (lpPort lp) m.lane

/-- SPARE_READY -/
def execSpareReady (lp : Fin 1024) (m : LaneMsg) (s : State) : Host.Outcome State Fault Refusal :=
  run (·.msgSpareReady lp m) s

/-- A transaction that the far end opens in the receive direction is accepted. -/
def Dev.acceptTxn (d : Dev) (lp op ack : Nat) (m : LaneMsg) : Dev :=
  let t : LaneTxn := { op := op, txn := m.txn.toNat, lane := m.lane, spare := m.spare, cw := m.cw.toNat,
                       reason := m.reason.toNat, phase := 1 }
  ((d.updLp lp fun l =>
    { l with rxTxn := some t, laneOut := l.laneOut.filter fun x => x.op != 6 || x.lane != m.lane.val }).answerLane lp
    (answerTo m ack 0)).showBusy lp

/-- CW lies ahead of the receive direction's codeword number, by at most 65,536 and a marker period (R63). -/
def Dev.cwAheadOk (d : Dev) (lp cw : Nat) : Bool := decide ((cw + 2 ^ 30 - (d.lp lp).cwRx) % 2 ^ 30 ≤ 65536 + 16384)

/-- MIRROR (R63). -/
def Dev.msgMirror (d : Dev) (lp : Nat) (m : LaneMsg) : Dev :=
  match d.repeated lp 4 m.txn.toNat with
  | some a => d.updLp lp fun l => { l with laneAns := l.laneAns ++ [a] }
  | none =>
    if d.lpState lp ≠ 4 then d
    else if !d.holds lp m.lane true ∨ d.role (lpPort lp) m.spare true ≠ 4 then d.nakLane lp m 3
    else if !d.cwAheadOk lp m.cw.toNat then d.nakLane lp m 2
    else d.acceptTxn lp 3 4 m

/-- MIRROR -/
def execMirror (lp : Fin 1024) (m : LaneMsg) (s : State) : Host.Outcome State Fault Refusal := run (·.msgMirror lp m) s

/-- DROP (R64). -/
def Dev.msgDrop (d : Dev) (lp : Nat) (m : LaneMsg) : Dev :=
  match d.repeated lp 8 m.txn.toNat with
  | some a => d.updLp lp fun l => { l with laneAns := l.laneAns ++ [a] }
  | none =>
    if d.lpState lp ≠ 4 then d
    else if !d.holds lp m.lane true then d.nakLane lp m 3
    else if !d.cwAheadOk lp m.cw.toNat then d.nakLane lp m 2
    else d.acceptTxn lp 7 8 m

/-- DROP -/
def execDrop (lp : Fin 1024) (m : LaneMsg) (s : State) : Host.Outcome State Fault Refusal := run (·.msgDrop lp m) s

/-- ADD (R64): the lane must be qualified. -/
def Dev.msgAdd (d : Dev) (lp : Nat) (m : LaneMsg) : Dev :=
  match d.repeated lp 10 m.txn.toNat with
  | some a => d.updLp lp fun l => { l with laneAns := l.laneAns ++ [a] }
  | none =>
    if d.lpState lp ≠ 4 then d
    else if d.role (lpPort lp) m.lane true < 4 then d.nakLane lp m 3
    else if !d.qualified (lpPort lp) m.lane then d.nakLane lp m 1
    else if !d.cwAheadOk lp m.cw.toNat then d.nakLane lp m 2
    else d.acceptTxn lp 9 10 m

/-- ADD -/
def execAdd (lp : Fin 1024) (m : LaneMsg) (s : State) : Host.Outcome State Fault Refusal := run (·.msgAdd lp m) s

/-- MIRROR_ACK, DROP_ACK or ADD_ACK: the far end has accepted the open transaction of an operation. -/
def Dev.msgAck (d : Dev) (lp op : Nat) (m : LaneMsg) : Dev :=
  match (d.lp lp).txTxn with
  | some t =>
    if t.op = op ∧ t.txn = m.txn.toNat then
      d.updLp lp fun l =>
        { l with txTxn := some { t with phase := max 1 t.phase, acked := true }
                 laneOut := l.laneOut.filter fun x => x.txn != t.txn || x.op != op }
    else d
  | none => d

/-- MIRROR_ACK -/
def execMirrorAck (lp : Fin 1024) (m : LaneMsg) (s : State) : Host.Outcome State Fault Refusal := run (·.msgAck lp 3 m) s

/-- DROP_ACK -/
def execDropAck (lp : Fin 1024) (m : LaneMsg) (s : State) : Host.Outcome State Fault Refusal := run (·.msgAck lp 7 m) s

/-- ADD_ACK -/
def execAddAck (lp : Fin 1024) (m : LaneMsg) (s : State) : Host.Outcome State Fault Refusal := run (·.msgAck lp 9 m) s

/-- A swap of the transmit direction is done: the position moves to the spare, LMAP_GEN rises, and a lane freed by rotation
becomes a spare (R63, R85). -/
def Dev.swapDone (d : Dev) (lp : Nat) (t : LaneTxn) : Dev :=
  let p := lpPort lp
  let freed := t.reason = 0 ∧ d.oe.rotating.at 0 (lp / 64) = 18 * (p % 16) + t.lane + 1
  let d := ((d.movePos lp t.lane t.spare t.reason false).lmapBump lp).showLanes lp
  let d := if freed then d.setRole p t.lane false 4 else d
  d.updLp lp fun l => { l with spareOk := l.spareOk.filter (· != t.spare) }

/-- A swap that HOLD or RETRAIN interrupted turns out to be done at the receiving end (R65): what was started again for its
lane is dropped. -/
def Dev.suspDone (d : Dev) (lp : Nat) (t : LaneTxn) : Dev :=
  let d := (d.swapDone lp t).updLp lp fun l => { l with susp := none, todo := l.todo.filter fun x => x.2.1 != t.lane }
  if (d.lp lp).txTxn.map LaneTxn.lane = some t.lane then d.finishTx lp 0 else d

/-- The interrupted swap of a logical port with a TXN. -/
def Lp.suspended (l : Lp) (txn : Nat) : Option LaneTxn :=
  match l.susp with
  | some t => if t.op = 3 ∧ t.txn = txn then some t else none
  | none => none

/-- The open transaction of the transmit direction with an operation and TXN. -/
def Lp.openTx (l : Lp) (op txn : Nat) : Option LaneTxn :=
  match l.txTxn with
  | some t => if t.op = op ∧ t.txn = txn then some t else none
  | none => none

/-- SWITCH_DONE (R63, R65): STATUS 0 moves the position to the spare; any other leaves the map. -/
def Dev.msgSwitchDone (d : Dev) (lp : Nat) (m : LaneMsg) : Dev :=
  match (d.lp lp).openTx 3 m.txn.toNat, (d.lp lp).suspended m.txn.toNat with
  | some t, _ => (if m.status.toNat = 0 then d.swapDone lp t else d).finishTx lp m.status.toNat
  | none, some t => if m.status.toNat = 0 then d.suspDone lp t else d.updLp lp fun l => { l with susp := none }
  | none, none => d

/-- SWITCH_DONE -/
def execSwitchDone (lp : Fin 1024) (m : LaneMsg) (s : State) : Host.Outcome State Fault Refusal :=
  run (·.msgSwitchDone lp m) s

/-- The sub-port whose transmit position a lane has, in service or out of it; 4 for none. -/
def Dev.txOwner (d : Dev) (port lane : Nat) : Nat :=
  let s := d.role port lane false
  if s < 4 then s else (d.lane (laneIx port lane)).txOut.getD 4

/-- The select ring of a lane is re-acquired: the lane is out of service at once, a spare is one no more (R73, Table 3.3). -/
def Dev.selectOut (d : Dev) (port lane : Nat) : Dev :=
  let x := ringIx port lane 0
  let s := d.role port lane false
  if d.ringState x = 4 ∨ d.ringState x = 5 then (if s < 4 then d.txLaneOut port lane s else d).ringOut x else d

/-- LANE_FAULT (R64, R66, R73, R77): the receiving end has a lane out of service. Under REASON 2 and 3 the select ring of
the lane is re-acquired (R73; R77 names REASON 3 alone: DEDUCED, log 158); a spare is one no more; a lane with a position is
removed by R63 or DROP, counted against the budget and reported. -/
def Dev.msgLaneFault (d : Dev) (lp : Nat) (m : LaneMsg) : Dev :=
  let p := lpPort lp
  let reason := m.reason.toNat
  let d := if reason = 2 ∨ reason = 3 then d.selectOut p m.lane else d
  let d := (if d.role p m.lane false = 4 then d.setRole p m.lane false 6 else d).unqualify p m.lane
  let own := d.txOwner p m.lane
  if own < 4 ∧ !d.laneNamed (4 * p + own) m.lane then
    (((d.forceExpel 0 p (instLane p m.lane)).raise (16 + p / 16) 2 (instLane p m.lane)).txRemove (4 * p + own) m.lane
      reason).afterMap (4 * p + own)
  else d

/-- LANE_FAULT -/
def execLaneFault (lp : Fin 1024) (m : LaneMsg) (s : State) : Host.Outcome State Fault Refusal :=
  run (·.msgLaneFault lp m) s

/-- NAK: the transaction is refused with a STATUS and the map stays; another message with the TXN is not repeated. -/
def Dev.msgNak (d : Dev) (lp : Nat) (m : LaneMsg) : Dev :=
  if (d.lp lp).txTxn.map LaneTxn.txn = some m.txn.toNat then d.finishTx lp m.status.toNat
  else d.updLp lp fun l => { l with laneOut := l.laneOut.filter fun x => x.txn != m.txn.toNat }

/-- NAK -/
def execNak (lp : Fin 1024) (m : LaneMsg) (s : State) : Host.Outcome State Fault Refusal := run (·.msgNak lp m) s

/-- A lane-control message by its operation code. -/
def Dev.laneMsg (d : Dev) (lp op : Nat) (m : LaneMsg) : Dev :=
  match op with
  | 1 => d.msgSpareLight lp m
  | 2 => d.msgSpareReady lp m
  | 3 => d.msgMirror lp m
  | 4 => d.msgAck lp 3 m
  | 5 => d.msgSwitchDone lp m
  | 6 => d.msgLaneFault lp m
  | 7 => d.msgDrop lp m
  | 8 => d.msgAck lp 7 m
  | 9 => d.msgAdd lp m
  | 10 => d.msgAck lp 9 m
  | 15 => d.msgNak lp m
  | _ => d

/-- The oldest message that is no part of the open transaction is given up and counted (R61). -/
def Dev.giveUpMsg (d : Dev) (lp : Nat) : Dev :=
  let l := d.lp lp
  match l.laneOut.find? fun m => l.txTxn.map LaneTxn.txn != some m.txn with
  | none => d
  | some m => ((d.updLp lp fun l => { l with laneOut := l.laneOut.erase m }).count .LNK_LANECTL_LOST lp).nextTodo lp

/-- An unanswered transaction is abandoned after 64 µs and counted; the map stays (R61). -/
def Dev.lanectlTimeout (d : Dev) (lp : Nat) : Dev :=
  let l := d.lp lp
  match l.txTxn with
  | some t =>
    if t.acked then d.giveUpMsg lp
    else
      let d := d.count .LNK_LANECTL_LOST lp
      (if l.mgmt then d.setB F.LNK_SWAP_CMD.GO (lpPort lp) false else d).closeTx lp
  | none => d.giveUpMsg lp

/-- LANECTL_TIMEOUT -/
def execLanectlTimeout (lp : Fin 1024) (s : State) : Host.Outcome State Fault Refusal := run (·.lanectlTimeout lp) s

/-! ## The agreed codewords -/

/-- The receiving end takes a position from the spare, and reports it. -/
def Dev.rxSwitch (d : Dev) (lp : Nat) (t : LaneTxn) : Dev :=
  let done (st : Nat) : LaneOut :=
    { op := 5, txn := t.txn, lane := t.lane, spare := t.spare, cw := t.cw, reason := t.reason, status := st }
  let (st, d) :=
    if d.qualified (lpPort lp) t.spare then (0, (d.movePos lp t.lane t.spare t.reason true).showLanes lp) else (1, d)
  let d := if st = 0 then d.updLane (laneIx (lpPort lp) t.spare) fun x => { x with spareGood := 0 } else d
  (d.updLp lp fun l =>
    { l with rxTxn := none, laneOut := l.laneOut ++ [done st] }).showBusy lp

/-- CW − 4,096: the transmitting end mirrors from here on; a receiving end whose lane is out of service takes the
position from the spare at once (R63, R64). -/
def Dev.mirrorBegin (d : Dev) (lp : Nat) : Dev :=
  let d := match (d.lp lp).txTxn with
    | some t => if t.op = 3 then d.updLp lp fun l => { l with txTxn := some { t with phase := 2 } } else d
    | none => d
  match (d.lp lp).rxTxn with
  | some t => if t.op = 3 ∧ d.role (lpPort lp) t.lane true ≠ lpSub lp then d.rxSwitch lp t else d
  | none => d

/-- MIRROR_BEGIN -/
def execMirrorBegin (lp : Fin 1024) (s : State) : Host.Outcome State Fault Refusal := run (·.mirrorBegin lp) s

/-- CW: the receiving end switches, or keeps the old lane if the spare is not qualified (R63). -/
def Dev.mirrorSwitch (d : Dev) (lp : Nat) : Dev :=
  match (d.lp lp).rxTxn with
  | some t => if t.op = 3 then d.rxSwitch lp t else d
  | none => d

/-- MIRROR_SWITCH -/
def execMirrorSwitch (lp : Fin 1024) (s : State) : Host.Outcome State Fault Refusal := run (·.mirrorSwitch lp) s

/-- The receiving end's part of an agreed DROP or ADD at its CW. -/
def Dev.rxApply (d : Dev) (lp op : Nat) (f : Dev → LaneTxn → Dev) : Dev :=
  match (d.lp lp).rxTxn with
  | some t => if t.op = op then ((f d t).updLp lp fun l => { l with rxTxn := none }).showBusy lp else d
  | none => d

/-- The transmitting end's part of an agreed DROP or ADD at its CW: the generation rises and the transaction ends. -/
def Dev.txApply (d : Dev) (lp op : Nat) (f : Dev → LaneTxn → Dev) : Dev :=
  match (d.lp lp).txTxn with
  | some t => if t.op = op ∧ t.acked then ((f d t).lmapBump lp).finishTx lp 0 else d
  | none => d

/-- CW of a DROP: both ends stripe over the remaining lanes; too few fault the port (R64, R66). -/
def Dev.dropApply (d : Dev) (lp : Nat) : Dev :=
  let d := d.rxApply lp 7 fun d t => d.dropPos lp t.lane t.reason true
  let d := d.txApply lp 7 fun d t => d.dropPos lp t.lane t.reason false
  d.afterMap lp

/-- DROP_APPLY -/
def execDropApply (lp : Fin 1024) (s : State) : Host.Outcome State Fault Refusal := run (·.dropApply lp) s

/-- CW of an ADD: both ends stripe over the added lane (R64). -/
def Dev.addApply (d : Dev) (lp : Nat) : Dev :=
  let d := d.rxApply lp 9 fun d t => d.addPos lp t.lane true
  let d := d.txApply lp 9 fun d t => d.addPos lp t.lane false
  d.afterMap lp

/-- ADD_APPLY -/
def execAddApply (lp : Fin 1024) (s : State) : Host.Outcome State Fault Refusal := run (·.addApply lp) s

/-! ## Management's transactions (Table 2.17) -/

/-- A write of LNK_SWAP_CMD with GO: the fields are taken and GO reads 1 until the transaction ends. A command that opens
none clears GO at once, with RESULT 3 where the lane or the spare does not fit or ACTION is reserved, and 4 where the port is
not in ACTIVE, a transaction is open, or CW would fall after a guard (DESIGN CHOICE, log 161: R67 gives no RESULT for it). -/
def Dev.swapCmd (d : Dev) (port action lane spare : Nat) : Dev :=
  let d := d.wr .LNK_SWAP_CMD port 0
    (BitVec.ofNat 32 (2 ^ 31 + action * 2 ^ 28 + lane * 2 ^ 23 + spare * 2 ^ 18 + d.get F.LNK_SWAP_CMD.RESULT port * 256))
  let refuse (st : Nat) : Dev := (d.set F.LNK_SWAP_CMD.RESULT port st).setB F.LNK_SWAP_CMD.GO port false
  let sub : Option Nat :=
    if 2 < action then none
    else if action = 2 then
      if d.role port lane false < 4 then none
      else (d.shortLp port).map lpSub
    else if d.role port lane false < 4 then some (d.role port lane false) else none
  match sub with
  | none => refuse 3
  | some s =>
    let lp := 4 * port + s
    if action = 0 ∧ d.role port spare false ≠ 4 then refuse 3
    else if d.lpState lp ≠ 4 ∨ (d.lp lp).txTxn.isSome ∨ !d.cwOk lp (cwAhead (if action = 0 then 3 else 7)) then refuse 4
    else d.openTxn lp (match action with | 0 => 3 | 1 => 7 | _ => 9) lane spare 0 true

/-- LNK_SWAP_CMD_SWAP -/
def execLnkSwapCmdSwap (a : Access) (port : Fin 256) (lane : Fin 18) (spare : Fin 18) (s : State) :
    Host.Outcome State Fault Refusal :=
  run (fun d => d.onWrite a .LNK_SWAP_CMD port 0 fun d => d.swapCmd port 0 lane spare) s

/-- LNK_SWAP_CMD_DROP -/
def execLnkSwapCmdDrop (a : Access) (port : Fin 256) (lane : Fin 18) (s : State) : Host.Outcome State Fault Refusal :=
  run (fun d => d.onWrite a .LNK_SWAP_CMD port 0 fun d => d.swapCmd port 1 lane 0) s

/-- LNK_SWAP_CMD_ADD -/
def execLnkSwapCmdAdd (a : Access) (port : Fin 256) (lane : Fin 18) (s : State) : Host.Outcome State Fault Refusal :=
  run (fun d => d.onWrite a .LNK_SWAP_CMD port 0 fun d => d.swapCmd port 2 lane 0) s

end Sys2Proof.Machine
end

