-- ==== Sys2Proof/Machine/Flits.lean ====
section
/-! DEFINITION. Markers, flits and training of a logical port: reception, replay, and the egress flit slot (R38 to R60,
R166, R187, R188, R190, R305). -/
namespace Sys2Proof.Machine

/-! ## Training messages (Table 2.8) -/

/-- CREDIT_INIT that the device advertises for an index: its reserve, from 1 to 32,767 cells (R47, R49). -/
def Dev.creditInit (d : Dev) (lp idx : Nat) : Nat :=
  if idx = 1 then 0
  else max 1 (min 32767 (d.reserve (lp / 64) (lp % 64) (if idx = 0 then 8 else idx)))

/-- The lanes that the device receives with marker lock, among those of the logical port and the spares; lanes beyond 64 ns
of skew are left out (Table 2.9). -/
def Dev.rxOkLanes (d : Dev) (lp : Nat) : List Nat :=
  (d.lpLanes lp true ++ d.lanesOf (lpPort lp) 4 true).filter fun j =>
    let x := d.lane (laneIx (lpPort lp) j)
    d.bit F.LNK_LANE_STAT.MARKER_OK (laneIx (lpPort lp) j) && (decide (3 ≤ x.good) || decide (2 ≤ x.spareGood)) &&
    decide (d.get F.LNK_LANE_STAT.DESKEW (laneIx (lpPort lp) j) ≤ 128)

/-- The 64 bytes of the TRAIN message that the device sends. -/
def Dev.trainMsg (d : Dev) (lp : Nat) : List Byte :=
  let p := lpPort lp
  let l := d.lp lp
  let ext := d.get F.LNK_PORT_CFG.EXT_RETRY p
  let flags := (l.train != []).toNat + 2 * ext + 4 * ext + 8 * l.resume.toNat + 16 * d.get F.LNK_PORT_CFG.FAST_REACQ p
  let ok := ((d.rxOkLanes lp).map fun j => 2 ^ j).sum
  beBytes 1 1 ++ beBytes 1 0 ++ beBytes 2 d.place ++ beBytes 1 p ++ beBytes 1 (d.breakout p * 4 + lpSub lp) ++
    beBytes 1 flags ++ beBytes 1 (d.get F.LNK_LP_STATE.LMAP_GEN lp) ++ beBytes 3 ok ++ beBytes 1 0 ++
    ((List.range 8).flatMap fun c => beBytes 2 (d.creditInit lp c)) ++
    beBytes 2 (if l.resume then l.rxAck else 0) ++ List.replicate 34 0

/-- A flag of a TRAIN message. -/
def trainFlag (t : List Byte) (i : Nat) : Bool := bitAt (byteAt t 6) i

/-- A message is inconsistent with the device's own configuration (R57): a reserved NODE_KIND, or another BREAKOUT or SUB.
A spine partner is taken, as R116 and R176 provide for one (DEDUCED, log 57). -/
def Dev.trainBad (d : Dev) (lp : Nat) (t : List Byte) : Bool :=
  decide (2 < byteAt t 1) || byteAt t 5 % 16 != d.breakout (lpPort lp) * 4 + lpSub lp

/-- A transaction's spare. -/
def spareOf (t : Option LaneTxn) : Option Nat :=
  match t with
  | some t => if t.op = 3 then some t.spare else none
  | none => none

/-- A spare of one direction is named by no open transaction of a logical port of its fibre. -/
def Dev.spareFree (d : Dev) (port j : Nat) (rx : Bool) : Bool :=
  (List.range 4).all fun s =>
    let l := d.lp (4 * port + s)
    spareOf (if rx then l.rxTxn else l.txTxn) != some j

/-- Lanes outside a set, and lanes out of service that still hold a position, are replaced by free spares of the set, or
leave the map, in one direction (R57). -/
def Dev.trainMap (d : Dev) (lp : Nat) (rx : Bool) (ok : List Nat) : Dev :=
  let p := lpPort lp
  let bad := ((d.lpLanes lp rx).filter fun j => !ok.contains j) ++ d.heldLanes lp rx
  let d := d.each bad fun d j =>
    match (d.lanesOf p 4 rx).find? fun s => ok.contains s && d.spareFree p s rx with
    | some s => d.movePos lp j s 3 rx
    | none => d.dropPos lp j 3 rx
  if !rx && bad != [] then d.lmapBump lp else d

/-- Release the flits of the window that an ACK covers; progress clears the count of replays (R50, R51). -/
def Dev.takeAck (d : Dev) (lp ack : Nat) : Dev :=
  let l := d.lp lp
  match l.window with
  | [] => d
  | f :: _ =>
    let n := (ack + 65536 + 1 - f.seq) % 65536
    if n = 0 ∨ l.window.length < n then d
    else d.updLp lp fun l =>
      { l with window := l.window.drop n, noProg := 0, oldest := d.raw,
               replay := match l.replay with
                 | some i => if i < n then (if l.window.length ≤ n then none else some 0)
                             else if l.window.length ≤ i then none else some (i - n)
                 | none => none }

/-- Enter ACTIVE: unacknowledged flits are replayed, which is a replay that this sender starts; a return from a by-pass
slot by way of RETRAIN was no fast one; and what waited for the return is started (R58, R60, R65, R67). -/
def Dev.enterActive (d : Dev) (lp : Nat) : Dev :=
  let l := d.lp lp
  let d := (d.lpGo lp 4).showLanes lp
  let d := if l.window = [] then d
    else (d.count .LNK_REPLAY_CNT lp).pulse (lp / 64) 0x005 1 (some (lp % 64)) none none
  let d := if l.back then d.count .LNK_REACQ_SLOW lp else d
  let d := d.updLp lp fun l =>
    { l with replay := if l.window = [] then none else some 0, oldest := d.raw, back := false, farZero := false }
  (d.showBusy lp).nextTodo lp

/-- Training completes after four identical messages received and eight sent, with ACK_SEEN = 1 (R56 to R58): lanes
are replaced, credits and modes are agreed, and at a codeword boundary the normal marker with MARKER_IDX 0 leaves. The port is
in ACTIVE at once where the far end's has come before. In RETRAIN the partner's RESUME_ACK is taken without a look at its
RESUME flag (DESIGN CHOICE, log 162: R58 has both ends in RETRAIN and says nothing of a partner that is not). -/
def Dev.trainDone (d : Dev) (lp : Nat) : Dev :=
  let l := d.lp lp
  let st := d.lpState lp
  if (st = 3 ∨ st = 7) ∧ !l.trained ∧ 4 ≤ l.trainRx ∧ 8 ≤ l.trainTx then
    let t := l.train
    let p := lpPort lp
    let theirs := bitList (beAt t 8 3) 18
    let ours := d.rxOkLanes lp
    let d := (d.trainMap lp false theirs).trainMap lp true ours
    if d.lanesUp lp < d.minLanes p then d.linkDown lp 8
    else
      let ext := trainFlag t 1 && d.bit F.LNK_PORT_CFG.EXT_RETRY p
      let d := d.setB F.LNK_LP_STATE.EXT_ON lp ext
      let d := d.updLp lp fun l =>
        { l with trained := true, fast := trainFlag t 4 && d.bit F.LNK_PORT_CFG.FAST_REACQ p, slot := 0, cwTx := 0,
                 burst := 0, laneOut := l.laneOut.filter (fun m => m.op != 6),
                 credInit := if l.resume then l.credInit
                   else (List.range 8).foldl (fun c i => Tbl.put c 0 i (beAt t (12 + 2 * i) 2)) [] }
      let d := if l.resume then d.takeAck lp (beAt t 28 2) else d
      let d := (d.flushBits lp).sendMarkers lp 0 0
      if l.farZero then d.enterActive lp else d
  else d

/-- A TRAIN message is taken (R56, R57); one whose VERSION is not 0x01 is ignored (DESIGN CHOICE, log 162: Table 2.8 gives
the value and not what a receiver does with another). -/
def Dev.takeTrain (d : Dev) (lp : Nat) (t : List Byte) : Dev :=
  if d.lpState lp ≠ 3 ∧ d.lpState lp ≠ 7 ∨ byteAt t 0 ≠ 1 then d
  else if d.trainBad lp t then (d.linkDown lp 8).setB F.LNK_LP_STATE.MISMATCH lp true
  else
    let d := d.wr .LNK_LP_PARTNER lp 0
      (BitVec.ofNat 32 (byteAt t 4 * 2 ^ 24 + byteAt t 5 % 4 * 2 ^ 22 + byteAt t 1 % 4 * 2 ^ 20 + beAt t 2 2))
    let l := d.lp lp
    let n := if trainFlag t 0 then (if l.train = t then l.trainRx + 1 else 1) else 0
    (d.updLp lp fun l => { l with train := t, trainRx := n }).trainDone lp

/-! ## Lane markers (R38, R39, R56, R62, R86) -/

/-- An uncommissioned ring that is locked with good markers stores its heater code and temperature, rounded to the
nearest 0.5 °C (R71, R86). A temperature outside 0 °C to 127.5 °C, which T_COMM cannot hold, is stored as the nearer end
(DESIGN CHOICE, log 160). -/
def Dev.ringCommission (d : Dev) (x : Nat) : Dev :=
  if d.uncommissioned x ∧ d.ringState x = 4 then
    (d.set F.OE_RING_CAL.COMM_CODE x (d.heater x)).set F.OE_RING_CAL.T_COMM x
      (min 255 (((d.ring x).temp + 2) / 4).toNat)
  else d

/-- A receive lane delivers good markers naming it: the re-acquisition has succeeded, and an uncommissioned ring is
commissioned (R75, R86). -/
def Dev.markersGood (d : Dev) (port lane : Nat) : Dev :=
  let x := ringIx port lane 1
  if d.ringState x = 4 then (d.updRing x fun r => { r with reacq := false }).ringCommission x else d

/-- A spare is qualified: a lane in role 110 returns as a spare, and every logical port of the fibre that is in ACTIVE
sends SPARE_READY (R62, R78). -/
def Dev.spareQualified (d : Dev) (port lane : Nat) : Dev :=
  let d := if d.role port lane true = 6 ∧ (d.lane (laneIx port lane)).rxOut = none ∧ !d.isOut (instLane port lane) then
      d.setRole port lane true 4 else d
  d.each (List.range 4) fun d s =>
    if d.lpState (4 * port + s) = 4 then
      d.updLp (4 * port + s) fun l => { l with laneAns := l.laneAns ++ [{ op := 2, txn := l.nextTxn, lane := lane, spare := lane }],
                                               nextTxn := (l.nextTxn + 1) % 256 }
    else d

/-- Good markers of a lane are counted. The third of a training sets the deskew, a measured value (Table 2.9). -/
def Dev.countMarker (d : Dev) (i kind mirrorOf : Nat) : Dev :=
  let n := (d.lane i).good + 1
  let d := d.updLane i fun x => { x with good := min 255 n, spareGood := if mirrorOf = 31 then 0 else x.spareGood }
  if kind = 1 ∧ n = 3 then
    let (k, d) := d.draw
    d.set F.LNK_LANE_STAT.DESKEW i (Config.freeMeasure k).toNat
  else d

/-- The marker of position 0 numbers the codewords of the receive direction (R40). -/
def Dev.numberCw (d : Dev) (lp m : Nat) : Dev :=
  d.updLp lp fun l => { l with cwRx := bitsOf m 61 46 * 16384, genRx := bitsOf m 69 62 }

/-- The far end's normal marker with MARKER_IDX 0 (R56): ACTIVE, once this end's training is complete. -/
def Dev.zeroMarker (d : Dev) (lp : Nat) : Dev :=
  if d.lpState lp ≠ 3 ∧ d.lpState lp ≠ 7 then d
  else if (d.lp lp).trained then d.enterActive lp
  else d.updLp lp fun l => { l with farZero := true }

/-- A good marker that names its lane. -/
def Dev.goodMarker (d : Dev) (port lane m : Nat) (prbsOk : Bool) : Dev :=
  let i := laneIx port lane
  let kind := bitsOf m 45 44
  let d := d.setB F.LNK_LANE_STAT.MARKER_OK i true
  if kind = 3 then
    let was := (d.lane i).spareGood
    let n := if was = 0 ∨ !prbsOk then 1 else min 2 (was + 1)
    let d := d.updLane i fun x => { x with spareGood := n, good := 0 }
    let d := if n = 2 then d.markersGood port lane else d
    if n = 2 ∧ was < 2 then d.spareQualified port lane else d
  else
    let d := d.countMarker i kind (bitsOf m 82 78)
    let d := if 2 ≤ (d.lane i).good then d.markersGood port lane else d
    let s := d.role port lane true
    if s < 4 then
      let lp := 4 * port + s
      let d := if d.pos port lane true = 0 ∧ kind ≠ 1 then d.numberCw lp m else d
      if kind = 0 ∧ bitsOf m 61 46 = 0 then d.zeroMarker lp else d
    else d

/-- A lane marker arrives: sign, CRC, lane number and kind (R39). A marker with a bad CRC changes nothing but the count, which
for a lane of no sub-port is that of sub-port 0 (DESIGN CHOICE, log 161: LNK_MARKER_ERR is a sub-port's). -/
def Dev.laneMarker (d : Dev) (port lane m : Nat) (prbsOk : Bool) : Dev :=
  let i := laneIx port lane
  let inv := decide (m / 2 ^ 96 = 2 ^ 64 - 1 - markerSync)
  let m := if inv then 2 ^ 160 - 1 - m else m
  if m / 2 ^ 96 ≠ markerSync then d
  else
    let d := if inv then d.setB F.LNK_LANE_STAT.INVERTED i (!d.bit F.LNK_LANE_STAT.INVERTED i) else d
    if crc16 (beBytes 18 (m / 65536)) ≠ m % 65536 then
      let s := d.role port lane true
      d.count .LNK_MARKER_ERR (4 * port + if s < 4 then s else 0)
    else
      let d := d.set F.LNK_LANE_STAT.MARKER_LANE i (bitsOf m 87 83)
      if bitsOf m 87 83 ≠ lane then
        let d := (d.setB F.LNK_LANE_STAT.MISMATCH i true).setB F.LNK_LANE_STAT.MARKER_OK i false
        let x := ringIx port lane 1
        if (d.ring x).reacq ∧ d.ringState x = 4 then d.ringFail x else d.rxWrongLine port lane 3
      else d.goodMarker port lane m prbsOk

/-- LANE_MARKER_RECEIVED -/
def execLaneMarkerReceived (port : Fin 256) (lane : Fin 18) (m : BitVec 160) (prbsOk : Bool) (s : State) :
    Host.Outcome State Fault Refusal := run (·.laneMarker port lane m.toNat prbsOk) s

/-! ## Flits received (R42 to R51) -/

/-- The CRC of a flit is right. -/
def flitOk (f : List Byte) : Bool := f.length == 320 && crc64 (f.take 312) == beAt f 312 8

/-- The sender replays every unacknowledged flit from the oldest (R51); eight replays without progress retrain. -/
def Dev.startReplay (d : Dev) (lp : Nat) : Dev :=
  let l := d.lp lp
  if d.lpState lp ≠ 4 ∨ l.window = [] then d
  else
    let d := d.pulse (lp / 64) 0x005 1 (some (lp % 64)) none none
    if 7 ≤ l.noProg then (d.count .LNK_REPLAY_CNT lp).toRetrain lp
    else (d.updLp lp fun l => { l with replay := some 0, noProg := l.noProg + 1, oldest := d.raw }).count .LNK_REPLAY_CNT lp

/-- REPLAY_REQ with its ACK is received. -/
def Dev.replayReq (d : Dev) (lp ack : Nat) : Dev := (d.takeAck lp ack).startReplay lp

/-- REPLAY_REQ_RECEIVED -/
def execReplayReqReceived (lp : Fin 1024) (ack : BitVec 16) (s : State) : Host.Outcome State Fault Refusal :=
  run (·.replayReq lp ack.toNat) s

/-- SENDER_REPLAY_TIMEOUT -/
def execSenderReplayTimeout (lp : Fin 1024) (s : State) : Host.Outcome State Fault Refusal := run (·.startReplay lp) s

/-- A receiver whose REPLAY_REQ has brought no progress sets it again. -/
def Dev.receiverTimeout (d : Dev) (lp : Nat) : Dev :=
  if d.lpState lp = 4 ∧ (d.lp lp).rxDisc then d.updLp lp fun l => { l with replayReq := true } else d

/-- RECEIVER_REPLAY_TIMEOUT -/
def execReceiverReplayTimeout (lp : Fin 1024) (s : State) : Host.Outcome State Fault Refusal :=
  run (·.receiverTimeout lp) s

/-- The header fields that every flit carries: ACK, REPLAY_REQ and LMAP_GEN (Table 2.5). A change of LMAP_GEN ends the
repetition of SWITCH_DONE. -/
def Dev.flitHeader (d : Dev) (lp : Nat) (f : List Byte) : Dev :=
  let gen := byteAt f 3
  let d := d.updLp lp fun l =>
    { l with genRx := gen, laneOut := if gen = l.genRx then l.laneOut else l.laneOut.filter fun m => m.op != 5 }
  let d := if bitAt (byteAt f 2) 7 then d.takeAck lp (beAt f 6 2) else d
  if bitAt (byteAt f 2) 6 then d.startReplay lp else d

/-- A DATA flit is lost or out of order: REPLAY_REQ is set once, and DATA flits are discarded until ACK + 1 arrives. -/
def Dev.askReplay (d : Dev) (lp : Nat) : Dev :=
  d.updLp lp fun l => { l with replayReq := l.replayReq || !l.rxDisc, rxDisc := true }

/-- Write a class stream. -/
def Dev.rxPut (d : Dev) (lp cls : Nat) (r : RxStream) : Dev :=
  d.updLp lp fun l => { l with rx := l.rx.put {} cls r }

/-- A frame, or a failing header, is handed on to INGRESS_FRAME. -/
def Dev.rxPush (d : Dev) (lp cls stamp : Nat) (b : List Byte) : Dev :=
  d.updLp lp fun l => { l with rxq := l.rxq ++ [{ cls := cls, stamp := stamp, bytes := b }] }

/-- The credit of bytes that belong to no frame returns in 256-byte units (DESIGN CHOICE, log 163). -/
def Dev.rxRefund (d : Dev) (lp cls : Nat) (b : List Byte) (n : Nat) : Dev :=
  d.returnCredit (lp / 64) (lp % 64) ({ bytes := b, cls := cls } : Frm).ci n

/-- The flit's FIRST is reached (R112): a stream that lost its place starts here; a frame that still claims these bytes is
discarded into FWD_KIND_ERR. -/
def Dev.rxFirst (d : Dev) (lp cls : Nat) : Dev :=
  let r := (d.lp lp).rx.at {} cls
  if r.skip then (d.rxRefund lp cls [] (ceilDiv r.lost 256)).rxPut lp cls { skip := false }
  else if r.buf = [] then d
  else
    let formed := if r.taken = none then 0 else formedCells (rxBytes r.buf (fLength r.buf)) r.buf.length
    (((d.count .FWD_KIND_ERR (lp / 64)).rxCut lp cls).rxRefund lp cls r.buf (ceilDiv r.buf.length 256 - formed)).rxPut lp cls
      { skip := false }

/-- The bytes of a frame that INGRESS_FRAME has taken grow from `old`: the cells that form go to its records, or return their
credit where no record will (R155, R163). The FCS is checked with the last of them (R111). -/
def Dev.rxCells (d : Dev) (lp cls : Nat) (l : List Nat) (stamp old : Nat) (buf : List Byte) (len : Nat) : Dev :=
  let full := rxBytes buf len
  let bad := decide (len ≤ buf.length) && d.ownFrame full && consumedKind (fKind full) && !fcsOk full
  let d := if bad then d.count .FWD_FCS_ERR (lp / 64) else d
  let b := if fKind full = 0x03 then writeStamp full stamp else full
  d.each ((List.range (formedCells full buf.length)).drop (formedCells full old)) fun d idx =>
    (d.refundRx lp cls b l 1).each l fun d fid => d.laterCell fid idx b bad false

/-- One payload word enters a class stream (R44). A bad header ends the stream up to the next FIRST (R112): its 24 bytes are
handed on to be counted. -/
def Dev.rxWord (d : Dev) (lp cls : Nat) (w : List Byte) : Dev :=
  let r := (d.lp lp).rx.at {} cls
  if r.skip then d.rxPut lp cls { r with lost := r.lost + w.length }
  else
    let stamp := if r.buf = [] then d.now else r.stamp
    let buf := r.buf ++ w
    let len := max 24 (fLength buf)
    let whole := decide (24 ≤ buf.length ∧ len ≤ buf.length)
    if buf.length = 24 ∧ !hcrcOk buf then (d.rxPush lp cls stamp buf).rxPut lp cls { skip := true, lost := 24 }
    else
      let d := match r.taken with
        | some l => d.rxCells lp cls l stamp r.buf.length (buf.take len) len
        | none => if whole then d.rxPush lp cls stamp (buf.take len) else d
      d.rxPut lp cls (if whole then { skip := false } else { r with buf := buf, stamp := stamp })

/-- The payload of an accepted DATA flit enters its class stream. -/
def Dev.rxPayload (d : Dev) (lp : Nat) (f : List Byte) : Dev :=
  let cls := byteAt f 0 % 8
  d.each (List.range (min 37 (byteAt f 2 % 64))) fun d i =>
    (if i = byteAt f 1 % 64 then d.rxFirst lp cls else d).rxWord lp cls ((f.drop (16 + 8 * i)).take 8)

/-- The retry window in DATA flits (Table 2.4). -/
def Dev.windowSize (d : Dev) (lp : Nat) : Nat :=
  let n := match d.breakout (lpPort lp) with | 0 => 1768 | 1 => 884 | _ => 442
  if d.bit F.LNK_LP_STATE.EXT_ON lp then 4 * n else n

/-- Codewords are received, each decoded with a number of symbols corrected from 0 to 15, and one beyond correction where
`bad`: they are counted and numbered (R35, R40, R67). -/
def Dev.codewords (d : Dev) (lp : Nat) (l : List (Fin 16)) (bad : Bool) : Dev :=
  let n := l.length + bad.toNat
  let d := (d.addWrap64 .LNK_CW_CNT lp n).updLp lp fun p => { p with cwRx := (p.cwRx + n) % 2 ^ 30 }
  let d := if bad then d.add64 .LNK_CW_UNCORR lp 1 else d
  d.each l fun d b =>
    let d := d.count .LNK_CW_HIST (16 * lp + b)
    if b.val = 0 then d
    else (d.add64 .LNK_CW_CORR lp 1).pulse (lp / 64) 0x006 1 (some (lp % 64)) none none

/-- A codeword ends in a flit: an injected fault corrupts symbols of it, 16 and more beyond correction (Table 15.10). -/
def Dev.withCodeword (d : Dev) (lp : Nat) (bad : Bool) (corrected : List (Fin 16))
    (f : Dev → Bool → List (Fin 16) → Dev) : Dev :=
  match d.bur.nextCw.at 0 lp with
  | 0 => f d bad corrected
  | n =>
    let e := d.updBur fun b => { b with nextCw := b.nextCw.erase lp }
    (if h : n < 16 then f e bad (corrected ++ [⟨n, h⟩]) else f e true corrected).flagFrom d.raised.length

/-- A DATA flit is received (R45, R51), with the corrections in the codewords that end in it. -/
def Dev.dataFlit (d : Dev) (lp : Nat) (f : List Byte) (bad : Bool) (corrected : List (Fin 16)) : Dev :=
  let d := d.codewords lp corrected bad
  if d.lpState lp ≠ 4 then d
  else if bad then d.askReplay lp
  else if !flitOk f then (d.count .LNK_FLIT_CRC_ERR lp).askReplay lp
  else
    let d := d.flitHeader lp f
    if byteAt f 0 / 16 ≠ 1 ∨ d.lpState lp ≠ 4 then d
    else
      let l := d.lp lp
      let seq := beAt f 4 2
      let d := d.addWrap64 .XBAR_PMC_PORT_RX (8 * lp + byteAt f 0 % 8) (8 * (byteAt f 2 % 64))
      if seq = (l.rxAck + 1) % 65536 then
        (d.updLp lp fun l => { l with rxAck := seq, rxDisc := false, replayReq := false }).rxPayload lp f
      else if (l.rxAck + 65536 - seq) % 65536 < d.windowSize lp then d
      else d.askReplay lp

/-- DATA_FLIT_RECEIVED -/
def execDataFlitReceived (lp : Fin 1024) (flit : List Byte) (badCodeword : Bool) (corrected : List (Fin 16))
    (s : State) : Host.Outcome State Fault Refusal :=
  run (fun d => d.withCodeword lp badCodeword corrected fun d => d.dataFlit lp flit) s

/-- The lane-control message of a LINK_CONTROL flit (Table 2.11); a LANE outside 0 to 17 names nothing, nor does such a SPARE in
a message that uses it. -/
def laneMsgOf (f : List Byte) : Option (Nat × LaneMsg) :=
  let op := byteAt f 32
  let lane := byteAt f 34
  let spare := if op = 3 ∨ op = 4 ∨ op = 5 then byteAt f 35 else byteAt f 35 % 18
  if h : lane < 18 ∧ spare < 18 then
    some (op,
      { txn := BitVec.ofNat 8 (byteAt f 33), lane := ⟨lane, h.1⟩, spare := ⟨spare, h.2⟩,
        cw := BitVec.ofNat 30 (beAt f 36 4), reason := BitVec.ofNat 8 (byteAt f 40),
        status := BitVec.ofNat 8 (byteAt f 41) })
  else none

/-- A LINK_CONTROL flit is received: credits, training message and lane-control message (R46, R47). -/
def Dev.linkControl (d : Dev) (lp : Nat) (f : List Byte) (bad : Bool) (corrected : List (Fin 16)) : Dev :=
  let d := d.codewords lp corrected bad
  let st := d.lpState lp
  if bad ∨ (st ≠ 3 ∧ st ≠ 4 ∧ st ≠ 6 ∧ st ≠ 7) then d
  else if !flitOk f then d.count .LNK_FLIT_CRC_ERR lp
  else if byteAt f 0 / 16 ≠ 2 then d
  else
    let d := d.updLp lp fun l =>
      { l with returned := (List.range 8).foldl (fun c i => Tbl.put c 0 i (if i = 1 then 0 else beAt f (16 + 2 * i) 2)) [] }
    let d := if st = 3 then d else d.flitHeader lp f
    let d := d.takeTrain lp ((f.drop 64).take 64)
    match laneMsgOf f with
    | some (op, m) => if op = 0 then d else d.laneMsg lp op m
    | none => d

/-- LINK_CONTROL_RECEIVED -/
def execLinkControlReceived (lp : Fin 1024) (flit : List Byte) (badCodeword : Bool) (corrected : List (Fin 16))
    (s : State) : Host.Outcome State Fault Refusal :=
  run (fun d => d.withCodeword lp badCodeword corrected fun d => d.linkControl lp flit) s

/-- The re-acquire burst and the link-control slots return the port to ACTIVE with a replay from ACK + 1; a return later than
1 µs is counted (R60). -/
def Dev.fastReacquire (d : Dev) (lp : Nat) (within1us : Bool) : Dev :=
  if d.lpState lp = 6 ∧ (d.lp lp).fast then
    (d.updLp lp fun l => { l with back := !within1us }).enterActive lp
  else d

/-- FAST_REACQUIRE -/
def execFastReacquire (lp : Fin 1024) (within1us : Bool) (s : State) : Host.Outcome State Fault Refusal :=
  run (·.fastReacquire lp within1us) s

/-! ## The egress flit slot (R43, R47 to R51, R166, R187, R188) -/

/-- Close a flit: 16-byte header, payload padded to 296 bytes, CRC-64 (R42). -/
def mkFlit (hdr payload : List Byte) : List Byte :=
  let b := hdr ++ payload ++ List.replicate (296 - payload.length) 0
  b ++ beBytes 8 (crc64 b)

/-- The flit header (Table 2.5) as the device sends it now. -/
def Dev.mkHdr (d : Dev) (lp ty replay cls first fill seq : Nat) : List Byte :=
  let l := d.lp lp
  let ackV := d.lpUp lp || l.trained
  beBytes 1 (ty * 16 + replay * 8 + cls) ++ beBytes 1 (lpSub lp * 64 + first) ++
    beBytes 1 (ackV.toNat * 128 + l.replayReq.toNat * 64 + fill) ++ beBytes 1 (d.get F.LNK_LP_STATE.LMAP_GEN lp) ++
    beBytes 2 seq ++ beBytes 2 (if ackV then l.rxAck else 0) ++ beBytes 8 0

/-- Send a flit: its bits enter the codewords of the port; REPLAY_REQ has been carried. -/
def Dev.sendFlit (d : Dev) (lp ty replay cls first fill seq : Nat) (payload : List Byte) : Dev :=
  let b := mkFlit (d.mkHdr lp ty replay cls first fill seq) payload
  let d := if ty = 1 then d.addWrap64 .XBAR_PMC_PORT_TX (8 * lp + cls) (8 * fill) else d
  ((d.emit (.flit lp b)).updLp lp fun l => { l with replayReq := false }).sendBits lp (bytesBits b)

/-- The 32 bytes of a lane-control message. -/
def laneBytes (m : LaneOut) : List Byte :=
  beBytes 1 m.op ++ beBytes 1 m.txn ++ beBytes 1 m.lane ++ beBytes 1 m.spare ++ beBytes 4 m.cw ++
    beBytes 1 m.reason ++ beBytes 1 m.status ++ List.replicate 22 0

/-- Send a LINK_CONTROL flit: credits, one lane-control message, and outside ACTIVE's states the TRAIN message. -/
def Dev.sendControl (d : Dev) (lp : Nat) : Dev :=
  let l := d.lp lp
  let st := d.lpState lp
  let training := st == 2 || st == 3 || st == 7
  let ctl : List Byte := match l.laneAns, l.laneOut with
    | m :: _, _ => laneBytes m
    | [], m :: _ => laneBytes m
    | [], [] => List.replicate 32 0
  let credits := (List.range 8).flatMap fun i => beBytes 2 (if i = 1 then 0 else l.credOut.at 0 i)
  let train := if training then d.trainMsg lp else List.replicate 64 0
  let d := d.sendFlit lp 2 0 0 63 0 0 (credits ++ ctl ++ train)
  let d := d.updLp lp fun l =>
    match l.laneAns, l.laneOut with
    | _ :: r, _ => { l with laneAns := r }
    | [], m :: r => { l with laneOut := r ++ [m] }
    | [], [] => l
  if training && l.train != [] then (d.updLp lp fun l => { l with trainTx := l.trainTx + 1 }).trainDone lp else d

/-- Credit available to an index (R47). -/
def Lp.credit (l : Lp) (idx : Nat) : Nat :=
  (l.credInit.at 0 idx + l.returned.at 0 idx + 65536 - l.consumed.at 0 idx) % 65536

/-- The credit index of a frame: 0 for the spine pool of TC4 (R49). -/
def Frm.creditIx (f : Frm) : Nat := if f.ci = 8 then 0 else f.cls

/-- A frame may start as far as credit goes (R47). -/
def Lp.mayStart (l : Lp) (f : Frm) : Bool :=
  !lossless f.cls || decide (creditsOf f.bytes ≤ l.credit f.creditIx)

/-- Bytes of a frame that may be sent: those of its released cells, with the tunnel header of a tunnelled frame. -/
def Frm.ready (f : Frm) : Nat :=
  min f.bytes.length (256 * f.released + (if fFormat f.bytes = 1 ∧ 0 < f.released then 24 else 0))

/-- The frame whose bytes a class sends next, with the offset: the one in progress if more of it is released, else the
first that may start; a TC4 frame may pass one of the other pool that waits for credit (R49). -/
def Dev.egressHead (d : Dev) (lp cls : Nat) : Option (Nat × Frm × Nat) :=
  let q := d.lpQueue lp cls
  let l := d.lp lp
  let start (fid : Nat) : Option (Nat × Frm × Nat) :=
    match d.frm fid with
    | some f => if 0 < f.released ∧ l.mayStart f then some (fid, f, 0) else none
    | none => none
  match q.cur with
  | some (fid, off) =>
    match d.frm fid with
    | some f => if off < f.ready then some (fid, f, off) else none
    | none => none
  | none =>
    match q.frames with
    | [] => none
    | fid :: rest =>
      match start fid, d.frm fid with
      | some r, _ => some r
      | none, some f =>
        if cls = 4 then rest.findSome? fun x => match start x with
          | some (y, g, o) => if g.ci ≠ f.ci then some (y, g, o) else none
          | none => none
        else none
      | none, none => none

/-- The bytes as transmitted: a frame poisoned or short of a cell has its last four inverted (R167). -/
def Frm.txBytes (f : Frm) : List Byte := if f.poisoned = [] ∧ !f.lost then f.bytes else invertFcs f.bytes

/-- The cells of a frame that `off` transmitted bytes have emptied leave the buffer. -/
def Dev.leaveUpTo (d : Dev) (fid off : Nat) : Nat → Dev
  | 0 => d
  | n + 1 =>
    match d.frm fid with
    | none => d
    | some f =>
      let hdr := if fFormat f.bytes = 1 then 24 else 0
      if f.sent < f.cells ∧ (f.bytes.length ≤ off ∨ 256 * (f.sent + 1) + hdr ≤ off) then
        (d.cellLeave fid).leaveUpTo fid off n
      else d

/-- A frame begins transmission: its credit is spent and its transmit stamp taken (R47, R305). -/
def Dev.startFrame (d : Dev) (lp : Nat) (f : Frm) : Dev :=
  let d := if lossless f.cls then
      d.updLp lp fun l => { l with consumed := l.consumed.upd 0 f.creditIx fun v => (v + creditsOf f.bytes) % 65536 }
    else d
  let d := d.pulse (lp / 64) 0x002 1 (some (lp % 64)) (some f.cls)
    (if fFormat f.bytes = 0 then some (fJob f.bytes) else none)
  if fTsReq f.bytes then d.coatPut (lp / 64) { port := lp, tsId := fTsId f.bytes, time := d.now } else d

/-- Fill a DATA flit of a class, word by word of room: the payload so far, FIRST, frames started (R44). -/
def Dev.fillFlit (d : Dev) (lp cls : Nat) (pay : List Byte) (first starts : Nat) : Nat → Dev × List Byte × Nat × Nat
  | 0 => (d, pay, first, starts)
  | n + 1 =>
    match d.egressHead lp cls with
    | none => (d, pay, first, starts)
    | some (fid, f, off) =>
      if 296 ≤ pay.length then (d, pay, first, starts)
      else
        let d := if off = 0 then d.startFrame lp f else d
        let first := if off = 0 ∧ first = 63 then pay.length / 8 else first
        let starts := if off = 0 then starts + 1 else starts
        let piece := ((f.txBytes.drop off).take (f.ready - off)).take (296 - pay.length)
        let off' := off + piece.length
        let done := decide (f.bytes.length ≤ off')
        let d := d.leaveUpTo fid off' 37
        let d := d.updQueue (lp / 64) (lp % 64) cls fun q =>
          { q with cur := if done then none else some (fid, off'),
                   frames := if done then q.frames.filter (fun x => x != fid) else q.frames }
        let d := if done then d.delFrm fid else d
        let padded := piece ++ List.replicate ((8 - piece.length % 8) % 8) 0
        d.fillFlit lp cls (pay ++ padded) first starts n

/-- Count the classes whose frame in progress has no next cell released (R166). -/
def Dev.countWaits (d : Dev) (lp : Nat) : Dev :=
  d.each (List.range 8) fun d c =>
    match (d.lpQueue lp c).cur with
    | some (fid, off) =>
      match d.frm fid with
      | some f => if off < f.ready then d else d.count .XBAR_UNDERRUN (lp / 64)
      | none => d
    | none => d

/-- The head frame of a class waits for credit (R48). -/
def Dev.creditWait (d : Dev) (lp c : Nat) : Bool :=
  let q := d.lpQueue lp c
  d.lpState lp == 4 && q.cur.isNone &&
  match q.frames.head? with
  | some fid => match d.frm fid with
    | some f => !(d.lp lp).mayStart f
    | none => false
  | none => false

/-- `n` cycles of CLK_CORE in which head frames wait for credit are counted (R48, R67). -/
def Dev.creditStall (d : Dev) (n : Nat) : Dev :=
  d.each d.core.queues fun d e =>
    let die := (Nat.unpair e.1).1
    let out := (Nat.unpair (Nat.unpair e.1).2).1
    let c := (Nat.unpair (Nat.unpair e.1).2).2
    if die < 16 ∧ out < 64 ∧ d.creditWait (64 * die + out) c then d.add .LNK_CREDIT_STALL (8 * (64 * die + out) + c) n else d

/-- Send an IDLE flit. -/
def Dev.sendIdle (d : Dev) (lp : Nat) : Dev := d.sendFlit lp 0 0 0 63 0 0 []

/-- Send a new DATA flit of a class and keep it in the retry window (R50, R190). -/
def Dev.sendData (d : Dev) (lp cls : Nat) : Dev :=
  let (d, pay, first, starts) := d.fillFlit lp cls [] 63 0 37
  let fill := pay.length / 8
  let l := d.lp lp
  let seq := l.txSeq
  let d := d.shaperDebit lp cls fill starts
  let d := d.updQueue (lp / 64) (lp % 64) cls fun q => { q with txBytes := q.txBytes + 8 * fill }
  let d := d.sendFlit lp 1 0 cls first fill seq pay
  d.updLp lp fun l =>
    { l with txSeq := (seq + 1) % 65536, oldest := if l.window = [] then d.raw else l.oldest,
             window := l.window ++ [{ seq := seq, cls := cls, first := first, fill := fill, payload := pay }] }

/-- A slot of an ACTIVE port that is not a link-control slot: replay, new data, or IDLE. -/
def Dev.dataSlot (d : Dev) (lp : Nat) : Dev :=
  let l := d.lp lp
  match l.replay with
  | some i =>
    match l.window[i]? with
    | some f =>
      let d := (d.sendFlit lp 1 1 f.cls f.first f.fill f.seq f.payload).count .LNK_REPLAY_FLITS lp
      let d := d.updQueue (lp / 64) (lp % 64) f.cls fun q => { q with txBytes := q.txBytes + 8 * f.fill }
      d.updLp lp fun l => { l with replay := if l.window.length ≤ i + 1 then none else some (i + 1) }
    | none => (d.updLp lp fun l => { l with replay := none }).sendIdle lp
  | none =>
    let d := d.countWaits lp
    let elig := (List.range 8).filter fun c => (d.egressHead lp c).isSome
    if d.windowSize lp ≤ l.window.length then
      (if elig = [] then d else d.count .LNK_WINDOW_STALL lp).sendIdle lp
    else
      match d.schedPick lp elig with
      | (some c, d) => d.sendData lp c
      | (none, d) => d.sendIdle lp

/-- The slot number moves on; a marker leaves after 32,896 slots, or after 514 (256 codewords) in training (R38, R42). -/
def Dev.nextFlitSlot (d : Dev) (lp : Nat) (training : Bool) : Dev :=
  let l := d.lp lp
  let len := if training then 514 else 32896
  if len ≤ l.slot + 1 then
    let idx := if training then l.cwTx / 16384 else (l.cwTx / 16384 + 1) % 65536
    (d.sendMarkers lp training.toNat idx).updLp lp fun l => { l with slot := 0, cwTx := idx * 16384 }
  else d.updLp lp fun l => { l with slot := l.slot + 1 }

/-- A slot in training: a LINK_CONTROL flit; a marker that training's completion sent has begun the count anew (R42, R43). -/
def Dev.trainSlot (d : Dev) (lp : Nat) : Dev :=
  let was := (d.lp lp).trained
  let st := d.lpState lp
  let d := d.sendControl lp
  if (d.lp lp).trained = was ∧ d.lpState lp = st then d.nextFlitSlot lp (!was) else d

/-- A slot is one of link control (R43): after a re-acquire burst the first four, otherwise slot 147 of every 148. -/
def Lp.controlSlot (l : Lp) : Bool := decide (0 < l.burst) || l.slot % 148 == 147

/-- One flit slot of a logical port. -/
def Dev.egressSlot (d : Dev) (lp : Nat) : Dev :=
  let l := d.lp lp
  let used (d : Dev) : Dev := d.updLp lp fun l => { l with burst := l.burst - 1 }
  match d.lpState lp with
  | 2 | 3 | 7 => d.trainSlot lp
  | 4 => (if l.controlSlot then (used d).sendControl lp else d.dataSlot lp).nextFlitSlot lp false
  | 5 => if 0 < l.burst then ((used d).sendControl lp).flushBits lp else d
  | 6 => (if l.controlSlot then (used d).sendControl lp else d.sendIdle lp).nextFlitSlot lp false
  | _ => d

/-- EGRESS_FLIT_SLOT -/
def execEgressFlitSlot (lp : Fin 1024) (s : State) : Host.Outcome State Fault Refusal := run (·.egressSlot lp) s

end Sys2Proof.Machine
end

