-- ==== Sys2Proof/Machine/Cab.lean ====
section
/-! DEFINITION. What the Cabinet families share (chapters 10 and 11): Drawer contexts and their configuration, shelves
and the arbiter's tests, status frames, notices, the shadow stream, epochs, and the layout of chunks. -/
namespace Sys2Proof.Machine

/-- Change the Cabinet dies' state. -/
def Dev.updCab (d : Dev) (f : CabSt → CabSt) : Dev := { d with cab := f d.cab }

/-! ## Configuration (Tables 10.2, 10.3, 11.1) -/

/-- The arithmetic descriptor of a handle. -/
def Dev.desc (d : Dev) (h : Nat) : Desc := descOf (d.rdWide .DRW_CFG h 4 4)

/-- Shelves per chunk of a handle, S. -/
def Dev.chunkShelves (d : Dev) (h : Nat) : Nat := (d.desc h).shelves

/-- The chunk window. -/
def Dev.window (d : Dev) (h : Nat) : Nat := d.get F.DRW_CFG.WINDOW_M1 h + 1

/-- The chunks of a claim. -/
def Dev.claimChunks (d : Dev) (h : Nat) : Nat := d.get F.DRW_CFG.CLAIM_M1 h + 1

/-- The index of DRW_MEMBER[i] of a handle. -/
def memberIx (h i : Nat) : Nat := 1024 * h + i

/-- The VALID members in the Desks' list, rising. -/
def Dev.deskMembers (d : Dev) (h : Nat) : List Nat :=
  (List.range 1024).filter fun i => d.bit F.DRW_MEMBER.VALID (memberIx h i)

/-- The rank of member `i`. -/
def Dev.memberRank (d : Dev) (h i : Nat) : Nat := d.get F.DRW_MEMBER.RANK (memberIx h i)

/-- KIND (Table 11.2). -/
def Dev.kind (d : Dev) (h : Nat) : Nat := d.get F.DRW_COLL.KIND h

/-- The variable-size kinds, with count rounds. -/
def varKind (k : Nat) : Bool := decide (5 ≤ k)

/-! ## Contexts -/

/-- The context of a handle on a die. -/
def Dev.ctx (d : Dev) (die h : Nat) : Option DrwCtx := d.cab.ctx.find (key2 die h)

/-- A record to the Desks of the fields they mirror (R229). -/
def DrwCtx.record (c : DrwCtx) (h : Nat) : MirRec :=
  { handle := h, start := c.start, tag := c.tag, w := c.w, epoch := c.epoch, state := c.state, released := c.released,
    relNext := c.relNext }

/-- Write a context; a primary's change of W, EPOCH, STATE, START, TAG or the released state is reported (R229, R269),
and the time of its last epoch advance outlives the context (R242). -/
def Dev.putCtx (d : Dev) (die h : Nat) (c : DrwCtx) : Dev :=
  let changed := match d.ctx die h with
    | some o => o.record h != c.record h
    | none => true
  d.updCab fun k =>
    { k with
      ctx := k.ctx.insert (key2 die h) c
      adv := if c.shadow then k.adv else match c.epochAt with | some t => k.adv.insert h t | none => k.adv.erase h
      mir := if changed && !c.shadow then k.mir.upd [] die (· ++ [c.record h]) else k.mir }

/-- Change a context, if it is there. -/
def Dev.updCtx (d : Dev) (die h : Nat) (f : DrwCtx → DrwCtx) : Dev :=
  match d.ctx die h with
  | some c => d.putCtx die h (f c)
  | none => d

/-- Drop a context with its chunks, its output-stage items and its pending allocation. -/
def Dev.delCtx (d : Dev) (die h : Nat) : Dev :=
  d.updCab fun k =>
    { k with
      ctx := k.ctx.erase (key2 die h)
      outQ := k.outQ.upd [] die (·.filter fun o => o.handle != h)
      allocQ := k.allocQ.upd [] die (·.filter (· != h)) }

/-- The contexts on a die: handle and context. -/
def Dev.ctxsOn (d : Dev) (die : Nat) : List (Nat × DrwCtx) :=
  d.cab.ctx.filterMap fun e => if (Nat.unpair e.1).1 = die then some ((Nat.unpair e.1).2, e.2) else none

/-- The die of a handle's primary context. -/
def Dev.drwDie (d : Dev) (h : Nat) : Nat := d.get F.DRW_CFG.DIE h

/-- The state of a handle: its context's, or the Desks' where it has none. -/
def Dev.drwState (d : Dev) (h : Nat) : Nat :=
  match d.ctx (d.drwDie h) h with
  | some c => if c.shadow then d.get F.DRW_CFG.STATE h else c.state
  | none => d.get F.DRW_CFG.STATE h

/-- A free slot of a die: the lowest (DESIGN CHOICE, log 97: R226 lets the die choose). -/
def Dev.freeSlot (d : Dev) (die : Nat) : Option Nat :=
  (List.range 512).find? fun s => !(d.ctxsOn die).any fun c => c.2.slot == s

/-- Free slots of a die. -/
def Dev.freeSlots (d : Dev) (die : Nat) : Nat := 512 - (d.ctxsOn die).length

/-- A Cabinet die is in service (Table 15.6), its domain on. -/
def Dev.cabUp (d : Dev) (die : Nat) : Bool :=
  d.get F.BUR_UNIT.STATE (16 + die) == 0 && bitAt (d.get F.PWR_PD_STAT.ON 0) (16 + die)

/-- A Cabinet die is in service and the Desks reach it (R19). -/
def Dev.cabReach (d : Dev) (die : Nat) : Bool := d.cabUp die && !d.unreachable (deskTile d.master) (16 + die)

/-- A Cabinet die is active (Table 10.9). -/
def Dev.cabActive (d : Dev) (die : Nat) : Bool := bitAt (d.get F.DRW_PLACE_CFG.ACTIVE 0) die

/-! ## Shelves (R235, R238, R239, R247) -/

/-- The partition of a handle on a die, in shelves: exact or fast (R238). -/
def Dev.partition (d : Dev) (die : Nat) (exact : Bool) : Nat :=
  if exact then d.get F.CAB_SHELF_PART.EXACT_PART die else d.get F.CAB_SHELF_PART.FAST_PART die

/-- Chunks of a handle in a die's output stage. -/
def Dev.outChunks (d : Dev) (die h : Nat) : List OutItem :=
  (d.cab.outQ.at [] die).filter fun o => o.handle == h && o.kind == 0

/-- SRAM shelves that a context holds; a shadow context holds what it reserved when it opened (R247). -/
def Dev.sramShelves (d : Dev) (die h : Nat) (c : DrwCtx) : Nat :=
  if c.shadow then d.window h * d.chunkShelves h
  else ((c.chunks.filter fun e => !e.2.spilled).length +
    ((d.outChunks die h).filter fun o => !o.body.spilled).length) * d.chunkShelves h

/-- Spill-region shelves that a context holds (R241). -/
def Dev.spillShelves (d : Dev) (die h : Nat) (c : DrwCtx) : Nat :=
  if c.shadow then 0
  else ((c.chunks.filter fun e => e.2.spilled).length +
    ((d.outChunks die h).filter fun o => o.body.spilled).length) * d.chunkShelves h

/-- SRAM shelves allocated in a partition. -/
def Dev.shelfUsed (d : Dev) (die : Nat) (exact : Bool) : Nat :=
  ((d.ctxsOn die).map fun c => if (d.desc c.1).exact = exact then d.sramShelves die c.1 c.2 else 0).sum

/-- free[m]. -/
def Dev.shelfFree (d : Dev) (die : Nat) (exact : Bool) : Nat := d.partition die exact - d.shelfUsed die exact

/-- Shelves in a die's spill region. -/
def Dev.spillUsed (d : Dev) (die : Nat) : Nat := ((d.ctxsOn die).map fun c => d.spillShelves die c.1 c.2).sum

/-- held[r]. -/
def Dev.rankHeld (d : Dev) (die r : Nat) : Nat :=
  ((d.ctxsOn die).map fun c =>
    if c.2.rank = r then d.sramShelves die c.1 c.2 + d.spillShelves die c.1 c.2 else 0).sum

/-- active[r]. -/
def Dev.rankActive (d : Dev) (die r : Nat) : Nat :=
  ((d.ctxsOn die).filter fun c => c.2.rank == r && c.2.state == 3 && !c.2.shadow).length

/-- The shelf test of R235 for `n` shelves of a handle at a rank. -/
def Dev.shelvesFit (d : Dev) (die h r n : Nat) : Bool :=
  decide (n ≤ d.shelfFree die (d.desc h).exact) &&
  decide (d.rankHeld die r + n ≤ d.get F.CAB_RANK_QUOTA.SHELF_MAX (8 * die + r))

/-- The shelf rules of an open (R238): true refuses with CHUNK_TOO_LARGE. -/
def Dev.tooLarge (d : Dev) (die h : Nat) : Bool :=
  let n := d.chunkShelves h
  let p := d.partition die (d.desc h).exact
  let r := d.jobRank (d.get F.DRW_CFG.JOB h)
  decide (p < n ∨ p < n * d.claimChunks h ∨ d.get F.CAB_RANK_QUOTA.SHELF_MAX (8 * die + r) < n * d.claimChunks h)

/-! ## Frames to members (Tables 5.4, 5.6; R120) -/

/-- Bytes 24 to 47 of a collective frame (Table 5.4). -/
def collExt (h epoch contrib tag chunk : Nat) (last count replay : Bool) (attempt fmt op off code k arg : Nat) :
    List Byte :=
  beBytes 4 (h * 2 ^ 20 + epoch % 256 * 2 ^ 12 + contrib % 1024) ++ beBytes 4 tag ++
  beBytes 4 (chunk % 2 ^ 24 * 256 + last.toNat * 128 + count.toNat * 64 + replay.toNat * 32 + attempt % 16) ++
  beBytes 4 (fmt * 2 ^ 27 + op * 2 ^ 22 + off % 2 ^ 20) ++ beBytes 4 (code * 2 ^ 24 + k * 2 ^ 20 + off / 2 ^ 20 % 16) ++
  beBytes 4 arg

/-- A COLL_STATUS of a Cabinet die to a destination. -/
def Dev.collStatus (d : Dev) (die dstType dst job h epoch contrib tag chunk attempt code k arg : Nat) : Dev :=
  d.originate (16 + die) 3 (mkFrame 0x12 dstType 1 dst (d.unitSrc 1 die) job 0
    (collExt h epoch contrib tag chunk false false false attempt 0 0 0 code k arg))

/-- The DST of member `i` of a handle, none where the rank is missing, which is counted and raised (R120). -/
def Dev.memberDst (d : Dev) (die h i : Nat) : Option Nat × Dev :=
  match d.rankDst (d.get F.DRW_CFG.JOB h) (d.memberRank h i) with
  | some x => (some x, d)
  | none => (none, (d.count .FWD_RANK_MISS).raise (32 + die) 7 (instDrawer h))

/-- A COLL_STATUS to every member of a context, ascending, with CONTRIB the member's index. -/
def Dev.statusAll (d : Dev) (die h chunk code arg : Nat) : Dev :=
  match d.ctx die h with
  | none => d
  | some c =>
    if c.shadow then d
    else d.each c.members fun d i =>
      match d.memberDst die h i with
      | (some dst, d) => d.collStatus die 0 dst (d.get F.DRW_CFG.JOB h) h c.epoch i c.tag chunk 0 code 0 arg
      | (none, d) => d

/-- Originate a frame that the member choice may suppress: true where the fence suppressed it (R135, R267). -/
def Dev.originateFenced (d : Dev) (die cls : Nat) (bytes : List Byte) : Bool × Dev :=
  let (m, _) := d.memberChoice (16 + die) d.liveBank (fDst bytes / 4096) cls true bytes
  (m == .fenced && !d.bit F.BUR_CTL.SPINE_SHADOW 0, d.originate (16 + die) cls bytes)

/-! ## Notices (R257, R280, R284, R292) -/

/-- A die's notice stream toward a member. -/
def Dev.nstream (d : Dev) (die dst : Nat) : NStream := d.cab.notes.at {} (key2 die dst)

/-- Change a notice stream. -/
def Dev.updNotes (d : Dev) (die dst : Nat) (f : NStream → NStream) : Dev :=
  d.updCab fun k => { k with notes := k.notes.upd {} (key2 die dst) f }

/-- The bytes of a CHUNK_NOTICE frame (Tables 5.7, 11.3). -/
def Dev.noticeFrame (d : Dev) (die dst opcode : Nat) (n : Notice) : List Byte :=
  mkFrame 0x13 0 1 dst (d.unitSrc 1 die) n.job 0
    (beBytes 4 (opcode * 2 ^ 24 + n.tag % 2 ^ 16) ++ beBytes 4 n.seq ++ beBytes 8 n.addr ++ beBytes 8 0 ++ n.payload)

/-- Opcodes of the Gnoari extension. -/
def opFWrite : Nat := 0x04

/-- A notice's payload with the LIMIT and W of its Drawer now in words 3 and 4 (Table 11.3, R239); as queued where the die
holds no context of the Drawer any more. -/
def Dev.noticeNow (d : Dev) (die : Nat) (n : Notice) : List Byte :=
  match d.ctx die n.drawer with
  | none => n.payload
  | some c =>
    n.payload.take 12 ++ beBytes 4 (c.limit % 2 ^ 24 * 256) ++ beBytes 4 (c.w % 2 ^ 24 * 256) ++ n.payload.drop 20

/-- Number and send a notice; one that the fence suppresses takes no SEQ and is not held (R257, R267). -/
def Dev.pushNotice (d : Dev) (die dst : Nat) (n : Notice) : Dev :=
  let s := d.nstream die dst
  let n := { n with seq := s.next, tries := 1, payload := d.noticeNow die n }
  let (supp, d) := d.originateFenced die 3 (d.noticeFrame die dst opFWrite n)
  if supp then d.count .CAB_NOTICE_SUPP die
  else d.updNotes die dst fun s =>
    { s with next := (s.next + 1) % 2 ^ 32, held := s.held ++ [n], job := n.job }

/-- Send a notice, or keep it while a SYNC is unanswered or 1,024 are outstanding (R280, R284). -/
def Dev.sendNotice (d : Dev) (die dst : Nat) (n : Notice) : Dev :=
  let s := d.nstream die dst
  if s.sync ∨ s.wait ≠ [] ∨ 1024 ≤ s.held.length then d.updNotes die dst fun s => { s with wait := s.wait ++ [n] }
  else d.pushNotice die dst n

/-- Send the notices that wait, as far as R280 and R284 allow. -/
def Dev.drainNotices (d : Dev) (die dst : Nat) : Nat → Dev
  | 0 => d
  | n + 1 =>
    let s := d.nstream die dst
    match s.wait with
    | [] => d
    | x :: _ =>
      if s.sync ∨ 1024 ≤ s.held.length then d
      else ((d.updNotes die dst fun s => { s with wait := s.wait.drop 1 }).pushNotice die dst x).drainNotices die dst n

/-- Send the SYNC of a stream in a CHUNK_NOTICE frame (R124, R280). -/
def Dev.sendSync (d : Dev) (die dst : Nat) : Dev :=
  let s := d.nstream die dst
  (d.updNotes die dst fun s => { s with sync := true }).originate (16 + die) 3
    (d.noticeFrame die dst opSync { seq := s.acked, job := s.job, tag := 0, addr := 0, payload := [], tries := 0 })

/-- `a` lies after `b` in serial order (R281). -/
def serialAfter (a b : Nat) : Bool := decide (1 ≤ (a + 2 ^ 32 - b) % 2 ^ 32 ∧ (a + 2 ^ 32 - b) % 2 ^ 32 < 2 ^ 31)

/-- Apply ACK_SEQ to a stream: notices at or before it are released (R281). -/
def Dev.ackNotices (d : Dev) (die dst ack : Nat) : Dev :=
  let d := d.updNotes die dst fun s =>
    { s with held := s.held.filter fun n => serialAfter n.seq ack,
             acked := if serialAfter ack s.acked then ack else s.acked }
  d.drainNotices die dst (d.nstream die dst).wait.length

/-- A GN_RESP offered to a die: taken, with the new state, or not (R293, Table 12.6). -/
def Dev.noticeResp (d : Dev) (die : Nat) (r : GnResp) : Bool × Dev :=
  let dst := r.src.toNat
  let s := d.nstream die dst
  let op := r.opcode.toNat
  let st := r.status.toNat
  if op = opSync ∧ s.sync ∧ r.seq.toNat = s.acked then
    if st = 0 then
      let d := (d.updNotes die dst fun s => { s with sync := false }).ackNotices die dst r.ackSeq.toNat
      (true, d)
    else (true, d.ackNotices die dst r.ackSeq.toNat)
  else if op = opFWrite then
    match s.held.find? (fun n => n.seq == r.seq.toNat && n.addr == r.addr.toNat) with
    | none => (false, d)
    | some _ =>
      let d := if [0, 1, 2, 3, 4, 8, 10].contains st then
          d.updNotes die dst fun s => { s with held := s.held.filter fun n => n.seq != r.seq.toNat }
        else d
      let d := d.ackNotices die dst r.ackSeq.toNat
      (true, if st = 9 ∧ !(d.nstream die dst).sync then d.sendSync die dst else d)
  else (false, d)

/-- The tile that a Cabinet die's attach link joins. -/
def attachTile (die : Nat) : Nat := if die < 4 then die else die + 8

/-- NOTICE_RESEND_TIMEOUT: an unanswered notice, or the SYNC of a stream that is being synced, is sent again; after 100
transmissions the notice is dropped (R292). -/
def Dev.resendNotice (d : Dev) (die dst seq : Nat) : Dev :=
  let s := d.nstream die dst
  if s.sync then d.sendSync die dst
  else match s.held.find? (fun n => n.seq == seq) with
    | none => d
    | some n =>
      if 100 ≤ n.tries then
        let d := d.updNotes die dst fun s => { s with held := s.held.filter fun n => n.seq != seq }
        let d := (d.count .POOL_SRC_GIVEUP (attachTile die)).raise (32 + die) 8 (instDie (16 + die))
        d.drainNotices die dst (d.nstream die dst).wait.length
      else
        (d.updNotes die dst fun s =>
          { s with held := s.held.map fun m => if m.seq = seq then { m with tries := m.tries + 1 } else m }).originate
          (16 + die) 3 (d.noticeFrame die dst opFWrite n)

/-! ## The shadow stream (R247, R248) -/

/-- The shadow die of a handle, while it has a shadow context. -/
def Dev.shadowDie (d : Dev) (h : Nat) : Option Nat :=
  if d.bit F.DRW_CFG.SHADOWED h then some (d.get F.DRW_CFG.SHADOW_DIE h) else none

/-- Cells of a contribution frame (R155). -/
def contribCells (c : Contrib) : Nat := ceilDiv (52 + c.payload.length) 256

/-- Cells of a shadow stream's item that hold end-to-end credit; control records take none. -/
def ShItem.cells : ShItem → Nat
  | .frame c => contribCells c
  | _ => 0

/-- Cells of a primary die's stream toward a shadow die that hold credit (R248). -/
def Dev.shadowUsed (d : Dev) (die k : Nat) : Nat := d.cab.shCred.at 0 (key2 die k)

/-- The shadow die returns credit to a primary die. -/
def Dev.creditShadow (d : Dev) (die k n : Nat) : Dev :=
  d.updCab fun s => { s with shCred := s.shCred.upd 0 (key2 die k) (· - n) }

/-- Cells in the shadow output queue of a Cabinet die: those of its stream items that have not left it. -/
def Dev.shadowQueue (d : Dev) (die : Nat) : Nat :=
  (d.core.frames.map fun e => if e.2.sh.isSome && e.2.die == 16 + die && e.2.via == 4 then e.2.cells - e.2.sent else 0).sum

/-- Drop the shadow context of a handle. -/
def Dev.dropShadow (d : Dev) (h : Nat) : Dev :=
  match d.shadowDie h with
  | none => d
  | some k =>
    let d := match d.ctx k h with
      | some c => if c.shadow then d.delCtx k h else d
      | none => d
    let gone := (d.cab.stream.at [] k).filter fun m => m.handle == h
    let d := d.each gone fun d m => d.creditShadow m.from' k m.item.cells
    let d := d.updCab fun s =>
      { s with stream := s.stream.upd [] k (·.filter fun m => m.handle != h)
               primD := s.primD.upd [] (d.drwDie h) (·.filter fun x => x.handle != h) }
    let d := d.setB F.DRW_CFG.SHADOWED h false
    d.updCtx (d.drwDie h) h fun c => { c with feeds := false }

/-- The shadow ends (R248): its context is dropped and CAB_SHADOW_LOST is raised by a die. -/
def Dev.shadowLost (d : Dev) (die h : Nat) : Dev := (d.dropShadow h).raise (32 + die) 4 (instDrawer h)

/-- The bytes of a contribution frame. -/
def contribBytes (place : Nat) (c : Contrib) : List Byte :=
  mkFrame 0x10 1 c.srcType c.src.toNat (place * 65536) c.job 0
    (collExt c.drawer c.epoch.toNat c.contrib c.tag.toNat c.chunk.toNat c.last c.count c.replay c.attempt c.fmt c.op
      c.offset.toNat 0 0 0 ++ c.payload)

/-- The bytes that carry a stream item on the mesh: a forwarded frame's own; a control record's one cell, whose contents the
manual does not lay out (DESIGN CHOICE, log 182: an empty contribution frame's). -/
def ShItem.bytes (place : Nat) (i : ShItem) : List Byte :=
  match i with
  | .frame c => contribBytes place c
  | _ => mkFrame 0x10 1 1 0 (place * 65536) 0 0 (beBytes 24 0)

/-- Put a stream item on the mesh toward the shadow die, as TC2 (R248). -/
def Dev.sendShadow (d : Dev) (die k : Nat) (m : ShMsg) : Dev :=
  let d := d.updCab fun s => { s with shCred := s.shCred.upd 0 (key2 die k) (· + m.item.cells) }
  d.sendFrom { bytes := m.item.bytes d.place, cls := 2, gen := d.liveBank, stamp := d.now, src := 1040 + die, die := 16 + die,
               acct := 69, dest := { die := 16 + k, kind := 1, id := k }, sh := some m }

/-- Send an item to a handle's shadow (R248): every control record, and the frames of an operation that is forwarded. A frame
that finds no end-to-end credit, or no room in the output queue of 512 cells, ends the shadow. -/
def Dev.feedShadow (d : Dev) (die h : Nat) (i : ShItem) : Dev :=
  match d.ctx die h, d.shadowDie h with
  | some c, some k =>
    let frame := decide (0 < i.cells)
    if c.shadow || (frame && !c.feeds) then d
    else if d.unreachable (16 + die) (16 + k) || (frame && (decide (2048 < d.shadowUsed die k + i.cells) ||
        decide (512 < d.shadowQueue die + i.cells))) then d.shadowLost die h
    else d.sendShadow die k ⟨die, h, i⟩
  | _, _ => d

/-! ## Layout of chunks (R252 to R254, R261) -/

/-- The packed chunk size C. -/
def Dev.chunkSize (d : Dev) (h : Nat) : Nat := packedSize (d.desc h).inFmt (d.desc h).n

/-- The count of contributor `i` toward destination `t` (0 in kinds 5 and 6). -/
def DrwCtx.countOf (c : DrwCtx) (t i : Nat) : Nat := c.layout.at 0 (key2 t i)

/-- The exclusive prefix sum, modulo 2⁶⁴ (R217). -/
def DrwCtx.prefixOf (c : DrwCtx) (t i : Nat) : Nat := ((List.range i).map (c.countOf t)).sum % 2 ^ 64

/-- TOTAL of a stream. -/
def DrwCtx.total (c : DrwCtx) (t : Nat) : Nat := ((List.range 1024).map (c.countOf t)).sum % 2 ^ 64

/-- BASE of a destination's stream in chunks (kind 7). -/
def Dev.baseOf (d : Dev) (h : Nat) (c : DrwCtx) (t : Nat) : Nat :=
  ((List.range t).map fun x => ceilDiv (c.total x) (d.chunkSize h)).sum

/-- The destination whose stream holds chunk `n` (kind 7), or 0. -/
def Dev.streamOf (d : Dev) (h : Nat) (c : DrwCtx) (n : Nat) : Nat :=
  if d.kind h = 7 then
    ((List.range 1024).find? fun t =>
      decide (d.baseOf h c t ≤ n ∧ n < d.baseOf h c t + ceilDiv (c.total t) (d.chunkSize h))).getD 0
  else 0

/-- The range of stream bytes that chunk `n` covers. -/
def Dev.chunkRange (d : Dev) (h : Nat) (c : DrwCtx) (n : Nat) : Nat × Nat :=
  let t := d.streamOf h c n
  let m := if d.kind h = 7 then n - d.baseOf h c t else n
  let sz := d.chunkSize h
  (m * sz, min ((m + 1) * sz) (if varKind (d.kind h) then max (m * sz) (c.total t) else (m + 1) * sz))

/-- Bytes of chunk `n` in IN_FMT. -/
def Dev.chunkLen (d : Dev) (h : Nat) (c : DrwCtx) (n : Nat) : Nat :=
  let r := d.chunkRange h c n
  r.2 - r.1

/-- The length of contributor `i`'s SPARSE_MERGE list in a chunk of N elements: its LAST frame ends it; at most 8N bytes
before that one (R218, R254). -/
def Chunk.listEnd (ch : Chunk) (n i : Nat) : Nat :=
  match ch.ends.at 0 i with
  | 0 => 8 * n
  | e + 1 => e

/-- The part of contributor `i` in chunk `n`: its byte range within the chunk (R254). -/
def Dev.partOf (d : Dev) (h : Nat) (c : DrwCtx) (n i : Nat) : Nat × Nat :=
  let k := d.kind h
  if k = 5 ∨ k = 7 then
    let t := d.streamOf h c n
    let r := d.chunkRange h c n
    let lo := max r.1 (c.prefixOf t i)
    let hi := min r.2 (c.prefixOf t i + c.countOf t i)
    if lo < hi then (lo - r.1, hi - r.1) else (0, 0)
  else if (d.desc h).op = 10 then (0, ((c.chunks.find n).getD {}).listEnd (d.desc h).n i)
  else (0, d.chunkLen h c n)

/-- The contributors that Table 11.2 names for chunk `n`, members or not. -/
def Dev.namedContribs (d : Dev) (h : Nat) (c : DrwCtx) (n : Nat) : Option (List Nat) :=
  match d.kind h with
  | 2 => some [n / (d.get F.DRW_COLL.CPM_M1 h + 1)]
  | 3 => some [d.get F.DRW_COLL.ROOT h]
  | 5 | 7 => some ((List.range 1024).filter fun i => let p := d.partOf h c n i; decide (p.1 < p.2))
  | _ => none

/-- The member set of chunk `n` (R253). -/
def Dev.memberSet (d : Dev) (h : Nat) (c : DrwCtx) (n : Nat) : List Nat :=
  match d.namedContribs h c n with
  | some l => l.filter c.members.contains
  | none => c.members

/-- The chunks of the operation: OP_CHUNKS, or K after a count round (R262). -/
def Dev.opChunks (d : Dev) (h : Nat) (c : DrwCtx) : Nat := c.k.getD (d.get F.DRW_CFG.OP_CHUNKS h)

/-- The part of every member of the set has arrived (R254, R255). -/
def Dev.chunkFull (d : Dev) (h : Nat) (c : DrwCtx) (n : Nat) (ch : Chunk) : Bool :=
  !ch.dead && (d.memberSet h c n).all fun i =>
    if (d.desc h).op = 10 then ch.ends.at 0 i == ch.cnt.at 0 i + 1
    else
      let p := d.partOf h c n i
      ch.cnt.at 0 i == p.2 - p.1

/-! ## Epochs and clearing (R240, R242, R244) -/

/-- Four microseconds have passed since the last advance of the epoch. -/
def Dev.epochFree (d : Dev) (c : DrwCtx) : Bool :=
  match c.epochAt with
  | some t => decide (ticksOfUs 4 ≤ d.since t)
  | none => true

/-- Four microseconds have passed since the last advance of the epoch of a handle, whether or not a die holds it. -/
def Dev.advFree (d : Dev) (h : Nat) : Bool :=
  match d.cab.adv.find h with
  | some t => decide (ticksOfUs 4 ≤ d.since t)
  | none => true

/-- The epoch advances by one, modulo 256. -/
def DrwCtx.advance (c : DrwCtx) (now begun : Nat) : DrwCtx :=
  { c with epoch := (c.epoch + 1) % 256, epochAt := some now, begun := begun, replayWait := false }

/-- An operation's own state is cleared (R240, R268): chunks, counts, filters, the timer, the released state. -/
def DrwCtx.clearOp (c : DrwCtx) : DrwCtx :=
  { c with state := 2, start := 0, w := 0, limit := 0, k := none, chunks := [], done := [], actMin := [],
           pendTag := none, pendMin := [], released := false, relNext := false, strag := none, replayWait := false,
           phase := 0, counts := [], layout := [],
           entries := 0, feeds := false }

/-- Remove a handle's items from a die's output stage and its pending allocation. -/
def Dev.clearStage (d : Dev) (die h : Nat) : Dev :=
  d.updCab fun k =>
    { k with outQ := k.outQ.upd [] die (·.filter fun o => o.handle != h),
             allocQ := k.allocQ.upd [] die (·.filter (· != h)) }

/-- The operation closes (R231, R233): its TAG becomes the last closed TAG. -/
def Dev.closeOp (d : Dev) (die h : Nat) : Dev :=
  match d.ctx die h with
  | none => d
  | some c =>
    let d := d.feedShadow die h .close
    (d.updCab fun k => { k with allocQ := k.allocQ.upd [] die (·.filter (· != h)) }).updCtx die h
      fun x => { x.clearOp with lastTag := some c.tag, feeds := d.bit F.DRW_CFG.SHADOWED h }

/-- ABORT of a context (R240): its epoch advances, its shelves are freed, and it enters IDLE. -/
def Dev.abortCtx (d : Dev) (die h : Nat) : Dev :=
  match d.ctx die h with
  | none => d
  | some c =>
    let c' := (c.clearOp).advance d.raw 0
    let d := (d.feedShadow die h (.abort c'.epoch)).clearStage die h
    d.putCtx die h { c' with feeds := d.bit F.DRW_CFG.SHADOWED h }

/-! ## Allocation (R234, R235, R239) -/

/-- A context wants one more chunk: LIMIT below the operation's chunks, and inside the window. -/
def Dev.wantsChunk (d : Dev) (h : Nat) (c : DrwCtx) : Bool :=
  c.state == 3 && !c.shadow && (c.phase == 0 || c.phase == 3) &&
  decide (c.limit < d.opChunks h c ∧ c.limit - c.w < d.window h)

/-- Keep the list of pending allocations: one for a context that wants a chunk, none otherwise. -/
def Dev.wantAlloc (d : Dev) (die h : Nat) : Dev :=
  let want := match d.ctx die h with | some c => d.wantsChunk h c | none => false
  d.updCab fun k =>
    { k with allocQ := k.allocQ.upd [] die fun q =>
        if want then (if q.contains h then q else q ++ [h]) else q.filter (· != h) }

/-- The rank of a handle's context on a die. -/
def Dev.ctxRank (d : Dev) (die h : Nat) : Nat := match d.ctx die h with | some c => c.rank | none => 7

/-- The pending allocations of a die in the arbiter's order: by rank, then the oldest first (R234). -/
def Dev.allocOrder (d : Dev) (die : Nat) : List Nat :=
  let q := d.cab.allocQ.at [] die
  (List.range 8).flatMap fun r => q.filter fun h => d.ctxRank die h == r

/-- The pending allocation of a handle may be granted. -/
def Dev.allocFits (d : Dev) (die h : Nat) : Bool := d.shelvesFit die h (d.ctxRank die h) (d.chunkShelves h)

/-- A chunk is allocated: LIMIT rises by one. -/
def Dev.allocChunk (d : Dev) (die h : Nat) : Dev :=
  (d.updCab fun k => { k with allocQ := k.allocQ.upd [] die (·.filter (· != h)) }).updCtx die h fun c =>
    { c with chunks := c.chunks.insert c.limit { rx := d.raw }, limit := c.limit + 1 }

end Sys2Proof.Machine
end

