-- ==== Sys2Proof/Machine/Coll.lean ====
section
/-! DEFINITION. A contribution's way through a Cabinet die (chapters 9 to 11): the tests of Table 10.6, claims,
accumulation, completion, the output stage, count rounds, failure, stragglers, reform and release. -/
namespace Sys2Proof.Machine

/-! ## Accumulating (R206 to R211, R217, R218) -/

/-- The element at which a payload begins. -/
def elemAt (fmt off : Nat) : Nat := if isMx fmt then off / groupBytes fmt * 256 else off * 8 / elemBits fmt

/-- Accumulate one element into a chunk, with its events. -/
def accumAt (a : Desc) (weight : Nat) (bs : List Byte) (base : Nat) (s : Tbl Acc × Evt) (i : Nat) : Tbl Acc × Evt :=
  let (x, e) := accumElem a weight bs i (s.1.at .empty (base + i))
  (s.1.put .empty (base + i) x, { nan := s.2.nan + e.nan, inf := s.2.inf + e.inf, ovf := s.2.ovf + e.ovf })

/-- Accumulate one entry of a SPARSE_MERGE list (R218); the last component counts entries out of range. -/
def sparseAt (a : Desc) (bs : List Byte) (s : (Tbl Acc × Evt) × Nat) (j : Nat) : (Tbl Acc × Evt) × Nat :=
  let i := beAt bs (8 * j) 4
  if i = 0xFFFFFFFF then s
  else if a.n ≤ i then (s.1, s.2 + 1)
  else
    let (x, e) := accumVal a 0 (fp32Val (beAt bs (8 * j + 4) 4)) (s.1.1.at .empty i)
    ((s.1.1.put .empty i x, { nan := s.1.2.nan + e.nan, inf := s.1.2.inf + e.inf, ovf := s.1.2.ovf + e.ovf }), s.2)

/-- Copy a payload's bytes to their offsets (R217); an offset that no byte was written to reads as zero (R265). -/
def gatherAt (data : Tbl (BitVec 8)) (off : Nat) (bs : List Byte) : Tbl (BitVec 8) :=
  (bs.zip (List.range bs.length)).foldl (fun t b => Tbl.put t 0 (off + b.2) b.1) data

/-- Accumulate a contribution's payload into a chunk of a die, and count its bytes (R254). -/
def Dev.accumulate (d : Dev) (die h : Nat) (ch : Chunk) (c : Contrib) : Chunk × Dev :=
  let a := d.desc h
  let i := c.contrib.val
  let off := c.offset.toNat
  let ch := { ch with
    cnt := ch.cnt.upd 0 i (· + c.payload.length)
    ends := if c.last && ch.ends.at 0 i == 0 then ch.ends.put 0 i (1 + off + c.payload.length) else ch.ends
    rx := d.raw, got := true }
  if a.op = 11 then ({ ch with data := gatherAt ch.data off c.payload }, d)
  else if a.op = 10 then
    let ((t, e), bad) := (List.range (c.payload.length / 8)).foldl (sparseAt a c.payload) ((ch.acc, {}), 0)
    let d := d.pulse (16 + die) 0x020 (c.payload.length / 8) none none (some c.job)
    ({ ch with acc := t },
     (((d.add .CAB_NAN_IN die e.nan).add .CAB_INF_IN die e.inf).add .CAB_DECODE_OVF die e.ovf).add
       .CAB_SPARSE_RANGE die bad)
  else
    let w := (d.rd .CAB_WEIGHT (65536 * die + (a.wbase + i) % 65536)).toNat
    let (t, e) := (List.range (elemsIn a.inFmt c.payload.length)).foldl
      (accumAt a w c.payload (elemAt a.inFmt off)) (ch.acc, {})
    let d := d.pulse (16 + die) 0x020 (elemsIn a.inFmt c.payload.length) none none (some c.job)
    ({ ch with acc := t },
     ((d.add .CAB_NAN_IN die e.nan).add .CAB_INF_IN die e.inf).add .CAB_DECODE_OVF die e.ovf)

/-! ## Completion (R253, R255, R263, R265, R268) -/

/-- W moves past the chunks that are complete. -/
def moveW : Nat → List Nat → Nat → Nat × List Nat
  | w, done, 0 => (w, done)
  | w, done, n + 1 => if done.contains w then moveW (w + 1) (done.filter (· != w)) n else (w, done)

/-- The straggler timer after W moved: it runs again at once where the new oldest chunk has accepted a frame (R263). -/
def DrwCtx.restartTimer (c : DrwCtx) (now : Nat) : DrwCtx :=
  { c with strag := match c.chunks.find c.w with
      | some ch => if ch.got then some now else none
      | none => none }

/-- Some contributor that the layout names for a chunk is no member any more (R265). -/
def Dev.chunkLostSome (d : Dev) (h : Nat) (c : DrwCtx) (n : Nat) : Bool :=
  match d.namedContribs h c n with
  | some l => varKind (d.kind h) && l.any fun i => !c.members.contains i
  | none => false

/-- A chunk is complete: it goes to the output stage, and W may rise (R255). -/
def Dev.completeChunk (d : Dev) (die h n : Nat) : Dev :=
  match d.ctx die h with
  | none => d
  | some c =>
    match c.chunks.find n with
    | none => d
    | some ch =>
      let ms := d.memberSet h c n
      let it : OutItem :=
        { handle := h, kind := 0, chunk := n, epoch := c.epoch, tag := c.tag, body := ch, n := ms.length,
          status := if ms = [] then 1 else if d.chunkLostSome h c n then 2 else 0,
          replay := ch.failed || decide (c.begun = 1 ∨ c.begun = 2) }
      let (w, done) := moveW c.w (c.done ++ [n]) (c.done.length + 1)
      let c' := { c with chunks := c.chunks.erase n, done := done, w := w }
      let c' := if w = c.w then c' else c'.restartTimer d.raw
      let d := d.updCab fun k => { k with outQ := k.outQ.upd [] die (· ++ [it]) }
      ((d.putCtx die h c').wantAlloc die h).pulse (16 + die) 0x023 1 none none (some (d.get F.DRW_CFG.JOB h))

/-- Complete a chunk whose counts are all full, unless it is held for a release (R268). -/
def Dev.tryComplete (d : Dev) (die h n : Nat) : Dev :=
  match d.ctx die h with
  | none => d
  | some c =>
    match c.chunks.find n with
    | none => d
    | some ch =>
      if c.state = 3 ∧ (c.phase = 0 ∨ c.phase = 3) ∧ n < d.opChunks h c ∧ d.chunkFull h c n ch ∧
          (c.released ∨ !d.bit F.DRW_COLL.SCHED h) then
        d.completeChunk die h n
      else d

/-- Complete every open chunk that can be, in ascending order. -/
def Dev.settle (d : Dev) (die h : Nat) : Dev :=
  match d.ctx die h with
  | none => d
  | some c => d.each c.chunks.keys fun d n => d.tryComplete die h n

/-- A shadow context takes the chunks of its window as they are wanted: it reserved their shelves (R247). -/
def Dev.shadowAlloc (d : Dev) (die h : Nat) : Nat → Dev
  | 0 => d
  | n + 1 =>
    match d.ctx die h with
    | none => d
    | some c =>
      if c.shadow && c.state == 3 && (c.phase == 0 || c.phase == 3) &&
          decide (c.limit < d.opChunks h c ∧ c.limit - c.w < d.window h) then
        ((d.allocChunk die h).tryComplete die h c.limit).shadowAlloc die h n
      else d

/-- Chunks at least as many as a shadow may take in one step. -/
def Dev.settleAll (d : Dev) (die h : Nat) : Dev := (d.settle die h).shadowAlloc die h 256

/-! ## Claims (R233 to R236) -/

/-- Grant the pending allocations of a rank, the oldest first, where R235 holds (R234). -/
def Dev.grantAllocs (d : Dev) (die r : Nat) : Dev :=
  d.each ((d.allocOrder die).filter fun h => d.ctxRank die h == r) fun d h =>
    if d.allocFits die h then
      let n := match d.ctx die h with | some c => c.limit | none => 0
      ((d.allocChunk die h).tryComplete die h n).wantAlloc die h
    else d

/-- Count-store entries of a count round (R259). -/
def Dev.countEntries (d : Dev) (h : Nat) (c : DrwCtx) : Nat :=
  match d.kind h with
  | 5 | 6 => c.members.length
  | 7 => c.members.length * c.members.length
  | _ => 0

/-- Count-store entries in use on a die. -/
def Dev.countUsed (d : Dev) (die : Nat) : Nat := ((d.ctxsOn die).map fun c => c.2.entries).sum

/-- A claim for a TAG at a die may be granted (R235, R259). -/
def Dev.claimFits (d : Dev) (die h r : Nat) (c : DrwCtx) : Bool :=
  d.shelvesFit die h r (d.chunkShelves h * d.claimChunks h) &&
  decide (d.rankActive die r < d.get F.CAB_RANK_QUOTA.DRW_MAX (8 * die + r)) &&
  decide (d.countUsed die + (if c.phase = 3 then 0 else d.countEntries h c) ≤ 524288)

/-- The context after a granted claim for a TAG (R233, R236, R239, R259): the same TAG goes on with its operation, released
and forwarded as it was; another begins one (R247, R268). -/
def Dev.claimed (d : Dev) (h r tag : Nat) (c : DrwCtx) : DrwCtx :=
  let c := if c.tag = tag then { c with released := c.released || c.relNext }
    else { c with start := 0, w := 0, tag := tag, k := none, phase := 0, counts := [], layout := [], entries := 0,
                  released := c.relNext, feeds := d.bit F.DRW_CFG.SHADOWED h }
  let n := if c.phase = 3 then min (d.claimChunks h) (d.opChunks h c - c.start) else d.claimChunks h
  { c with
    state := 3, rank := r
    phase := if varKind (d.kind h) then (if c.phase = 3 then 3 else 1) else 0
    entries := if c.phase = 3 then c.entries else d.countEntries h c
    limit := c.start + n
    chunks := (List.range n).foldl (fun t j => Tbl.insert t (c.start + j) { rx := d.raw }) []
    done := []
    actMin := if c.pendTag = some tag then c.pendMin else []
    pendTag := if c.pendTag = some tag then none else c.pendTag
    pendMin := if c.pendTag = some tag then [] else c.pendMin
    strag := none
    relNext := false }

/-- A refused claim frame (R236): BACKOFF, and the pending filter rises. -/
def Dev.refuseClaim (d : Dev) (die h r : Nat) (c : Contrib) : Dev :=
  let d := d.updCtx die h fun x =>
    if x.pendTag = some c.tag.toNat then x else { x with pendTag := some c.tag.toNat, pendMin := [] }
  let i := c.contrib.val
  let a := c.attempt.val
  let m := match d.ctx die h with | some x => x.pendMin.at 0 i | none => 0
  let d :=
    if m ≤ a then
      let e := match d.ctx die h with | some x => x.epoch | none => 0
      (d.collStatus die (replyType c.srcType) c.src.toNat c.job h e i c.tag.toNat c.chunk.toNat a 1 (min a 9) 0).updCtx
        die h fun x => { x with pendMin := x.pendMin.put 0 i (min (a + 1) 15) }
    else d
  (d.count .CAB_CLAIM_REFUSE (8 * die + r)).pulse (16 + die) 0x022 1 none none (some c.job)

/-- The rank of a handle's job, read at each claim (R228). -/
def Dev.claimRank (d : Dev) (h : Nat) : Nat := d.jobRank (d.get F.DRW_CFG.JOB h)

/-- Grant a claim in the arbiter's walk where R235 holds; the rank's round-robin pointer moves past its slot (R233, R234). A
further claim for the same Drawer and TAG finds it ACTIVE: the two are one (R25). -/
def Dev.grantClaim (d : Dev) (die r : Nat) (c : Contrib) : Dev :=
  let h := c.drawer.val
  match d.ctx die h with
  | none => d
  | some x =>
    if x.state = 2 ∧ d.claimFits die h r x then
      let d := ((d.putCtx die h (d.claimed h r c.tag.toNat x)).count .CAB_CLAIM_GRANT die).pulse (16 + die) 0x021 1
        none none (some c.job)
      let d := d.updCab fun k => { k with rr := k.rr.put 0 (key2 die r) ((x.slot + 1) % 512) }
      let start := match d.ctx die h with | some y => y.start | none => 0
      let d := d.feedShadow die h (.grant c.tag.toNat start)
      (d.settle die h).wantAlloc die h
    else d

/-- Put a claim among others in ascending order of its key, after those with the same one. -/
def putClaim (x : Nat × Contrib) : List (Nat × Contrib) → List (Nat × Contrib)
  | [] => [x]
  | y :: l => if x.1 < y.1 then x :: y :: l else y :: putClaim x l

/-- The claims of a rank in ascending slot number from the rank's round-robin pointer (R234). -/
def Dev.slotOrder (d : Dev) (die r : Nat) (cl : List Contrib) : List Contrib :=
  let p := d.cab.rr.at 0 (key2 die r)
  let key (c : Contrib) : Nat := match d.ctx die c.drawer with | some x => (x.slot + 512 - p) % 512 | none => 512
  ((cl.filter fun c => d.claimRank c.drawer == r).foldl (fun l c => putClaim (key c, c) l) []).map Prod.snd

/-- The arbiter walks the requests of a cycle (R234): rank by rank, within a rank chunk allocations before claims. -/
def Dev.arbiter (d : Dev) (die : Nat) (cl : List Contrib) : Dev :=
  d.each (List.range 8) fun d r =>
    let d := d.grantAllocs die r
    d.each (d.slotOrder die r cl) fun d c => d.grantClaim die r c

/-- A Drawer of a die is ACTIVE on the TAG of a claim frame: the claim was granted. -/
def Dev.grantedTag (d : Dev) (die : Nat) (c : Contrib) : Bool :=
  match d.ctx die c.drawer with
  | some x => x.state == 3 && x.tag == c.tag.toNat
  | none => false

/-! ## Failure (R244) -/

/-- A Drawer-level replay (R244): the epoch advances, open chunks are cleared, START becomes W, and FAILED is sent. -/
def Dev.drawerReplay (d : Dev) (die h : Nat) : Dev :=
  match d.ctx die h with
  | none => d
  | some c =>
    if !c.replayWait || !d.epochFree c || (c.state != 2 && c.state != 3) then d
    else
      let c' := { c.advance d.raw 1 with
        state := 2, start := c.w, limit := 0, chunks := [], done := [], actMin := [], strag := none,
        phase := if c.phase = 3 then 3 else 0, counts := if c.phase = 3 then c.counts else [],
        entries := if c.phase = 3 then c.entries else 0 }
      let d := d.feedShadow die h (.replay c'.epoch c'.start)
      let d := (d.putCtx die h c').wantAlloc die h
      (d.statusAll die h c'.w 3 c'.w).count .CAB_DRW_REPLAY die

/-- A chunk fails (R244): RETRY on its first failure in an epoch that no Drawer-level replay began, otherwise a
Drawer-level replay, which waits for the epoch guard. In IDLE, where no operation runs that a RETRY could be part of, it is
the Drawer-level replay, and a shadow whose chunk fails ends (DESIGN CHOICE, log 166). -/
def Dev.failChunk (d : Dev) (die h n : Nat) : Dev :=
  match d.ctx die h with
  | none => d
  | some c =>
    match c.chunks.find n with
    | none => d
    | some ch =>
      let d := (d.count .CAB_CHUNK_FAIL die).raise (32 + die) 1 (instDrawer h) n
      let fresh : Chunk := { rx := ch.rx, spilled := ch.spilled, retry := true, failed := true, got := ch.got }
      if c.shadow then d.shadowLost die h
      else if !ch.failed && c.begun != 1 && c.state == 3 then
        let d := d.putCtx die h { c with chunks := c.chunks.insert n fresh }
        (d.feedShadow die h (.retry n)).statusAll die h n 4 n
      else d.putCtx die h { c with replayWait := true, chunks := c.chunks.insert n { fresh with dead := true } }

/-- A complete chunk whose results have not left the output stage is open again: an error in its shelves fails it before any
of its result leaves (R224). W falls to it. -/
def Dev.reopenChunk (d : Dev) (die h n : Nat) : Dev :=
  match d.ctx die h, (d.outChunks die h).find? fun o => o.chunk == n with
  | some c, some o =>
    let d := d.updCab fun k => { k with outQ := k.outQ.upd [] die (·.erase o) }
    let done := if n < c.w then (List.range (c.w - n - 1)).map (n + 1 + ·) ++ c.done else c.done.filter (· != n)
    d.putCtx die h { c with chunks := c.chunks.insert n { o.body with failed := o.body.failed && o.epoch == c.epoch },
                            done := done, w := min c.w n }
  | _, _ => d

/-- An uncorrected error in the shelves of a chunk, open or in the output stage, fails it (R224, R244). -/
def Dev.shelfError (d : Dev) (die h n : Nat) : Dev := (d.reopenChunk die h n).failChunk die h n

/-- A frame names an open chunk of a context at the current epoch (Table 10.6, test 1). -/
def Dev.namesOpen (d : Dev) (die : Nat) (c : Contrib) : Bool :=
  match d.ctx die c.drawer with
  | none => false
  | some x => x.state == 3 && x.epoch == c.epoch.toNat && x.tag == c.tag.toNat && !x.shadow && !c.count &&
      (x.chunks.find c.chunk.toNat).isSome

/-! ## Tests (Table 10.6) -/

/-- A contribution is 800 µs old or more (R243). -/
def Dev.tooOld (d : Dev) (stamp : Nat) : Bool := decide (800000 ≤ d.age stamp ∧ d.age stamp < 2 ^ 31)

/-- Test 5 for a data frame: ELEM_FMT, OP and OFFSET (R122, R200, R254). -/
def Dev.formatOk (d : Dev) (h : Nat) (x : DrwCtx) (c : Contrib) : Bool :=
  let a := d.desc h
  let off := c.offset.toNat
  let hi := off + c.payload.length
  let n := c.chunk.toNat
  c.fmt.val == a.inFmt && c.op.val == a.op && c.payload.length % 8 == 0 && off % 8 == 0 &&
  (!isMx a.inFmt || (off % groupBytes a.inFmt == 0 && c.payload.length % groupBytes a.inFmt == 0)) &&
  decide (hi ≤ if a.op = 10 then 8 * a.n else d.chunkSize h) &&
  ((varKind (d.kind h) && x.phase != 3) ||
    ((d.memberSet h x n).contains c.contrib.val &&
      let p := d.partOf h x n c.contrib.val
      decide (p.1 ≤ off ∧ hi ≤ p.2)))

/-- Test 5 for a count frame (R122, R259). -/
def countFormatOk (k : Nat) (c : Contrib) : Bool :=
  varKind k && c.fmt.val == 0x14 && c.op.val == 11 && c.payload.length == 8 && c.offset.toNat == 0

/-- The count chunks of a kind (R259). -/
def Dev.countChunks (d : Dev) (h : Nat) (x : DrwCtx) : List Nat := if d.kind h = 7 then x.members else [0]

/-- A count chunk holds the count of every member. -/
def DrwCtx.countDone (x : DrwCtx) (t : Nat) : Bool := x.members.all fun i => x.counts.at 0 (key2 t i) != 0

/-- The oldest open count chunk (R263). -/
def Dev.oldestCount (d : Dev) (h : Nat) (x : DrwCtx) : Option Nat := (d.countChunks h x).find? fun t => !x.countDone t

/-- Every count chunk is complete: the count results go to the output stage. -/
def Dev.countsDone (d : Dev) (die h : Nat) : Dev :=
  match d.ctx die h with
  | none => d
  | some x =>
    if x.phase = 1 ∧ (d.countChunks h x).all x.countDone then
      let it : OutItem := { handle := h, kind := if d.kind h = 7 then 2 else 1, chunk := 0, epoch := x.epoch,
                            tag := x.tag, body := {}, n := x.members.length, status := 0,
                            replay := decide (x.begun = 1 ∨ x.begun = 2) }
      (d.updCab fun k => { k with outQ := k.outQ.upd [] die (· ++ [it]) }).putCtx die h
        { x with phase := 2, strag := none, layout := x.counts.map fun e => (e.1, e.2 - 1) }
    else d

/-- A count frame after tests 1 to 8 (R254, R259); the straggler timer follows the oldest open count chunk (R263). -/
def Dev.takeCount (d : Dev) (die h : Nat) (x : DrwCtx) (c : Contrib) : Dev :=
  let t := c.chunk.toNat
  let i := c.contrib.val
  if x.phase != 1 || !(d.countChunks h x).contains t then d.count .CAB_LIMIT_DROP die
  else if x.counts.at 0 (key2 t i) ≠ 0 then
    d.count (if x.countDone t then .CAB_LIMIT_DROP else .CAB_OVERRUN_DROP) die
  else
    let d := d.feedShadow die h (.frame c)
    let first := d.oldestCount h x
    let y := { x with counts := x.counts.insert (key2 t i) (1 + beNat c.payload) }
    let next := d.oldestCount h y
    let d := d.putCtx die h
      { y with strag :=
          if first = next then (if first = some t ∧ x.strag = none then some d.raw else x.strag)
          else match next with
            | some u => if x.members.any (fun j => y.counts.at 0 (key2 u j) != 0) then some d.raw else none
            | none => none }
    d.countsDone die h

/-- Copy an accepted contribution of the fed job onto the shadow spine's port (R353). -/
def Dev.spineFeed (d : Dev) (die : Nat) (c : Contrib) (bytes : List Byte) : Dev :=
  if d.bit F.BUR_FEED.EN 0 && d.get F.BUR_FEED.JOB 0 == c.job.val then
    let lp := d.get F.BUR_FEED.LP 0
    let f : Frm := { bytes := bytes, cls := 2, gen := d.liveBank, stamp := d.now, src := 1040 + die, die := 16 + die,
                     acct := 69 }
    if d.lpState lp ≠ 4 ∨ !(d.lp lp).mayStart f then d.count .BUR_FEED_DROP else d.sendLp f lp
  else d

/-- Test 12: a data frame is accumulated (R254), copied to the shadow and the fed spine, and its chunk may complete. -/
def Dev.takeData (d : Dev) (die h : Nat) (x : DrwCtx) (ch : Chunk) (c : Contrib) (bytes : List Byte) : Dev :=
  let n := c.chunk.toNat
  let i := c.contrib.val
  let p := d.partOf h x n i
  let len := if (d.desc h).op = 10 ∧ c.last then min p.2 (c.offset.toNat + c.payload.length) else p.2 - p.1
  if len < ch.cnt.at 0 i + c.payload.length then d.count .CAB_OVERRUN_DROP die
  else if d.bur.nextShelf.contains h ∨ d.bur.nextUe.contains die then
    ((d.updBur fun b => { b with nextShelf := b.nextShelf.erase h, nextUe := b.nextUe.erase die }).failChunk die h
      n).flagFrom d.raised.length
  else
    let d := (d.feedShadow die h (.frame c)).spineFeed die c bytes
    let (ch, d) := d.accumulate die h ch c
    let d := d.updCtx die h fun x =>
      { x with chunks := x.chunks.insert n ch,
               strag := if n = x.w ∧ x.strag = none then some d.raw else x.strag }
    (d.tryComplete die h n).wantAlloc die h

/-- Tests 8 to 12 for a frame of the active operation. -/
def Dev.contribRest (d : Dev) (die h : Nat) (c : Contrib) (bytes : List Byte) : Dev :=
  match d.ctx die h with
  | none => d
  | some x =>
    let n := c.chunk.toNat
    if c.attempt.val < x.actMin.at 0 c.contrib.val then d.count .CAB_ATTEMPT_DROP die
    else if c.count then d.takeCount die h x c
    else if x.phase = 1 ∨ x.phase = 2 then d.count .CAB_LIMIT_DROP die
    else if n < x.start ∨ x.limit ≤ n ∨ d.opChunks h x ≤ n then
      (d.count .CAB_LIMIT_DROP die).raise (32 + die) 2 (instDrawer h) n
    else match x.chunks.find n with
      | none => d.count .CAB_LIMIT_DROP die
      | some ch =>
        if ch.retry ∧ !c.replay then d.count .CAB_REPLAY_STALE die
        else d.takeData die h x ch c bytes

/-- The frame as a Cabinet die sees it. -/
def contribOf (f : Frm) : Contrib :=
  let b := f.bytes
  let w2 := beAt b 32 4
  let w3 := beAt b 36 4
  let w4 := beAt b 40 4
  { srcType := Fin.ofNat 4 (fSrcType b), src := BitVec.ofNat 24 (fSrc b), job := Fin.ofNat 4096 (fJob b),
    drawer := Fin.ofNat 4096 (beAt b 24 4 / 2 ^ 20), epoch := BitVec.ofNat 8 (beAt b 24 4 / 2 ^ 12),
    contrib := Fin.ofNat 1024 (beAt b 24 4 % 1024), tag := BitVec.ofNat 32 (beAt b 28 4),
    chunk := BitVec.ofNat 24 (w2 / 256), last := bitAt w2 7, count := bitAt w2 6, replay := bitAt w2 5,
    attempt := Fin.ofNat 16 (w2 % 16), fmt := Fin.ofNat 32 (w3 / 2 ^ 27), op := Fin.ofNat 32 (w3 / 2 ^ 22),
    offset := BitVec.ofNat 24 (w4 % 16 * 2 ^ 20 + w3 % 2 ^ 20), payload := (b.drop 48).take (b.length - 52),
    fcsOk := !f.fcsBad, poisoned := f.poisoned != [], stamp := BitVec.ofNat 32 f.stamp }

/-- Take the first frame of an inbox that satisfies a test; a Cabinet die's contribution buffer has room again. -/
def Dev.takeInbox (d : Dev) (die kind : Nat) (p : Frm → Bool) : Option Frm × Dev :=
  let q := d.core.inbox.at [] (key2 die kind)
  match q.find? p with
  | none => (none, d)
  | some f =>
    let d := d.updCore fun c => { c with inbox := c.inbox.put [] (key2 die kind) (q.erase f) }
    (some f, if kind = 1 then (if f.charged then d.uncharge f else d).bufFill die else d)

/-- A frame would reach test 7 of Table 10.6 and find its Drawer IDLE: it is a claim that the arbiter decides (R233). -/
def Dev.isClaim (d : Dev) (die : Nat) (c : Contrib) : Bool :=
  let h := c.drawer.val
  c.fcsOk && !d.tooOld c.stamp.toNat && !c.poisoned &&
  match d.ctx die h with
  | none => false
  | some x =>
    !x.shadow && x.state == 2 && x.epoch == c.epoch.toNat && d.get F.DRW_CFG.JOB h == c.job.val &&
    x.members.contains c.contrib.val && (if c.count then countFormatOk (d.kind h) c else d.formatOk h x c) &&
    x.lastTag != some c.tag.toNat

/-- The claims that wait at a die beside the frame in hand: they are of its cycle (R25, R233). -/
def Dev.waitingClaims (d : Dev) (die : Nat) : List Contrib :=
  ((d.cabInbox (16 + die)).map contribOf).filter (d.isClaim die)

/-- A claim (R233 to R236): the arbiter decides it with the claims that wait at the die; the frames of those not granted are
refused in this cycle, and those of the others go on to tests 8 to 12 as they are received. -/
def Dev.claim (d : Dev) (die : Nat) (c : Contrib) : Dev :=
  let others := d.waitingClaims die
  let d := d.arbiter die (c :: others)
  let d := d.each (others.filter fun x => !d.grantedTag die x) fun d x =>
    ((d.takeInbox (16 + die) 1 fun f => contribOf f == x).2).refuseClaim die x.drawer (d.claimRank x.drawer) x
  if d.grantedTag die c then d else d.refuseClaim die c.drawer (d.claimRank c.drawer) c

/-- Tests 1 to 7 (Table 10.6), in order. -/
def Dev.contrib (d : Dev) (die : Nat) (c : Contrib) (bytes : List Byte) : Dev :=
  let h := c.drawer.val
  let bad (d : Dev) : Dev := if d.namesOpen die c then d.failChunk die h c.chunk.toNat else d
  if !c.fcsOk then bad (d.count .CAB_FCS_DROP die)
  else if d.tooOld c.stamp.toNat then bad (d.count .CAB_AGE_DROP die)
  else if c.poisoned then bad d
  else match d.ctx die h with
    | none => if d.get F.DRW_CFG.STATE h = 5 ∧ d.drwDie h = die then d else d.count .CAB_DRW_NOCTX die
    | some x =>
      if x.shadow then d.count .CAB_DRW_NOCTX die
      else if x.state = 4 ∨ x.epoch ≠ c.epoch.toNat then d.count .CAB_EPOCH_DROP die
      else if d.get F.DRW_CFG.JOB h ≠ c.job.val ∨ !x.members.contains c.contrib.val then d.count .CAB_FMT_DROP die
      else if !(if c.count then countFormatOk (d.kind h) c else d.formatOk h x c) then d.count .CAB_FMT_DROP die
      else if x.state = 2 ∧ x.lastTag = some c.tag.toNat then d.count .CAB_ATTEMPT_DROP die
      else if x.state = 2 then
        let d := d.claim die c
        if d.grantedTag die c then d.contribRest die h c bytes else d
      else if x.tag ≠ c.tag.toNat then d.refuseClaim die h (d.claimRank h) c
      else d.contribRest die h c bytes

/-- A contribution reaching a Cabinet die, from the frames that wait there or from outside the fabric's model. -/
def Dev.contribReceived (d : Dev) (die : Nat) (c : Contrib) : Dev :=
  let (f, d) := d.takeInbox (16 + die) 1 fun f => contribOf f == c
  let bytes := match f with | some f => f.bytes | none => contribBytes d.place c
  if d.cabUp die then d.contrib die c bytes else d

/-- CONTRIB_RECEIVED -/
def execContribReceived (die : Fin 8) (c : Contrib) (s : State) : Host.Outcome State Fault Refusal :=
  run (·.contribReceived die c) s

/-! ## The output stage (R221, R222, R256, R257) -/

/-- The bytes of a GATHER chunk. -/
def gatherBytes (data : Tbl (BitVec 8)) (len : Nat) : List Byte := (List.range len).map fun i => data.at 0 i

/-- The packed output of a chunk of `len` bytes in IN_FMT, and its counts (R214 to R217). -/
def Dev.chunkOut (d : Dev) (h len : Nat) (o : OutItem) : Packed :=
  let a := d.desc h
  if o.status = 1 then ⟨[], 0, 0⟩
  else if a.op = 11 then ⟨gatherBytes o.body.data len, 0, 0⟩
  else
    let n := elemsIn a.inFmt len
    let n := if isMx a.outFmt then ceilDiv n 256 * 256 else n
    packOut { a with n := n } (d.get F.DRW_CFG.JOB h) o.tag o.chunk o.n fun i => o.body.acc.at .empty i

/-- The digest ring entry of a job and tag on a die (R222). -/
def Dev.digestEntry (d : Dev) (die job tag : Nat) : Option Nat :=
  (List.range 4096).find? fun e =>
    d.bit F.CAB_DIGEST.VALID (4096 * die + e) && d.get F.CAB_DIGEST.JOB (4096 * die + e) == job &&
    d.get F.CAB_DIGEST.TAG (4096 * die + e) == tag

/-- Add a chunk's CRC to the digest of its job and tag (R221, R222); an uncorrected error in its entry marks the pair with
FAULT, and the entry is not advanced again (R224). -/
def Dev.digestAdd (d : Dev) (die job tag chunk epoch crc : Nat) : Dev :=
  let (e, d) := match d.digestEntry die job tag with
    | some e => (4096 * die + e, d)
    | none =>
      let p := d.get F.CAB_DIGEST_WPTR.PTR die
      let e := 4096 * die + p
      let d := if d.bit F.CAB_DIGEST.VALID e then d.count .CAB_DIGEST_EVICT die else d
      let d := d.wrWide .CAB_DIGEST e 0 0 8
      let d := ((d.setB F.CAB_DIGEST.VALID e true).set F.CAB_DIGEST.JOB e job).set F.CAB_DIGEST.TAG e tag
      (e, d.set F.CAB_DIGEST_WPTR.PTR die ((p + 1) % 4096))
  let hit := d.bur.nextUe.contains die
  let d := if hit then
      (((d.updBur fun b => { b with nextUe := b.nextUe.erase die }).setB F.CAB_DIGEST.FAULT e true).raise (32 + die) 12
        (instDie (16 + die))).flagFrom d.raised.length
    else d
  if d.bit F.CAB_DIGEST.FAULT e then d
  else
    let d := d.set F.CAB_DIGEST.DIGEST e (digestStep (d.get F.CAB_DIGEST.DIGEST e) crc chunk)
    (d.set F.CAB_DIGEST.CHUNKS e ((d.get F.CAB_DIGEST.CHUNKS e + 1) % 2 ^ 24)).set F.CAB_DIGEST.EPOCH e epoch

/-- The largest payload of a RESULT frame in a format: 4,224 bytes, or whole block groups (R256). -/
def frameStep (fmt : Nat) : Nat := if isMx fmt then 4224 / groupBytes fmt * groupBytes fmt else 4224

/-- Cut a byte range in OFFSET order: offset, bytes and whether the piece is the last. -/
def cutRange (step lo : Nat) (bs : List Byte) : List (Nat × List Byte × Bool) :=
  (List.range (ceilDiv bs.length step)).map fun k =>
    (lo + step * k, (bs.drop (step * k)).take step, step * (k + 1) ≥ bs.length)

/-- The recipients of chunk `n` by contributor index, each with its range of the packed output of `size` bytes
(Table 11.2, R256, R261): kind 6 sends each member its own segment. -/
def Dev.recipients (d : Dev) (h : Nat) (c : DrwCtx) (n size : Nat) : List (Nat × Nat × Nat) :=
  let whole (l : List Nat) := (l.filter c.members.contains).map fun i => (i, 0, size)
  match d.kind h with
  | 1 => whole [n / (d.get F.DRW_COLL.CPM_M1 h + 1)]
  | 3 => whole (c.members.filter (· != d.get F.DRW_COLL.ROOT h))
  | 4 => whole [d.get F.DRW_COLL.ROOT h]
  | 7 => whole [d.streamOf h c n]
  | 6 =>
    let a := d.desc h
    let r := d.chunkRange h c n
    let out (b : Nat) (up : Bool) : Nat :=
      if isMx a.outFmt then
        let e := elemsIn a.inFmt (b / groupBytes a.inFmt * groupBytes a.inFmt)
        let e := if isMx a.inFmt then e else b * 8 / elemBits a.inFmt
        (if up then ceilDiv e 256 else e / 256) * groupBytes a.outFmt
      else (if isMx a.inFmt then elemsIn a.inFmt b else b * 8 / elemBits a.inFmt) * elemBits a.outFmt / 8
    c.members.filterMap fun i =>
      let lo := max r.1 (c.prefixOf 0 i)
      let hi := min r.2 (c.prefixOf 0 i + c.countOf 0 i)
      if lo < hi then some (i, out (lo - r.1) false, min size (out (hi - r.1) true)) else none
  | _ => whole c.members

/-- One multicast to GROUP delivers the kind's results (R252, R256). -/
def Dev.byGroup (d : Dev) (h : Nat) : Bool :=
  [0, 2, 3, 5].contains (d.kind h) && d.get F.DRW_COLL.DELIVER h == 0

/-- Originate one RESULT frame to a destination; a copy that the fence suppresses is counted (R267). -/
def Dev.sendResult (d : Dev) (die h dstType dst : Nat) (o : OutItem) (count : Bool) (chunk : Nat)
    (p : Nat × List Byte × Bool) : Dev :=
  let a := d.desc h
  let b := mkFrame 0x11 dstType 1 dst (d.unitSrc 1 die) (d.get F.DRW_CFG.JOB h) 0
    (collExt h o.epoch 0x3FF o.tag chunk p.2.2 count o.replay 0 a.outFmt a.op p.1 0 0 0 ++ p.2.1)
  if dstType = 2 then d.originate (16 + die) 3 b
  else
    let (supp, d) := d.originateFenced die 3 b
    if supp then d.count .CAB_NOTICE_SUPP die else d

/-- Send the pieces of a result to member `i`, through the rank map. -/
def Dev.sendMemberResult (d : Dev) (die h i : Nat) (o : OutItem) (count : Bool) (chunk : Nat)
    (ps : List (Nat × List Byte × Bool)) : Dev :=
  d.each ps fun d p =>
    match d.memberDst die h i with
    | (some dst, d) => d.sendResult die h 0 dst o count chunk p
    | (none, d) => d

/-- Send the RESULT frames of a chunk (R256). -/
def Dev.sendResults (d : Dev) (die h : Nat) (c : DrwCtx) (o : OutItem) (bytes : List Byte) : Dev :=
  if o.status = 1 then d
  else
    let step := frameStep (d.desc h).outFmt
    if d.byGroup h then
      d.each (cutRange step 0 bytes) fun d p => d.sendResult die h 2 (d.get F.DRW_COLL.GROUP h) o false o.chunk p
    else
      d.each (d.recipients h c o.chunk bytes.length) fun d r =>
        d.sendMemberResult die h r.1 o false o.chunk (cutRange step r.2.1 ((bytes.drop r.2.1).take (r.2.2 - r.2.1)))

/-- The payload of a chunk notice for member `i` (Table 11.3). -/
def Dev.noticePayload (d : Dev) (h i : Nat) (c : DrwCtx) (o : OutItem) (size crc : Nat) : List Byte :=
  let rs := if o.status = 1 then [] else d.recipients h c o.chunk size
  let got := match rs.find? (fun r => r.1 == i) with | some r => r.2.2 - r.2.1 | none => 0
  let frames := ceilDiv got (frameStep (d.desc h).outFmt)
  beBytes 4 (h * 2 ^ 20 + o.epoch % 256 * 2 ^ 12 + o.status * 2 ^ 10 + frames / 256 % 256) ++ beBytes 4 o.tag ++
  beBytes 4 (o.chunk % 2 ^ 24 * 256 + frames % 256) ++ beBytes 4 (c.limit % 2 ^ 24 * 256) ++
  beBytes 4 (c.w % 2 ^ 24 * 256) ++ beBytes 4 got ++ beBytes 8 crc

/-- The address of a chunk's notice slot. -/
def Dev.noticeAddr (d : Dev) (h n : Nat) : Nat :=
  (d.rdWide .DRW_COLL h 2 2 + 32 * (n % 2 ^ d.get F.DRW_COLL.NOTICE_LOG2 h)) % 2 ^ 64

/-- Send the notices of a chunk to every member, ascending (R257). -/
def Dev.sendNotices (d : Dev) (die h : Nat) (c : DrwCtx) (o : OutItem) (size crc : Nat) : Dev :=
  d.each c.members fun d i =>
    match d.memberDst die h i with
    | (none, d) => d
    | (some dst, d) =>
      d.sendNotice die dst { drawer := h, seq := 0, job := d.get F.DRW_CFG.JOB h, tag := o.chunk % 2 ^ 16,
                             addr := d.noticeAddr h o.chunk, payload := d.noticePayload h i c o size crc, tries := 0 }

/-- The operation closes when every chunk is complete and its results have left (R231). -/
def Dev.closeIfDone (d : Dev) (die h : Nat) : Dev :=
  match d.ctx die h with
  | none => d
  | some c =>
    if c.state = 3 ∧ (c.phase = 0 ∨ c.phase = 3) ∧ d.opChunks h c ≤ c.w ∧ !c.shadow ∧
        !(d.cab.outQ.at [] die).any (fun o => o.handle == h) then d.closeOp die h
    else d

/-- The d of a completed chunk is kept at a primary with a shadow, or sent by the shadow to the primary (R351). -/
def Dev.shareD (d : Dev) (die h : Nat) (c : DrwCtx) (o : OutItem) (crc : Nat) : Dev :=
  let x : ChunkD := { die := die, handle := h, epoch := o.epoch, chunk := o.chunk, d := crc }
  if c.shadow then d.updCab fun k => { k with shadowD := k.shadowD.upd [] (d.drwDie h) (· ++ [x]) }
  else if c.feeds then
    let old (y : ChunkD) := y.handle == h && decide (y.chunk + d.window h < c.w)
    d.updCab fun k => { k with primD := k.primD.upd [] die fun l => l.filter (fun y => !old y) ++ [x] }
  else d

/-- A data chunk leaves the output stage: rounded, added to the digest, its results and notices sent (R255). -/
def Dev.chunkLeaves (d : Dev) (die h : Nat) (c : DrwCtx) (o : OutItem) : Dev :=
  let p := d.chunkOut h (d.chunkLen h c o.chunk) o
  let d := (d.add .CAB_OUT_OVF die p.ovf).add .CAB_OUT_NAN die p.nan
  let crc := if o.status = 1 then 0 else crc64 p.bytes
  let d := (d.digestAdd die (d.get F.DRW_CFG.JOB h) o.tag o.chunk o.epoch crc).shareD die h c o crc
  if c.shadow then d.shadowAlloc die h 256
  else ((d.sendResults die h c o p.bytes).sendNotices die h c o p.bytes.length crc).closeIfDone die h

/-! ## Count results (R217, R260 to R262) -/

/-- A count must be a multiple of G (R260). -/
def Dev.countGrain (d : Dev) (h : Nat) : Nat := if isMx (d.desc h).inFmt then groupBytes (d.desc h).inFmt else 8

/-- K, the chunks of the data phase (R261). -/
def Dev.countK (d : Dev) (h : Nat) (c : DrwCtx) : Nat :=
  if d.kind h = 7 then d.baseOf h c 1024 else ceilDiv (c.total 0) (d.chunkSize h)

/-- The counts of a stream or a row wrap at 2⁶⁴. -/
def sumWraps (l : List Nat) : Bool := decide (2 ^ 64 ≤ l.sum)

/-- The 32-byte header of a count or row result (Table 11.4). -/
def Dev.countHeader (d : Dev) (h : Nat) (c : DrwCtx) (counts : List Nat) (base : Nat) : List Byte :=
  let g := d.countGrain h
  let bad := (List.range counts.length).find? fun i => counts.getD i 0 % g != 0
  let k := d.countK h c
  let tooMany := decide (d.get F.DRW_CFG.OP_CHUNKS h < k)
  beBytes 8 (counts.sum % 2 ^ 64) ++ beBytes 4 (k % 2 ^ 24) ++ beBytes 4 (base % 2 ^ 24) ++
  beBytes 2 (bad.getD 0xFFFF) ++
  beBytes 1 (tooMany.toNat + 2 * bad.isSome.toNat + 4 * (sumWraps counts).toNat) ++ beBytes 13 0

/-- The counts toward destination `t`, by contributor. -/
def DrwCtx.column (c : DrwCtx) (t : Nat) : List Nat := (List.range (c.members.getLastD 0 + 1)).map (c.countOf t)

/-- The counts of sender `i`, by destination. -/
def DrwCtx.row (c : DrwCtx) (i : Nat) : List Nat := (List.range (c.members.getLastD 0 + 1)).map fun t => c.countOf t i

/-- The count result of count chunk `t`. -/
def Dev.countResult (d : Dev) (h : Nat) (c : DrwCtx) (t : Nat) : List Byte :=
  let col := c.column t
  d.countHeader h c col (if d.kind h = 7 then d.baseOf h c t else 0) ++
  (List.range col.length).flatMap fun i => beBytes 8 (c.countOf t i) ++ beBytes 8 (c.prefixOf t i)

/-- The row result of member `i` (R262). -/
def Dev.rowResult (d : Dev) (h : Nat) (c : DrwCtx) (i : Nat) : List Byte :=
  let row := c.row i
  d.countHeader h c row 0 ++ (List.range row.length).flatMap fun t =>
    beBytes 8 ((d.baseOf h c t * d.chunkSize h + c.prefixOf t i) % 2 ^ 64) ++ beBytes 8 (c.countOf t i)

/-- Some count result of the round carries a flag, or K is 0 (R262). -/
def Dev.countStops (d : Dev) (h : Nat) (c : DrwCtx) : Bool :=
  let k := d.countK h c
  k == 0 || decide (d.get F.DRW_CFG.OP_CHUNKS h < k) ||
  ((d.countChunks h c).any fun t => sumWraps (c.column t) || (c.column t).any fun n => n % d.countGrain h != 0) ||
  (decide (d.kind h = 7) && c.members.any fun i => sumWraps (c.row i))

/-- The data phase begins after the count results have left: K and LIMIT (R262). -/
def Dev.startData (d : Dev) (die h : Nat) : Dev :=
  match d.ctx die h with
  | none => d
  | some c =>
    if d.countStops h c then
      if c.shadow then d else d.closeOp die h
    else
      let k := d.countK h c
      let lim := min (c.start + d.claimChunks h) k
      let d := d.putCtx die h
        { c with phase := 3, k := some k, limit := lim, chunks := c.chunks.filter fun e => decide (e.1 < lim) }
      ((d.settleAll die h).wantAlloc die h).closeIfDone die h

/-- Count results leave the output stage (R262); every total that wraps is counted, those of row results too (R217). -/
def Dev.countLeaves (d : Dev) (die h : Nat) (c : DrwCtx) (o : OutItem) : Dev :=
  let wraps := ((d.countChunks h c).filter fun t => sumWraps (c.column t)).length +
    (if d.kind h = 7 then (c.members.filter fun i => sumWraps (c.row i)).length else 0)
  let d := d.add .CAB_COUNT_WRAP die wraps
  if c.shadow then d.startData die h
  else
    let step := 4224
    let d :=
      if o.kind = 1 then
        let ps := cutRange step 0 (d.countResult h c 0)
        if d.get F.DRW_COLL.DELIVER h = 0 then
          d.each ps fun d p => d.sendResult die h 2 (d.get F.DRW_COLL.GROUP h) o true 0 p
        else d.each c.members fun d i => d.sendMemberResult die h i o true 0 ps
      else
        let d := d.each c.members fun d t =>
          d.sendMemberResult die h t o true t (cutRange step 0 (d.countResult h c t))
        d.each c.members fun d i => d.sendMemberResult die h i o true 0xFFFFFF (cutRange step 0 (d.rowResult h c i))
    d.startData die h

/-- The oldest chunk of a die's output stage leaves it. -/
def Dev.outputDone (d : Dev) (die : Nat) : Dev :=
  match d.cab.outQ.at [] die with
  | [] => d
  | o :: _ =>
    let d := d.updCab fun k => { k with outQ := k.outQ.upd [] die (·.drop 1) }
    match d.ctx die o.handle with
    | none => d
    | some c => if o.kind = 0 then d.chunkLeaves die o.handle c o else d.countLeaves die o.handle c o

/-- OUTPUT_STAGE_DONE -/
def execOutputStageDone (die : Fin 8) (s : State) : Host.Outcome State Fault Refusal := run (·.outputDone die) s

/-! ## Release (R268, R269) -/

/-- The release of a context (R268): in IDLE its next operation, else the one under way; not a shadow's that waits for the
next operation while the primary runs one (R247). -/
def Dev.releaseCtx (d : Dev) (h : Nat) (c : DrwCtx) : DrwCtx :=
  let p := d.ctx (d.drwDie h) h
  let late := c.shadow && match p with | some x => x.state != 2 && !x.feeds | none => false
  if late then c else if c.state = 2 then { c with relNext := true } else { c with released := true }

/-- Release a handle on every die that holds a context for it. -/
def Dev.releaseDrawer (d : Dev) (h : Nat) : Dev :=
  d.each (List.range 8) fun d die => (d.updCtx die h (d.releaseCtx h)).settleAll die h

/-- DRW_RELEASE -/
def execDrwRelease (a : Access) (handle : Fin 4096) (s : State) : Host.Outcome State Fault Refusal :=
  run (fun d => d.onWrite a .DRW_RELEASE 0 0 (·.releaseDrawer handle)) s

/-! ## Stragglers (R263) -/

/-- The straggler timer of a Drawer expires. -/
def Dev.straggler (d : Dev) (die h : Nat) : Dev :=
  match d.ctx die h with
  | none => d
  | some c =>
    if c.state ≠ 3 ∨ c.shadow ∨ c.strag = none ∨ d.get F.DRW_COLL.STRAG_TO h = 0 then d
    else
      let t := ((d.countChunks h c).find? fun t => !c.countDone t).getD 0
      let n := if c.phase = 1 then t else c.w
      let ch := (c.chunks.find c.w).getD {}
      let missing :=
        if c.phase = 1 then c.members.filter fun i => c.counts.at 0 (key2 t i) == 0
        else (d.memberSet h c c.w).filter fun i =>
          !(d.chunkFull h { c with members := [i] } c.w ch)
      let d := (d.raise (32 + die) 3 (instDrawer h) n).count .CAB_STRAGGLER die
      let j := d.get F.DRW_CFG.JOB h
      let ty := bitsOf (d.jobWord j 1) 31 30
      let dst := d.jobWord j 1 % 2 ^ 24
      let d := if ty ≤ 1 then
          d.each (missing.take 64) fun d i =>
            d.collStatus die (replyType ty) dst j h c.epoch i c.tag n 0 5 0 missing.length
        else d
      d.updCtx die h fun c => { c with strag := some d.raw }

/-- STRAGGLER_TIMEOUT -/
def execStragglerTimeout (die : Fin 8) (handle : Fin 4096) (s : State) : Host.Outcome State Fault Refusal :=
  run (·.straggler die handle) s

/-- NOTICE_RESEND_TIMEOUT -/
def execNoticeResendTimeout (die : Fin 8) (member : BitVec 24) (seq : BitVec 32) (s : State) :
    Host.Outcome State Fault Refusal := run (·.resendNotice die member.toNat seq.toNat) s

/-- SHELF_UNCORRECTED_ERROR: an uncorrected error in a shelf, its spilled copy or the weight store fails the chunk
(R224, R244). -/
def execShelfUncorrectedError (die : Fin 8) (handle : Fin 4096) (chunk : BitVec 24) (s : State) :
    Host.Outcome State Fault Refusal := run (·.shelfError die handle chunk.toNat) s

/-- DRAWER_LEVEL_REPLAY -/
def execDrawerLevelReplay (die : Fin 8) (handle : Fin 4096) (s : State) : Host.Outcome State Fault Refusal :=
  run (·.drawerReplay die handle) s

/-! ## Allocation and spill (R239, R241) -/

/-- The first pending allocation in the arbiter's order that R235 allows is granted. -/
def Dev.allocGrant (d : Dev) (die : Nat) : Dev :=
  match (d.allocOrder die).find? fun h => d.allocFits die h with
  | none => d
  | some h =>
    let n := match d.ctx die h with | some c => c.limit | none => 0
    (((d.allocChunk die h).tryComplete die h n).wantAlloc die h)

/-- ALLOCATION_GRANT -/
def execAllocationGrant (die : Fin 8) (s : State) : Host.Outcome State Fault Refusal := run (·.allocGrant die) s

/-- The first pending allocation that only free shelves of its partition hold back (R241). -/
def Dev.spillFor (d : Dev) (die : Nat) : Option Nat :=
  (d.allocOrder die).find? fun h =>
    decide (d.shelfFree die (d.desc h).exact < d.chunkShelves h) &&
    decide (d.rankHeld die (d.ctxRank die h) + d.chunkShelves h ≤
      d.get F.CAB_RANK_QUOTA.SHELF_MAX (8 * die + d.ctxRank die h))

/-- SPILL_IDLE in ticks; 0 acts as 1 µs (Table 10.10). -/
def Dev.spillIdle (d : Dev) (die : Nat) : Nat := ticksOfUs (max 1 (d.get F.CAB_SPILL_CFG.SPILL_IDLE die))

/-- The chunks of a partition that may be spilled for a request of a rank: idle time, slot, handle and chunk. -/
def Dev.spillCands (d : Dev) (die r : Nat) (exact : Bool) : List (Nat × Nat × Nat × Nat) :=
  (d.ctxsOn die).flatMap fun e =>
    if e.2.shadow || (d.desc e.1).exact != exact || decide (e.2.rank < r) then []
    else (e.2.chunks.filter fun ch => !ch.2.spilled && decide (d.spillIdle die ≤ d.since ch.2.rx)).map fun ch =>
      (d.since ch.2.rx, e.2.slot, e.1, ch.1)

/-- The chunk idle longest, ties to the higher slot. -/
def longestIdle (l : List (Nat × Nat × Nat × Nat)) : Option (Nat × Nat × Nat × Nat) :=
  l.foldl (fun b x => match b with
    | none => some x
    | some y => if y.1 < x.1 ∨ (y.1 = x.1 ∧ y.2.1 < x.2.1) then some x else some y) none

/-- Shelves of a die's spill region: four whole per-stack shares of the spill partition (R241, R275). -/
def Dev.spillRegion (d : Dev) : Nat := d.boot.spillGib * 65536

/-- Spill one idle chunk for the first request that lacks shelves (R241). -/
def Dev.chunkSpill (d : Dev) (die : Nat) : Dev :=
  if !d.bit F.CAB_SPILL_CFG.SPILL_EN die then d
  else match d.spillFor die with
    | none => d
    | some h =>
      match longestIdle (d.spillCands die (d.ctxRank die h) (d.desc h).exact) with
      | none => d
      | some (_, _, g, n) =>
        if d.spillRegion < d.spillUsed die + d.chunkShelves g then d
        else (d.updCtx die g fun c =>
          { c with chunks := c.chunks.modify n fun ch => { ch with spilled := true } }).count .CAB_SPILL_OUT die

/-- CHUNK_SPILL -/
def execChunkSpill (die : Fin 8) (s : State) : Host.Outcome State Fault Refusal := run (·.chunkSpill die) s

/-- The first spilled chunk that may return: its partition has room and no request of lower rank number waits. -/
def Dev.spillBack (d : Dev) (die : Nat) : Option (Nat × Nat) :=
  (d.ctxsOn die).findSome? fun e =>
    if d.shelfFree die (d.desc e.1).exact < d.chunkShelves e.1 ∨
        (d.allocOrder die).any (fun h => decide (d.ctxRank die h < e.2.rank)) then none
    else (e.2.chunks.find? fun ch => ch.2.spilled).map fun ch => (e.1, ch.1)

/-- A spilled chunk returns to SRAM (R241). -/
def Dev.chunkReturn (d : Dev) (die : Nat) : Dev :=
  match d.spillBack die with
  | none => d
  | some (h, n) =>
    (d.updCtx die h fun c =>
      { c with chunks := c.chunks.modify n fun ch => { ch with spilled := false } }).count .CAB_SPILL_IN die

/-- CHUNK_SPILL_RETURN -/
def execChunkSpillReturn (die : Fin 8) (s : State) : Host.Outcome State Fault Refusal := run (·.chunkReturn die) s

/-! ## The shadow's side (R248) -/

/-- A forwarded frame at the shadow die: it is accumulated, or the shadow ends. -/
def Dev.shadowFrame (d : Dev) (die h : Nat) (c : Contrib) : Dev :=
  if d.tooOld c.stamp.toNat then (d.count .CAB_AGE_DROP die).shadowLost die h
  else match d.ctx die h with
    | none => d
    | some x =>
      if c.count then
        if x.phase = 1 then
          let l := x.counts.insert (key2 c.chunk.toNat c.contrib.val) (1 + beNat c.payload)
          (d.putCtx die h { x with counts := l }).countsDone die h
        else d.shadowLost die h
      else match x.chunks.find c.chunk.toNat with
        | none => d.shadowLost die h
        | some ch =>
          if d.bur.nextUe.contains die then
            ((d.updBur fun b => { b with nextUe := b.nextUe.erase die }).failChunk die h c.chunk.toNat).flagFrom
              d.raised.length
          else
          let (ch, d) := d.accumulate die h ch c
          let d := d.updCtx die h fun x => { x with chunks := x.chunks.insert c.chunk.toNat ch }
          (d.tryComplete die h c.chunk.toNat).shadowAlloc die h 256

/-- Open chunks are cleared and stay allocated (R264). -/
def DrwCtx.clearChunks (c : DrwCtx) (now : Nat) : DrwCtx :=
  { c with chunks := c.chunks.map fun e => (e.1, { rx := now, spilled := e.2.spilled }), actMin := [],
           pendTag := none, pendMin := [], strag := none, replayWait := false }

/-- Members leave a context (R264, R265): in a count round their counts become 0, and the count chunks still open are
cleared; complete ones stay complete. -/
def Dev.dropMembers (d : Dev) (h : Nat) (removed : List Nat) (c : DrwCtx) : DrwCtx :=
  let chunk (e : Nat × Nat) : Nat := (Nat.unpair e.1).1
  let stays (e : Nat × Nat) : Bool :=
    !removed.contains (Nat.unpair e.1).2 && (d.kind h != 7 || !removed.contains (chunk e))
  { c with members := c.members.filter fun i => !removed.contains i
           counts := if c.phase = 1 then c.counts.filter fun e => c.countDone (chunk e) && stays e else c.counts
           layout := if c.phase = 2 then c.layout.filter stays else c.layout }

/-- A control record, or a frame, reaches the shadow die. -/
def Dev.shadowItem (d : Dev) (die : Nat) (m : ShMsg) : Dev :=
  let h := m.handle
  match d.ctx die h with
  | none => d
  | some c =>
    if !c.shadow then d
    else match m.item with
      | .frame f => d.shadowFrame die h f
      | .grant tag start =>
        let n := d.window h
        let c := if c.tag = tag then { c with released := c.released || c.relNext }
          else { c with k := none, phase := 0, counts := [], layout := [], released := c.relNext }
        (d.putCtx die h
          { c with state := 3, tag := tag, start := start, w := start, limit := start, chunks := [], done := [], relNext := false,
                   phase := if varKind (d.kind h) then (if c.phase = 3 then 3 else 1) else 0 }).shadowAlloc die h n
      | .close => d.updCtx die h fun x => { x.clearOp with lastTag := some c.tag }
      | .replay epoch start =>
        d.putCtx die h { c with epoch := epoch, epochAt := some d.raw, begun := 1, state := 2, start := start,
                                w := start, limit := 0, chunks := [], done := [] }
      | .retry n =>
        d.putCtx die h { c with chunks := c.chunks.modify n fun ch => { rx := ch.rx, retry := true, failed := true } }
      | .abort epoch => (d.clearStage die h).putCtx die h { c.clearOp with epoch := epoch, begun := 0 }
      | .reform removed epoch =>
        d.putCtx die h { (d.dropMembers h removed c).clearChunks d.raw with epoch := epoch, begun := 0 }
      | .bad => d.shadowLost die h

/-- SHADOW_STREAM_RECEIVED: the shadow die takes the oldest item of its streams, and returns its credit. -/
def Dev.shadowStream (d : Dev) (die : Nat) : Dev :=
  match d.cab.stream.at [] die with
  | [] => d
  | m :: _ =>
    ((d.updCab fun k => { k with stream := k.stream.upd [] die (·.drop 1) }).creditShadow m.from' die m.item.cells).shadowItem
      die m

/-- SHADOW_STREAM_RECEIVED -/
def execShadowStreamReceived (die : Fin 8) (s : State) : Host.Outcome State Fault Refusal := run (·.shadowStream die) s

end Sys2Proof.Machine
end

