-- ==== Sys2Proof/Machine/Drawer.lean ====
section
/-! DEFINITION. The life of a Drawer (chapter 10): configuration, open, close, abort, shadow contexts, the Desks' mirror,
failover, and the job-control commands that act on Drawers (R126, R127, R240, R264). -/
namespace Sys2Proof.Machine

/-! ## Configuration writes (R205, R228) -/

/-- The RW bits of DRW_CFG word 0 apart from DIE. -/
def cfgOther : Word := 0x00000FFF

/-- A write to a word of DRW_CFG (R228). -/
def Dev.cfgWrite (d : Dev) (h w : Nat) (v : Word) : Dev :=
  let st := d.drwState h
  if st = 0 then d.writeRw .DRW_CFG h w v
  else if st = 6 ∧ w = 0 then
    let d' := d.set F.DRW_CFG.DIE h (v.toNat / 2 ^ 24 % 8)
    if (v &&& cfgOther) = (d.rd .DRW_CFG h 0 &&& cfgOther) then d' else d'.count .DRW_LATE_WR
  else d.count .DRW_LATE_WR

/-- A write to another word of a Drawer's configuration, taken only in FREE (R228, R250). -/
def Dev.cfgWriteFree (d : Dev) (h : Nat) (r : Reg) (i w : Nat) (v : Word) : Dev :=
  if d.drwState h = 0 then d.writeRw r i w v else d.count .DRW_LATE_WR

/-- A write to the Drawer configuration at an address: DRW_CFG, DRW_MEMBER of the handle in DRW_MEMSEL, or DRW_COLL. -/
def Dev.drwCfgWrite (d : Dev) (addr : Nat) (v : Word) : Dev :=
  match decodeAddr 0 addr with
  | some (.DRW_CFG, h, w) => d.cfgWrite h w v
  | some (.DRW_MEMBER, i, w) =>
    let h := d.get F.DRW_MEMSEL.HANDLE 0
    d.cfgWriteFree h .DRW_MEMBER (memberIx h i) w v
  | some (.DRW_COLL, h, w) => d.cfgWriteFree h .DRW_COLL h w v
  | _ => d

/-- DRW_CFG_WRITE -/
def execDrwCfgWrite (a : Access) (addr : BitVec 26) (v : Word) (s : State) : Host.Outcome State Fault Refusal :=
  run (fun d =>
    match decodeAddr a.deskB.toNat addr.toNat with
    | some (r, i, w) => d.onWrite a r i w fun d => d.drwCfgWrite addr.toNat v
    | none => d) s

/-- The weight range of a Drawer open on a die holds an entry (R205). -/
def Dev.weightHeld (d : Dev) (die e : Nat) : Bool :=
  (d.ctxsOn die).any fun c =>
    let a := d.desc c.1
    a.op == 1 && decide (a.wbase ≤ e ∧ e < a.wbase + 1024)

/-- A write to CAB_WEIGHT (R205); a completed write raises DESK_GEN (R349). -/
def Dev.weightWrite (d : Dev) (die e : Nat) (v : Word) : Dev :=
  if d.weightHeld die e then d.count .CAB_WEIGHT_LATE_WR die
  else (d.wr .CAB_WEIGHT (65536 * die + e) 0 v).genBump

/-- WEIGHT_WRITE -/
def execWeightWrite (a : Access) (die : Fin 8) (e : Fin 65536) (v : Word) (s : State) :
    Host.Outcome State Fault Refusal :=
  run (fun d => d.onWrite a .CAB_WEIGHT (65536 * die + e) 0 fun d => d.weightWrite die e v) s

/-! ## Steering (R227, R230) -/

/-- Write the steering entry of a handle on all 16 tiles. -/
def Dev.steer (d : Dev) (h : Nat) (die : Option Nat) : Dev :=
  d.each (List.range 16) fun d t =>
    d.wr .DRW_STEER (4096 * t + h) 0 (match die with | some n => BitVec.ofNat 32 (2 ^ 31 + n) | none => 0)

/-! ## Opening (R230, R251) -/

/-- A status of Table 10.4 with its argument. -/
abbrev DrwStatus := Nat × Nat

/-- The checks of step 1 by the Desk. -/
def Dev.deskChecks (d : Dev) (h : Nat) : Option DrwStatus :=
  let die := d.drwDie h
  let j := d.get F.DRW_CFG.JOB h
  let ms := d.deskMembers h
  let rc := bitsOf (d.jobWord j 3) 18 0
  if !d.cabActive die || !d.cabReach die then some (4, die)
  else if !d.jobAllows j 2 then some (7, j)
  else match ms.find? (fun i => decide (rc ≤ d.memberRank h i)) with
    | some i => some (6, i)
    | none =>
      if ms = [] then some (6, 0)
      else if d.get F.DRW_CFG.OP_CHUNKS h = 0 ∨ d.get F.DRW_CFG.WINDOW_M1 h < d.get F.DRW_CFG.CLAIM_M1 h then some (8, 0)
      else none

/-- A kind that uses DELIVER: those of Table 11.2 that name it, and the count result of kind 6 (R262). -/
def usesDeliver (k : Nat) : Bool := [0, 2, 3, 5, 6].contains k

/-- OP is allowed for KIND (Table 11.2). -/
def opAllowed (k op : Nat) : Bool :=
  if k = 0 ∨ k = 1 ∨ k = 4 then op != 11 else if k = 6 then op != 11 && op != 10 else op == 11

/-- The checks of the collective descriptor (R251): 0 where none fails. -/
def Dev.collCheck (d : Dev) (h : Nat) : Nat :=
  let k := d.kind h
  let l := d.get F.DRW_COLL.NOTICE_LOG2 h
  let v := (d.deskMembers h).length
  if 8 ≤ k ∨ (usesDeliver k ∧ 2 ≤ d.get F.DRW_COLL.DELIVER h) then 9
  else if !opAllowed k (d.desc h).op then 10
  else if d.get F.DRW_COLL.NOTICE_BASE_LO h ≠ 0 ∨ 16 < l ∨ 2 ^ l < d.window h then 11
  else if k = 7 ∧ 524288 < v * v then 12
  else 0

/-- The checks of step 2 by a die: the arithmetic and collective descriptors, ROOT, and the shelf rules. -/
def Dev.dieChecks (d : Dev) (die h : Nat) : Option DrwStatus :=
  let a := d.desc h
  let ms := d.deskMembers h
  let k := d.kind h
  let root := d.get F.DRW_COLL.ROOT h
  let c := a.check (ms.map fun i => (d.rd .CAB_WEIGHT (65536 * die + (a.wbase + i) % 65536)).toNat)
  if c ≠ 0 then some (1, c)
  else if d.collCheck h ≠ 0 then some (1, d.collCheck h)
  else if (k = 3 ∨ k = 4) ∧ !ms.contains root then some (6, root)
  else if d.tooLarge die h then some (2, a.shelves)
  else none

/-- Load a handle's configuration into a slot of a die, at an epoch and START, in IDLE. -/
def Dev.seat (d : Dev) (die h slot epoch start : Nat) (begun : Nat) (at' : Option Nat) : Dev :=
  d.putCtx die h { slot := slot, members := d.deskMembers h, epoch := epoch, epochAt := at', begun := begun,
                   start := start, w := start, tag := d.get F.DRW_CFG.TAG h,
                   rank := d.jobRank (d.get F.DRW_CFG.JOB h) }

/-- The Desks' copy of STATE of a handle. -/
def Dev.setState (d : Dev) (h st : Nat) : Dev := d.set F.DRW_CFG.STATE h st

/-- OPEN (R230). -/
def Dev.openDrawer (d : Dev) (h : Nat) : DrwStatus × Dev :=
  let die := d.drwDie h
  if d.drwState h ≠ 0 then ((3, d.drwState h), d)
  else match d.deskChecks h with
    | some st => (st, d)
    | none =>
      match d.dieChecks die h with
      | some st => (st, d)
      | none =>
        match d.freeSlot die with
        | none => ((5, die), d)
        | some slot =>
          let d := ((((d.set F.DRW_CFG.TAG h 0).set F.DRW_CFG.START h 0).set F.DRW_CFG.W h 0).set F.DRW_CFG.EPOCH h 0)
          let d := (d.setState h 2).seat die h slot 0 0 0 none
          ((0, 0), d.steer h (some die))

/-! ## Closing and aborting (R230, R240) -/

/-- Records of a die that the Desks have not yet taken for a handle are dropped. -/
def Dev.dropRecords (d : Dev) (die h : Nat) : Dev :=
  d.updCab fun k => { k with mir := k.mir.upd [] die (·.filter fun m => m.handle != h) }

/-- CLOSE (R230): accepted in IDLE and FAILED. -/
def Dev.closeDrawer (d : Dev) (h : Nat) : DrwStatus × Dev :=
  let st := d.drwState h
  if st ≠ 2 ∧ st ≠ 6 then ((3, st), d)
  else
    let die := d.drwDie h
    let d := (d.dropShadow h).steer h none
    let d := if st = 2 then (d.delCtx die h).dropRecords die h else d
    let d := d.updCab fun k => { k with released := k.released.erase h, reforms := k.reforms.erase h }
    ((0, 0), d.setState h 0)

/-- The contexts of a handle are aborted: epoch, shelves, IDLE (R240). -/
def Dev.abortHere (d : Dev) (die h : Nat) (c : DrwCtx) : DrwStatus × Dev :=
  if !d.epochFree c then ((9, c.epoch), d) else ((0, (c.epoch + 1) % 256), d.abortCtx die h)

/-- ABORT of a FAILED handle places it on the die named in DIE, as in R230, unless its epoch advanced less than 4 µs
earlier (R242). -/
def Dev.abortFailed (d : Dev) (h : Nat) : DrwStatus × Dev :=
  let die := d.drwDie h
  if !d.advFree h then ((9, d.get F.DRW_CFG.EPOCH h), d)
  else match d.deskChecks h with
  | some st => (st, d)
  | none =>
    match d.dieChecks die h with
    | some st => (st, d)
    | none =>
      match d.freeSlot die with
      | none => ((5, die), d)
      | some slot =>
        let e := (d.get F.DRW_CFG.EPOCH h + 1) % 256
        let d := (((d.set F.DRW_CFG.START h 0).set F.DRW_CFG.W h 0).set F.DRW_CFG.EPOCH h e).setState h 2
        ((0, e), ((d.seat die h slot e 0 0 (some d.raw))).steer h (some die))

/-- ABORT (R240): any state but FREE and REPLACING. -/
def Dev.abortDrawer (d : Dev) (h : Nat) : DrwStatus × Dev :=
  let st := d.drwState h
  if st = 0 ∨ st = 1 ∨ st = 5 then ((3, st), d)
  else if st = 6 then d.abortFailed h
  else match d.ctx (d.drwDie h) h with
    | some c => d.abortHere (d.drwDie h) h c
    | none => ((3, st), d)

/-! ## Shadow contexts (R247, R351) -/

/-- SHADOW_OPEN (R247): on an ACTIVE Drawer the shadow starts with the next operation. -/
def Dev.shadowOpen (d : Dev) (h : Nat) : DrwStatus × Dev :=
  let st := d.drwState h
  let k := d.get F.DRW_CFG.SHADOW_DIE h
  let n := d.chunkShelves h
  if (st ≠ 2 ∧ st ≠ 3) ∨ d.bit F.DRW_CFG.SHADOWED h then ((3, st), d)
  else if k = d.drwDie h ∨ !d.cabReach k then ((4, k), d)
  else if d.tooLarge k h ∨ d.shelfFree k (d.desc h).exact < d.window h * n then ((2, n), d)
  else match d.freeSlot k, d.ctx (d.drwDie h) h with
    | none, _ => ((5, k), d)
    | _, none => ((3, st), d)
    | some slot, some c =>
      let d := if !d.bit F.BUR_UNIT.QUALIFIED (16 + k) then
          (d.set F.BUR_SHADOW_PASS.MATCHES k 0).setB F.BUR_SHADOW_PASS.MISMATCH k false
        else d
      let idle := decide (st = 2)
      let d := d.putCtx k h { slot := slot, shadow := true, members := c.members, epoch := c.epoch, rank := c.rank,
                              tag := c.tag, start := c.start, w := c.start, lastTag := c.lastTag, begun := c.begun,
                              released := idle && c.released, relNext := c.relNext }
      ((0, 0), (d.setB F.DRW_CFG.SHADOWED h true).updCtx (d.drwDie h) h fun x => { x with feeds := idle })

/-- SHADOW_CLOSE (R247). -/
def Dev.shadowClose (d : Dev) (h : Nat) : DrwStatus × Dev :=
  if d.bit F.DRW_CFG.SHADOWED h then ((0, 0), d.dropShadow h) else ((3, d.drwState h), d)

/-! ## DRW_CMD (Table 10.14) -/

/-- Run a Drawer command by its OP; a reserved OP ends with 0x0A (R230). -/
def Dev.drwRun (d : Dev) (op h : Nat) : DrwStatus × Dev :=
  match op with
  | 0 => d.openDrawer h
  | 1 => d.closeDrawer h
  | 2 => d.abortDrawer h
  | 3 => d.shadowOpen h
  | 4 => d.shadowClose h
  | _ => ((0x0A, op), d)

/-- A write of DRW_CMD with GO = 1: the command runs, its status is stored, and CMD_DONE is raised at the Desk. -/
def Dev.drwCmd (d : Dev) (desk op h : Nat) : Dev :=
  let (st, d) := d.drwRun op h
  let d := d.wr .DRW_CMD 0 0 (BitVec.ofNat 32 (op * 2 ^ 28 + st.1 * 2 ^ 16 + h))
  (d.wr .DRW_CMD_ARG 0 0 (BitVec.ofNat 32 st.2)).irq desk 4

/-- DRW_OPEN -/
def execDrwOpen (a : Access) (handle : Fin 4096) (s : State) : Host.Outcome State Fault Refusal :=
  run (fun d => d.onWrite a .DRW_CMD 0 0 (·.drwCmd a.deskB.toNat 0 handle)) s

/-- DRW_CLOSE -/
def execDrwClose (a : Access) (handle : Fin 4096) (s : State) : Host.Outcome State Fault Refusal :=
  run (fun d => d.onWrite a .DRW_CMD 0 0 (·.drwCmd a.deskB.toNat 1 handle)) s

/-- DRW_ABORT -/
def execDrwAbort (a : Access) (handle : Fin 4096) (s : State) : Host.Outcome State Fault Refusal :=
  run (fun d => d.onWrite a .DRW_CMD 0 0 (·.drwCmd a.deskB.toNat 2 handle)) s

/-- DRW_SHADOW_OPEN -/
def execDrwShadowOpen (a : Access) (handle : Fin 4096) (s : State) : Host.Outcome State Fault Refusal :=
  run (fun d => d.onWrite a .DRW_CMD 0 0 (·.drwCmd a.deskB.toNat 3 handle)) s

/-- DRW_SHADOW_CLOSE -/
def execDrwShadowClose (a : Access) (handle : Fin 4096) (s : State) : Host.Outcome State Fault Refusal :=
  run (fun d => d.onWrite a .DRW_CMD 0 0 (·.drwCmd a.deskB.toNat 4 handle)) s

/-! ## The Desks' mirror (R229) -/

/-- The Desks take a record of a die. -/
def Dev.takeRecord (d : Dev) (die : Nat) (m : MirRec) : Dev :=
  let h := m.handle
  let st := d.get F.DRW_CFG.STATE h
  if st = 0 ∨ st = 6 ∨ d.drwDie h ≠ die then d
  else
    let d := if st = 5 then d else d.setState h m.state
    let d := ((((d.set F.DRW_CFG.START h m.start).set F.DRW_CFG.TAG h m.tag).set F.DRW_CFG.W h m.w).set
      F.DRW_CFG.EPOCH h m.epoch)
    d.updCab fun k => { k with released := k.released.put (false, false) h (m.released, m.relNext) }

/-- DRAWER_MIRROR_RECORD: the oldest record of a die reaches both Desks. -/
def Dev.mirrorRecord (d : Dev) (die : Nat) : Dev :=
  match d.cab.mir.at [] die with
  | [] => d
  | m :: _ => (d.updCab fun k => { k with mir := k.mir.upd [] die (·.drop 1) }).takeRecord die m

/-- DRAWER_MIRROR_RECORD -/
def execDrawerMirrorRecord (die : Fin 8) (s : State) : Host.Outcome State Fault Refusal := run (·.mirrorRecord die) s

/-! ## Failover (R246, Table 10.7) -/

/-- A Cabinet die's contexts are lost: records already sent reach the Desks; `f` acts on each handle; shadow contexts on
the die are dropped; its digests, notices, streams and output are gone. -/
def Dev.cabEmpty (d : Dev) (die : Nat) (f : Dev → Nat → Dev) : Dev :=
  let d := d.each (d.cab.mir.at [] die) fun d m => d.takeRecord die m
  let d := d.updCab fun k => { k with mir := k.mir.put [] die [] }
  let d := d.each (d.ctxsOn die) fun d e =>
    if e.2.shadow then (d.dropShadow e.1).delCtx die e.1
    else f (d.delCtx die e.1) e.1
  let d := d.updCab fun k =>
    { k with outQ := k.outQ.put [] die [], allocQ := k.allocQ.put [] die [], stream := k.stream.put [] die [],
             primD := k.primD.put [] die [], shadowD := k.shadowD.put [] die [],
             notes := k.notes.filter fun e => (Nat.unpair e.1).1 != die,
             shCred := k.shCred.filter fun e => (Nat.unpair e.1).1 != die && (Nat.unpair e.1).2 != die }
  let d := d.updCore fun c => { c with inbox := c.inbox.erase (key2 (16 + die) 1) }
  let d := { d with regs := d.regs.filter fun e =>
    !((Nat.unpair e.1).1 == Reg.CAB_DIGEST.num && (Nat.unpair (Nat.unpair e.1).2).1 / 4096 == die) }
  d.wr .CAB_DIGEST_WPTR die 0 0

/-- A Cabinet die is lost (R246): its handles are REPLACING, and a standby die is no longer designated. -/
def Dev.cabLost (d : Dev) (die : Nat) : Dev :=
  let d := d.cabEmpty die fun d h => d.setState h 5
  if d.bit F.DRW_PLACE_CFG.STANDBY_V 0 ∧ d.get F.DRW_PLACE_CFG.STANDBY 0 = die then
    d.setB F.DRW_PLACE_CFG.STANDBY_V 0 false
  else d

/-- A die may take a handle: in service and reached, a free slot, and the shelf rules pass. -/
def Dev.mayHost (d : Dev) (die h : Nat) : Bool :=
  d.cabReach die && decide (0 < d.freeSlots die) && !d.tooLarge die h

/-- The active die with the most free slots that may take a handle, the lowest-numbered on a tie. -/
def Dev.mostFree (d : Dev) (h : Nat) : Option Nat :=
  ((List.range 8).filter fun k => d.cabActive k && d.mayHost k h).foldl (fun b k => match b with
    | none => some k
    | some j => if d.freeSlots j < d.freeSlots k then some k else some j) none

/-- The target of a re-placement, with whether its own shadow context serves (R246). -/
def Dev.target (d : Dev) (h : Nat) : Option (Nat × Bool) :=
  match d.shadowDie h with
  | some k =>
    if d.cabReach k && !d.tooLarge k h then some (k, true) else rest
  | none => rest
where
  rest : Option (Nat × Bool) :=
    let s := d.get F.DRW_PLACE_CFG.STANDBY 0
    if d.bit F.DRW_PLACE_CFG.STANDBY_V 0 && d.mayHost s h then some (s, false)
    else (d.mostFree h).map fun k => (k, false)

/-- A handle placed on the standby die makes that die active (R246). -/
def Dev.standbyTaken (d : Dev) (die : Nat) : Dev :=
  if d.bit F.DRW_PLACE_CFG.STANDBY_V 0 ∧ d.get F.DRW_PLACE_CFG.STANDBY 0 = die then
    let d := d.set F.DRW_PLACE_CFG.ACTIVE 0 (withBit (d.get F.DRW_PLACE_CFG.ACTIVE 0) die true)
    (d.setB F.DRW_PLACE_CFG.STANDBY_V 0 false).raise (32 + die) 6 (instDie (16 + die))
  else d

/-- FAILED with ARG[31] = 1 to every member, from the Desk. -/
def Dev.statusFailed (d : Dev) (h : Nat) : Dev :=
  let j := d.get F.DRW_CFG.JOB h
  let w := d.get F.DRW_CFG.W h
  d.each (d.deskMembers h) fun d i =>
    match d.rankDst j (d.memberRank h i) with
    | some dst =>
      d.originate (deskTile d.master) 3 (mkFrame 0x12 0 1 dst (d.unitSrc 2 d.master) j 0
        (collExt h (d.get F.DRW_CFG.EPOCH h) i (d.get F.DRW_CFG.TAG h) w false false false 0 0 0 0 3 0 (2 ^ 31 + w)))
    | none => (d.count .FWD_RANK_MISS).raise (32 + d.drwDie h) 7 (instDrawer h)

/-! ## Job control (R125 to R127) -/

/-- The bytes of a JOB_CTL_RESP (Table 5.8). -/
def Dev.jobResp (d : Dev) (r : JobCtl) (status : Nat) (payload : List Byte) : Dev :=
  d.originate (deskTile d.master) 6 (mkFrame 0x31 (replyType r.srcType) 1 r.src.toNat (d.unitSrc 2 d.master) r.job 0
    (beBytes 1 r.cmd.toNat ++ beBytes 1 status ++ beBytes 2 r.reqId.toNat ++ beBytes 4 r.target.val ++
      beBytes 8 r.arg.toNat ++ payload))

/-- A command has been executed: its REQ_ID and STATUS are kept, and the response is sent (R126, R127). -/
def Dev.jobDone (d : Dev) (r : JobCtl) (status : Nat) (payload : List Byte) : Dev :=
  let d := d.updCab fun k =>
    { k with jobReq := k.jobReq.upd [] r.target.val fun l =>
        let l := l ++ [(r.reqId.toNat, status, d.raw)]
        l.drop (l.length - 16) }
  d.jobResp r status payload

/-- The Desks may execute a request (R126). -/
def Dev.jobAllowed (d : Dev) (r : JobCtl) : Bool :=
  let w := d.jobWord r.target 1
  (r.job.val == r.target.val && d.jobValid r.target && bitsOf w 31 30 == r.srcType.val &&
    w % 2 ^ 24 == r.src.toNat && decide (r.cmd.toNat < 0x10)) ||
  (r.job.val == 0 && (List.range 16).any fun n =>
    d.bit F.FWD_INFRA_SRC.VALID n && d.get F.FWD_INFRA_SRC.TYPE n == r.srcType.val &&
    d.get F.FWD_INFRA_SRC.SRC n == r.src.toNat)

/-- The request as the Desks see a frame. -/
def jobCtlOf (f : Frm) : JobCtl :=
  let b := f.bytes
  { srcType := Fin.ofNat 4 (fSrcType b), src := BitVec.ofNat 24 (fSrc b), job := Fin.ofNat 4096 (fJob b),
    cmd := BitVec.ofNat 8 (byteAt b 24), reqId := BitVec.ofNat 16 (beAt b 26 2),
    target := Fin.ofNat 4096 (beAt b 28 4), arg := BitVec.ofNat 64 (beAt b 32 8),
    payload := (b.drop 40).take (b.length - 44) }

/-- Take a request from a Desk's queue: denied, answered from the stored REQ_IDs (R127), or executed. -/
def Dev.onJob (d : Dev) (r : JobCtl) (f : Dev → Dev) : Dev :=
  let (_, d) := d.takeInbox (deskTile d.master) 3 fun f => jobCtlOf f == r
  if !d.jobAllowed r then
    ((d.count .FWD_CTL_DENY).raise (41 + d.master) 2 (instDie (26 + d.master))).jobResp r 1 []
  else match (d.cab.jobReq.at [] r.target.val).find? fun e =>
      e.1 == r.reqId.toNat && decide (d.since e.2.2 ≤ ticksOfUs 10000) with
    | some e => d.jobResp r e.2.1 []
    | none => f d

/-- The handle that a request names, where it is a Drawer of the target job. -/
def Dev.jobHandle (d : Dev) (r : JobCtl) : Option Nat :=
  let h := r.arg.toNat % 4096
  if d.drwState h = 0 ∨ d.get F.DRW_CFG.JOB h ≠ r.target.val then none else some h

/-- DRAWER_ABORT (R240, R242). -/
def Dev.jobAbort (d : Dev) (r : JobCtl) : Dev :=
  match d.jobHandle r with
  | none => d.jobDone r 5 []
  | some h =>
    match d.abortDrawer h with
    | ((0, e), d) => d.jobDone r 0 (beBytes 1 e)
    | ((3, _), d) => d.jobDone r 4 []
    | ((9, _), d) => d.jobDone r 4 []
    | (_, d) => d.jobDone r 3 []

/-- DRAWER_ABORT: CMD 0x02. -/
def execDrawerAbort (r : JobCtl) (s : State) : Host.Outcome State Fault Refusal :=
  run (fun d => d.onJob r fun d => d.jobAbort r) s

/-! ## Reform (R264 to R266) -/

/-- The indices that a REFORM payload lists; none where an entry is malformed. -/
def reformList (p : List Byte) : Option (List Nat) :=
  let l := (List.range (p.length / 2)).map fun k => beAt p (2 * k) 2
  if p.length % 2 = 1 ∨ l.any (fun v => decide (1024 ≤ v)) then none else some l.eraseDups

/-- REFORM at the Desks (R264): checked, and VALID of each removed member cleared. -/
def Dev.reform (d : Dev) (r : JobCtl) : Dev :=
  match d.jobHandle r with
  | none => d.jobDone r 5 []
  | some h =>
    let st := d.drwState h
    let busy : Bool := match d.ctx (d.drwDie h) h with | some c => !d.epochFree c | none => true
    if (st ≠ 2 ∧ st ≠ 3) ∨ busy ∨ (d.cab.reforms.find h).isSome then d.jobDone r 4 []
    else
      let ms := d.deskMembers h
      match reformList r.payload with
      | none => d.jobDone r 3 []
      | some l =>
        if l.any (fun i => !ms.contains i) ∨ ms.all l.contains then d.jobDone r 3 []
        else
          let d := d.each l fun d i => d.setB F.DRW_MEMBER.VALID (memberIx h i) false
          d.updCab fun k => { k with reforms := k.reforms.insert h { req := r, removed := l, applied := false, prev := st } }

/-- REFORM: CMD 0x01. -/
def execReform (r : JobCtl) (s : State) : Host.Outcome State Fault Refusal :=
  run (fun d => d.onJob r fun d => d.reform r) s

/-- A reform ends: the record is dropped and the issuer is answered. -/
def Dev.reformEnd (d : Dev) (h : Nat) (q : ReformReq) (status : Nat) (payload : List Byte) : Dev :=
  (d.updCab fun k => { k with reforms := k.reforms.erase h }).jobDone q.req status payload

/-- REFORM_APPLY (Table 11.5, step 3): in one cycle the members leave, REFORMING is entered and the epoch advances. -/
def Dev.reformApply (d : Dev) (h : Nat) : Dev :=
  match d.cab.reforms.find h, d.ctx (d.drwDie h) h with
  | some q, some c =>
    if q.applied || !d.epochFree c || (c.state != 2 && c.state != 3) then d
    else
      let die := d.drwDie h
      let c' := { (d.dropMembers h q.removed c).advance d.raw 0 with state := 4, strag := none }
      let d := d.feedShadow die h (.reform q.removed c'.epoch)
      let d := (d.putCtx die h c').wantAlloc die h
      d.updCab fun k => { k with reforms := k.reforms.insert h { q with applied := true, prev := c.state } }
  | _, _ => d

/-- REFORM_APPLY -/
def execReformApply (handle : Fin 4096) (s : State) : Host.Outcome State Fault Refusal := run (·.reformApply handle) s

/-- REFORM_CLEAR_DONE (Table 11.5, steps 4 to 6). -/
def Dev.reformClear (d : Dev) (h : Nat) : Dev :=
  let die := d.drwDie h
  match d.cab.reforms.find h, d.ctx die h with
  | some q, some c =>
    if !q.applied then d
    else if c.state ≠ 4 then d.reformEnd h q 0 (beBytes 1 c.epoch)
    else
      let d := d.putCtx die h { (c.clearChunks d.raw) with state := q.prev }
      let d := (d.statusAll die h c.w 6 c.epoch).count .CAB_REFORM die
      let d := d.reformEnd h q 0 (beBytes 1 c.epoch)
      (((d.settle die h).countsDone die h).wantAlloc die h).closeIfDone die h
  | _, _ => d

/-- REFORM_CLEAR_DONE -/
def execReformClearDone (handle : Fin 4096) (s : State) : Host.Outcome State Fault Refusal := run (·.reformClear handle) s

/-! ## Re-placement (R246) -/

/-- A REFORM that waits on a handle ends with its re-placement. -/
def Dev.reformReplaced (d : Dev) (h status : Nat) (payload : List Byte) : Dev :=
  match d.cab.reforms.find h with
  | some q => d.reformEnd h q status payload
  | none => d

/-- A handle that no die takes is FAILED. -/
def Dev.replaceFailed (d : Dev) (h : Nat) : Dev :=
  (((d.dropShadow h).setState h 6).statusFailed h).reformReplaced h 4 []

/-- The slot of a die that a re-placed handle takes: that of its own shadow context where that one serves. -/
def Dev.replaceSlot (d : Dev) (k h : Nat) (own : Bool) : Nat :=
  (if own then (match d.ctx k h with | some c => some c.slot | none => d.freeSlot k) else d.freeSlot k).getD 0

/-- A handle is seated on a die at epoch `e` and window start `w`, released or not as before. -/
def Dev.replaceOn (d : Dev) (h k slot e w : Nat) (rel : Bool × Bool) : Dev :=
  let d := (((d.dropShadow h).set F.DRW_CFG.DIE h k).set F.DRW_CFG.EPOCH h e).set F.DRW_CFG.START h w
  let d := (d.setState h 2).seat k h slot e w 2 (some d.raw)
  let d := d.updCtx k h fun c => { c with released := rel.1, relNext := rel.2 }
  (((d.steer h (some k)).standbyTaken k).statusAll k h w 3 w).reformReplaced h 0 (beBytes 1 e)

/-- Re-place one handle onto a target, or fail it where there is none (Table 10.7, steps 2 and 3). -/
def Dev.replaceAt (d : Dev) (h : Nat) (t : Option (Nat × Bool)) : Dev :=
  let d := d.steer h none
  match t with
  | none => d.replaceFailed h
  | some (k, own) =>
    d.replaceOn h k (d.replaceSlot k h own) ((d.get F.DRW_CFG.EPOCH h + 1) % 256) (d.get F.DRW_CFG.W h)
      (d.cab.released.at (false, false) h)

/-- Re-place one handle of a lost die on the first target that takes it (R246). -/
def Dev.replaceOne (d : Dev) (h : Nat) : Dev := d.replaceAt h (d.target h)

/-- Re-place one handle after a resume: on its own die when that die is active and may take it (Table 17.5). -/
def Dev.resumeOne (d : Dev) (h : Nat) : Dev :=
  let own := d.drwDie h
  d.replaceAt h (if d.cabActive own && d.mayHost own h then some (own, false) else d.target h)

/-- FAILOVER_REPLACE: every handle of a lost die, in ascending order; a handle whose epoch advanced less than 4 µs earlier
stays REPLACING until a later one (R242). -/
def Dev.failover (d : Dev) (die : Nat) : Dev :=
  d.each ((List.range 4096).filter fun h => d.get F.DRW_CFG.STATE h == 5 && d.drwDie h == die && d.advFree h) fun d h =>
    d.replaceOne h

/-- FAILOVER_REPLACE -/
def execFailoverReplace (die : Fin 8) (s : State) : Host.Outcome State Fault Refusal := run (·.failover die) s

end Sys2Proof.Machine
end

