-- ==== Sys2Proof/Machine/JobCtl.lean ====
section
/-! DEFINITION. Job-control commands that change the job table and the rank map (R119, R126, Table 5.9), and the answer
to a command that is not defined. -/
namespace Sys2Proof.Machine

/-- JOB_CTL_UNKNOWN_CMD: a CMD that Table 5.9 does not define is answered UNKNOWN_CMD. -/
def execJobCtlUnknownCmd (r : JobCtl) (s : State) : Host.Outcome State Fault Refusal :=
  run (fun d => d.onJob r fun d => d.jobDone r 2 []) s

/-- SET_CONTROLLER rewrites job-table word 1 on every die: CTRL_TYPE from ARG[25:24], CTRL_SRC from ARG[23:0]. -/
def Dev.setController (d : Dev) (r : JobCtl) : Dev :=
  let v : Word := BitVec.ofNat 32 (bitsOf r.arg.toNat 25 24 * 2 ^ 30 + r.arg.toNat % 2 ^ 24)
  let d := (d.wr .FWD_JOB r.target 1 v).updFwd fun x => { x with job := x.job.put 0 (key2 r.target 1) v }
  d.genBump.jobDone r 0 []

/-- SET_CONTROLLER: CMD 0x11. -/
def execSetController (r : JobCtl) (s : State) : Host.Outcome State Fault Refusal :=
  run (fun d => d.onJob r fun d => d.setController r) s

/-- The pairs of a RANK_MAP_WRITE payload: rank and entry. -/
def rankPairs (p : List Byte) : List (Nat × Nat) :=
  (List.range (p.length / 8)).map fun k => (beAt p (8 * k) 4, beAt p (8 * k + 4) 4)

/-- RANK_MAP_WRITE (R119): refused whole where a rank is at or above RANK_COUNT. -/
def Dev.rankMapWrite (d : Dev) (r : JobCtl) : Dev :=
  let j := r.target.val
  if r.payload.length % 8 ≠ 0 ∨ (rankPairs r.payload).any (fun p => (d.rankEntry j p.1).isNone) then d.jobDone r 3 []
  else
    (d.each (rankPairs r.payload) fun d p =>
      match d.rankEntry j p.1 with
      | some e => d.rankMapPut e (BitVec.ofNat 32 p.2)
      | none => d).jobDone r 0 []

/-- RANK_MAP_WRITE: CMD 0x12. -/
def execRankMapWrite (r : JobCtl) (s : State) : Host.Outcome State Fault Refusal :=
  run (fun d => d.onJob r fun d => d.rankMapWrite r) s

end Sys2Proof.Machine
end

