-- ==== Sys2Proof/Machine/Pool.lean ====
section
/-! DEFINITION. The Gnoari pool at its line homes (chapter 12): the pool partition's bytes, placement, the checks of
Table 12.1, the operations, completion, and the mirror streams. -/
namespace Sys2Proof.Machine

/-- The key of a source identifier. -/
def srcKey (ty src : Nat) : Nat := key2 ty src

end Sys2Proof.Machine

namespace Sys2Proof

/-- The window that a request names. -/
def GnReq.win (r : GnReq) : Nat := r.addr.toNat / 2 ^ 44 % 4096

/-- The offset that a request names. -/
def GnReq.off (r : GnReq) : Nat := r.addr.toNat % 2 ^ 44

/-- The ordering tile of a request. -/
def GnReq.tile (r : GnReq) : Nat := Machine.orderTile r.srcType.val r.src.toNat

/-- The source key of a request. -/
def GnReq.key (r : GnReq) : Nat := Machine.srcKey r.srcType.val r.src.toNat

/-- RETRY. -/
def GnReq.retry (r : GnReq) : Bool := Machine.bitAt r.opcode.toNat 7

/-- A request is a mirror write. -/
def GnReq.isMirror (r : GnReq) : Bool := r.opcode.toNat == 6

end Sys2Proof

namespace Sys2Proof.Machine

/-! ## The pool partition's memory -/

/-- The bytes of the pool partition, by linear position: positions strictly rising, no byte equal to what an unlisted
position reads as. -/
abbrev Memory := List Host.Cell

/-- What a byte that nothing has written reads as: zero (DESIGN CHOICE, log 10: the manual gives HBM no reset contents). -/
def Memory.blank : Byte := 0

/-- The canonical form of the memory. -/
abbrev Memory.wf (m : Memory) : Prop := Tbl.wf m Memory.blank

/-- Read one byte. -/
def Memory.read (m : Memory) (a : Nat) : Byte := Tbl.at m Memory.blank a

/-- Write one byte. -/
def Memory.write (m : Memory) (a : Nat) (v : Byte) : Memory := Tbl.put m Memory.blank a v

/-- Read `n` bytes from an address on. -/
def Memory.readN (m : Memory) (a n : Nat) : List Byte := (List.range n).map fun i => m.read (a + i)

/-- Write bytes from an address on. -/
def Memory.writeN (m : Memory) (a : Nat) : List Byte → Memory
  | [] => m
  | b :: r => (m.write a b).writeN (a + 1) r

/-- Every byte from `a` to `a + n - 1` becomes blank. -/
def Memory.clear (m : Memory) (a n : Nat) : Memory := m.filter fun c => decide (c.1 < a ∨ a + n ≤ c.1)

/-- Change the pool's state. -/
def Dev.updPool (d : Dev) (f : PoolSt → PoolSt) : Dev := { d with pool := f d.pool }

/-- Write bytes of the pool partition. -/
def Dev.poolWrite (d : Dev) (a : Nat) (bs : List Byte) : Dev :=
  d.updPool fun p => { p with mem := Memory.writeN p.mem a bs }

/-- Mark a line as having a bad CRC, or good again (R277). -/
def Dev.setBad (d : Dev) (line : Nat) (b : Bool) : Dev := d.updPool fun p => { p with bad := p.bad.put false line b }

/-! ## Windows and placement (R271, R272, R276) -/

/-- STATE of a window. -/
def Dev.winState (d : Dev) (w : Nat) : Nat := d.get F.POOL_WIN.STATE w

/-- Bytes of a window. -/
def Dev.winSize (d : Dev) (w : Nat) : Nat := d.get F.POOL_WIN.SIZE_GIB w * 2 ^ 30

/-- The linear position of an offset in a window. -/
def Dev.winPos (d : Dev) (w off : Nat) : Nat := d.get F.POOL_WIN.BASE_GIB w * 2 ^ 30 + off

/-- The stack of a linear position. -/
def stackOf (a : Nat) : Nat :=
  let g := a / 2 ^ 12
  (List.range 6).foldl (fun s k => Nat.xor s (g / 2 ^ (5 * k) % 32)) 0

/-- The line home tile of a linear position. -/
def homeOf (a : Nat) : Nat := stackOf a / 2

/-- The byte in the stack's pool partition of a linear position. -/
def localOf (a : Nat) : Nat := a / 2 ^ 12 / 2 ^ 5 * 2 ^ 12 + a % 2 ^ 12

/-- The line home of a request. -/
def Dev.homeTile (d : Dev) (r : GnReq) : Nat := homeOf (d.winPos r.win r.off)

/-! ## Operations (Table 12.5) -/

/-- An operation of Table 12.5: reads, writes, and atomics by operation index with 64-bit operands or 32-bit ones. -/
inductive GnOp where
  | read | write | part | fwrite | sync | mwrite | mread
  | atomic (a : Nat) (wide : Bool)
  deriving DecidableEq, Repr

/-- The operation of an OPCODE, RETRY aside; none where it is reserved. -/
def gnOp (opcode : Nat) : Option GnOp :=
  let o := opcode % 128
  match o with
  | 1 => some .read
  | 2 => some .write
  | 3 => some .part
  | 4 => some .fwrite
  | 5 => some .sync
  | 6 => some .mwrite
  | 7 => some .mread
  | _ => if 0x10 ≤ o ∧ o < 0x24 then some (.atomic ((o - 0x10) / 2) (o % 2 == 1)) else none

/-- An atomic. -/
def GnOp.isAtomic : GnOp → Bool | .atomic _ _ => true | _ => false

/-- A sequenced write of a source's own stream, or a mirror write of its (Table 12.5). -/
def GnOp.sequenced : GnOp → Bool | .write | .part | .fwrite | .mwrite => true | _ => false

/-- A write or an atomic. -/
def GnOp.writes : GnOp → Bool | .write | .part | .fwrite | .mwrite | .atomic _ _ => true | _ => false

/-- Check 1 of Table 12.1: payload length, alignment and line crossing. -/
def GnOp.formOk (o : GnOp) (r : GnReq) : Bool :=
  let n := r.payload.length
  let a := r.off
  (o.isAtomic || !r.retry) &&
  match o with
  | .read | .mread => n == 0 && a % 128 == 0
  | .write | .mwrite => n == 128 && a % 128 == 0
  | .part => decide (8 ≤ n ∧ n ≤ 120 ∧ n % 8 = 0 ∧ a % 8 = 0 ∧ a % 128 + n ≤ 128)
  | .fwrite => decide (8 ≤ n ∧ n ≤ 128 ∧ n % 8 = 0 ∧ a % 8 = 0 ∧ a % 128 + n ≤ 128)
  | .sync => n == 0 && r.addr.toNat % 2 ^ 56 == 0
  | .atomic k wide =>
    n == (if k = 2 then 16 else 8) && a % (if wide then 8 else 4) == 0 &&
    (wide || (beNat (r.payload.take 4) == 0 && beNat ((r.payload.drop 8).take 4) == 0))

/-- The checks of Table 12.1, in order: the status of the first that fails. A window that is closing has none (R274). -/
def Dev.gnCheck (d : Dev) (r : GnReq) : Option Nat :=
  let w := r.win
  let st := d.winState w
  match gnOp r.opcode.toNat with
  | none => some 4
  | some o =>
    let mirrorReq := o == .mwrite || o == .mread
    if !o.formOk r then some 4
    else if mirrorReq && r.srcType.val != 1 then some 2
    else if st = 0 ∨ d.winSize w ≤ r.off ∨ (d.pool.closing.find w).isSome then some 3
    else if st = 1 then some 5
    else if st = 8 then some 8
    else if (st == 4 && !mirrorReq) || (mirrorReq &&
        (st != 4 || r.src.toNat / 2 ^ 16 != d.get F.POOL_WIN.PARTNER_PLACE w)) then some 2
    else if !d.bit F.POOL_WIN.SHARED w && r.job.val != d.get F.POOL_WIN.JOB w && r.job.val != 0 then some 2
    else if (d.bit F.POOL_WIN.RD_ONLY w && o.writes && !mirrorReq) ||
        (!d.bit F.POOL_WIN.ATOMIC_EN w && o.isAtomic) then some 2
    else if st = 5 ∧ d.bit F.POOL_WIN.ON_LOSS w ∧ o.writes then some 10
    else none

/-- The value that an atomic stores, from the value in memory, its operand and the swap value of CAS; `n` bits. -/
def atomicValue (k n old x y : Nat) : Nat :=
  match k with
  | 0 => (old + x) % 2 ^ n
  | 1 => x
  | 2 => if old = x then y else old
  | 3 => Nat.land old x
  | 4 => Nat.lor old x
  | 5 => Nat.xor old x
  | 6 => if toSigned n x < toSigned n old then x else old
  | 7 => if toSigned n old < toSigned n x then x else old
  | 8 => min old x
  | _ => max old x

/-- Response payload bytes of an operation (Table 12.5). -/
def GnOp.respBytes : GnOp → Nat
  | .read | .mread => 128
  | .atomic _ _ => 8
  | _ => 0

/-- The payload of a response that carries no result: zeros (Table 12.6). -/
def zeroPayload (opcode : Nat) : List Byte :=
  match gnOp opcode with
  | some o => List.replicate o.respBytes 0
  | none => []

/-! ## Mirror streams (R286 to R288) -/

/-- A line home's stream toward a partner place. -/
def Dev.mstream (d : Dev) (t p : Nat) : MStream := d.pool.mst.at {} (key2 t p)

/-- Change a mirror stream. -/
def Dev.updMst (d : Dev) (t p : Nat) (f : MStream → MStream) : Dev :=
  d.updPool fun s => { s with mst := s.mst.upd {} (key2 t p) f }

/-- Send a GN_REQ of a line home (R286). -/
def Dev.sendGnReq (d : Dev) (t p opcode tag seq addr : Nat) (payload : List Byte) : Dev :=
  d.originate t 4 (mkFrame 0x20 1 1 (p * 2 ^ 16) (d.unitSrc 0 t) 0 0
    (beBytes 4 (opcode * 2 ^ 24 + tag % 2 ^ 16) ++ beBytes 4 seq ++ beBytes 8 addr ++ beBytes 8 0 ++ payload))

/-- TAG of a line home's request: its tile in [15:12]; R286 leaves [11:0] free. -/
def mtag (t n : Nat) : Nat := t * 4096 + (Config.freeTag n).toNat

/-- Transmit an item. -/
def Dev.sendItem (d : Dev) (t p : Nat) (m : MItem) : Dev :=
  if m.read then d.sendGnReq t p 7 (mtag t m.seq) 0 m.addr [] else d.sendGnReq t p 6 (mtag t m.seq) m.seq m.addr m.data

/-- Send what waits in a stream, at most 64 MWRITEs unacknowledged and none while a SYNC is unanswered (R280, R286). -/
def Dev.drainMst (d : Dev) (t p : Nat) : Nat → Dev
  | 0 => d
  | n + 1 =>
    let s := d.mstream t p
    match s.wait with
    | [] => d
    | m :: rest =>
      if !m.read && (s.sync || decide (64 ≤ (s.out.filter fun x => !x.read).length)) then d
      else
        let m := if m.read then { m with seq := s.tag } else { m with seq := s.next }
        let d := d.updMst t p fun s =>
          { s with wait := rest, out := s.out ++ [m], next := if m.read then s.next else (s.next + 1) % 2 ^ 32,
                   tag := if m.read then s.tag + 1 else s.tag }
        (d.sendItem t p m).drainMst t p n

/-- Queue an item and send as far as the stream allows. -/
def Dev.queueItem (d : Dev) (t p : Nat) (m : MItem) : Dev :=
  let d := d.updMst t p fun s => { s with wait := s.wait ++ [m] }
  d.drainMst t p (d.mstream t p).wait.length

/-- Send a SYNC of a mirror stream (R280). -/
def Dev.syncMst (d : Dev) (t p : Nat) : Dev :=
  let d := d.updMst t p fun s => { s with sync := true }
  d.sendGnReq t p 5 (mtag t (d.mstream t p).acked) (d.mstream t p).acked (p * 2 ^ 56) []

/-! ## Completion at the ordering tile -/

/-- A gap is open: something after W + 1 is marked or held while W + 1 has not arrived (R283). -/
def Tracker.gapOpen (t : Tracker) : Bool :=
  let s := (t.w + 1) % 2 ^ 32
  !t.flight.contains s && !(t.held.any fun h => h.r.seq.toNat == s) && (t.marks != [] || t.held != [])

/-- The gap timer starts when a gap is open; it stops when W advances, and restarts where a gap remains (R283). -/
def Tracker.timer (t : Tracker) (advanced : Bool) (now : Nat) : Tracker :=
  { t with gap := match advanced, t.gap with
      | false, some g => some g
      | _, _ => if t.gapOpen then some now else none }

/-- A request or its completion finds the route between its tiles cut: it is dropped and counted as cells are (R19, R26), and a
write is on its way no longer; its source sends it again. -/
def Dev.poolCut (d : Dev) (a b : Nat) (r : GnReq) : Dev :=
  let d := (d.count .XBAR_UNREACH_CNT a).raise (countTile a) 11 (instDie b)
  let own := match gnOp r.opcode.toNat with | some o => o.sequenced | none => false
  if own then
    d.updPool fun p => { p with trk := p.trk.modify r.key fun t =>
      ({ t with flight := t.flight.filter (· != r.seq.toNat) } : Tracker).timer false d.raw }
  else d

/-- A completion goes to the request's ordering tile (R26), by R17. -/
def Dev.toOrder (d : Dev) (c : GnDone) : Dev :=
  if d.unreachable (d.homeTile c.r) c.r.tile then d.poolCut (d.homeTile c.r) c.r.tile c.r
  else d.updPool fun p => { p with comp := p.comp.upd [] c.r.tile (· ++ [c]) }

/-- A request completes without being executed: counted by its status (Table 12.8), with no result. -/
def Dev.refuseGn (d : Dev) (home : Nat) (r : GnReq) (status : Nat) : Dev :=
  let d := if status = 2 ∨ status = 3 ∨ status = 4 then d.count .POOL_DENY home
    else if status = 8 then d.count .POOL_LOST_ACC home else d
  d.toOrder { r := r, status := status, payload := zeroPayload r.opcode.toNat }

/-- A data error (R277): counted and raised with the stack, and the request completes DATA_ERROR. -/
def Dev.dataError (d : Dev) (home : Nat) (r : GnReq) : Dev :=
  let a := d.winPos r.win r.off
  let d := (d.count .POOL_DATA_ERR home).raise home 4 (instStack (stackOf a))
  d.toOrder { r := r, status := 1, payload := zeroPayload r.opcode.toNat }

/-! ## Resilvering: which requests are held or mirrored (R289, R290) -/

/-- The resilver of a window. -/
def Dev.resilOf (d : Dev) (w : Nat) : Resil := d.pool.resil.at {} w

/-- Change a window's resilver. -/
def Dev.updResil (d : Dev) (w : Nat) (f : Resil → Resil) : Dev :=
  d.updPool fun p => { p with resil := p.resil.upd {} w f }

/-- A granule of a window has been copied: it lies below the run of copied granules, or is one copied out of order. -/
def Dev.copied (d : Dev) (w g : Nat) : Bool :=
  decide (g < d.get F.POOL_WIN.COPY_PTR w - (d.resilOf w).copied.length) || (d.resilOf w).copied.contains g

/-- A request is held: its granule is being copied, or in RESILVER_PULL is not yet copied. -/
def Dev.heldByCopy (d : Dev) (r : GnReq) : Bool :=
  let g := r.off / 4096
  match d.winState r.win with
  | 6 => (d.resilOf r.win).cur == some g
  | 7 => !d.copied r.win g
  | _ => false

/-- A change of a line goes to the partner (R286, R289, R290). -/
def Dev.mirrored (d : Dev) (r : GnReq) : Bool :=
  match d.winState r.win with
  | 3 => true
  | 6 => d.copied r.win (r.off / 4096)
  | 7 => d.copied r.win (r.off / 4096)
  | _ => false

/-- A change of a line has been executed locally: it completes, or waits for the partner (R286). -/
def Dev.afterWrite (d : Dev) (home : Nat) (r : GnReq) (c : GnDone) : Dev :=
  if d.mirrored r then
    let a := d.winPos r.win r.off / 128 * 128
    let p := d.get F.POOL_WIN.PARTNER_PLACE r.win
    d.queueItem home p
      { seq := 0, read := false, win := r.win, waiter := some c, copy := none,
        addr := p * 2 ^ 56 + d.get F.POOL_WIN.PARTNER_WIN r.win * 2 ^ 44 + r.off / 128 * 128,
        data := Memory.readN d.pool.mem a 128 }
  else d.toOrder c

/-! ## Execution (R276, R277, Table 12.5) -/

/-- An atomic against memory: the value it held before, in the response's 8-byte field, and the new memory. -/
def Dev.runAtomic (d : Dev) (r : GnReq) (k : Nat) (wide : Bool) : List Byte × Dev :=
  let n := if wide then 8 else 4
  let a := d.winPos r.win r.off
  let old := leNat (Memory.readN d.pool.mem a n)
  let x := beAt r.payload 0 8
  let y := beAt r.payload 8 8
  (beBytes 8 old, d.poolWrite a (leBytes n (atomicValue k (8 * n) old x y)))

/-- A request that passes its checks is executed against HBM; `ue`: the stack reports an uncorrectable error. -/
def Dev.runGn (d : Dev) (home : Nat) (r : GnReq) (o : GnOp) (ue : Bool) : Dev :=
  let a := d.winPos r.win r.off
  let bad := ue || r.poisoned || d.pool.bad.at false (a / 128)
  let done (s : Nat) (p : List Byte) : GnDone := { r := r, status := s, payload := p }
  match o with
  | .read | .mread =>
    if d.bur.nextRead.contains (stackOf a) then
      ((d.updBur fun b => { b with nextRead := b.nextRead.erase (stackOf a) }).dataError home r).flagFrom d.raised.length
    else if bad then d.dataError home r
    else ((d.add64 .POOL_RD_CNT home 1).pulse home 0x00D 1 none none none).toOrder (done 0 (Memory.readN d.pool.mem a 128))
  | .write | .mwrite =>
    if r.poisoned then d.dataError home r
    else ((((d.poolWrite a r.payload).setBad (a / 128) false).add64 .POOL_WR_CNT home 1).pulse home 0x00E 1 none none
      none).afterWrite home r (done 0 [])
  | .part | .fwrite =>
    if bad then d.dataError home r
    else (((d.poolWrite a r.payload).add64 .POOL_WR_CNT home 1).pulse home 0x00E 1 none none none).afterWrite home r (done 0 [])
  | .atomic k wide =>
    if bad then d.dataError home r
    else
      let (p, d) := d.runAtomic r k wide
      (((d.add64 .POOL_AT_CNT home 1).pulse home 0x00D 1 none none none).pulse home 0x00E 1 none none none).afterWrite home r (done 0 p)
  | .sync => d.toOrder (done 0 [])

/-- A request at its line home: forced, refused by a check, held by a copy, or executed. True: it has left the queue. -/
def Dev.homeRun (d : Dev) (home : Nat) (q : HomeReq) (ue : Bool) : Bool × Dev :=
  match q.force with
  | some st => (true, d.refuseGn home q.r st)
  | none =>
    match d.gnCheck q.r, gnOp q.r.opcode.toNat with
    | some st, _ => (true, d.refuseGn home q.r st)
    | none, none => (true, d.refuseGn home q.r 4)
    | none, some o =>
      if d.heldByCopy q.r then
        (false, if d.winState q.r.win = 7 then
            d.updResil q.r.win fun x =>
              if x.head.contains (q.r.off / 4096) then x else { x with head := (q.r.off / 4096) :: x.head }
          else d)
      else (true, d.runGn home q.r o ue)

/-- An earlier atomic to the same line waits at the line home: atomics to one line keep their order (R278). -/
def atomicWaits (q : List HomeReq) (n : Nat) : Bool :=
  match q[n]? with
  | none => false
  | some x =>
    let at' (y : HomeReq) : Bool := match gnOp y.r.opcode.toNat with
      | some o => o.isAtomic && y.r.win == x.r.win && y.r.off / 128 == x.r.off / 128
      | none => false
    at' x && (q.take n).any at'

/-- LINE_HOME_EXECUTE: the `n`-th request that waits at a line home is executed. -/
def Dev.homeExecute (d : Dev) (tile n : Nat) (ue : Bool) : Dev :=
  let q := d.pool.home.at [] tile
  match q[n]? with
  | none => d
  | some x =>
    if atomicWaits q n then d
    else
      let (left, d) := d.homeRun tile x ue
      if left then d.updPool fun p => { p with home := p.home.put [] tile (q.eraseIdx n) } else d

/-- LINE_HOME_EXECUTE -/
def execLineHomeExecute (tile : Fin 16) (n : Nat) (ue : Bool) (s : State) : Host.Outcome State Fault Refusal :=
  run (·.homeExecute tile n ue) s

end Sys2Proof.Machine
end

