-- ==== Sys2Proof/Machine/Order.lean ====
section
/-! DEFINITION. The Gnoari pool at its ordering tiles (chapter 12): source trackers, sequence and watermark, flagged
writes, the gap timer, atomics through the receipt cache, and the commands that carry requests. -/
namespace Sys2Proof.Machine

/-! ## Trackers (R279, R280) -/

/-- The tracker of a source. -/
def Dev.trk (d : Dev) (k : Nat) : Option Tracker := d.pool.trk.find k

/-- Write a tracker. -/
def Dev.putTrk (d : Dev) (k : Nat) (t : Tracker) : Dev := d.updPool fun p => { p with trk := p.trk.insert k t }

/-- Change a tracker that is there. -/
def Dev.updTrk (d : Dev) (k : Nat) (f : Tracker → Tracker) : Dev :=
  d.updPool fun p => { p with trk := p.trk.modify k f }

/-- The ordering tile of a tracker key. -/
def keyTile (k : Nat) : Nat := orderTile (Nat.unpair k).1 (Nat.unpair k).2

/-- Source trackers that a tile holds. -/
def Dev.srcUsed (d : Dev) (t : Nat) : Nat := (d.pool.trk.filter fun e => keyTile e.1 == t).length

/-- The tracker of a request, created where an atomic or a SYNC finds none; none where the tile holds 4,096. -/
def Dev.needTrk (d : Dev) (r : GnReq) : Option Tracker :=
  match d.trk r.key with
  | some t => some t
  | none => if d.srcUsed r.tile < 4096 then some { created := d.raw } else none

/-- The mirror reserve of a tile (Table 12.8): values above 8,192 act as 8,192. -/
def Dev.mirrorRsv (d : Dev) : Nat := min 8192 (d.get F.POOL_CFG2.MIRROR_RSV 0)

/-- Requests that hold a transaction tracker of a tile (R295): held, at a line home, waiting for a partner, completed and
not yet answered. -/
def Dev.trkHolders (d : Dev) (t : Nat) : List GnReq :=
  ((d.pool.trk.filter fun e => keyTile e.1 == t).flatMap fun e => e.2.held.map (·.r) ++ e.2.answers.map (·.r)) ++
  (d.pool.home.flatMap fun e => (e.2.map (·.r)).filter fun r => r.tile == t) ++
  ((d.pool.comp.at [] t).map (·.r)) ++
  (d.pool.mst.flatMap fun e => (e.2.out ++ e.2.wait).filterMap fun m =>
    match m.waiter with | some c => if c.r.tile = t then some c.r else none | none => none)

/-- Transaction trackers in use at a tile. -/
def Dev.trkUsed (d : Dev) (t : Nat) : Nat := (d.trkHolders t).length

/-- A request that is no mirror write finds a free transaction tracker (R295). -/
def Dev.trkFree (d : Dev) (t : Nat) : Bool :=
  decide (((d.trkHolders t).filter fun r => !r.isMirror).length < 16384 - d.mirrorRsv)

/-! ## Responses (R278) -/

/-- Send a GN_RESP with ACK_SEQ. -/
def Dev.respondWith (d : Dev) (r : GnReq) (status ack : Nat) (payload : List Byte) : Dev :=
  let d := if status = 5 then d.count .POOL_BUSY r.tile
    else if status = 9 then d.count .POOL_NO_SESSION r.tile
    else if status = 6 then d.count .POOL_UNKNOWN r.tile else d
  d.originate r.tile 5 (mkFrame 0x21 (replyType r.srcType) 1 r.src.toNat (d.unitSrc 0 r.tile) r.job 0
    (beBytes 4 (r.opcode.toNat * 2 ^ 24 + status * 2 ^ 16 + r.tag.toNat) ++ beBytes 4 r.seq.toNat ++
      beBytes 8 r.addr.toNat ++ beBytes 4 ack ++ beBytes 4 0 ++ payload))

/-- Send a GN_RESP now: ACK_SEQ is the source's watermark, 0 where it has no tracker. -/
def Dev.respond (d : Dev) (r : GnReq) (status : Nat) (payload : List Byte) : Dev :=
  d.respondWith r status (match d.trk r.key with | some t => t.w | none => 0) payload

/-- A response with no result. -/
def Dev.respondBare (d : Dev) (r : GnReq) (status : Nat) : Dev := d.respond r status (zeroPayload r.opcode.toNat)

/-! ## The watermark (R281 to R283) -/

/-- Send a request to its line home (R26), by R17. -/
def Dev.toHome (d : Dev) (q : HomeReq) : Dev :=
  if d.unreachable q.r.tile (d.homeTile q.r) then d.poolCut q.r.tile (d.homeTile q.r) q.r
  else d.updPool fun p => { p with home := p.home.upd [] (d.homeTile q.r) (· ++ [q]) }

/-- W rises over the SEQ values that are done. -/
def Tracker.rise (t : Tracker) : Nat → Tracker
  | 0 => t
  | n + 1 =>
    let s := (t.w + 1) % 2 ^ 32
    if t.marks.contains s then Tracker.rise { t with w := s, marks := t.marks.filter (· != s) } n else t

/-- A SEQ lies at or before W. -/
def Tracker.covers (t : Tracker) (s : Nat) : Bool := !serialAfter s t.w

/-- Answer the writes that W has reached, and release the flagged write that is next (R281, R282). -/
def Dev.afterW (d : Dev) (k : Nat) : Dev :=
  match d.trk k with
  | none => d
  | some t =>
    let ready := t.answers.filter fun a => t.covers a.r.seq.toNat
    let t := { t with answers := t.answers.filter fun a => !t.covers a.r.seq.toNat }
    let next := (t.w + 1) % 2 ^ 32
    let rel := t.held.filter fun h => h.r.seq.toNat == next
    let t := { t with held := t.held.filter (fun h => h.r.seq.toNat != next),
                      flight := t.flight ++ rel.map fun h => h.r.seq.toNat }
    let d := d.putTrk k t
    let d := d.each ready fun d a => d.respond a.r a.status a.payload
    d.each rel fun d h => d.toHome h

/-- A SEQ is executed or retired: it is marked, W rises, and answers leave. -/
def Dev.retire (d : Dev) (c : GnDone) : Dev :=
  let k := c.r.key
  match d.trk k with
  | none => d
  | some t =>
    let s := c.r.seq.toNat
    let t := { t with flight := t.flight.filter (· != s) }
    if t.covers s ∨ t.marks.contains s then d.putTrk k t
    else
      let t := { t with marks := t.marks ++ [s], answers := t.answers ++ [c] }
      let u := t.rise (t.marks.length)
      (d.putTrk k (u.timer (u.w != t.w) d.raw)).afterW k

/-- A status that retires a sequenced write (Table 12.6). -/
def retires (status : Nat) : Bool := [0, 1, 2, 3, 4, 8, 10].contains status

/-! ## Receipt cache (R285) -/

/-- The key of a receipt-cache entry. -/
def rcKey (ty src tag : Nat) : Nat := key3 ty src tag

/-- Receipt-cache entries of a source. -/
def Dev.rcOfSrc (d : Dev) (ty src : Nat) : Nat :=
  (d.pool.rc.filter fun e => (Nat.unpair e.1).1 == ty && (Nat.unpair (Nat.unpair e.1).2).1 == src).length

/-- Receipt-cache entries of a tile. -/
def Dev.rcUsed (d : Dev) (t : Nat) : Nat :=
  (d.pool.rc.filter fun e => orderTile (Nat.unpair e.1).1 (Nat.unpair (Nat.unpair e.1).2).1 == t).length

/-- RC_PER_SRC (Table 12.8). -/
def Dev.rcPerSrc (d : Dev) : Nat := max 1 (min 1024 (d.get F.POOL_CFG2.RC_PER_SRC 0))

/-- A RACK_TAG turns the entry it names into a tombstone (R285). -/
def Dev.rack (d : Dev) (r : GnReq) : Dev :=
  if r.rackV then
    d.updPool fun p => { p with rc := p.rc.modify (rcKey r.srcType.val r.src.toNat r.rackTag.toNat) fun e =>
      match e.result with | some _ => { e with result := none, at' := d.raw } | none => e }
  else d

/-- The same atomic is on its way: at the line home, waiting for a partner, or completed there. -/
def Dev.atomicInFlight (d : Dev) (r : GnReq) : Bool :=
  (d.trkHolders r.tile).any fun x => x.key == r.key && x.tag == r.tag && (match gnOp x.opcode.toNat with
    | some o => o.isAtomic | none => false)

/-- An atomic at its ordering tile (R285). -/
def Dev.atomicArrive (d : Dev) (r : GnReq) : Dev :=
  match d.needTrk r with
  | none => d.respondBare r 5
  | some t =>
    let d := d.putTrk r.key { t with job := r.job.val, last := d.raw }
    let late := match t.evictHi with
      | some h => decide ((h + 65536 - r.tag.toNat) % 65536 < 32768)
      | none => false
    match d.pool.rc.find (rcKey r.srcType.val r.src.toNat r.tag.toNat) with
    | some e =>
      match e.result with
      | some p => (d.count .POOL_RC_HIT r.tile).respond r p.1 p.2
      | none => d.respondBare r 6
    | none =>
      if late then d.respondBare r 6
      else if r.retry ∧ d.since t.created < ticksOfUs 10000 then d.respondBare r 6
      else if d.rcPerSrc ≤ d.rcOfSrc r.srcType.val r.src.toNat ∨ 8192 ≤ d.rcUsed r.tile then d.respondBare r 5
      else if d.atomicInFlight r then d
      else d.toHome { r := r }

/-! ## Arrival of writes, SYNC and mirror requests (R280 to R282, R287) -/

/-- A request that needs no tracker is still the last of its source's tracker (R279). -/
def Dev.touchTrk (d : Dev) (r : GnReq) : Dev := d.updTrk r.key fun t => { t with job := r.job.val, last := d.raw }

/-- A SYNC (R280). -/
def Dev.syncArrive (d : Dev) (r : GnReq) : Dev :=
  if !GnOp.sync.formOk r then (d.count .POOL_DENY r.tile).respondBare r 4
  else match d.needTrk r with
    | none => d.respondBare r 5
    | some t =>
      let t := { t with job := r.job.val, last := d.raw }
      let t := if t.synced then t else { t with synced := true, w := r.seq.toNat }
      (d.putTrk r.key t).respondBare r 0

/-- A sequenced write (R281, R282, R287): refused, a duplicate, held, or sent to its line home. -/
def Dev.writeArrive (d : Dev) (r : GnReq) (hold : Bool) : Dev :=
  match d.trk r.key with
  | none => d.respondBare r 9
  | some t =>
    let t := { t with job := r.job.val, last := d.raw }
    let d := d.putTrk r.key t
    let s := r.seq.toNat
    if !t.synced then d.respondBare r 9
    else if t.covers s then (d.count .POOL_DUP r.tile).respondBare r 0
    else if t.marks.contains s ∨ t.held.any (fun h => h.r.seq.toNat == s) then d.count .POOL_DUP r.tile
    else if 1024 < (s + 2 ^ 32 - t.w) % 2 ^ 32 then d.respondBare r 11
    else if hold ∧ s ≠ (t.w + 1) % 2 ^ 32 then
      let t := { t with held := t.held ++ [HomeReq.mk r none] }
      d.putTrk r.key (t.timer false d.raw)
    else
      let t := { t with flight := t.flight ++ [s] }
      (d.putTrk r.key (t.timer false d.raw)).toHome { r := r }

/-- A mirror write (R287): against the mirror reserve, otherwise as a flagged write. -/
def Dev.mwriteArrive (d : Dev) (r : GnReq) : Dev :=
  if d.mirrorRsv ≤ ((d.trkHolders r.tile).filter (·.isMirror)).length then d.respondBare r 5
  else d.writeArrive r true

/-- The request as an ordering tile sees a frame. -/
def gnReqOf (f : Frm) : GnReq :=
  let b := f.bytes
  let w4 := beAt b 40 4
  { srcType := Fin.ofNat 4 (fSrcType b), src := BitVec.ofNat 24 (fSrc b), job := Fin.ofNat 4096 (fJob b),
    opcode := BitVec.ofNat 8 (byteAt b 24), tag := BitVec.ofNat 16 (beAt b 26 2), seq := BitVec.ofNat 32 (beAt b 28 4),
    addr := BitVec.ofNat 64 (beAt b 32 8), rackV := bitAt w4 31, rackTag := BitVec.ofNat 16 (w4 % 65536),
    payload := (b.drop 48).take (b.length - 52), poisoned := f.poisoned != [] }

/-- A GN_REQ at its ordering tile: it waits in the input queue while no transaction tracker is free (R295); else its
RACK_TAG acts, and the operation's own rule. -/
def Dev.onGn (d : Dev) (r : GnReq) (f : Dev → Dev) : Dev :=
  if !r.isMirror && !d.trkFree r.tile then d
  else
    let (_, d) := d.takeInbox r.tile 2 fun f => gnReqOf f == r
    f ((d.rack r).pulse r.tile 0x010 1 none none (some r.job))

/-- GN_READ; a request whose OPCODE is reserved is checked at its line home too. -/
def execGnRead (r : GnReq) (s : State) : Host.Outcome State Fault Refusal :=
  run (fun d => d.onGn r fun d => (d.touchTrk r).toHome { r := r }) s

/-- GN_WRITE -/
def execGnWrite (r : GnReq) (s : State) : Host.Outcome State Fault Refusal :=
  run (fun d => d.onGn r fun d => d.writeArrive r false) s

/-- GN_WRITE_PART -/
def execGnWritePart (r : GnReq) (s : State) : Host.Outcome State Fault Refusal :=
  run (fun d => d.onGn r fun d => d.writeArrive r false) s

/-- GN_FWRITE -/
def execGnFwrite (r : GnReq) (s : State) : Host.Outcome State Fault Refusal :=
  run (fun d => d.onGn r fun d => d.writeArrive r true) s

/-- GN_SYNC -/
def execGnSync (r : GnReq) (s : State) : Host.Outcome State Fault Refusal :=
  run (fun d => d.onGn r fun d => d.syncArrive r) s

/-- GN_MWRITE -/
def execGnMwrite (r : GnReq) (s : State) : Host.Outcome State Fault Refusal :=
  run (fun d => d.onGn r fun d => d.mwriteArrive r) s

/-- GN_MREAD -/
def execGnMread (r : GnReq) (s : State) : Host.Outcome State Fault Refusal :=
  run (fun d => d.onGn r fun d => (d.touchTrk r).toHome { r := r }) s

/-- GN_ATOMIC_ADD -/
def execGnAtomicAdd (r : GnReq) (s : State) : Host.Outcome State Fault Refusal :=
  run (fun d => d.onGn r fun d => d.atomicArrive r) s

/-- GN_ATOMIC_SWAP -/
def execGnAtomicSwap (r : GnReq) (s : State) : Host.Outcome State Fault Refusal :=
  run (fun d => d.onGn r fun d => d.atomicArrive r) s

/-- GN_ATOMIC_CAS -/
def execGnAtomicCas (r : GnReq) (s : State) : Host.Outcome State Fault Refusal :=
  run (fun d => d.onGn r fun d => d.atomicArrive r) s

/-- GN_ATOMIC_AND -/
def execGnAtomicAnd (r : GnReq) (s : State) : Host.Outcome State Fault Refusal :=
  run (fun d => d.onGn r fun d => d.atomicArrive r) s

/-- GN_ATOMIC_OR -/
def execGnAtomicOr (r : GnReq) (s : State) : Host.Outcome State Fault Refusal :=
  run (fun d => d.onGn r fun d => d.atomicArrive r) s

/-- GN_ATOMIC_XOR -/
def execGnAtomicXor (r : GnReq) (s : State) : Host.Outcome State Fault Refusal :=
  run (fun d => d.onGn r fun d => d.atomicArrive r) s

/-- GN_ATOMIC_SMIN -/
def execGnAtomicSmin (r : GnReq) (s : State) : Host.Outcome State Fault Refusal :=
  run (fun d => d.onGn r fun d => d.atomicArrive r) s

/-- GN_ATOMIC_SMAX -/
def execGnAtomicSmax (r : GnReq) (s : State) : Host.Outcome State Fault Refusal :=
  run (fun d => d.onGn r fun d => d.atomicArrive r) s

/-- GN_ATOMIC_UMIN -/
def execGnAtomicUmin (r : GnReq) (s : State) : Host.Outcome State Fault Refusal :=
  run (fun d => d.onGn r fun d => d.atomicArrive r) s

/-- GN_ATOMIC_UMAX -/
def execGnAtomicUmax (r : GnReq) (s : State) : Host.Outcome State Fault Refusal :=
  run (fun d => d.onGn r fun d => d.atomicArrive r) s

/-! ## Completion, timers and trackers' end -/

/-- A completion at the ordering tile. -/
def Dev.takeDone (d : Dev) (c : GnDone) : Dev :=
  match gnOp c.r.opcode.toNat with
  | some o =>
    if o.sequenced then
      if retires c.status then d.retire c
      else
        (d.updTrk c.r.key fun t => ({ t with flight := t.flight.filter (· != c.r.seq.toNat) } : Tracker).timer false
          d.raw).respond c.r c.status c.payload
    else if o.isAtomic ∧ c.status ≠ 5 then
      let e : RcEnt := { result := some (c.status, c.payload), job := c.r.job.val, at' := d.raw }
      (d.updPool fun p => { p with rc := p.rc.insert (rcKey c.r.srcType.val c.r.src.toNat c.r.tag.toNat) e }).respond
        c.r c.status c.payload
    else d.respond c.r c.status c.payload
  | none => d.respond c.r c.status c.payload

/-- LINE_HOME_COMPLETION: the oldest completion at an ordering tile. -/
def Dev.homeCompletion (d : Dev) (t : Nat) : Dev :=
  match d.pool.comp.at [] t with
  | [] => d
  | c :: _ => (d.updPool fun p => { p with comp := p.comp.upd [] t (·.drop 1) }).takeDone c

/-- LINE_HOME_COMPLETION -/
def execLineHomeCompletion (tile : Fin 16) (s : State) : Host.Outcome State Fault Refusal :=
  run (·.homeCompletion tile) s

/-- The gap timer of a source reaches 2 ms (R283). -/
def Dev.gapExpire (d : Dev) (k : Nat) : Dev :=
  match d.trk k with
  | none => d
  | some t =>
    if t.gap = none then d
    else
      let d := d.putTrk k { t with held := [], gap := none }
      let d := d.each t.held fun d h => d.respondBare h.r 7
      (d.count .POOL_GAP (keyTile k)).raise (keyTile k) 8 (instDie (keyTile k)) t.job

/-- GAP_TIMEOUT -/
def execGapTimeout (srcType : Fin 4) (src : BitVec 24) (s : State) : Host.Outcome State Fault Refusal :=
  run (·.gapExpire (srcKey srcType src.toNat)) s

/-- A result is 10 ms old (R285): freed, and EVICT_HI takes its tag if the tag lies after it. -/
def Dev.rcExpire (d : Dev) (ty src tag : Nat) : Dev :=
  match d.pool.rc.find (rcKey ty src tag) with
  | some e =>
    if e.result.isNone then d
    else
      let d := d.updPool fun p => { p with rc := p.rc.erase (rcKey ty src tag) }
      let d := d.updTrk (srcKey ty src) fun t =>
        { t with evictHi := match t.evictHi with
          | some h => if 1 ≤ (tag + 65536 - h) % 65536 ∧ (tag + 65536 - h) % 65536 < 32768 then some tag else some h
          | none => some tag }
      d.count .POOL_RC_EXPIRE (orderTile ty src)
  | none => d

/-- RC_ENTRY_EXPIRE -/
def execRcEntryExpire (srcType : Fin 4) (src : BitVec 24) (tag : BitVec 16) (s : State) :
    Host.Outcome State Fault Refusal := run (·.rcExpire srcType src.toNat tag.toNat) s

/-- A tombstone is freed (R285). -/
def Dev.tombFree (d : Dev) (ty src tag : Nat) : Dev :=
  match d.pool.rc.find (rcKey ty src tag) with
  | some e => if e.result.isNone then d.updPool fun p => { p with rc := p.rc.erase (rcKey ty src tag) } else d
  | none => d

/-- TOMBSTONE_FREE -/
def execTombstoneFree (srcType : Fin 4) (src : BitVec 24) (tag : BitVec 16) (s : State) :
    Host.Outcome State Fault Refusal := run (·.tombFree srcType src.toNat tag.toNat) s

/-- SRC_IDLE in ticks: from 11 ms; lower values act as 11 (Table 12.8). -/
def Dev.srcIdle (d : Dev) : Nat := ticksOfUs (1000 * max 11 (d.get F.POOL_CFG.SRC_IDLE 0))

/-- A tracker with nothing held and no request for SRC_IDLE is freed (R279). -/
def Dev.trkFreeIdle (d : Dev) (ty src : Nat) : Dev :=
  let k := srcKey ty src
  match d.trk k with
  | none => d
  | some t =>
    if t.held = [] ∧ t.flight = [] ∧ d.rcOfSrc ty src = 0 ∧ d.srcIdle ≤ d.since t.last then
      d.updPool fun p => { p with trk := p.trk.erase k }
    else d

/-- SOURCE_TRACKER_FREE -/
def execSourceTrackerFree (srcType : Fin 4) (src : BitVec 24) (s : State) : Host.Outcome State Fault Refusal :=
  run (·.trkFreeIdle srcType src.toNat) s

end Sys2Proof.Machine
end

