-- ==== Sys2Proof/Machine/Window.lean ====
section
/-! DEFINITION. The Gnoari pool's windows (chapter 12): the window table and its commands, zeroing, loss of a partner,
resilvering, the responses that the device consumes, and what a job's teardown does to the pool. -/
namespace Sys2Proof.Machine

/-! ## The line homes' own requests: acknowledgement, loss and resending (R280, R286 to R288) -/

/-- The streams' places at a tile or at any tile. -/
def Dev.mstKeys (d : Dev) : List (Nat × Nat) := d.pool.mst.map fun e => Nat.unpair e.1

/-- The requests of a list of items complete: their line is executed. -/
def Dev.releaseItems (d : Dev) (l : List MItem) : Dev :=
  d.each l fun d m => match m.waiter with | some c => d.toOrder c | none => d

/-- Of a window's items that a test selects, those sent as MWRITE become orphans, which keep the stream without a gap;
the others leave their streams; the requests that wait for them complete (R288). -/
def Dev.orphanItems (d : Dev) (w : Nat) (p : MItem → Bool) : Dev :=
  let sel (m : MItem) : Bool := m.win == w && !m.orphan && p m
  d.each d.mstKeys fun d k =>
    let s := d.mstream k.1 k.2
    let gone := (s.out ++ s.wait).filter sel
    let d := d.updMst k.1 k.2 fun s =>
      { s with wait := s.wait.filter fun m => !sel m,
               out := (s.out.filter fun m => !(sel m && m.read)).map fun m =>
                 if sel m then { m with waiter := none, copy := none, orphan := true } else m }
    (d.releaseItems gone).drainMst k.1 k.2 (d.mstream k.1 k.2).wait.length

/-- Requests held for a window, at line homes and ordering tiles, will complete with a status. -/
def Dev.forceHeld (d : Dev) (w status : Nat) : Dev :=
  let f (q : HomeReq) : HomeReq := if q.r.win = w ∧ q.force.isNone then { q with force := some status } else q
  d.updPool fun p => { p with home := p.home.map fun e => (e.1, e.2.map f),
                              trk := p.trk.map fun e => (e.1, { e.2 with held := e.2.held.map f }) }

/-- A change of a window's lines has been executed and waits for the partner. -/
def Dev.mirrorOpen (d : Dev) (w : Nat) : Bool :=
  d.pool.mst.any fun e => (e.2.out ++ e.2.wait).any fun m => m.win == w && !m.orphan && m.waiter.isSome

/-- A closing window whose changes are all complete is FREE; a command that waited for it ends (R274). -/
def Dev.closeEnds (d : Dev) : Dev :=
  d.each d.pool.closing fun d e =>
    if d.mirrorOpen e.1 then d
    else
      let d := (d.updPool fun p => { p with closing := p.closing.erase e.1 }).set F.POOL_WIN.STATE e.1 0
      if e.2 = 0 then d else ((d.setB F.POOL_WIN_CMD.GO 0 false).irq (e.2 - 1) 4).genBump

/-- A line home declares a window's partner lost (R288 to R290). -/
def Dev.partnerLost (d : Dev) (t w : Nat) : Dev :=
  let d := (d.count .POOL_SRC_GIVEUP t).orphanItems w fun _ => true
  let d := d.updPool fun p => { p with resil := p.resil.erase w }
  let d := match d.winState w with
    | 3 => (d.set F.POOL_WIN.STATE w 5).raise t 9 (instWin w)
    | 6 => (d.set F.POOL_WIN.STATE w 5).raise t 9 (instWin w)
    | 7 => ((d.forceHeld w 8).set F.POOL_WIN.STATE w 8).raise t 10 (instWin w)
    | _ => d
  d.closeEnds

/-- The items of a window that are sent and unanswered, with their line homes. -/
def Dev.unanswered (d : Dev) (w : Nat) : List Nat :=
  d.pool.mst.flatMap fun e => (e.2.out.filter fun m => m.win == w && !m.orphan).map fun _ => (Nat.unpair e.1).1

/-- MIRROR_TIMEOUT: a request of a window has been unanswered for MIRROR_TO; an acknowledgement that came first is
taken (Table 12.7). The count and the event name the lowest line home that waits. -/
def Dev.mirrorTimeout (d : Dev) (w : Nat) : Dev :=
  match d.unanswered w with
  | [] => d
  | t :: r => d.partnerLost (r.foldl min t) w

/-- MIRROR_TIMEOUT -/
def execMirrorTimeout (window : Fin 4096) (s : State) : Host.Outcome State Fault Refusal :=
  run (·.mirrorTimeout window) s

/-- A line of the granule being copied is done. -/
def Dev.lineDone (d : Dev) (w off : Nat) : Dev :=
  d.updResil w fun x =>
    if x.cur = some (off / 4096) ∧ !x.lines.contains (off / 128 % 32) then
      { x with lines := x.lines ++ [off / 128 % 32] } else x

/-- An item is acknowledged: its request completes, or its line of a copy is done. -/
def Dev.itemDone (d : Dev) (m : MItem) : Dev :=
  let d := d.releaseItems [m]
  match m.copy with | some off => d.lineDone m.win off | none => d

/-- ACK_SEQ acts on a stream: every MWRITE at or before it is acknowledged (R281). -/
def Dev.ackMst (d : Dev) (t p ack : Nat) : Dev :=
  let s := d.mstream t p
  let acked (m : MItem) : Bool := !m.read && !serialAfter m.seq ack
  let d := d.updMst t p fun s =>
    { s with out := s.out.filter fun m => !acked m, acked := if serialAfter ack s.acked then ack else s.acked }
  let d := d.each (s.out.filter acked) fun d m => d.itemDone m
  (d.drainMst t p (d.mstream t p).wait.length).closeEnds

/-- The line of an MREAD arrives: written locally, or zero with a bad CRC after DATA_ERROR (R290). -/
def Dev.readDone (d : Dev) (t p : Nat) (m : MItem) (ok : Bool) (data : List Byte) : Dev :=
  let d := d.updMst t p fun s => { s with out := s.out.filter fun x => !(x.read && x.seq == m.seq) }
  match m.copy with
  | none => d
  | some off =>
    let a := d.winPos m.win off
    let d := d.poolWrite a (if ok then data.take 128 else List.replicate 128 0)
    (d.setBad (a / 128) (!ok)).lineDone m.win off

/-- Mark a sent item as answered BUSY. -/
def Dev.itemBusy (d : Dev) (t p : Nat) (read : Bool) (seq : Nat) : Dev :=
  d.updMst t p fun s => { s with out := s.out.map fun m =>
    if m.read == read && m.seq == seq then { m with busy := true } else m }

/-- A GN_RESP at a line home (R287, R288, R290, R293): ACK_SEQ of every response to a SYNC or a sequenced write of the stream
acts, whether or not the write is still outstanding (R281, R292). -/
def Dev.mirrorResp (d : Dev) (t : Nat) (r : GnResp) : Dev :=
  let p := r.src.toNat / 2 ^ 16
  let s := d.mstream t p
  let st := r.status.toNat
  if r.srcType.val ≠ 1 ∨ (d.pool.mst.find (key2 t p)).isNone then d
  else match r.opcode.toNat with
  | 5 =>
    let d := if s.sync ∧ r.seq.toNat = s.acked ∧ st = 0 then d.updMst t p fun s => { s with sync := false } else d
    d.ackMst t p r.ackSeq.toNat
  | 6 =>
    let d := match s.out.find? (fun m => !m.read && m.seq == r.seq.toNat && m.addr == r.addr.toNat) with
      | none => d
      | some m =>
        if st = 5 then d.itemBusy t p false m.seq
        else if st = 9 then (if s.sync then d else d.syncMst t p)
        else if st ≠ 0 ∧ !m.orphan then d.partnerLost t m.win
        else d
    d.ackMst t p r.ackSeq.toNat
  | 7 =>
    match s.out.find? (fun m => m.read && m.addr == r.addr.toNat) with
    | none => d
    | some m =>
      if st = 0 ∧ !r.poisoned then d.readDone t p m true r.payload
      else if st = 1 ∨ r.poisoned then d.readDone t p m false []
      else if st = 5 then d.itemBusy t p true m.seq
      else d
  | _ => d

/-- The frame as the tile at which it entered sees it. -/
def gnRespOf (f : Frm) : GnResp :=
  let b := f.bytes
  { dst := BitVec.ofNat 16 (fDst b), srcType := Fin.ofNat 4 (fSrcType b), src := BitVec.ofNat 24 (fSrc b),
    opcode := BitVec.ofNat 8 (byteAt b 24), status := BitVec.ofNat 8 (byteAt b 25), tag := BitVec.ofNat 16 (beAt b 26 2),
    seq := BitVec.ofNat 32 (beAt b 28 4), addr := BitVec.ofNat 64 (beAt b 32 8), ackSeq := BitVec.ofNat 32 (beAt b 40 4),
    payload := (b.drop 48).take (b.length - 52), poisoned := f.poisoned != [] }

/-- Offer a response to Cabinet dies in turn; each that matches takes it. -/
def Dev.offerDies (d : Dev) (r : GnResp) (l : List Nat) : Bool × Dev :=
  l.foldl (fun x die => let y := x.2.noticeResp die r; (x.1 || y.1, y.2)) (false, d)

/-- A GN_RESP that the device consumes is steered (R293): to the tile or Cabinet die that its DST names, else by its OPCODE. A
tile takes every response steered to it, a Cabinet die only one that it waits for. -/
def Dev.respConsumed (d : Dev) (tile : Nat) (r : GnResp) : Dev :=
  let (_, d) := d.takeInbox tile 4 fun f => gnRespOf f == r
  let u := r.dst.toNat
  let op := r.opcode.toNat
  let res :=
    if u ≠ 0 then
      if u < 16 then (true, d.mirrorResp u r)
      else if u / 4096 = 1 ∧ u % 4096 < 8 then d.noticeResp (u % 4096) r
      else (false, d)
    else if op = 5 ∨ op = 6 ∨ op = 7 then (true, d.mirrorResp (r.tag.toNat / 4096) r)
    else if op = 4 then d.offerDies r (List.range 8)
    else (false, d)
  if res.1 then res.2 else d.count .POOL_RESP_UNMATCHED tile

/-- GN_RESP_CONSUMED -/
def execGnRespConsumed (tile : Fin 16) (r : GnResp) (s : State) : Host.Outcome State Fault Refusal :=
  run (·.respConsumed tile r) s

/-- MIRROR_RESEND: an unanswered request of a line home, or the SYNC of its stream, is sent again (R284, R292). -/
def Dev.mirrorResend (d : Dev) (t p seq : Nat) : Dev :=
  let s := d.mstream t p
  if s.sync then d.sendGnReq t p 5 (mtag t s.acked) s.acked (p * 2 ^ 56) []
  else match s.out.find? (fun m => m.seq == seq && !m.busy) with
    | none => d
    | some m => d.sendItem t p m

/-- MIRROR_RESEND -/
def execMirrorResend (tile : Fin 16) (place : BitVec 8) (seq : BitVec 32) (s : State) :
    Host.Outcome State Fault Refusal := run (·.mirrorResend tile place.toNat seq.toNat) s

/-- MIRROR_BUSY_RETRY: 10 µs after BUSY the request is sent again and counted (R287); an MWRITE not while a SYNC of its stream
is unanswered (R280). -/
def Dev.mirrorBusyRetry (d : Dev) (t p seq : Nat) : Dev :=
  match (d.mstream t p).out.find? (fun m => m.seq == seq && m.busy) with
  | none => d
  | some m =>
    if (d.mstream t p).sync && !m.read then d
    else ((d.updMst t p fun s =>
        { s with out := s.out.map fun x => if x = m then { x with busy := false } else x }).count .POOL_MIRROR_RETRY
          t).sendItem t p m

/-- MIRROR_BUSY_RETRY -/
def execMirrorBusyRetry (tile : Fin 16) (place : BitVec 8) (seq : BitVec 32) (s : State) :
    Host.Outcome State Fault Refusal := run (·.mirrorBusyRetry tile place.toNat seq.toNat) s

/-! ## Resilvering (R289, R290) -/

/-- Queue the 32 lines of a granule at its line home. -/
def Dev.startGranule (d : Dev) (w g : Nat) : Dev :=
  let p := d.get F.POOL_WIN.PARTNER_PLACE w
  let t := homeOf (d.winPos w (g * 4096))
  let d := d.updResil w fun x => { x with cur := some g, lines := [], head := x.head.filter (· != g) }
  d.each (List.range 32) fun d l =>
    let off := g * 4096 + 128 * l
    d.queueItem t p
      { seq := 0, read := d.winState w == 7, win := w, waiter := none, copy := some off,
        addr := p * 2 ^ 56 + d.get F.POOL_WIN.PARTNER_WIN w * 2 ^ 44 + off,
        data := if d.winState w = 7 then [] else Memory.readN d.pool.mem (d.winPos w off) 128 }

/-- Copied granules next to the run of copied ones join it. -/
def absorb (low : Nat) (l : List Nat) : Nat → List Nat
  | 0 => l
  | n + 1 => if l.contains low then absorb (low + 1) (l.filter (· != low)) n else l

/-- A granule has been copied: its requests are released, COPY_PTR advances, and the next granule starts, or the window
enters PRIMARY. A RESILVER_PULL takes first the granule that a request moved to the head. -/
def Dev.granuleDone (d : Dev) (w : Nat) : Dev :=
  let x := d.resilOf w
  match x.cur with
  | none => d
  | some g =>
    if x.lines.length < 32 then d
    else
      let ptr := d.get F.POOL_WIN.COPY_PTR w
      let l := x.copied ++ [g]
      let l := absorb (ptr - x.copied.length) l l.length
      let d := d.set F.POOL_WIN.COPY_PTR w (ptr + 1)
      if d.get F.POOL_WIN.SIZE_GIB w * 2 ^ 18 ≤ ptr + 1 then
        (d.updPool fun p => { p with resil := p.resil.erase w }).set F.POOL_WIN.STATE w 3
      else
        let d := d.updResil w fun x => { x with cur := none, lines := [], copied := l }
        let next := match x.head.find? (fun h => h != g && !d.copied w h) with
          | some h => h
          | none => ptr + 1 - l.length
        d.startGranule w next

/-- RESILVER_GRANULE_DONE -/
def execResilverGranuleDone (window : Fin 4096) (s : State) : Host.Outcome State Fault Refusal :=
  run (·.granuleDone window) s

/-! ## Window commands (R274) -/

/-- A window's range is legal: it has a size, lies in the partition and meets no window outside FREE. -/
def Dev.rangeOk (d : Dev) (w : Nat) : Bool :=
  let b := d.get F.POOL_WIN.BASE_GIB w
  let n := d.get F.POOL_WIN.SIZE_GIB w
  decide (0 < n ∧ b + n ≤ d.get F.POOL_PART.GIB 0) &&
    (List.range 4096).all fun v => v == w || d.winState v == 0 ||
      decide (b + n ≤ d.get F.POOL_WIN.BASE_GIB v ∨
        d.get F.POOL_WIN.BASE_GIB v + d.get F.POOL_WIN.SIZE_GIB v ≤ b)

/-- The mirror fields of a window are legal. -/
def Dev.mirrorOk (d : Dev) (w : Nat) : Bool :=
  d.bit F.POOL_WIN.MIRROR_V w && d.get F.POOL_WIN.PARTNER_PLACE w != d.place

/-- A window closes (R274): at once, or after the changes that have begun and wait for the partner; the Desk whose command it
is, if any, is told then. -/
def Dev.closeWin (d : Dev) (w : Nat) (desk : Option Nat) : Dev :=
  let d := (d.forceHeld w 3).orphanItems w fun m => m.copy.isSome
  let d := d.updPool fun p => { p with resil := p.resil.erase w, target := p.target.erase w }
  if d.mirrorOpen w then
    d.updPool fun p => { p with closing := p.closing.insert w (match desk with | some k => k + 1 | none => 0) }
  else d.set F.POOL_WIN.STATE w 0

/-- A window is marked lost (R291). -/
def Dev.winLost (d : Dev) (w : Nat) : Dev :=
  let d := (d.forceHeld w 8).orphanItems w fun m => m.copy.isSome
  (d.updPool fun p => { p with resil := p.resil.erase w, target := p.target.erase w }).set F.POOL_WIN.STATE w 8

/-- A window enters OPENING toward a state. -/
def Dev.opening (d : Dev) (w target : Nat) : Dev :=
  ((d.updPool fun p => { p with target := p.target.insert w target }).set F.POOL_WIN.COPY_PTR w 0).set
    F.POOL_WIN.STATE w 1

/-- A window starts to be copied. -/
def Dev.resilver (d : Dev) (w state : Nat) : Dev :=
  let d := (d.set F.POOL_WIN.STATE w state).set F.POOL_WIN.COPY_PTR w 0
  (d.updPool fun p => { p with resil := p.resil.insert w {} }).startGranule w 0

/-- A window command: its STATUS and the new state. The state is checked first, then the mirror fields, then the range
(DEDUCED, log 106: R274 gives no order). -/
def Dev.winRun (d : Dev) (desk op w : Nat) : Nat × Dev :=
  let st := d.winState w
  let mirror := d.bit F.POOL_WIN.MIRROR_V w
  match op with
  | 0 =>
    if st ≠ 0 then (1, d)
    else if mirror && !d.mirrorOk w then (3, d)
    else if !d.rangeOk w then (2, d)
    else (0, d.opening w (if mirror then 3 else 2))
  | 1 =>
    if st ≠ 0 then (1, d)
    else if !d.mirrorOk w then (3, d)
    else if !d.rangeOk w then (2, d)
    else (0, d.opening w 4)
  | 2 =>
    if st = 0 ∨ st = 1 ∨ (d.pool.closing.find w).isSome then (1, d) else (0, d.closeWin w (some desk))
  | 3 => if st ≠ 5 then (1, d) else if !d.mirrorOk w then (3, d) else (0, d.resilver w 6)
  | 4 =>
    if st ≠ 0 then (1, d)
    else if !d.mirrorOk w then (3, d)
    else if !d.rangeOk w then (2, d)
    else (0, d.resilver w 7)
  | 5 => if st = 0 then (1, d) else (0, d.winLost w)
  | _ => (4, d)

/-- A write of POOL_WIN_CMD with GO = 1 through a Desk: the command runs, its STATUS is stored, and CMD_DONE is raised at
that Desk. A CLOSE that waits for changes of the window keeps GO at 1 until they are complete, and a further GO is then
discarded (R274, Table 0.5). -/
def Dev.winCmd (d : Dev) (desk op w : Nat) : Dev :=
  if d.bit F.POOL_WIN_CMD.GO 0 then d
  else
    let (st, d) := d.winRun desk op w
    let waits := op == 2 && st == 0 && (d.pool.closing.find w).isSome
    let d := if st = 0 ∧ !waits then d.genBump else d
    let d := d.wr .POOL_WIN_CMD 0 0 (BitVec.ofNat 32 (waits.toNat * 2 ^ 31 + op * 2 ^ 28 + st * 2 ^ 16 + w))
    if waits then d else d.irq desk 4

/-- POOL_WIN_OPEN -/
def execPoolWinOpen (a : Access) (window : Fin 4096) (s : State) : Host.Outcome State Fault Refusal :=
  run (fun d => d.onWrite a .POOL_WIN_CMD 0 0 (·.winCmd a.deskB.toNat 0 window)) s

/-- POOL_WIN_OPEN_MIRROR -/
def execPoolWinOpenMirror (a : Access) (window : Fin 4096) (s : State) : Host.Outcome State Fault Refusal :=
  run (fun d => d.onWrite a .POOL_WIN_CMD 0 0 (·.winCmd a.deskB.toNat 1 window)) s

/-- POOL_WIN_CLOSE -/
def execPoolWinClose (a : Access) (window : Fin 4096) (s : State) : Host.Outcome State Fault Refusal :=
  run (fun d => d.onWrite a .POOL_WIN_CMD 0 0 (·.winCmd a.deskB.toNat 2 window)) s

/-- POOL_WIN_RESILVER_PUSH -/
def execPoolWinResilverPush (a : Access) (window : Fin 4096) (s : State) : Host.Outcome State Fault Refusal :=
  run (fun d => d.onWrite a .POOL_WIN_CMD 0 0 (·.winCmd a.deskB.toNat 3 window)) s

/-- POOL_WIN_RESILVER_PULL -/
def execPoolWinResilverPull (a : Access) (window : Fin 4096) (s : State) : Host.Outcome State Fault Refusal :=
  run (fun d => d.onWrite a .POOL_WIN_CMD 0 0 (·.winCmd a.deskB.toNat 4 window)) s

/-- POOL_WIN_MARK_LOST -/
def execPoolWinMarkLost (a : Access) (window : Fin 4096) (s : State) : Host.Outcome State Fault Refusal :=
  run (fun d => d.onWrite a .POOL_WIN_CMD 0 0 (·.winCmd a.deskB.toNat 5 window)) s

/-- WINDOW_ZERO_DONE: every line of a window in OPENING is zero with a valid CRC, and the window enters its target. -/
def Dev.zeroDone (d : Dev) (w : Nat) : Dev :=
  if d.winState w ≠ 1 then d
  else
    let a := d.winPos w 0
    let n := d.winSize w
    let target := (d.pool.target.find w).getD 2
    let d := d.updPool fun p =>
      { p with mem := Memory.clear p.mem a n, target := p.target.erase w,
               bad := p.bad.filter fun e => decide (e.1 < a / 128 ∨ (a + n) / 128 ≤ e.1) }
    d.set F.POOL_WIN.STATE w target

/-- WINDOW_ZERO_DONE -/
def execWindowZeroDone (window : Fin 4096) (s : State) : Host.Outcome State Fault Refusal :=
  run (·.zeroDone window) s

/-- A write to a window entry: the RW fields in FREE, the partner fields in DEGRADED; any other write is
counted in POOL_LATE_WR (R272). -/
def Dev.winWrite (d : Dev) (w word : Nat) (v : Word) : Dev :=
  let st := d.winState w
  if st = 0 ∨ (st = 5 ∧ word = 2) then
    if (Reg.POOL_WIN.masks word).rw = 0 then d else (d.writeRw .POOL_WIN w word v).genBump
  else d.count .POOL_LATE_WR

/-- POOL_WIN_WRITE -/
def execPoolWinWrite (a : Access) (window : Fin 4096) (word : Fin 8) (v : Word) (s : State) :
    Host.Outcome State Fault Refusal :=
  run (fun d => d.onWrite a .POOL_WIN window word (·.winWrite window word v)) s

/-! ## Teardown of a job (R291) -/

/-- A job is torn down: its windows close, its held writes and results go, its trackers are freed. -/
def Dev.poolTeardown (d : Dev) (j : Nat) : Dev :=
  let d := d.each (List.range 4096) fun d w =>
    if d.get F.POOL_WIN.JOB w = j ∧ d.winState w ≠ 0 then d.closeWin w none else d
  d.updPool fun p =>
    { p with rc := p.rc.filter fun e => e.2.job != j,
             trk := (p.trk.filter fun e => e.2.job != j).map fun e =>
               (e.1, { e.2 with held := e.2.held.filter fun h => h.r.job.val != j }) }

end Sys2Proof.Machine
end

