-- ==== Sys2Proof/Machine/Mantel.lean ====
section
/-! DEFINITION. The Mantel (chapter 13): alignment records, parameter updates, Coat Racks, the PTP path, the pulse pins
and the arming of launch entries. -/
namespace Sys2Proof.Machine

/-- Change the time base. -/
def Dev.updTime (d : Dev) (f : TimeSt → TimeSt) : Dev := { d with time := f d.time }

/-- The Bureau unit of a die that keeps time: tile, Cabinet die, control die of the Sideboard, Desk. -/
def timeUnit (die : Nat) : Nat :=
  if die < 16 then die else if die < 24 then 16 + die else if die < 26 then 40 else 15 + die

/-! ## Sync records (R297) -/

/-- MANTEL_SYNC_RECORD: a die finds its raw counter `diff` ticks from the compensated value; a difference of one tick or
more sets the counter right, is counted and raised. -/
def Dev.syncRecord (d : Dev) (die : Nat) (diff : Int) : Dev :=
  if diff = 0 then d
  else
    let d := if die < 16 then d.count .MNT_ALIGN_ERR die else d
    d.raise (timeUnit die) 13 (instDie die)

/-- MANTEL_SYNC_RECORD -/
def execMantelSyncRecord (die : Fin 28) (diff : Int) (s : State) : Host.Outcome State Fault Refusal :=
  run (·.syncRecord die diff) s

/-! ## Parameter updates (R299 to R303) -/

/-- Ticks from a write to its c_u (R299). -/
def cuTicks : Nat := 1600

/-- A parameter update is pending. -/
def Dev.updPend (d : Dev) : Bool := d.time.upd.isSome

/-- Schedule a parameter update. -/
def Dev.schedule (d : Dev) (rate : Option Int) (step : Int) : Dev :=
  (d.updTime fun t => { t with upd := some { at' := t.raw + cuTicks, rate := rate, step := step } }).setB
    F.MNT_CTL.UPD_PEND 0 true

/-- A write to MNT_RATE (R299, R303). -/
def Dev.rateWrite (d : Dev) (v : Word) : Dev :=
  if d.updPend then d.count .MNT_LATE_WR
  else
    let d := (d.wr .MNT_RATE 0 0 v).setB F.MNT_CTL.HOLDOVER 0 false
    (d.updTime fun t => { t with watch := some t.raw }).schedule (some v.toInt) 0

/-- RATE_WRITE -/
def execRateWrite (a : Access) (v : Word) (s : State) : Host.Outcome State Fault Refusal :=
  run (fun d => d.onWrite a .MNT_RATE 0 0 (·.rateWrite v)) s

/-- The low word staged in a 64-bit register, or the stored low word (R11), and the register no longer staged. -/
def Dev.takeStaged (d : Dev) (r : Reg) (i w : Nat) : Word × Dev :=
  ((d.bus.staged.find (rkey r i w)).getD (d.rd r i w),
   { d with bus := { d.bus with staged := d.bus.staged.erase (rkey r i w) } })

/-- A write of the high word of MNT_STEP: the register takes both words (R11, R301). A pending update is looked at first
(DEDUCED, log 112). -/
def Dev.stepCommit (d : Dev) (v : Word) : Dev :=
  let (lo, d) := d.takeStaged .MNT_STEP 0 0
  let d := (d.wr .MNT_STEP 0 0 lo).wr .MNT_STEP 0 1 v
  if d.updPend then d.count .MNT_LATE_WR
  else if !d.bit F.MNT_CTL.STEP_ARMED 0 then d.count .MNT_STEP_REFUSED
  else (d.setB F.MNT_CTL.STEP_ARMED 0 false).schedule none (BitVec.toInt (v ++ lo))

/-- STEP_COMMIT -/
def execStepCommit (a : Access) (v : Word) (s : State) : Host.Outcome State Fault Refusal :=
  run (fun d => d.onWrite a .MNT_STEP 0 1 (·.stepCommit v)) s

/-- STEP_ARM = 1 written through a Desk (R301). -/
def Dev.stepArm (d : Dev) (desk : Nat) : Dev :=
  (d.setB F.MNT_CTL.STEP_ARMED 0 true).raise (41 + desk) 6 (instDie (26 + desk))

/-- STEP_ARM -/
def execStepArm (a : Access) (s : State) : Host.Outcome State Fault Refusal :=
  run (fun d => d.onWrite a .MNT_CTL 0 0 (·.stepArm a.deskB.toNat)) s

/-- SNAP (R302). -/
def Dev.timeSnap (d : Dev) : Dev :=
  (d.wrWide .MNT_SNAP_RAW 0 0 d.raw 2).wrWide .MNT_SNAP_TIME 0 0 d.time.ext 2

/-- TIME_SNAP -/
def execTimeSnap (a : Access) (s : State) : Host.Outcome State Fault Refusal :=
  run (fun d => d.onWrite a .MNT_CTL 0 0 (·.timeSnap)) s

/-- The condition of R311. -/
def Dev.launchDue (d : Dev) (l : Nat) : Bool := decide ((d.now + 2 ^ 32 - l % 2 ^ 32) % 2 ^ 32 < 2 ^ 31)

/-- Apply a parameter update at its c_u (R299, R301). -/
def TimeSt.apply (t : TimeSt) (u : TimeUpd) : TimeSt :=
  let x := t.at u.at'
  match u.rate with
  | some r => { t with baseT := x, baseC := u.at', rate := r, upd := none }
  | none => { t with baseT := (((x : Int) + u.step * 2 ^ 48) % (2 ^ 112 : Int)).toNat, baseC := u.at', upd := none }

/-- PARAM_UPDATE: at c_u the new parameters are in force; an entry whose condition a step makes true fires early. -/
def Dev.paramUpdate (d : Dev) : Dev :=
  match d.time.upd with
  | none => d
  | some u =>
    let old := d
    let d := (d.updTime fun t => t.apply u).setB F.MNT_CTL.UPD_PEND 0 false
    d.updTime fun t => { t with launch := t.launch.map fun e =>
      (e.1, if u.rate.isNone && !old.launchDue e.2.time && d.launchDue e.2.time then { e.2 with early := true }
            else e.2) }

/-- PARAM_UPDATE -/
def execParamUpdate (s : State) : Host.Outcome State Fault Refusal := run (·.paramUpdate) s

/-- HOLDOVER_TIMEOUT: SERVO_TO has passed with no accepted rate write (R303). -/
def Dev.holdover (d : Dev) : Dev :=
  if d.time.watch.isNone ∨ d.get F.MNT_CTL.SERVO_TO 0 = 0 ∨ d.bit F.MNT_CTL.HOLDOVER 0 then d
  else (d.setB F.MNT_CTL.HOLDOVER 0 true).raise (41 + d.master) 5 (instDie (26 + d.master))

/-- HOLDOVER_TIMEOUT -/
def execHoldoverTimeout (s : State) : Host.Outcome State Fault Refusal := run (·.holdover) s

/-! ## Reads of a Coat Rack (R306) -/

/-- The latch of a Desk and path takes a register's high word (R11). -/
def Dev.latch (d : Dev) (a : Access) (k : Nat) (v : Word) : Dev :=
  { d with bus := { d.bus with latch := d.bus.latch.put none (2 * a.deskB.toNat + a.eth.toNat) (some (k, v)) } }

/-- Carry out a read of a register word if the access reaches it; a read that does not reach it answers zero. -/
def Dev.onRead (d : Dev) (a : Access) (r : Reg) (i w : Nat) (f : Dev → Word × Dev) : Dev :=
  let addr := regAddr r i w
  match d.gate a addr with
  | .silent => if d.deskUp a.deskB.toNat && !a.eth then d.emit (.read a.deskB a.eth addr 0) else d
  | .cause n => (d.accErr a n addr false).emit (.read a.deskB a.eth addr 0)
  | .ok => let (v, d) := f d; d.emit (.read a.deskB a.eth addr v)

/-- The high word of a Coat Rack entry (Table 13.1). -/
def CoatEnt.high (e : CoatEnt) : Nat := 2 ^ 31 + e.port % 2048 * 2 ^ 16 + e.tsId % 2 ^ 16

/-- Remove the head entry of a Coat Rack. -/
def Dev.coatPop (d : Dev) (a : Access) (rack : Nat) (k : Nat) : Word × Dev :=
  match d.time.coat.at [] rack with
  | [] => (0, d.latch a k 0)
  | e :: r =>
    let d := d.updTime fun t => { t with coat := t.coat.put [] rack r }
    let d := if rack < 16 then d.set F.MNT_CR_STAT.HELD rack r.length
      else d.set F.MNT_CR_STAT_DESK.HELD (rack - 16) r.length
    (BitVec.ofNat 32 e.time, d.latch a k (BitVec.ofNat 32 e.high))

/-- A low-word read of MNT_CR_POP. -/
def Dev.coatRead (d : Dev) (a : Access) (which : CoatSel) : Dev :=
  match which with
  | .tile t => d.onRead a .MNT_CR_POP t 0 fun d => d.coatPop a t (rkey .MNT_CR_POP t 0)
  | .desk => d.onRead a .MNT_CR_POP_DESK a.deskB.toNat 0 fun d =>
      d.coatPop a (16 + a.deskB.toNat) (rkey .MNT_CR_POP_DESK a.deskB.toNat 0)

/-- COAT_RACK_POP -/
def execCoatRackPop (a : Access) (which : CoatSel) (s : State) : Host.Outcome State Fault Refusal :=
  run (·.coatRead a which) s

/-! ## PTP path (R307) -/

/-- PORT of a Desk's management port (Table 13.1). -/
def mgmtPort : Nat := 0x400

/-- EtherType of a PTP message. -/
def ptpType : Nat := 0x88F7

/-- A frame received on a Desk's management port: one of EtherType 0x88F7 goes to the receive ring. -/
def Dev.mgmtPtp (d : Dev) (desk : Nat) (b : List Byte) : Dev :=
  if d.deskUp desk ∧ beAt b 12 2 = ptpType then d.ptpRx desk d.now mgmtPort b else d

/-- MGMT_PTP_RX -/
def execMgmtPtpRx (deskB : Bool) (frame : List Byte) (s : State) : Host.Outcome State Fault Refusal :=
  run (·.mgmtPtp deskB.toNat frame) s

/-- The ETH_TIME frame that carries an Ethernet frame, with TS_REQ and TS_ID and its STAMP (R129). -/
def ethTime (vid tsId stamp : Nat) (tsReq : Bool) (eth : List Byte) : List Byte :=
  let h := beBytes 1 0x11 ++ beBytes 1 0x03 ++ beBytes 2 (24 + eth.length) ++ beBytes 1 (if tsReq then 8 else 0) ++
    beBytes 3 0 ++ beBytes 3 0 ++ beBytes 1 0 ++ beBytes 2 vid ++ beBytes 2 0 ++ beBytes 2 tsId ++ beBytes 4 stamp
  h ++ beBytes 2 (crc16 h) ++ eth

/-- The frame in a Desk's transmit buffer. -/
def Dev.txBuffer (d : Dev) (desk n : Nat) : List Byte :=
  ((List.range 512).flatMap fun k => leBytes 4 (d.rd .MNT_PTP_TX_BUF (512 * desk + k)).toNat).take n

/-- A write of MNT_PTP_TX through a Desk; GO = 1 sends the frame. A LEN outside 64 to 1,522 sends none. -/
def Dev.ptpSend (d : Dev) (desk : Nat) (v : Word) : Dev :=
  let d := d.writeRw .MNT_PTP_TX desk 0 v
  let w := v.toNat
  let n := d.get F.MNT_PTP_TX_LEN.LEN desk
  let port := bitsOf w 26 16
  let tsId := bitsOf w 15 0
  let eth := d.txBuffer desk n
  if !bitAt w 31 ∨ n < 64 ∨ 1522 < n then d
  else if port = mgmtPort then
    let d := d.emit (.mgmt desk eth)
    if bitAt w 30 then d.coatPut (16 + desk) { port := port, tsId := tsId, time := d.now } else d
  else if port < 1024 then
    if d.bit F.BUR_CTL.SPINE_SHADOW 0 then d.count .BUR_SUPPRESS
    else
      let (k, d) := d.draw
      let f : Frm := { bytes := ethTime (Config.freeVid k).toNat tsId d.now (bitAt w 30) eth, cls := 7, gen := d.liveBank,
                       stamp := d.now, src := 1024 + deskTile desk, die := deskTile desk, acct := 69 }
      d.sendLp f port
  else d

/-- PTP_TX -/
def execPtpTx (a : Access) (v : Word) (s : State) : Host.Outcome State Fault Refusal :=
  run (fun d => d.onWrite a .MNT_PTP_TX a.deskB.toNat 0 (·.ptpSend a.deskB.toNat v)) s

/-! ## Pulse-per-second pins (R308, R309) -/

/-- PPS_IN_EDGE: a rising edge, ignored within 1 ms of an accepted one. -/
def Dev.ppsEdge (d : Dev) : Dev :=
  let near : Bool := match d.time.ppsIn with | some r => decide (d.since r < ticksOfUs 1000) | none => false
  if near then d
  else ((d.wrWide .MNT_PPS_IN_TS 0 0 d.time.ext 2).count .MNT_PPS_IN_CNT).updTime fun t => { t with ppsIn := some t.raw }

/-- PPS_IN_EDGE -/
def execPpsInEdge (s : State) : Host.Outcome State Fault Refusal := run (·.ppsEdge) s

/-- Second boundaries passed, counted from PPS_OFFSET − 1 s. -/
def Dev.ppsBoundary (d : Dev) : Nat :=
  (d.time.ext + 10 ^ 9 - min 999999999 (d.get F.MNT_PPS_OFFSET.OFFSET 0)) / 10 ^ 9

/-- PPS_OUT_PULSE: the pin rises where time has crossed a second boundary not yet pulsed. -/
def Dev.ppsPulse (d : Dev) : Dev :=
  if d.bit F.MNT_CTL.PPS_OUT_EN 0 && decide (d.time.ppsSec < d.ppsBoundary) then
    (d.updTime fun t => { t with ppsAt := some t.raw, ppsSec := d.ppsBoundary }).emit (.pin "PPS_OUT" true)
  else d

/-- The level of PPS_OUT. -/
def Dev.ppsLevel (d : Dev) : Bool := match d.time.ppsAt with
  | some r => decide (d.since r < ticksOfUs (max 1 (d.get F.MNT_PPS_CFG.PPS_WIDTH 0)))
  | none => false

/-- PPS_OUT_PULSE -/
def execPpsOutPulse (s : State) : Host.Outcome State Fault Refusal := run (·.ppsPulse) s

/-- A write of MNT_CTL's fields through a Desk. -/
def Dev.mntCtlWrite (d : Dev) (desk : Nat) (v : Word) : Dev :=
  let old := d
  let d := d.writeRw .MNT_CTL 0 0 v
  let d := if d.get F.MNT_CTL.SERVO_TO 0 ≠ old.get F.MNT_CTL.SERVO_TO 0 ∧ d.time.watch.isSome then
      d.updTime fun t => { t with watch := some t.raw } else d
  let d := if d.bit F.MNT_CTL.PPS_OUT_EN 0 ∧ !old.bit F.MNT_CTL.PPS_OUT_EN 0 then
      d.updTime fun t => { t with ppsSec := d.ppsBoundary } else d
  let d := if bitAt v.toNat 31 then d.stepArm desk else d
  if bitAt v.toNat 28 then d.timeSnap else d

/-! ## Launch table (R310) -/

/-- An entry is VALID to the device: armed, or to be armed at a pending c_u. -/
def Dev.launchValid (d : Dev) (e : Nat) : Bool :=
  (d.time.launch.find e).isSome || d.time.launchUpd.any fun u => u.entry == e && u.arm

/-- A write to TIME of an entry. -/
def Dev.launchTime (d : Dev) (e : Nat) (v : Word) : Dev :=
  if d.launchValid e then d.count .MNT_LATE_WR else (d.wr .MNT_LAUNCH e 0 v).genBump

/-- A write to word 1 of an entry: it arms or cancels at its c_u, or is discarded (R310, R312). -/
def Dev.launchWord1 (d : Dev) (e : Nat) (v : Word) : Dev :=
  let w := v.toNat
  let arm := bitAt w 31
  if arm && (d.launchValid e || decide (5 < bitsOf w 27 24)) then d.count .MNT_LATE_WR
  else
    let d := (d.writeRw .MNT_LAUNCH e 1 v).genBump
    let u : LaunchUpd := { at' := d.raw + cuTicks, entry := e, arm := arm, time := (d.rd .MNT_LAUNCH e 0).toNat,
                           irq := bitAt w 28, action := bitsOf w 27 24, arg := bitsOf w 15 0 }
    d.updTime fun t => { t with launchUpd := t.launchUpd ++ [u] }

/-- LAUNCH_WORD1_WRITE -/
def execLaunchWord1Write (a : Access) (e : Fin 256) (v : Word) (s : State) : Host.Outcome State Fault Refusal :=
  run (fun d => d.onWrite a .MNT_LAUNCH e 1 (·.launchWord1 e v)) s

/-- The oldest pending change of an entry, taken off the list, if it is of the kind asked for. -/
def Dev.takeLaunchUpd (d : Dev) (e : Nat) (arm : Bool) : Option LaunchUpd × Dev :=
  match d.time.launchUpd.find? (fun u => u.entry == e) with
  | some u =>
    if u.arm = arm then (some u, d.updTime fun t => { t with launchUpd := t.launchUpd.erase u }) else (none, d)
  | none => (none, d)

/-- LAUNCH_ARM: at c_u the entry is armed. -/
def Dev.launchArm (d : Dev) (e : Nat) : Dev :=
  match d.takeLaunchUpd e true with
  | (some u, d) =>
    let l : Launch := { time := u.time, irq := u.irq, action := u.action, arg := u.arg, past := d.launchDue u.time }
    (d.set F.MNT_LAUNCH.OUTCOME e 0).updTime fun t => { t with launch := t.launch.insert e l }
  | (none, d) => d

/-- LAUNCH_ARM -/
def execLaunchArm (e : Fin 256) (s : State) : Host.Outcome State Fault Refusal := run (·.launchArm e) s

/-- LAUNCH_CANCEL: at c_u an entry that has not fired is disarmed. -/
def Dev.launchCancel (d : Dev) (e : Nat) : Dev :=
  match d.takeLaunchUpd e false with
  | (some _, d) => d.updTime fun t => { t with launch := t.launch.erase e }
  | (none, d) => d

/-- LAUNCH_CANCEL -/
def execLaunchCancel (e : Fin 256) (s : State) : Host.Outcome State Fault Refusal := run (·.launchCancel e) s

/-- An armed entry leaves the table with an OUTCOME. -/
def Dev.launchEnd (d : Dev) (e outcome : Nat) : Dev :=
  let d := d.updTime fun t => { t with launch := t.launch.erase e }
  ((d.setB F.MNT_LAUNCH.VALID e false).set F.MNT_LAUNCH.OUTCOME e outcome).set F.MNT_LAUNCH.FIRED_AT e d.now

/-- At the end of a safe stop, every entry whose L fell during it is missed (R314). -/
def Dev.launchMissed (d : Dev) : Dev :=
  d.each d.time.launch fun d e =>
    if d.launchDue e.2.time then (d.launchEnd e.1 3).count .MNT_LAUNCH_MISSED else d

end Sys2Proof.Machine
end

