-- ==== Sys2Proof/Machine/Pmc.lean ====
section
/-! DEFINITION. Counters, counter windows, digests read by a job, and the alignment check (chapter 14). -/
namespace Sys2Proof.Machine

/-- Change the counters' state. -/
def Dev.updPmc (d : Dev) (f : PmcSt → PmcSt) : Dev := { d with pmc := f d.pmc }

/-! ## State events (Table 14.5) -/

/-- The classes that a counter counts. -/
def pmcClasses (c0 : Nat) : List Nat :=
  (List.range 8).filter fun c => bitsOf c0 27 20 == 0 || bitAt (bitsOf c0 27 20) c

/-- The sub-set of a tile's logical ports that a counter counts. -/
def pmcPorts (c0 c1 : Nat) : List Nat := if bitAt c0 28 then [c1 % 64] else List.range 64

/-- A state event is set at a die, under a counter's qualifiers. -/
def Dev.pmcState (d : Dev) (n c0 c1 : Nat) : Bool :=
  match c0 % 1024 with
  | 0x004 => decide (n < 16) && (pmcPorts c0 c1).any fun p => (pmcClasses c0).any fun c => d.creditWait (64 * n + p) c
  | 0x007 => decide (n < 16 ∧ d.sharedSize n < 2 * d.sharedUsed n)
  | 0x008 => decide (n < 16) && d.stageHeld n
  | 0x009 => decide (n < 16) && d.core.triples.any fun e =>
      (Nat.unpair e.1).1 == n && (pmcClasses c0).contains ((Nat.unpair (Nat.unpair (Nat.unpair e.1).2).2).2) && e.2.waits
  | 0x00F => decide (n < 16) && d.get F.PWR_STAT.STATE 0 == 1
  | 0x011 => decide (n < 16) && !d.trkFree n
  | 0x012 => decide (n < 16) && d.pool.trk.any fun e => keyTile e.1 == n && e.2.gap.isSome
  | 0x024 => decide (16 ≤ n) && (d.cab.allocQ.at [] (n - 16)).any fun h =>
      !bitAt c0 29 || d.get F.DRW_CFG.JOB h == bitsOf c1 27 16
  | 0x025 => decide (16 ≤ n) && d.bit F.CLK_STAT.CAB_HALF 0
  | _ => false

/-- The counters at a tick of CLK_TIME (R329): a level counter adds one where its event was set or has occurred, an edge
counter of a state event where the state went from clear to set, TIME_TICK in either mode. -/
def Dev.pmcTick (d : Dev) : Dev :=
  d.each (List.range 24) fun d n => d.each (List.range 16) fun d k =>
    let c0 := d.pmcCfg0 n k
    let mode := c0 / 2 ^ 30
    if mode ≠ 1 ∧ mode ≠ 2 then d
    else
      let i := 16 * n + k
      let st := d.pmcState n c0 (d.pmcCfg1 n k)
      let was := d.pmc.was.contains i
      let up := c0 % 1024 == 0x030 ||
        (if mode = 1 then st && !was else st || d.pmc.seen.contains i)
      let d := if up then d.pmcAdd n k 1 else d
      d.updPmc fun p => { p with was := if st then (if was then p.was else p.was ++ [i]) else p.was.filter (· != i),
                                 seen := p.seen.filter (· != i) }

/-- One tick of CLK_TIME: the counters' state events, the two cycles of CLK_CORE that a tick holds (R157, R400), in which
head frames may wait for credit (R48), and the raw counter. -/
def Dev.tickAll (d : Dev) : Dev := ((d.pmcTick.creditStall 2).xbarRun 2).tick

/-! ## Snapshots and counter windows (R332 to R335) -/

/-- A die does not answer: out of service, without power, or unreachable from the master Desk. -/
def Dev.dieOut (d : Dev) (n : Nat) : Bool :=
  d.get F.BUR_UNIT.STATE n != 0 || d.get F.PWR_STAT.STATE 0 == 2 || d.unreachable (deskTile d.master) n ||
  (decide (16 ≤ n) && !bitAt (d.get F.PWR_PD_STAT.ON 0) n)

/-- PMC_SNAP_CAPTURE: every general counter is copied to its SNAP register, and the command that asked for it ends. -/
def Dev.snapCapture (d : Dev) : Dev :=
  match d.pmc.snap with
  | none => d
  | some desk =>
    let d := d.each (List.range 256) fun d i => d.wrWide .XBAR_PMC_SNAP i 0 (d.rdWide .XBAR_PMC_VAL i 0 2) 2
    let d := d.each (List.range 128) fun d i => d.wrWide .CAB_PMC_SNAP i 0 (d.rdWide .CAB_PMC_VAL i 0 2) 2
    let d := (d.wr .DESK_PMC_SNAP_TIME 0 0 (BitVec.ofNat 32 d.now)).updPmc fun p => { p with snap := none }
    (d.setB F.DESK_PMC_CMD.GO 0 false).irq desk 4

/-- PMC_SNAP_CAPTURE -/
def execPmcSnapCapture (s : State) : Host.Outcome State Fault Refusal := run (·.snapCapture) s

/-- STATE of a counter window. -/
def Dev.cwin (d : Dev) (n : Nat) : Nat := d.get F.DESK_CWIN_STAT.STATE n

/-- The dies of a counter window: tiles 0 to 15, 16 + Cabinet die. -/
def Dev.cwinDies (d : Dev) (n : Nat) : List Nat := (List.range 24).filter fun k => bitAt (d.get F.DESK_CWIN.DIE_MASK n) k

/-- Two windows use the same bank on a die. -/
def Dev.cwinClash (d : Dev) (n m : Nat) : Bool :=
  n != m && d.get F.DESK_CWIN.BANK n == d.get F.DESK_CWIN.BANK m && (d.cwinDies n).any (d.cwinDies m).contains

/-- A window may not open: STATUS 3 not VALID, 2 PENDING or OPEN, 1 its bank in use (R334). -/
def Dev.cwinRefused (d : Dev) (n : Nat) : Option Nat :=
  if !d.bit F.DESK_CWIN.VALID n then some 3
  else if d.cwin n = 1 ∨ d.cwin n = 2 then some 2
  else if (List.range 256).any fun m => (d.cwin m == 1 || d.cwin m == 2) && d.cwinClash n m then some 1
  else none

/-- The register and entry of value `v` of a tile's or Cabinet die's general counters: live, and in a bank. -/
def genReg (die k : Nat) : Reg × Nat := if die < 16 then (.XBAR_PMC_VAL, 16 * die + k) else (.CAB_PMC_VAL, 16 * (die - 16) + k)

/-- The bank's register for a general counter. -/
def genWin (die b k : Nat) : Reg × Nat :=
  if die < 16 then (.XBAR_PMC_WIN, (8 * die + b) * 16 + k) else (.CAB_PMC_WIN, (8 * (die - 16) + b) * 16 + k)

/-- The bank's entry for a port byte counter. -/
def portWin (t b j : Nat) : Nat := (8 * t + b) * 512 + j

/-- Apply a function of the bank value and the live value to every value of a window on a die. -/
def Dev.cwinMap (d : Dev) (n die : Nat) (f : Nat → Nat → Nat) : Dev :=
  let b := d.get F.DESK_CWIN.BANK n
  let put (d : Dev) (w : Reg × Nat) (v : Reg × Nat) : Dev :=
    d.wrWide w.1 w.2 0 (f (d.rdWide w.1 w.2 0 2) (d.rdWide v.1 v.2 0 2) % 2 ^ 64) 2
  let d := d.each (List.range 16) fun d k => put d (genWin die b k) (genReg die k)
  if die < 16 ∧ d.bit F.DESK_CWIN.PORTS n then
    d.each (List.range 512) fun d j =>
      put (put d (.XBAR_PMC_PWIN_RX, portWin die b j) (.XBAR_PMC_PORT_RX, 512 * die + j))
        (.XBAR_PMC_PWIN_TX, portWin die b j) (.XBAR_PMC_PORT_TX, 512 * die + j)
  else d

/-- A window opens: every die of its mask records its values; a die that does not answer reads zero (R333, R334). -/
def Dev.cwinOpen (d : Dev) (n : Nat) : Dev :=
  let d := d.each (List.range 256) fun d m =>
    if d.cwin m = 3 ∧ d.cwinClash n m then d.set F.DESK_CWIN_STAT.STATE m 0 else d
  let out := (d.cwinDies n).filter d.dieOut
  let d := d.each (d.cwinDies n) fun d die => d.cwinMap n die fun _ v => if out.contains die then 0 else v
  let d := ((d.set F.DESK_CWIN_STAT.STATE n 2).setB F.DESK_CWIN_STAT.DIE_MISSING n (out != [])).setB F.DESK_CWIN_STAT.CUT n false
  (d.set F.DESK_CWIN_STAT.OPEN_AT n d.now).updPmc fun p =>
    { p with missing := p.missing.put [] n out, closing := p.closing.filter (· != n) }

/-- COUNTER_WINDOW_OPEN: a PENDING window opens at its T_o. -/
def execCounterWindowOpen (window : Fin 256) (s : State) : Host.Outcome State Fault Refusal :=
  run (fun d => if d.cwin window = 1 then d.cwinOpen window else d) s

/-- An OPEN window closes: its values become deltas, and it is DONE. -/
def Dev.cwinClose (d : Dev) (n : Nat) (cut : Bool) : Dev :=
  if d.cwin n ≠ 2 then d
  else
    let out := d.pmc.missing.at [] n
    let d := d.each ((d.cwinDies n).filter fun die => !out.contains die) fun d die =>
      d.cwinMap n die fun w v => v + 2 ^ 64 - w
    let d := (d.set F.DESK_CWIN_STAT.STATE n 3).setB F.DESK_CWIN_STAT.CUT n cut
    (d.set F.DESK_CWIN_STAT.CLOSE_AT n d.now).updPmc fun p => { p with closing := p.closing.filter (· != n) }

/-- COUNTER_WINDOW_CLOSE -/
def execCounterWindowClose (window : Fin 256) (s : State) : Host.Outcome State Fault Refusal :=
  run (fun d => d.cwinClose window (d.pmc.closing.contains window.val)) s

/-- A safe stop ends every open window and sets CUT (R333). -/
def Dev.cwinCutAll (d : Dev) : Dev := d.each (List.range 256) fun d n => d.cwinClose n true

/-- The COUNTER_WINDOW launch action. -/
def Dev.cwinLaunch (d : Dev) (n : Nat) : Dev :=
  match d.cwinRefused n with
  | none => d.cwinOpen n
  | some 3 => d
  | some _ => d.count .DESK_PMC_REFUSE

/-- A counter command by its OP through a Desk: STATUS and the new state (R333, R334, Table 14.11). -/
def Dev.pmcRun (d : Dev) (desk op n : Nat) : Nat × Dev :=
  match op with
  | 0 =>
    match d.cwinRefused n with
    | none => (0, d.set F.DESK_CWIN_STAT.STATE n 1)
    | some 3 => (3, d)
    | some st => (st, d.count .DESK_PMC_REFUSE)
  | 1 =>
    if !d.bit F.DESK_CWIN.VALID n then (3, d)
    else if d.cwin n ≠ 2 then (2, d)
    else (0, d.updPmc fun p => { p with closing := p.closing.filter (· != n) ++ [n] })
  | 2 => (0, d.updPmc fun p => { p with snap := some desk })
  | _ => (4, d)

/-- A write of DESK_PMC_CMD with GO = 1 through a Desk. A SNAP stays pending, with GO at 1, until the counters are copied
(R332, Table 0.5). -/
def Dev.pmcCmd (d : Dev) (desk op n : Nat) : Dev :=
  let (st, d) := d.pmcRun desk op n
  let go := d.pmc.snap.isSome
  let d := d.wr .DESK_PMC_CMD 0 0 (BitVec.ofNat 32 (go.toNat * 2 ^ 31 + op * 2 ^ 28 + st * 2 ^ 16 + n))
  if go then d else d.irq desk 4

/-- PMC_OPEN -/
def execPmcOpen (a : Access) (window : Fin 256) (s : State) : Host.Outcome State Fault Refusal :=
  run (fun d => d.onWrite a .DESK_PMC_CMD 0 0 (·.pmcCmd a.deskB.toNat 0 window)) s

/-- PMC_CLOSE -/
def execPmcClose (a : Access) (window : Fin 256) (s : State) : Host.Outcome State Fault Refusal :=
  run (fun d => d.onWrite a .DESK_PMC_CMD 0 0 (·.pmcCmd a.deskB.toNat 1 window)) s

/-- PMC_SNAP -/
def execPmcSnap (a : Access) (s : State) : Host.Outcome State Fault Refusal :=
  run (fun d => d.onWrite a .DESK_PMC_CMD 0 0 (·.pmcCmd a.deskB.toNat 2 0)) s

/-- A write of a counter's configuration word: discarded while a window that names the die is PENDING or OPEN (R329). -/
def Dev.pmcCfgWrite (d : Dev) (die : Nat) (r : Reg) (i : Nat) (v : Word) : Dev :=
  if (List.range 256).any fun m => (d.cwin m == 1 || d.cwin m == 2) && (d.cwinDies m).contains die then
    d.count .DESK_PMC_REFUSE
  else d.writeRw r i 0 v

/-- A write of a window definition: discarded while the window is PENDING or OPEN (R334). -/
def Dev.cwinWrite (d : Dev) (n w : Nat) (v : Word) : Dev :=
  if d.cwin n = 1 ∨ d.cwin n = 2 then d.count .DESK_PMC_REFUSE else d.writeRw .DESK_CWIN n w v

/-! ## COUNTER_READ (R335) -/

/-- The length of a window's value list. -/
def Dev.cwinLen (d : Dev) (n : Nat) : Nat :=
  16 * (d.cwinDies n).length + (if d.bit F.DESK_CWIN.PORTS n then 1024 * ((d.cwinDies n).filter (· < 16)).length else 0)

/-- Value `v` of a window's value list. -/
def Dev.cwinValue (d : Dev) (n v : Nat) : Nat :=
  let b := d.get F.DESK_CWIN.BANK n
  let l := d.cwinDies n
  if v < 16 * l.length then
    let w := genWin (l.getD (v / 16) 0) b (v % 16)
    d.rdWide w.1 w.2 0 2
  else
    let p := v - 16 * l.length
    let t := (l.filter (· < 16)).getD (p / 1024) 0
    let j := portWin t b (p % 1024 / 2)
    if p % 2 = 0 then d.rdWide .XBAR_PMC_PWIN_RX j 0 2 else d.rdWide .XBAR_PMC_PWIN_TX j 0 2

/-- The values that COUNTER_READ asks for, from FIRST on. -/
def Dev.cwinWanted (d : Dev) (n : Nat) : Nat :=
  let c := d.get F.DESK_CWIN.COUNT n
  if c = 0 ∨ 126 < c then 126 else c

/-- The payload of a COUNTER_READ response (Table 14.6). -/
def Dev.cwinPayload (d : Dev) (n : Nat) : List Byte :=
  let first := d.get F.DESK_CWIN.FIRST n
  let k := min (d.cwinWanted n) (d.cwinLen n - first)
  let flags := (d.get F.DESK_CWIN_STAT.CUT n) + 2 * (d.get F.DESK_CWIN_STAT.DIE_MISSING n) +
    (if k < d.cwinWanted n then 4 else 0)
  beBytes 2 n ++ beBytes 1 (d.cwin n) ++ beBytes 1 flags ++ beBytes 4 (d.get F.DESK_CWIN_STAT.OPEN_AT n) ++
    beBytes 4 (d.get F.DESK_CWIN_STAT.CLOSE_AT n) ++ beBytes 2 k ++ beBytes 2 0 ++
    (List.range k).flatMap fun v => beBytes 8 (d.cwinValue n (first + v))

/-- The issuer is infrastructure (R126). -/
def Dev.infra (d : Dev) (r : JobCtl) : Bool :=
  r.job.val == 0 && (List.range 16).any fun n =>
    d.bit F.FWD_INFRA_SRC.VALID n && d.get F.FWD_INFRA_SRC.TYPE n == r.srcType.val &&
    d.get F.FWD_INFRA_SRC.SRC n == r.src.toNat

/-- COUNTER_READ at the Desks. -/
def Dev.counterRead (d : Dev) (r : JobCtl) : Dev :=
  let n := r.arg.toNat
  if 256 ≤ n then d.jobDone r 3 []
  else if !d.infra r && !(d.bit F.DESK_CWIN.PERMIT_V n && d.get F.DESK_CWIN.PERMIT_JOB n == r.target.val) then
    d.jobDone r 1 []
  else if !d.bit F.DESK_CWIN.VALID n ∨ d.cwinLen n ≤ d.get F.DESK_CWIN.FIRST n then d.jobDone r 3 []
  else match d.cwin n with
    | 0 => d.jobDone r 5 []
    | 3 => d.jobDone r 0 (d.cwinPayload n)
    | _ => d.jobDone r 4 []

/-- COUNTER_READ: CMD 0x03. -/
def execCounterRead (r : JobCtl) (s : State) : Host.Outcome State Fault Refusal :=
  run (fun d => d.onJob r fun d => d.counterRead r) s

/-! ## DIGEST_READ (R326) -/

/-- The payload of a DIGEST_READ response (Table 14.4), and whether an entry was found, and whether a die is missing. -/
def Dev.digestPayload (d : Dev) (job tag : Nat) : List Byte × Bool × Bool :=
  let dies := (List.range 8).filter fun n => d.cabActive n ||
    (d.bit F.DRW_PLACE_CFG.STANDBY_V 0 && d.get F.DRW_PLACE_CFG.STANDBY 0 == n)
  let lost := dies.any fun n => !d.cabReach n
  let es := (dies.filter d.cabReach).filterMap fun n => (d.digestEntry n job tag).map fun e => (n, 4096 * n + e)
  let sum (f : Nat → Nat) : Nat := (es.map fun e => f e.2).sum
  let hdr := beBytes 8 (sum (d.get F.CAB_DIGEST.DIGEST) % 2 ^ 64) ++
    beBytes 4 (sum (d.get F.CAB_DIGEST.CHUNKS) % 2 ^ 24) ++ beBytes 1 es.length ++
    beBytes 1 ((if es.any fun e => d.bit F.CAB_DIGEST.FAULT e.2 then 1 else 0) + (if lost then 2 else 0)) ++
    beBytes 1 (es.foldl (fun m e => max m (d.get F.CAB_DIGEST.EPOCH e.2)) 0) ++ beBytes 1 0
  (hdr ++ es.flatMap (fun e => beBytes 1 e.1 ++ beBytes 1 (d.get F.CAB_DIGEST.FAULT e.2) ++
    beBytes 1 (d.get F.CAB_DIGEST.EPOCH e.2) ++ beBytes 1 0 ++ beBytes 4 (d.get F.CAB_DIGEST.CHUNKS e.2) ++
    beBytes 8 (d.get F.CAB_DIGEST.DIGEST e.2)), es != [], lost)

/-- DIGEST_READ at the Desks. -/
def Dev.digestRead (d : Dev) (r : JobCtl) : Dev :=
  let (p, found, lost) := d.digestPayload r.target (r.arg.toNat % 2 ^ 32)
  if found || lost then d.jobDone r 0 p else d.jobDone r 5 (List.replicate 16 0)

/-- DIGEST_READ: CMD 0x04. -/
def execDigestRead (r : JobCtl) (s : State) : Host.Outcome State Fault Refusal :=
  run (fun d => d.onJob r fun d => d.digestRead r) s

/-! ## Alignment (R323, R325) -/

/-- The check of R325 over the dies that answer: the mismatches each found. -/
def Dev.alignResult (d : Dev) (bad : List (Fin 28 × BitVec 8)) : Dev :=
  let n (k : Nat) : Nat := match bad.find? (fun e => e.1.val == k) with | some e => e.2.toNat | none => 0
  let out (k : Nat) : Bool := if k < 24 then d.dieOut k else d.get F.BUR_UNIT.STATE (if k < 26 then 44 else k) != 0
  let ok := (List.range 28).filter fun k => !out k
  let d := d.each (List.range 28) fun d k =>
    if out k then d.setB F.CLK_ALIGN_DIE.CHECKED k false
    else ((d.setB F.CLK_ALIGN_DIE.CHECKED k true).setB F.CLK_ALIGN_DIE.OK k (n k == 0)).set F.CLK_ALIGN_DIE.BAD k (n k)
  let failed := ok.filter fun k => n k != 0
  let d := (d.set F.CLK_ALIGN_STAT.FAILING 0 failed.length).set F.CLK_ALIGN_STAT.TIME 0 (d.now % 2 ^ 24)
  let d := d.each failed fun d k => d.each (List.range (n k)) fun d _ => d.raise (timeUnit k) 13 (instDie k)
  (d.setB F.CLK_ALIGN_CTL.CHECK 0 false).setB F.CLK_ALIGN_CTL.ALIGNED 0 (failed == [])

/-- CHECK written: the check is on its way. -/
def Dev.alignCheck (d : Dev) : Dev := d.setB F.CLK_ALIGN_CTL.CHECK 0 true

/-- ALIGN_CHECK -/
def execAlignCheck (a : Access) (s : State) : Host.Outcome State Fault Refusal :=
  run (fun d => d.onWrite a .CLK_ALIGN_CTL 0 0 (·.alignCheck)) s

/-- ALIGN_CHECK_SAMPLE: at c_u every die compares and writes its result. -/
def execAlignCheckSample (bad : List (Fin 28 × BitVec 8)) (s : State) : Host.Outcome State Fault Refusal :=
  run (fun d => if d.bit F.CLK_ALIGN_CTL.CHECK 0 then d.alignResult bad else d) s

end Sys2Proof.Machine
end

