-- ==== Sys2Proof/Machine/Oe.lean ====
section
/-! DEFINITION. Optical engines: ring lock, wrong lines, comb feeds, fades, calibration, comb modules, and engine power
(chapter 3). -/
namespace Sys2Proof.Machine

/-! ## Rings (R69 to R77) -/

/-- Register index of a ring of an engine. -/
def oeRing (oe ring : Nat) : Nat := 576 * oe + ring

/-- A heater code within 512 of either end (R76). -/
def heaterNear (h : Nat) : Bool := decide (h ≤ 512) || decide (65023 ≤ h)

/-- One update of a ring's lock-in demodulator (R69, R72, R76). -/
def Dev.lockin (d : Dev) (x : Nat) (o : LockinObs) : Dev :=
  let st := d.ringState x
  let old := d.heater x
  let err := toSigned 16 o.error.toNat
  let d := d.set F.OE_RING_STAT.ERROR x o.error.toNat
  let ok := if err.natAbs ≤ 20 then min 10 ((d.ring x).ok + 1) else 0
  let d := d.updRing x fun r => { r with ok := ok }
  let d := if (st = 3 ∨ st = 4) ∧ d.ringMode x = 1 then d.setHeater x o.heater.toNat else d
  if st = 3 then
    if ok = 10 ∧ o.power ∧ (d.uncommissioned x ∨ d.inWindow x (d.ring x).temp) then
      let d := d.ringGo x 4
      if ringDrop x then d else d.spareLocked (ringPort x) (ringLane x)
    else d
  else if st = 4 ∧ heaterNear (d.heater x) ∧ !(heaterNear old ∧ d.bit F.OE_RING_STAT.HEATER_LIMIT x) then
    ((d.setB F.OE_RING_STAT.HEATER_LIMIT x true).count .OE_HEATER_LIMIT_CNT (x / 576)).raise (16 + x / 576) 4 (ringInst x)
  else d

/-- RING_LOCKIN_UPDATE -/
def execRingLockinUpdate (oe : Fin 16) (ring : Fin 576) (o : LockinObs) (s : State) :
    Host.Outcome State Fault Refusal := run (·.lockin (oeRing oe ring) o) s

/-- The window evaluation of a ring (R71, R73, R77); a ring in HOLD follows temperature by feed-forward. IN_WINDOW reads 0
for an uncommissioned ring, whose check is not applied (DESIGN CHOICE, log 160). -/
def Dev.windowEval (d : Dev) (x : Nat) (temp : Nat) : Dev :=
  let t := toSigned 16 temp
  let r := d.ring x
  let d := d.updRing x fun r => { r with temp := t }
  let d := if d.ringState x = 5 ∧ d.ringMode x = 1 then
      d.setHeater x ((r.held : Int) + (d.tempco x * (t - r.heldT)).tdiv 128) else d
  let inw := !d.uncommissioned x && d.inWindow x t
  let d := d.setB F.OE_RING_STAT.IN_WINDOW x inw
  if d.ringState x = 4 ∧ !d.uncommissioned x ∧ !inw then
    let d := d.setB F.OE_RING_STAT.WRONG_LINE x true
    if ringDrop x then d.rxWrongLine (ringPort x) (ringLane x) 2
    else (d.txWrongLine (ringPort x) (ringLane x)).ringReacquire x
  else d

/-- RING_WINDOW_EVAL -/
def execRingWindowEval (oe : Fin 16) (ring : Fin 576) (temp : BitVec 16) (s : State) :
    Host.Outcome State Fault Refusal := run (·.windowEval (oeRing oe ring) temp.toNat) s

/-- A ring ramped to its window centre starts its sweep. -/
def Dev.preheatDone (d : Dev) (x : Nat) : Dev := if d.ringState x = 1 then d.ringSweep x else d

/-- PREHEAT_DONE -/
def execPreheatDone (oe : Fin 16) (ring : Fin 576) (s : State) : Host.Outcome State Fault Refusal :=
  run (·.preheatDone (oeRing oe ring)) s

/-- A sweep ends: CAPTURE at the peak's code, or the attempt fails (R74, R75). -/
def Dev.sweepDone (d : Dev) (x : Nat) (o : SweepObs) : Dev :=
  if d.ringState x = 2 then
    if o.peak then
      (((d.ringGo x 3).setHeater x o.heater.toNat).set F.OE_RING_STAT.PEAK_WIDTH x o.width.toNat).updRing x
        fun r => { r with ok := 0 }
    else d.ringFail x
  else d

/-- SWEEP_COMPLETE -/
def execSweepComplete (oe : Fin 16) (ring : Fin 576) (o : SweepObs) (s : State) : Host.Outcome State Fault Refusal :=
  run (·.sweepDone (oeRing oe ring) o) s

/-- R72 has not held 5 ms after entry to CAPTURE. -/
def Dev.captureTimeout (d : Dev) (x : Nat) : Dev := if d.ringState x = 3 then d.ringFail x else d

/-- CAPTURE_TIMEOUT -/
def execCaptureTimeout (oe : Fin 16) (ring : Fin 576) (s : State) : Host.Outcome State Fault Refusal :=
  run (·.captureTimeout (oeRing oe ring)) s

/-- A ring in OUT starts its sweep. -/
def Dev.outRetry (d : Dev) (x : Nat) : Dev := if d.ringState x = 6 ∧ d.ringMode x = 1 then d.ringSweep x else d

/-- OUT_RETRY_TIMER -/
def execOutRetryTimer (oe : Fin 16) (ring : Fin 576) (s : State) : Host.Outcome State Fault Refusal :=
  run (·.outRetry (oeRing oe ring)) s

/-- A lane has not delivered two good markers within four marker periods of LOCKED (R75): its drop ring, and its select
ring when the lane is out of service in the transmit direction. -/
def Dev.reacqTimeout (d : Dev) (port lane : Nat) : Dev :=
  let x := ringIx port lane 1
  let l := d.lane (laneIx port lane)
  let d := if d.ringState x = 4 ∧ (d.ring x).reacq ∧ l.good < 2 ∧ l.spareGood < 2 then d.ringFail x else d
  let y := ringIx port lane 0
  if d.ringState y = 4 ∧ (d.ring y).reacq ∧ d.role port lane false = 6 then d.ringFail y else d

/-- REACQ_MARKER_TIMEOUT -/
def execReacqMarkerTimeout (port : Fin 256) (lane : Fin 18) (s : State) : Host.Outcome State Fault Refusal :=
  run (·.reacqTimeout port lane) s

/-- A failure of a ring becomes older than 10 minutes (R75). -/
def Dev.failExpire (d : Dev) (x : Nat) : Dev := d.set F.OE_RING_STAT.FAIL_CNT x (d.get F.OE_RING_STAT.FAIL_CNT x - 1)

/-- RING_FAIL_WINDOW_EXPIRY -/
def execRingFailWindowExpiry (oe : Fin 16) (ring : Fin 576) (s : State) : Host.Outcome State Fault Refusal :=
  run (·.failExpire (oeRing oe ring)) s

/-- A lane taken out of service by management's MODE 10 or 11 (Table 3.11): role 110 at once, with no expulsion. The
LANE_FAULT for a drop ring's lane carries REASON 0, management (DESIGN CHOICE, log 160: R92 names none). -/
def Dev.modeOut (d : Dev) (x : Nat) : Dev :=
  let port := ringPort x
  let lane := ringLane x
  let s := d.role port lane (ringDrop x)
  if ringDrop x then
    if s < 4 then (d.rxTakeOut port lane s 6 0).afterMap (4 * port + s)
    else if s = 4 then d.setRole port lane true 6 else d
  else if s < 4 then ((d.txLaneOut port lane s).txRemove (4 * port + s) lane 2).afterMap (4 * port + s)
  else if s = 4 then (d.setRole port lane false 6).unqualify port lane else d

/-- A write of OE_RING_CTL: HEATER only in MODE 11; MODE 01 starts automatic acquisition of a ring that was not in it
or is RETIRED, and returns a HELD lane (R426). MODE 00 leaves the lane's role as it is (DESIGN CHOICE, log 160: Table 3.3 makes
the lane dark and says nothing of its role). -/
def Dev.ringModeWrite (d : Dev) (x : Nat) (v : Nat) : Dev :=
  let m := bitsOf v 15 14
  let was := d.ringMode x
  let d := d.set F.OE_RING_CTL.MODE x m
  match m with
  | 0 => (d.ringGo x 0).setHeater x 0
  | 1 =>
    let d := d.heldBack (instLane (ringPort x) (ringLane x))
    if d.ringState x = 7 then (d.set F.OE_RING_STAT.FAIL_CNT x 0).ringPreheat x
    else if was ≠ 1 then d.ringPreheat x else d
  | 2 => (d.modeOut x).ringHold x
  | _ => ((d.modeOut x).ringHold x).setHeater x (v / 65536 : Nat)

/-- RING_MODE_WRITE -/
def execRingModeWrite (a : Access) (oe : Fin 16) (ring : Fin 576) (v : Word) (s : State) :
    Host.Outcome State Fault Refusal :=
  run (fun d => d.onWrite a .OE_RING_CTL (oeRing oe ring) 0 fun d => d.ringModeWrite (oeRing oe ring) v.toNat) s

/-! ## Comb feeds (R79 to R81) -/

/-- INST of an engine. -/
def oeInst (oe : Nat) : Nat := instDie (28 + oe)

/-- The register index of a polarisation controller: 0 primary, 1 standby. -/
def pcIx (oe k c : Nat) : Nat := 32 * oe + 2 * k + c

/-- A controller is locked. -/
def Dev.pcLocked (d : Dev) (oe k c : Nat) : Bool := d.bit F.OE_PC_STAT.LOCKED (pcIx oe k c)

/-- A port runs on the standby comb. -/
def Dev.onStandby (d : Dev) (oe k : Nat) : Bool := bitAt (d.get F.OE_ENG_STAT.FEED_STBY oe) k

/-- A port's feed switches: counted, and OE_COMB_FAIL raised (R80). -/
def Dev.feedSwitch (d : Dev) (oe k : Nat) (stby : Bool) : Dev :=
  ((d.set F.OE_ENG_STAT.FEED_STBY oe (withBit (d.get F.OE_ENG_STAT.FEED_STBY oe) k stby)).count
    .OE_COMB_SWITCH_CNT oe).raise (16 + oe) 5 (oeInst oe)

/-- The device moves a port to standby on its own: it needs the standby controller locked and AUTO_FEED = 1. -/
def Dev.feedAuto (d : Dev) (oe k : Nat) : Dev :=
  if !d.onStandby oe k ∧ d.pcLocked oe k 1 ∧ d.bit F.OE_ENG_CFG.AUTO_FEED oe then d.feedSwitch oe k true else d

/-- FEED_REJECT_TIMEOUT -/
def execFeedRejectTimeout (oe : Fin 16) (k : Fin 16) (s : State) : Host.Outcome State Fault Refusal :=
  run (·.feedAuto oe k) s

/-- The primary comb fails when at least 8 ports are dark (R81). -/
def Dev.combFail (d : Dev) (oe dark : Nat) : Dev :=
  if popBits dark 16 < 8 then d
  else
    let d := (d.setB F.OE_ENG_STAT.COMB_P_OK oe false).setB F.OE_ENG_STAT.COMB_FAIL oe true
    let d := d.raise (16 + oe) 5 (oeInst oe)
    d.each (List.range 16) fun d k => d.feedAuto oe k

/-- COMB_FAIL_DETECT -/
def execCombFailDetect (oe : Fin 16) (dark : BitVec 16) (s : State) : Host.Outcome State Fault Refusal :=
  run (·.combFail oe dark.toNat) s

/-- Return a port to the primary comb if its primary controller is locked and COMB_P_OK = 1 (R80). -/
def Dev.feedReturn (d : Dev) (oe k : Nat) : Dev :=
  if d.onStandby oe k ∧ d.pcLocked oe k 0 ∧ d.bit F.OE_ENG_STAT.COMB_P_OK oe then d.feedSwitch oe k false else d

/-- Management requests returns: ports whose FEED_FORCE bit is 0. -/
def Dev.feedRet (d : Dev) (oe v : Nat) : Dev :=
  d.each (bitList v 16) fun d k =>
    if bitAt (d.get F.OE_ENG_CFG.FEED_FORCE oe) k then d else d.feedReturn oe k

/-- OE_FEED_RET_WRITE -/
def execOeFeedRetWrite (a : Access) (oe : Fin 16) (v : Word) (s : State) : Host.Outcome State Fault Refusal :=
  run (fun d => d.onWrite a .OE_FEED_RET oe 0 fun d => d.feedRet oe v.toNat) s

/-- A write of FEED_FORCE: a set bit forces the port onto standby, a cleared one returns it (R80). -/
def Dev.feedForce (d : Dev) (oe v : Nat) : Dev :=
  let old := d.get F.OE_ENG_CFG.FEED_FORCE oe
  let d := d.set F.OE_ENG_CFG.FEED_FORCE oe v
  d.each (List.range 16) fun d k =>
    if bitAt v k then (if d.onStandby oe k then d else d.feedSwitch oe k true)
    else if bitAt old k then d.feedReturn oe k else d

/-- FEED_FORCE_WRITE -/
def execFeedForceWrite (a : Access) (oe : Fin 16) (v : BitVec 16) (s : State) : Host.Outcome State Fault Refusal :=
  run (fun d => d.onWrite a .OE_ENG_CFG oe 0 fun d => d.feedForce oe v.toNat) s

/-- COMB_S_OK: the standby comb is present and every standby controller is locked. -/
def Dev.showCombS (d : Dev) (oe : Nat) : Dev :=
  d.setB F.OE_ENG_STAT.COMB_S_OK oe
    (d.oe.combS.at false oe && (List.range 16).all fun k => d.pcLocked oe k 1)

/-- All 32 controllers are locked. -/
def Dev.allLocked (d : Dev) (oe : Nat) : Bool :=
  (List.range 16).all fun k => d.pcLocked oe k 0 && d.pcLocked oe k 1

/-- PHASE of an engine. -/
def Dev.phase (d : Dev) (oe : Nat) : Nat := d.get F.OE_ENG_STAT.PHASE oe

/-- PHASE 3 with every controller locked goes on to ring lock: the select rings preheat, those of spares with HOT_SPARE = 1
(R62, R89 steps 6 and 7). -/
def Dev.toRingLock (d : Dev) (oe : Nat) : Dev :=
  if d.phase oe = 3 ∧ d.allLocked oe then
    let d := d.set F.OE_ENG_STAT.PHASE oe 4
    d.each (List.range 288) fun d n =>
      let x := oeRing oe (2 * n)
      let p := ringPort x
      if d.ringState x = 0 ∧ (d.role p (ringLane x) false ≠ 4 ∨ d.bit F.LNK_PORT_CFG.HOT_SPARE p) then d.ringPreheat x else d
  else d

/-- A laser-feed controller gains or loses lock (R79, R80). -/
def Dev.polLock (d : Dev) (oe : Nat) (comb : Bool) (k : Nat) (locked : Bool) (rejected : Nat) : Dev :=
  let i := pcIx oe k comb.toNat
  let was := d.bit F.OE_PC_STAT.LOCKED i
  let d := (d.setB F.OE_PC_STAT.LOCKED i locked).set F.OE_PC_STAT.REJECTED i rejected
  let d := if was && !locked then
      ((d.setB F.OE_PC_STAT.UNLOCK_SEEN i true).count .OE_PC_UNLOCK_CNT oe).raise (16 + oe) 7 (oeInst oe)
    else d
  (d.showCombS oe).toRingLock oe

/-- POLARISATION_LOCK_CHANGE -/
def execPolarisationLockChange (oe : Fin 16) (comb : Bool) (k : Fin 16) (locked : Bool) (rejected : BitVec 16)
    (s : State) : Host.Outcome State Fault Refusal := run (·.polLock oe comb k locked rejected.toNat) s

/-! ## Laser fade (R82) -/

/-- A fade at −2.5 dB removes an active lane by R63 or DROP with REASON 1, when the budget allows it (R66, R82). A removal that
was refused, or found the port out of ACTIVE, starts at a later reading while the fade lasts (`again`), without another
BUDGET_EXHAUSTED. -/
def Dev.fadeSwap (d : Dev) (port lane s : Nat) (again : Bool) : Dev :=
  if 4 ≤ s ∨ d.lpState (4 * port + s) ≠ 4 ∨ d.laneNamed (4 * port + s) lane ∨ (again ∧ d.budgetOut 0 port) then d
  else
    let (ok, d) := d.tryExpel 0 port (instLane port lane)
    if ok then (d.raise (16 + port / 16) 2 (instLane port lane)).txRemove (4 * port + s) lane 1 else d

/-- A 10 ms reading of a select ring's drop power. -/
def Dev.lineReading (d : Dev) (oe k lane power : Nat) : Dev :=
  let port := 16 * oe + k
  let i := laneIx port lane
  let x := ringIx port lane 0
  if d.ringState x ≠ 4 then d
  else
    let s := d.role port lane false
    let d := if s < 4 ∧ d.lpState (4 * port + s) = 4 then d.ringCommission x else d
    let d := d.set F.OE_LINE_PWR.NOW i power
    if d.get F.OE_LINE_PWR.COMM i = 0x8000 then d.set F.OE_LINE_PWR.COMM i power
    else
      let diff := toSigned 16 power - toSigned 16 (d.get F.OE_LINE_PWR.COMM i)
      let l := d.lane i
      let warn := if diff ≤ -100 then min 4 (l.warn + 1) else 0
      let act := if diff ≤ -250 then min 4 (l.act + 1) else 0
      let clear := if -70 < diff then min 4 (l.clear + 1) else 0
      let d := d.updLane i fun l => { l with warn := warn, act := act, clear := clear }
      let d := if 3 ≤ warn ∧ !d.bit F.LNK_LANE_STAT.FADE_WARN i then
          (d.setB F.LNK_LANE_STAT.FADE_WARN i true).raise (16 + oe) 1 (instLane port lane) else d
      let d := if 3 ≤ clear then d.setB F.LNK_LANE_STAT.FADE_WARN i false else d
      if 3 ≤ act then (d.setB F.LNK_LANE_STAT.FADE_ACT i true).fadeSwap port lane s (decide (3 ≤ l.act)) else d

/-- LINE_POWER_READING -/
def execLinePowerReading (oe : Fin 16) (k : Fin 16) (lane : Fin 18) (power : BitVec 16) (s : State) :
    Host.Outcome State Fault Refusal := run (·.lineReading oe k lane power.toNat) s

/-! ## Calibration (R84, R85) -/

/-- Duration of a task in ns (Table 3.5). -/
def calNs (t : CalTask) : Nat :=
  match t with
  | .darkOffset => 12000000 | .gainCheck => 2000000 | .windowSweep => 5000000 | .tempco => 0
  | .bypassDark => 10000000 | .extinction => 1000000

/-- The port's next by-pass slot does not open within the task's duration. -/
def Dev.calRoom (d : Dev) (port : Nat) (t : CalTask) : Bool :=
  match d.nextGuard port with
  | none => true
  | some g => decide (d.time.ext + calNs t ≤ g)

/-- A ring's lane on which an intrusive task may run: it carries no position in the ring's direction and is not being lit for
a swap. -/
def Dev.calLane (d : Dev) (port lane : Nat) (t : CalTask) (drop : Bool) : Bool :=
  let r := d.role port lane drop
  (r == 4 || r == 5 || r == 6) && d.calRoom port t &&
  !(List.range 4).any fun s => (d.lp (4 * port + s)).laneOut.any fun m => m.op == 1 && m.lane == lane

/-- A by-pass slot of 20 ms or more is on at a port (Table 3.5). -/
def Dev.longSlot (d : Dev) (port : Nat) : Bool :=
  d.portBypassed port && decide (200000 ≤ d.slotLen .SBD_LIVE_SLOT d.liveSlot)

/-- Tempco refinement changes a ring's tempco by at most 16 in each hour from its first refinement on (Table 3.5; DESIGN
CHOICE: which hour is meant, log 164). -/
def Dev.refineTempco (d : Dev) (x : Nat) (delta : Int) : Dev :=
  let h := (d.ring x).refine
  let old : Nat × Int := if h = (0, 0) ∨ 3600 * 800000000 ≤ d.since h.1 then (d.raw, 0) else h
  let sum := max (-16) (min 16 (old.2 + delta))
  (d.set F.OE_RING_TEMPCO.TEMPCO x (ofSigned 16 (d.tempco x + (sum - old.2)))).updRing x fun r =>
    { r with refine := (old.1, sum) }

/-- A calibration task runs on an eligible lane of a ready engine, for its select ring or its drop ring; none changes
commissioned values (R84). Drop rings of active lanes have their dark offset taken in long by-pass slots (R85). -/
def Dev.calibrate (d : Dev) (oe : Nat) (t : CalTask) (k lane : Nat) (o : CalObs) : Dev :=
  let port := 16 * oe + k
  let x := ringIx port lane o.drop.toNat
  if d.phase oe ≠ 5 then d
  else match t with
    | .darkOffset => if d.calLane port lane t o.drop then d.updRing x fun r => { r with dark := o.value.toNat } else d
    | .bypassDark =>
      if d.longSlot port then d.updRing (ringIx port lane 1) fun r => { r with dark := o.value.toNat } else d
    | .gainCheck =>
      if d.calLane port lane t o.drop ∧ !o.ok then d.raise (16 + oe) 8 (instLane port lane) else d
    | .windowSweep =>
      if d.calLane port lane t o.drop ∧ o.ok then
        (d.set F.OE_RING_STAT.PEAK_WIDTH x o.value.toNat).updRing x fun r => { r with peak := o.peak.toNat }
      else d
    | .tempco => d.refineTempco x (toSigned 16 o.value.toNat)
    | .extinction => if o.ok then d else d.polLock oe true k false (d.get F.OE_PC_STAT.REJECTED (pcIx oe k 1))

/-- CALIBRATION_TASK -/
def execCalibrationTask (oe : Fin 16) (task : CalTask) (k : Fin 16) (lane : Fin 18) (o : CalObs) (s : State) :
    Host.Outcome State Fault Refusal := run (·.calibrate oe task k lane o) s

/-- The next transmit lane that rotation may free: active, on a port with two qualified free spares. -/
def Dev.rotLane (d : Dev) (oe : Nat) : Option Nat :=
  let from' := d.oe.rot.at 0 oe
  ((List.range 288).map fun n => (from' + n) % 288).find? fun n =>
    let port := 16 * oe + n / 18
    let s := d.role port (n % 18) false
    decide (s < 4) && d.lpState (4 * port + s) == 4 && (d.lp (4 * port + s)).txTxn.isNone &&
    decide (2 ≤ (d.freeSpares port).length) && d.cwOk (4 * port + s) (cwAhead 3)

/-- Rotation frees one active transmit lane by R63 with REASON 0 (R85). -/
def Dev.rotate (d : Dev) (oe : Nat) : Dev :=
  if !d.bit F.OE_CAL_CFG.ROTATE oe ∨ d.phase oe ≠ 5 then d
  else match d.rotLane oe with
    | none => d
    | some n =>
      let port := 16 * oe + n / 18
      let lane := n % 18
      let lp := 4 * port + d.role port lane false
      let d := { d with oe := { d.oe with rot := d.oe.rot.put 0 oe (n + 1), rotating := d.oe.rotating.put 0 oe (n + 1) } }
      d.openTxn lp 3 lane ((d.freeSpares port).headD 0) 0 false

/-- LANE_ROTATION -/
def execLaneRotation (oe : Fin 16) (s : State) : Host.Outcome State Fault Refusal := run (·.rotate oe) s

/-! ## Comb modules (R87, R88) -/

/-- Write CONTROL of both modules. -/
def Dev.moduleControl (d : Dev) (oe v : Nat) : Dev :=
  (d.emit (.i2c oe 0 false 2 v)).emit (.i2c oe 1 false 2 v)

/-- A poll of a module: three failures in a row count and raise OE_I2C_FAIL; in PHASE 1 the modules are started, shuttered. -/
def Dev.modulePoll (d : Dev) (oe : Nat) (m ok : Bool) (_status : Nat) : Dev :=
  if !d.bit F.OE_ENG_CFG.ENABLE oe then d
  else
    let key := 2 * oe + m.toNat
    if ok then
      let d := { d with oe := { d.oe with polls := d.oe.polls.erase key } }
      if d.phase oe = 1 then (d.moduleControl oe 3).set F.OE_ENG_STAT.PHASE oe 2 else d
    else
      let n := d.oe.polls.at 0 key + 1
      let d := { d with oe := { d.oe with polls := d.oe.polls.put 0 key (n % 3) } }
      if n = 3 then
        ((d.count .OE_I2C_ERR_CNT oe).setB F.OE_ENG_STAT.I2C_FAIL oe true).raise (16 + oe) 6 (oeInst oe)
      else d

/-- MODULE_POLL -/
def execModulePoll (oe : Fin 16) (modul : Bool) (ok : Bool) (status : BitVec 16) (s : State) :
    Host.Outcome State Fault Refusal :=
  run (fun d => d.modulePoll oe modul ok status.toNat) s

/-- Management reads or writes a module register: the command completes with ERR, and the data read (R88). -/
def Dev.i2cCmd (d : Dev) (oe v : Nat) (ok : Bool) (data : Nat) : Dev :=
  let read := bitAt v 30
  let d := d.emit (.i2c oe (bitAt v 29).toNat read (bitsOf v 23 16) (v % 65536))
  d.wr .OE_I2C_CMD oe 0
    (BitVec.ofNat 32 (bitsOf v 30 29 * 2 ^ 29 + (!ok).toNat * 2 ^ 28 + bitsOf v 23 16 * 65536 +
      (if read ∧ ok then data else v % 65536)))

/-- OE_I2C_CMD -/
def execOeI2cCmd (a : Access) (oe : Fin 16) (v : Word) (ok : Bool) (data : BitVec 16) (s : State) :
    Host.Outcome State Fault Refusal :=
  run (fun d => d.onWrite a .OE_I2C_CMD oe 0 fun d =>
    if bitAt v.toNat 31 then d.i2cCmd oe v.toNat ok data.toNat
    else d.writeRw .OE_I2C_CMD oe 0 v) s

/-! ## Engine power (R89, R90, R107) -/

/-- A switched domain is on. -/
def Dev.domainOn (d : Dev) (pd : Nat) : Bool := bitAt (d.get F.PWR_PD_STAT.ON 0) pd

/-- Request a domain on: the always-on island turns on one at a time, in order of request (R394). -/
def Dev.domainRequest (d : Dev) (pd : Nat) : Dev :=
  if d.domainOn pd ∨ d.pwr.pdq.contains pd then d
  else ({ d with pwr := { d.pwr with pdq := d.pwr.pdq ++ [pd] } }).setB F.PWR_PD_STAT.BUSY 0 true

/-- Turn a domain off; a request for it is dropped. -/
def Dev.domainOff (d : Dev) (pd : Nat) : Dev :=
  let q := d.pwr.pdq.filter (· != pd)
  let d := d.set F.PWR_PD_STAT.ON 0 (withBit (d.get F.PWR_PD_STAT.ON 0) pd false)
  ({ d with pwr := { d.pwr with pdq := q } }).setB F.PWR_PD_STAT.BUSY 0 (q != [])

/-- Domain writes are discarded in SAFE and RESUMING (R394). -/
def Dev.domainRefused (d : Dev) : Bool := decide (2 ≤ d.get F.PWR_STAT.STATE 0)

/-- An engine that leaves PHASE 5 while its ports are in the live table: the ports are marked lost and return to the
electrical position until the next swap (R107). -/
def Dev.sbdPortLost (d : Dev) (oe : Nat) : Dev :=
  if !d.sbdRunning then d
  else d.each (List.range 4) fun d k =>
    let i := 4 * oe + k
    if (List.range d.liveN).any (fun n => d.inBypass .SBD_LIVE_SLOT n i) then
      let d := d.set F.SBD_PORT_LOST.LOST 0 (withBit (d.get F.SBD_PORT_LOST.LOST 0) i true)
      let d := d.wrWide .SBD_PORT_BYP 0 0 (withBit (d.rdWide .SBD_PORT_BYP 0 0 2) i false) 2
      ({ d with sbd := { d.sbd with lit := (d.sbd.lit.erase i).keep fun _ v => v != i + 1
                                    lost := if d.sbd.lost.contains i then d.sbd.lost else d.sbd.lost ++ [i] } }).raise 40 3 (instDie 44)
    else d

/-- Writing ENABLE = 1: the engine's domain is requested and the power-up starts (R89). -/
def Dev.engineEnable (d : Dev) (oe : Nat) : Dev :=
  if d.domainRefused then d.count .PWR_PD_REFUSE
  else if d.bit F.OE_ENG_CFG.ENABLE oe then d
  else (d.setB F.OE_ENG_CFG.ENABLE oe true).domainRequest oe

/-- ENGINE_ENABLE -/
def execEngineEnable (a : Access) (oe : Fin 16) (s : State) : Host.Outcome State Fault Refusal :=
  run (fun d => d.onWrite a .OE_ENG_CFG oe 0 fun d => d.engineEnable oe) s

/-- The engine's domain is on: heaters at 0, but for the latched codes after a safe stop (R91), ports that FEED_FORCE names
on the standby comb (R80), PHASE 1. -/
def Dev.engineStart (d : Dev) (oe : Nat) : Dev :=
  ((d.each (List.range 576) fun d n =>
    let x := oeRing oe n
    if d.heater x = 0 ∨ (d.ring x).latched then d else d.setHeater x 0).set F.OE_ENG_STAT.FEED_STBY oe
      (d.get F.OE_ENG_CFG.FEED_FORCE oe)).set F.OE_ENG_STAT.PHASE oe 1

/-- The boot stage changes: vector 8 at both Desks (Table 16.9). -/
def Dev.stageGo (d : Dev) (st : Nat) : Dev := (d.set F.DESK_BOOT_STAT.STAGE 0 st).irqBoth 8

/-- Boot step 10: READY once every enabled engine is in PHASE 5 or 7. -/
def Dev.stageReady (d : Dev) : Dev :=
  if d.get F.DESK_BOOT_STAT.STAGE 0 = 7 ∧ d.boot.engines = [] ∧
      (List.range 16).all (fun oe => !d.bit F.OE_ENG_CFG.ENABLE oe || d.phase oe == 5 || d.phase oe == 7) then
    d.stageGo 8
  else d

/-- Power an engine down (R90): ports to DOWN, rings off but for those RETIRED (R75), modules disabled unless kept, the
domain off. -/
def Dev.engineDown (d : Dev) (oe : Nat) (keep : Bool) : Dev :=
  let was := d.phase oe
  let d := d.each (List.range 64) fun d n =>
    let lp := 64 * oe + n
    if d.lpState lp = 0 then d else d.linkDown lp 0
  let d := if was = 5 then d.sbdPortLost oe else d
  let d := d.each (List.range 576) fun d n =>
    let x := oeRing oe n
    if d.ringState x = 0 ∨ d.ringState x = 7 then d else (d.ringGo x 0).setHeater x 0
  let d := if keep ∨ was = 0 then d else d.moduleControl oe 0
  let d := { d with oe := { d.oe with combS := d.oe.combS.erase oe, polls := (d.oe.polls.erase (2 * oe)).erase (2 * oe + 1),
                                      rotating := d.oe.rotating.erase oe } }
  let d := d.each (List.range 32) fun d c => d.setB F.OE_PC_STAT.LOCKED (32 * oe + c) false
  let d := ((d.setB F.OE_ENG_STAT.COMB_P_OK oe false).setB F.OE_ENG_STAT.COMB_S_OK oe false).set F.OE_ENG_STAT.FEED_STBY oe 0
  (d.set F.OE_ENG_STAT.PHASE oe 0).domainOff oe

/-- Writing ENABLE = 0 (R90). -/
def Dev.engineDisable (d : Dev) (oe : Nat) : Dev :=
  if d.domainRefused then d.count .PWR_PD_REFUSE
  else if !d.bit F.OE_ENG_CFG.ENABLE oe then d
  else (d.setB F.OE_ENG_CFG.ENABLE oe false).engineDown oe (d.bit F.OE_ENG_CFG.KEEP_LASER oe)

/-- ENGINE_DISABLE -/
def execEngineDisable (a : Access) (oe : Fin 16) (s : State) : Host.Outcome State Fault Refusal :=
  run (fun d => d.onWrite a .OE_ENG_CFG oe 0 fun d => d.engineDisable oe) s

/-- The comb modules report ready: the shutters open, and polarisation and ring lock follow (R89 steps 4 and 5). -/
def Dev.combReady (d : Dev) (oe : Nat) (p s : Bool) : Dev :=
  if d.phase oe = 0 ∨ d.phase oe = 7 then d
  else
    let d := (d.setB F.OE_ENG_STAT.COMB_P_OK oe p)
    let d := ({ d with oe := { d.oe with combS := d.oe.combS.put false oe s } }).showCombS oe
    if p ∧ s ∧ (d.phase oe = 1 ∨ d.phase oe = 2) then
      ((d.moduleControl oe 1).set F.OE_ENG_STAT.PHASE oe 3).toRingLock oe
    else d

/-- COMB_MODULE_READY -/
def execCombModuleReady (oe : Fin 16) (prim stby : Bool) (s : State) : Host.Outcome State Fault Refusal :=
  run (·.combReady oe prim stby) s

/-- Modulator bias is locked: PHASE 5; enabled logical ports with light enter ACQUIRE (R89 steps 7 and 8). -/
def Dev.engineReadyNow (d : Dev) (oe : Nat) : Dev :=
  if d.phase oe = 4 then
    let d := d.set F.OE_ENG_STAT.PHASE oe 5
    (d.each (List.range 64) fun d n => d.enableLp (64 * oe + n)).stageReady
  else d

/-- ENGINE_READY -/
def execEngineReady (oe : Fin 16) (s : State) : Host.Outcome State Fault Refusal := run (·.engineReadyNow oe) s

/-- The module or controller steps time out: PHASE 7 and OE_COMB_FAIL (R89). -/
def Dev.powerupTimeout (d : Dev) (oe : Nat) : Dev :=
  if 1 ≤ d.phase oe ∧ d.phase oe ≤ 4 then
    (((d.set F.OE_ENG_STAT.PHASE oe 7).setB F.OE_ENG_STAT.COMB_FAIL oe true).raise (16 + oe) 5 (oeInst oe)).stageReady
  else d

/-- ENGINE_POWERUP_TIMEOUT -/
def execEnginePowerupTimeout (oe : Fin 16) (s : State) : Host.Outcome State Fault Refusal :=
  run (·.powerupTimeout oe) s

end Sys2Proof.Machine
end

