-- ==== Sys2Proof/Machine/Sbd.lean ====
section
/-! DEFINITION. The Sideboard: slot tables and their check, swaps, slot boundaries, calibration and loss of drive
(chapter 4). -/
namespace Sys2Proof.Machine

/-! ## The table check (R94, R98) -/

/-- Circuits of a slot: output and input. -/
def Dev.circuits (d : Dev) (r : Reg) (n : Nat) : List (Nat × Nat) :=
  (List.range 64).filterMap fun o => (d.slotSrc r n o).map fun s => (o, s)

/-- The indices in by-pass in a slot. -/
def bypassList (cs : List (Nat × Nat)) : List Nat :=
  (List.range 64).filter fun i => cs.any fun c => c.1 == i || c.2 == i

/-- The first SRC that two outputs name. -/
def dupSrc (cs : List (Nat × Nat)) : Option Nat :=
  (List.range 64).find? fun s => decide (2 ≤ (cs.filter fun c => c.2 == s).length)

/-- The first index in by-pass whose engine is not in PHASE 5, or whose switch die is masked. -/
def Dev.badEngine (d : Dev) (cs : List (Nat × Nat)) : Option Nat :=
  (bypassList cs).find? fun i => d.phase (i / 4) != 5 || bitAt (d.get F.SBD_DIE_MASK.MASK 0) (i / 16)

/-- Middle switches that may carry circuits: their dies are not masked and no cell of theirs is out. -/
def Dev.middles (d : Dev) : List Nat :=
  (List.range 8).filter fun m => !bitAt (d.get F.SBD_DIE_MASK.MASK 0) (m / 2) && !d.sbd.cellOut.contains (8 + m)

/-- The first index of a slot that cannot be routed: its input or output switch is out, or carries more circuits than
there are middle switches. With that many at most, every circuit can be routed (the network is rearrangeable). -/
def Dev.unroutable (d : Dev) (cs : List (Nat × Nat)) : Option Nat :=
  let m := d.middles.length
  (cs.find? fun c =>
    d.sbd.cellOut.contains (c.2 / 8) || d.sbd.cellOut.contains (16 + c.1 / 8) ||
    decide (m < (cs.filter fun x => x.2 / 8 == c.2 / 8).length) ||
    decide (m < (cs.filter fun x => x.1 / 8 == c.1 / 8).length)).map Prod.fst

/-- A circuit with its middle switch: output, input, middle switch. -/
structure Routed where
  /-- output -/
  o : Nat
  /-- input -/
  s : Nat
  /-- middle switch -/
  m : Nat
  deriving DecidableEq, Repr

/-- The output switch, or the input switch, of a routed circuit. -/
def Routed.sw (x : Routed) (out : Bool) : Nat := if out then x.o / 8 else x.s / 8

/-- No circuit of an input or output switch goes through middle switch `m`. -/
def midFree (l : List Routed) (out : Bool) (sw m : Nat) : Bool := !l.any fun x => x.sw out == sw && x.m == m

/-- Exchange middle switches `a` and `b` along the chain of circuits that starts at a switch with the circuit through `a`. -/
def swapChain (l : List Routed) (out : Bool) (sw a b : Nat) : Nat → List Routed
  | 0 => l
  | n + 1 =>
    match l.find? fun x => x.sw out == sw && x.m == a with
    | none => l
    | some x => (swapChain l (!out) (x.sw (!out)) b a n).map fun y => if y.o = x.o then { y with m := b } else y

/-- Route one more circuit: through a middle switch free at both its ends, or after an exchange that frees one. -/
def routeOne (mids : List Nat) (l : List Routed) (c : Nat × Nat) : List Routed :=
  match mids.find? fun m => midFree l true (c.1 / 8) m && midFree l false (c.2 / 8) m with
  | some m => l ++ [⟨c.1, c.2, m⟩]
  | none =>
    match mids.find? (midFree l false (c.2 / 8)), mids.find? (midFree l true (c.1 / 8)) with
    | some a, some b => swapChain l true (c.1 / 8) a b 64 ++ [⟨c.1, c.2, a⟩]
    | _, _ => l

/-- The middle-switch assignment of a slot's circuits (R94; which one is a DESIGN CHOICE, log 24). -/
def routeAll (mids : List Nat) (cs : List (Nat × Nat)) : List Routed := cs.foldl (routeOne mids) []

/-- The assignment of every slot of the shadow table. -/
def Dev.shadowRoutes (d : Dev) : Tbl Nat :=
  (List.range (d.get F.SBD_SHADOW_N.N 0)).foldl (fun t n =>
    (routeAll d.middles (d.circuits .SBD_SHADOW_SLOT n)).foldl (fun t x => Tbl.put t 0 (key2 n x.o) (x.m + 1)) t) []

/-- The length of the electrical run of an index that starts at slot `n`, cyclically, in units of 100 ns. -/
def runLen (lens : List Nat) (byp : List (List Nat)) (i n : Nat) : Nat → Nat
  | 0 => 0
  | k + 1 =>
    if (byp.getD (n % lens.length) []).contains i then 0
    else lens.getD (n % lens.length) 0 + runLen lens byp i (n + 1) k

/-- The first slot and index whose electrical interval between two by-pass intervals is shorter than GUARD + 10 µs. -/
def shortRun (lens : List Nat) (byp : List (List Nat)) (least : Nat) : Option (Nat × Nat) :=
  let n := lens.length
  (List.range n).findSome? fun k =>
    ((byp.getD ((k + n - 1) % n) []).find? fun i =>
      !(byp.getD k []).contains i && decide (runLen lens byp i k n < least)).map fun i => (k, i)

/-- The check of R98 on the shadow: code, first failing slot and index; code 0 passes. -/
def Dev.sbdCheck (d : Dev) : Nat × Nat × Nat :=
  let n := d.get F.SBD_SHADOW_N.N 0
  if n = 0 then (0, 0, 0)
  else if 64 < n then (1, 0, 0)
  else
    let lens := (List.range n).map fun k => d.slotLen .SBD_SHADOW_SLOT k
    let css := (List.range n).map fun k => d.circuits .SBD_SHADOW_SLOT k
    let byp := css.map bypassList
    let first (f : List (Nat × Nat) → Option Nat) : Option (Nat × Nat) :=
      (List.range n).findSome? fun k => (f (css.getD k [])).map fun i => (k, i)
    match (List.range n).find? fun k => decide (lens.getD k 0 < 10) with
    | some k => (2, k, 0)
    | none => match first dupSrc with
      | some (k, i) => (3, k, i)
      | none => match first d.badEngine with
        | some (k, i) => (4, k, i)
        | none => match shortRun lens byp (max 5 (d.get F.SBD_CTL.GUARD 0) + 100) with
          | some (k, i) => (5, k, i)
          | none =>
            if 2 ^ 31 < 100 * lens.sum then (6, 0, 0)
            else match first d.unroutable with
              | some (k, i) => (7, k, i)
              | none => (0, 0, 0)

/-- ARMED: a swap is pending. -/
def Dev.sbdArmed (d : Dev) : Bool := d.bit F.SBD_STAT.ARMED 0

/-- CHECK; ignored while a swap is armed (R99). A table that passes has its middle switches assigned (R94). -/
def Dev.sbdCheckCmd (d : Dev) : Dev :=
  if d.sbdArmed then d
  else
    let (c, k, i) := d.sbdCheck
    let d := d.setB F.SBD_STAT.SHADOW_OK 0 (c == 0)
    let d := { d with sbd := { d.sbd with shadowRoute := if c = 0 then d.shadowRoutes else [] } }
    ((d.set F.SBD_STAT.CHECK_ERR 0 c).set F.SBD_STAT.BAD_SLOT 0 k).set F.SBD_STAT.BAD_PORT 0 i

/-- SBD_CHECK -/
def execSbdCheck (a : Access) (s : State) : Host.Outcome State Fault Refusal :=
  run (fun d => d.onWrite a .SBD_CTL 0 0 Dev.sbdCheckCmd) s

/-- A write to the shadow table or its N: discarded and counted while a swap is armed, else SHADOW_OK clears (R99). -/
def Dev.shadowWrite (d : Dev) (r : Reg) (i w : Nat) (v : Word) : Dev :=
  if d.sbdArmed then d.count .SBD_LATE_WR_CNT
  else (d.writeRw r i w v).setB F.SBD_STAT.SHADOW_OK 0 false

/-- SBD_SHADOW_WRITE -/
def execSbdShadowWrite (a : Access) (addr : BitVec 26) (v : Word) (s : State) : Host.Outcome State Fault Refusal :=
  run (fun d =>
    match decodeAddr a.deskB.toNat (addr.toNat / 4 * 4) with
    | some (.SBD_SHADOW_SLOT, i, w) => d.onWrite a .SBD_SHADOW_SLOT i w fun d => d.shadowWrite .SBD_SHADOW_SLOT i w v
    | some (.SBD_SHADOW_N, i, w) => d.onWrite a .SBD_SHADOW_N i w fun d => d.shadowWrite .SBD_SHADOW_N i w v
    | _ => d) s

/-- SBD_LIVE_WRITE: discarded and counted (R99). -/
def execSbdLiveWrite (a : Access) (addr : BitVec 26) (_v : Word) (s : State) : Host.Outcome State Fault Refusal :=
  run (fun d =>
    match decodeAddr a.deskB.toNat (addr.toNat / 4 * 4) with
    | some (.SBD_LIVE_SLOT, i, w) => d.onWrite a .SBD_LIVE_SLOT i w fun d => d.count .SBD_LATE_WR_CNT
    | some (.SBD_LIVE_N, i, w) => d.onWrite a .SBD_LIVE_N i w fun d => d.count .SBD_LATE_WR_CNT
    | _ => d) s

/-! ## Positions (R101, R103, Table 4.6) -/

/-- The logical ports of a Sideboard index's physical port, each changed. -/
def Dev.eachLp (d : Dev) (i : Nat) (f : Dev → Nat → Dev) : Dev :=
  d.each (List.range 4) fun d s => f d (4 * sbdPort i + s)

/-- A port enters by-pass: its logical ports are in HOLD and its drop rings hold. -/
def Dev.enterBypass (d : Dev) (i : Nat) : Dev :=
  (d.eachLp i Dev.toHold).dropRings (sbdPort i) 4 Dev.ringHold

/-- A port leaves by-pass: drop rings return to LOCKED without a sweep, the logical ports go to REACQUIRE. -/
def Dev.leaveBypass (d : Dev) (i : Nat) : Dev :=
  (d.dropRings (sbdPort i) 5 fun d x =>
    if (d.ring x).unlit then d else d.ringGo x 4).eachLp i Dev.toReacquire

/-- A circuit with no lost port (R107). -/
def Dev.circuitOk (d : Dev) (c : Nat × Nat) : Bool := !d.sbd.lost.contains c.1 && !d.sbd.lost.contains c.2

/-- The circuits that a slot of the live table lights: those of lost ports stay dark (R107). -/
def Dev.liveCircuits (d : Dev) (n : Nat) : List (Nat × Nat) := (d.circuits .SBD_LIVE_SLOT n).filter d.circuitOk

/-- The ports in by-pass under the circuits of a slot: lost ports stay electrical (R97, R107). -/
def Dev.bypassNow (d : Dev) (cs : List (Nat × Nat)) : List Nat := (bypassList cs).filter fun i => !d.sbd.lost.contains i

/-- Each port takes the position of the circuits given: those that change go dark, and SBD_PORT_BYP shows the ports in
by-pass. -/
def Dev.takePositions (d : Dev) (cs : List (Nat × Nat)) : Dev :=
  let now := d.bypassNow cs
  let was := (List.range 64).filter d.bypassed
  let d := d.each (now.filter fun i => !was.contains i) Dev.enterBypass
  let d := d.each (was.filter fun i => !now.contains i) Dev.leaveBypass
  let d := { d with sbd := { d.sbd with lit := d.sbd.lit.keep fun o v => cs.contains (o, v - 1) && d.circuitOk (o, v - 1) } }
  d.wrWide .SBD_PORT_BYP 0 0 ((now.map fun i => 2 ^ i).sum) 2

/-- Every port returns to electrical, with no guard. -/
def Dev.allElectrical (d : Dev) : Dev := d.takePositions []

/-! ## Swaps (R100) -/

/-- A swap action fires at extended time L: armed, or refused (R100). -/
def Dev.sbdSwapFire (d : Dev) (l : Nat) : Dev :=
  let st := d.get F.SBD_STAT.STATE 0
  if !d.bit F.SBD_STAT.SHADOW_OK 0 ∨ st = 0 ∨ st = 3 then (d.count .SBD_REFUSE_CNT).raise 40 1 (instDie 44)
  else if d.sbdArmed then d
  else { d.setB F.SBD_STAT.ARMED 0 true with sbd := { d.sbd with swapAt := some l } }

/-- Copy one table's words over another's. -/
def Dev.copyTable (d src : Dev) (r r' : Reg) : Dev :=
  d.each (List.range 64) fun d n => d.each (List.range 17) fun d w => d.wr r' n w (src.rd r n w)

/-- The shadow becomes live and the former live table becomes the shadow, with SHADOW_OK = 0 (R100); a running table has then
completed a cycle. -/
def Dev.sbdSwap (d : Dev) : Dev :=
  match d.sbd.swapAt with
  | none => d
  | some l =>
    let t := d.swapTime l
    let old := d
    let n := d.get F.SBD_SHADOW_N.N 0
    let d := (d.copyTable old .SBD_SHADOW_SLOT .SBD_LIVE_SLOT).copyTable old .SBD_LIVE_SLOT .SBD_SHADOW_SLOT
    let d := (d.set F.SBD_SHADOW_N.N 0 old.liveN).set F.SBD_LIVE_N.N 0 n
    let d := (d.set F.SBD_POS.LIVE_N 0 n).set F.SBD_POS.LIVE_SLOT 0 0
    let d := (d.setB F.SBD_STAT.SHADOW_OK 0 false).setB F.SBD_STAT.ARMED 0 false
    let d := { d with sbd := { d.sbd with
      swapAt := none, slotStart := t, guard := d.get F.SBD_CTL.GUARD 0, lost := [],
      liveRoute := d.sbd.shadowRoute, shadowRoute := d.sbd.liveRoute } }
    let d := if old.sbdRunning then d.addWrap64 .SBD_CYCLE_CNT 0 1 else d
    let d := (d.count .SBD_SWAP_CNT).genBump
    if n = 0 then (d.set F.SBD_STAT.STATE 0 1).allElectrical
    else
      let d := d.set F.SBD_STAT.STATE 0 2
      d.takePositions (d.circuits .SBD_LIVE_SLOT 0)

/-- SBD_SWAP_TAKE_EFFECT -/
def execSbdSwapTakeEffect (s : State) : Host.Outcome State Fault Refusal := run Dev.sbdSwap s

/-- The circuits of the shadow's slot 0; none with N = 0. -/
def Dev.shadowFirst (d : Dev) : List (Nat × Nat) :=
  if d.get F.SBD_SHADOW_N.N 0 = 0 then [] else d.circuits .SBD_SHADOW_SLOT 0

/-- The ports in by-pass in the slot that begins at the next boundary: the shadow's slot 0 when the swap takes effect
there. -/
def Dev.nextBypass (d : Dev) : List Nat :=
  let live := d.bypassNow (d.circuits .SBD_LIVE_SLOT (d.nextSlot d.liveSlot))
  match d.sbd.swapAt with
  | some l =>
    if !d.sbdRunning then bypassList d.shadowFirst
    else if d.nextSlot d.liveSlot = 0 ∧ d.swapTime l = d.sbd.slotStart + d.slotsNs d.liveSlot d.liveN then
      bypassList d.shadowFirst
    else live
  | none => if d.sbdRunning then live else []

/-- A port's guard has opened by now: its boundary may lie beyond slots that are shorter than GUARD. -/
def Dev.guardOpen (d : Dev) (i : Nat) : Bool :=
  match d.nextGuard (sbdPort i) with
  | some t => decide (t ≤ d.time.ext) && !d.sbd.lost.contains i
  | none => false

/-- GUARD before a boundary: the logical ports of a port that enters by-pass go to HOLD (R59, Table 4.6). -/
def Dev.slotGuard (d : Dev) : Dev :=
  d.each ((List.range 64).filter fun i => !d.bypassed i && (d.nextBypass.contains i || d.guardOpen i)) fun d i =>
    d.eachLp i Dev.toHold

/-- SLOT_GUARD -/
def execSlotGuard (s : State) : Host.Outcome State Fault Refusal := run Dev.slotGuard s

/-- A slot boundary of the live table (R97, R101). -/
def Dev.slotBoundary (d : Dev) : Dev :=
  if !d.sbdRunning then d
  else
    let cur := d.liveSlot
    let next := d.nextSlot cur
    let d := { d with sbd := { d.sbd with slotStart := d.sbd.slotStart + 100 * d.slotLen .SBD_LIVE_SLOT cur } }
    let d := d.set F.SBD_POS.LIVE_SLOT 0 next
    let d := if next = 0 then d.addWrap64 .SBD_CYCLE_CNT 0 1 else d
    d.takePositions (d.circuits .SBD_LIVE_SLOT next)

/-- SLOT_BOUNDARY -/
def execSlotBoundary (s : State) : Host.Outcome State Fault Refusal := run Dev.slotBoundary s

/-- SBD_GAIN of an output, signed, clamped to −40 … 120 (Table 4.9). -/
def Dev.sbdGain (d : Dev) (o : Nat) : Int := max (-40) (min 120 (toSigned 8 (d.get F.SBD_GAIN.GAIN o)))

/-- After DARK: the cells are set to the new circuits and their gain is applied (Table 4.6 step 3). -/
def Dev.darkEnd (d : Dev) : Dev :=
  if !d.sbdRunning then d
  else d.each (d.liveCircuits d.liveSlot) fun d c =>
    if d.sbd.lit.at 0 c.1 = c.2 + 1 then d
    else { d with sbd := { d.sbd with lit := d.sbd.lit.put 0 c.1 (c.2 + 1),
                                      gain := d.sbd.gain.put 0 c.1 (BitVec.ofNat 32 (ofSigned 8 (d.sbdGain c.1))) } }

/-- SLOT_DARK_END -/
def execSlotDarkEnd (s : State) : Host.Outcome State Fault Refusal := run Dev.darkEnd s

/-! ## Calibration (R105) -/

/-- A switch carries a circuit of the slot in progress: as its input, its output, or its middle switch. -/
def Dev.switchUsed (d : Dev) (sw : Nat) : Bool :=
  d.sbdRunning && (d.liveCircuits d.liveSlot).any fun c =>
    c.2 / 8 == sw || 16 + c.1 / 8 == sw || d.sbd.liveRoute.at 0 (key2 d.liveSlot c.1) == sw - 8 + 1 && decide (8 ≤ sw ∧ sw < 16)

/-- A bias trim has its cells: in IDLE, or on a switch of no circuit in a slot of 100 µs or more (Table 4.7). -/
def Dev.trimFits (d : Dev) (sw : Nat) : Bool :=
  !d.sbdRunning || (decide (1000 ≤ d.slotLen .SBD_LIVE_SLOT d.liveSlot) && !d.switchUsed sw)

/-- A calibration task of the SC dies and its outcome; no task runs with AUTO_CAL = 0, and none on a lit circuit. A command
names a switch and not a cell, so the cells of a switch are taken to be on no circuit when the switch carries none (DESIGN
CHOICE, log 165). -/
def Dev.sbdCal (d : Dev) (o : SbdCalObs) : Dev :=
  let st := d.get F.SBD_STAT.STATE 0
  if !d.bit F.SBD_CTL.AUTO_CAL 0 ∨ (st ≠ 1 ∧ st ≠ 2) then d
  else match o.task with
    | .darkLevel =>
      if o.ok ∨ d.sbd.lit.at 0 o.port ≠ 0 then d
      else ((d.setB F.SBD_OUT_STAT.LEAK o.port true).count .SBD_CAL_FAIL_CNT).raise 40 4 (instDie 44)
    | .ampGain =>
      if d.sbd.lit.at 0 o.port ≠ 0 then d
      else
        let d := d.setB F.SBD_OUT_STAT.AMP_OK o.port o.ok
        if o.ok then d
        else ((d.setB F.SBD_OUT_STAT.AMP_FAULT o.port true).count .SBD_CAL_FAIL_CNT).raise 40 5 (instDie 44)
    | .biasTrim | .fullSweep =>
      if o.ok ∨ (o.task = .fullSweep ∧ st ≠ 1) ∨ (o.task = .biasTrim ∧ !d.trimFits o.switch) then d
      else
        let d := if d.sbd.cellOut.contains o.switch.val then d
          else { d with sbd := { d.sbd with cellOut := d.sbd.cellOut ++ [o.switch.val] } }
        (d.count .SBD_CAL_FAIL_CNT).raise 40 4 (instDie 44)

/-- SBD_CALIBRATION -/
def execSbdCalibration (o : SbdCalObs) (s : State) : Host.Outcome State Fault Refusal := run (·.sbdCal o) s

/-! ## States and loss of drive (R106 to R108) -/

/-- All six Sideboard domains are on. -/
def Dev.sbdPowered (d : Dev) : Bool := (List.range 6).all fun n => d.domainOn (24 + n)

/-- Refuse an armed swap. -/
def Dev.sbdDisarm (d : Dev) : Dev :=
  if d.sbdArmed then
    let d := { d.setB F.SBD_STAT.ARMED 0 false with sbd := { d.sbd with swapAt := none } }
    (d.count .SBD_REFUSE_CNT).raise 40 1 (instDie 44)
  else d

/-- No table is live. -/
def Dev.sbdNoLive (d : Dev) : Dev :=
  ((d.set F.SBD_LIVE_N.N 0 0).set F.SBD_POS.LIVE_N 0 0).set F.SBD_POS.LIVE_SLOT 0 0

/-- Enter FAILED: every port returns to electrical with no guard (R107). -/
def Dev.sbdFail (d : Dev) : Dev :=
  let d := (d.set F.SBD_STAT.STATE 0 3).allElectrical
  ((d.sbdDisarm.sbdNoLive).count .SBD_ABORT_CNT).raise 40 2 (instDie 44)

/-- The switch dies that lose their drive with the dies of a mask: those named, and those that a lost control die drives
(bits 4 and 5, SC0 and SC1; Table 4.1). -/
def drivenBy (dies : Nat) : List Nat :=
  (List.range 4).filter fun n => bitAt dies n || (decide (n < 2) && bitAt dies 4) || (decide (2 ≤ n) && bitAt dies 5)

/-- Switch dies have no drive: FAILED from IDLE and RUNNING (R107). -/
def Dev.noDriveOn (d : Dev) (lost : List Nat) : Dev :=
  let st := d.get F.SBD_STAT.STATE 0
  if lost = [] then d
  else
    let d := { d with sbd := { d.sbd with noDrive := d.sbd.noDrive ++ lost.filter fun n => !d.sbd.noDrive.contains n } }
    if st = 1 ∨ st = 2 then d.sbdFail else d

/-- Loss of drive on switch dies. A control die that is lost, or its side link, is reached no more (R20, Table 1.2). -/
def Dev.driveLost (d : Dev) (dies : Nat) : Dev :=
  let gone := (if bitAt dies 4 then [5] else []) ++ if bitAt dies 5 then [10] else []
  { d.noDriveOn (drivenBy dies) with
    bus := { d.bus with sideFail := d.bus.sideFail ++ gone.filter fun t => !d.bus.sideFail.contains t } }

/-- SBD_DRIVE_LOST -/
def execSbdDriveLost (dies : BitVec 6) (s : State) : Host.Outcome State Fault Refusal := run (·.driveLost dies.toNat) s

/-- CLEAR leaves FAILED for IDLE once all six domains are on and SBD_DIE_MASK marks every die without drive. -/
def Dev.sbdClear (d : Dev) : Dev :=
  if d.get F.SBD_STAT.STATE 0 = 3 ∧ d.sbdPowered ∧ d.sbd.noDrive.all (fun n => bitAt (d.get F.SBD_DIE_MASK.MASK 0) n) then
    d.set F.SBD_STAT.STATE 0 1
  else d

/-- SBD_CLEAR -/
def execSbdClear (a : Access) (s : State) : Host.Outcome State Fault Refusal :=
  run (fun d => d.onWrite a .SBD_CTL 0 0 Dev.sbdClear) s

/-- A Sideboard domain came on: a control die is reached again (PD28 and PD29), and IDLE follows once all six are on (Table
4.8). -/
def Dev.sbdDomainOn (d : Dev) (pd : Nat) : Dev :=
  let d := { d with bus := { d.bus with
    sideFail := d.bus.sideFail.filter fun t => t != if pd = 28 then 5 else if pd = 29 then 10 else 16 } }
  if d.get F.SBD_STAT.STATE 0 = 0 ∧ d.sbdPowered then
    { (d.set F.SBD_STAT.STATE 0 1).sbdNoLive with sbd := { d.sbd with noDrive := [] } }
  else d

/-- A Sideboard domain went off: OFF from IDLE, FAILED from RUNNING (R106 to R108). -/
def Dev.sbdDomainOff (d : Dev) : Dev :=
  if d.sbdRunning then d.sbdFail
  else if d.get F.SBD_STAT.STATE 0 = 1 then d.sbdDisarm.set F.SBD_STAT.STATE 0 0 else d

end Sys2Proof.Machine
end

