-- ==== Sys2Proof/Machine/Units.lean ====
section
/-! DEFINITION. Units in and out of service (R346, R349), the two Desks (R337), isolation of a Cabinet die (R246), and
what the resets of Table 18.8 clear. -/
namespace Sys2Proof.Machine

/-! ## Unit states (Tables 15.6 and 15.12) -/

/-- The index of BUR_UNIT of a unit (Tables 15.1, 15.12); none for the device. -/
def unitDie (u : Nat) : Option Nat :=
  if u < 16 then some u
  else if u < 32 then some (u + 12)
  else if u < 40 then some (u - 16)
  else if u = 40 then some 44
  else if u = 41 ∨ u = 42 then some (u - 15)
  else none

/-- The unit of an index of BUR_UNIT. -/
def dieUnit (n : Nat) : Nat :=
  if n < 16 then n else if n < 24 then n + 16 else if n < 26 then 40 else if n < 28 then n + 15
  else if n < 44 then n - 12 else 40

/-- STATE of a unit. -/
def Dev.unitState (d : Dev) (n : Nat) : Nat := d.get F.BUR_UNIT.STATE n

/-- A unit changes state. On leaving service it keeps the DESK_GEN it was loaded at; on return it has passed the check of
R349: its copies are current and STALE is clear. -/
def Dev.unitGo (d : Dev) (n st : Nat) : Dev :=
  let was := d.unitState n
  let d :=
    if was = 0 ∧ st ≠ 0 then
      (d.set F.BUR_UNIT.CFG_GEN n (d.get F.BUR_GEN.DESK_GEN 0)).updBur fun b => { b with outGen := b.outGen.insert n b.gens }
    else if was ≠ 0 ∧ st = 0 then
      (d.set F.BUR_UNIT.CFG_GEN n (d.get F.BUR_GEN.DESK_GEN 0)).updBur fun b => { b with outGen := b.outGen.erase n }
    else d
  d.set F.BUR_UNIT.STATE n st

/-- CFG_GEN of a unit: DESK_GEN while it is in service (R349). -/
def Dev.unitGen (d : Dev) (n : Nat) : Nat :=
  if d.unitState n = 0 then d.get F.BUR_GEN.DESK_GEN 0 else d.get F.BUR_UNIT.CFG_GEN n

/-- STALE: the unit stayed out while DESK_GEN advanced by 32,768 (R349). -/
def Dev.unitStale (d : Dev) (n : Nat) : Bool :=
  match d.bur.outGen.find n with
  | some g => decide (g + 32768 ≤ d.bur.gens)
  | none => false

/-! ## The two Desks (R337, R375) -/

/-- The master Desk is Desk A, or Desk B while A is out of service and B is not. -/
def Dev.setMaster (d : Dev) : Dev :=
  let b := if d.deskUp 0 then false else if d.deskUp 1 then true else d.bit F.BUR_CTL.MASTER 0
  (d.setB F.BUR_CTL.MASTER 0 b).setB F.MNT_CTL.MASTER 0 b

/-- Free every semaphore that a Desk holds; SEM_FREE is raised at the other one. -/
def Dev.semDrop (d : Dev) (k : Nat) : Dev :=
  d.each (List.range 32) fun d n =>
    if d.get F.DESK_SEM.OWNER n = k + 1 then (d.wr .DESK_SEM n 0 0).irq (1 - k) 6 else d

/-- A Desk leaves service: the other becomes master, an update that it had not distributed is lost (Table 13.4), and its
semaphores are free. -/
def Dev.deskLeave (d : Dev) (k st : Nat) : Dev :=
  let was := d.master
  let d := (d.unitGo (26 + k) st).setMaster
  let d := if was = k ∧ d.master ≠ k then
      (d.setB F.MNT_CTL.UPD_PEND 0 false).updTime fun t => { t with upd := none }
    else d
  (d.semDrop k).irq (1 - k) 9

/-- A Desk returns, reloaded from the other (R229, R349). -/
def Dev.deskReturn (d : Dev) (k : Nat) : Dev := (d.unitGo (26 + k) 0).setMaster

/-- The register of a number. -/
def regOfNum (n : Nat) : Option RegDesc := regTable.find? fun e => e.reg.num == n

/-- Register words for which a test on the register, the entry and the word fails return to their reset values. -/
def Dev.keepRegs (d : Dev) (p : RegDesc → Nat → Nat → Bool) : Dev :=
  { d with regs := d.regs.keep fun k _ =>
      match regOfNum (Nat.unpair k).1 with
      | some e => p e (Nat.unpair (Nat.unpair k).2).1 (Nat.unpair (Nat.unpair k).2).2
      | none => false }

/-- A Desk reset (Table 18.8): its Desk-local registers, its log pointers, its latches and its port's store. -/
def Dev.deskReset (d : Dev) (k : Nat) : Dev :=
  let d := d.keepRegs fun e i _ => !(e.perDesk && i / e.entries == k)
  { d with bus := { d.bus with latch := (d.bus.latch.erase (2 * k)).erase (2 * k + 1) },
           boot := { d.boot with eth := d.boot.eth.erase k } }

/-- The latch of a Desk's PCIe path is cleared, with its MSI-X table and pending bits (Table 18.8, R421). -/
def Dev.pcieReset (d : Dev) (k : Nat) : Dev :=
  let d := d.keepRegs fun e i _ => !((e.reg == .DESK_MSIX || e.reg == .DESK_MSIX_PBA) && i / e.entries == k)
  { d with bus := { d.bus with latch := d.bus.latch.erase (2 * k) } }

/-- PERST -/
def execPerst (deskB : Bool) (s : State) : Host.Outcome State Fault Refusal := run (·.pcieReset (deskNo deskB)) s

/-! ## What a reset of dies clears (Tables 17.5 and 18.8) -/

/-- Registers that count or hold sample records. -/
def isCounter (r : Reg) : Bool :=
  (r.masks 0).rc != 0 || (r.masks 1).rc != 0 ||
  [Reg.LNK_CW_CNT, .XBAR_PMC_VAL, .XBAR_PMC_PORT_RX, .XBAR_PMC_PORT_TX, .CAB_PMC_VAL, .TM_SMP_RING, .TM_SMP_WPTR,
   .TM_SMP_RPTR, .SBD_CYCLE_CNT].contains r

/-- Counters and sample rings whose address lies in a range return to zero. -/
def Dev.zeroCounters (d : Dev) (lo hi : Nat) : Dev :=
  d.keepRegs fun e i w => !(isCounter e.reg && decide (lo ≤ regAddr e.reg i w ∧ regAddr e.reg i w < hi))

/-- The block of a die of BUR_UNIT: from, and up to. Optical engines lie in their tile's block. -/
def unitBlock (n : Nat) : Nat × Nat :=
  if n < 16 then (0x1000000 + n * 0x100000, 0x1000000 + (n + 1) * 0x100000)
  else if n < 24 then (0x2000000 + (n - 16) * 0x100000, 0x2000000 + (n - 15) * 0x100000)
  else if n < 26 ∨ n = 44 then (0x2800000, 0x3000000)
  else if 28 ≤ n ∧ n < 44 then (0x1080000 + (n - 28) * 0x100000, 0x1090000 + (n - 28) * 0x100000)
  else (0, 0)

/-- The Coat Rack of a tile is empty. -/
def Dev.coatClear (d : Dev) (t : Nat) : Dev :=
  (d.updTime fun x => { x with coat := x.coat.erase t }).set F.MNT_CR_STAT.HELD t 0

/-- A mesh die holds no cell any more: its frames, queues, crossbar and accounts, and its ends of the mesh links
(R350). -/
def Dev.meshDieClear (d : Dev) (m : Nat) : Dev :=
  let mine {α : Type} (t : Tbl α) : Tbl α := t.keep fun k _ => (Nat.unpair k).1 != m
  let nbr := (List.range 4).filterMap fun dir => (meshNbr m dir).map fun c => key2 c (meshOpp dir)
  let clear (t : Tbl MeshEnd) (k : Nat) : Tbl MeshEnd :=
    Tbl.upd t {} k fun e => { steer := e.steer, retired := e.retired }
  let d := d.updCore fun c =>
    { c with frames := c.frames.keep fun _ f => f.die != m
             lanes := mine c.lanes, mids := mine c.mids
             triples := mine c.triples, queues := mine c.queues, accts := mine c.accts
             ends := (((List.range 4).map (key2 m)) ++ nbr).foldl clear c.ends
             wire := (mine c.wire).keep fun k _ => !nbr.contains k
             inbox := c.inbox.keep fun k _ => (Nat.unpair k).1 != m || (Nat.unpair k).2 == 3 }
  (d.wr .XBAR_SHARED_USED m 0 0).orphans true

/-- The counters and queues of a die return to zero (Table 18.8, rejoin of one die). -/
def Dev.dieClear (d : Dev) (n : Nat) : Dev :=
  let d := if n < 24 then d.meshDieClear n else d
  let d := if n < 16 then (d.coatClear n).updTm fun t => { t with smpSeq := t.smpSeq.erase n } else d
  d.zeroCounters (unitBlock n).1 (unitBlock n).2

/-! ## Isolation (R246, Table 15.4) -/

/-- A Cabinet die is isolated: its ACTIVE bit is cleared and its contexts are lost. -/
def Dev.cabIsolate (d : Dev) (c : Nat) : Dev :=
  (d.set F.DRW_PLACE_CFG.ACTIVE 0 (withBit (d.get F.DRW_PLACE_CFG.ACTIVE 0) c false)).cabLost c

/-- A logical port is forced to DOWN while its unit is out (Table 15.4). -/
def Dev.forceDown (d : Dev) (lp : Nat) : Dev :=
  let d := d.updLp lp fun l => { l with forced := true }
  if d.lpState lp = 0 then d else d.linkDown lp 0

/-- The forced DOWN is released: the port follows ADMIN_UP and Table 2.7 (R347). -/
def Dev.releaseDown (d : Dev) (lp : Nat) : Dev := (d.updLp lp fun l => { l with forced := false }).enableLp lp

/-- The ports of a tile. -/
def tileLps (t : Nat) : List Nat := (List.range 64).map (64 * t + ·)

end Sys2Proof.Machine
end

