-- ==== Sys2Proof/Machine/MeshFault.lean ====
section
/-! DEFINITION. A mesh link that fails, with the Cabinet die that it may attach (R19, R246); the end of a retrain, and a
lane switch (R16, R172, R173). -/
namespace Sys2Proof.Machine

/-- The Cabinet die that a link attaches to the mesh: 0 to 7. -/
def attachCab (m dir : Nat) : Option Nat :=
  if 16 ≤ m then some (m - 16)
  else match meshNbr m dir with
    | some c => if 16 ≤ c then some (c - 16) else none
    | none => none

/-- A mesh link fails. A Cabinet die that it attached is unreachable from every tile: its handles are re-placed, and a
standby die is no longer designated (R19, R27, R246). -/
def Dev.meshFail (d : Dev) (m dir : Nat) : Dev :=
  let d := d.linkFail m dir
  match attachCab m dir with
  | some c => d.cabLost c
  | none => d

/-- A retrain of a link direction ends (R172). Up: the groups not retired serve, the sender resends from the frame last asked
for, and each lane that failed its PRBS31 check is repaired (R173). Failed: a third failure within 1 s fails the
link; otherwise the retrain goes on. -/
def Dev.meshRetrained (d : Dev) (die dir : Nat) (ok : Bool) (bad : List Nat) : Dev :=
  let r := meshReg die dir
  let left := 21 - (d.meshEnd die dir).retired.length
  if d.get F.XBAR_MESH_STAT.STATE r ≠ 3 then d
  else if ok ∧ left ≠ 0 then
    let d := ((d.set F.XBAR_MESH_STAT.STATE r 2).set F.XBAR_MESH_STAT.GROUPS r left).updEnd die dir fun e =>
      { e with retraining := false }
    let d := match meshNbr die dir with
      | some c =>
        let e := d.meshEnd c (meshOpp dir)
        match e.lastReq with
        | some n => d.updCore fun x =>
            { x with wire := x.wire.upd [] (key2 c (meshOpp dir)) (· ++ e.store.dropWhile fun (m : MeshFrame) => m.num != n) }
        | none => d
      | none => d
    d.each bad fun d l => d.laneFails die dir l
  else
    let ts := ((d.meshEnd die dir).failTimes.filter fun t => decide (d.since t ≤ 800000000)) ++ [d.raw]
    let d := d.updEnd die dir fun e => { e with failTimes := ts }
    if 3 ≤ ts.length then (d.forceExpel 3 0 (instMesh die dir)).meshFail die dir
    else d.count .XBAR_MESH_RETRAIN r

/-- MESH_RETRAIN_DONE -/
def execMeshRetrainDone (die : Fin 24) (dir : Fin 4) (ok : Bool) (bad : List (Fin 1408)) (s : State) :
    Host.Outcome State Fault Refusal := run (·.meshRetrained die dir ok (bad.map Fin.val)) s

/-- The lane whose place a lane holds: its own, or for a steered spare that of the lane it replaced. -/
def MeshEnd.placeOf (e : MeshEnd) (lane : Nat) : Nat :=
  match e.steer.find lane with
  | some n => n - 1
  | none => lane

/-- At the agreed frame the receiving end at `die` steers the spare in the place of the failing lane, or retires the group
of 64 lanes that holds that place (R173); a lane found failing meanwhile is named next. -/
def Dev.meshSwitch (d : Dev) (die dir : Nat) : Dev :=
  match meshNbr die dir, (d.meshEnd die dir).repair with
  | some c, some m =>
    let r := meshReg die dir
    let e := d.meshEnd die dir
    let place := e.placeOf m.lane
    let d := (d.updEnd die dir fun e => { e with repair := none, steer := e.steer.erase m.lane }).updEnd c (meshOpp dir)
      fun e => { e with repair := none }
    let d := ((d.count .XBAR_MESH_REPAIR r).raise (meshUnit die) 5 (instMesh die dir)).laneBad r m.lane 1
    match m.spare with
    | some s =>
      ((d.updEnd die dir fun e => { e with steer := e.steer.insert s (place + 1) }).set F.XBAR_MESH_STAT.SPARES r
        (d.get F.XBAR_MESH_STAT.SPARES r - 1)).nameLane die dir
    | none =>
      let g := place / 64
      if e.retired.contains g then d.nameLane die dir
      else
        let d := (d.laneBad r (g * 64) 64).updEnd die dir fun e => { e with retired := e.retired ++ [g] }
        let n := d.get F.XBAR_MESH_STAT.GROUPS r - 1
        let d := d.set F.XBAR_MESH_STAT.GROUPS r n
        if n = 0 then d.meshFail die dir else d.nameLane die dir
  | _, _ => d

/-- MESH_LANE_SWITCH -/
def execMeshLaneSwitch (die : Fin 24) (dir : Fin 4) (s : State) : Host.Outcome State Fault Refusal :=
  run (·.meshSwitch die dir) s

end Sys2Proof.Machine
end

