-- ==== Sys2Proof/Machine/Power.lean ====
section
/-! DEFINITION. Supply, safe stop, resume, switched domains, limiter, temperatures and reference clocks (chapter 17). -/
namespace Sys2Proof.Machine

/-- Change the power unit's state. -/
def Dev.updPwr (d : Dev) (f : PwrSt → PwrSt) : Dev := { d with pwr := f d.pwr }

/-- STATE of the supply (Table 17.3): 0 NORMAL, 1 WARN, 2 SAFE, 3 RESUMING. -/
def Dev.supply (d : Dev) : Nat := d.get F.PWR_STAT.STATE 0

/-- Drive FAULT_N (Table 17.14). -/
def Dev.faultPin (d : Dev) (low : Bool) : Dev :=
  if d.pwr.faultLow = low then d else (d.updPwr fun p => { p with faultLow := low }).emit (.pin "FAULT_N" (!low))

/-- Drive THERMTRIP_N. -/
def Dev.tripPin (d : Dev) (low : Bool) : Dev :=
  if d.pwr.tripLow = low then d else (d.updPwr fun p => { p with tripLow := low }).emit (.pin "THERMTRIP_N" (!low))

/-! ## Throttles (R387, R395, R397) -/

/-- The sensors of a die of BUR_UNIT (Table 17.8). -/
def sensorsOf (n : Nat) : Nat :=
  if n < 16 then 10 else if n < 24 then 4 else if n < 28 then 2 else if n < 44 then 20 else 4

/-- A sensor of a die is throttling. -/
def Dev.throttled (d : Dev) (n s : Nat) : Bool := d.bit F.PWR_TEMP.THROTTLE (20 * n + s)

/-- Some sensor in a list is throttling. -/
def Dev.anyThrottled (d : Dev) (n : Nat) (l : List Nat) : Bool := l.any (d.throttled n)

/-- LIM_STEP as shown: the limiter's own step, or both steps while VR_HOT_N is asserted. -/
def Dev.limStep (d : Dev) : Nat := if d.bit F.PWR_STAT.VR_HOT 0 then 2 else d.pwr.limStep

/-- CLK_CAB of a Cabinet die is halved: WARN, limiter, VR_HOT_N and its own throttle combine by OR (R395). -/
def Dev.cabHalf (d : Dev) (c : Nat) : Bool :=
  d.supply == 1 || decide (1 ≤ d.limStep) || d.anyThrottled (16 + c) (List.range 4)

/-- CAB_HALF of CLK_STAT: CLK_CAB is halved on any die. -/
def Dev.cabHalfAny (d : Dev) : Bool := (List.range 8).any d.cabHalf

/-- The HBM activate limit is in force on a stack (R387, R395, Table 17.9). -/
def Dev.actLimited (d : Dev) (stack : Nat) : Bool :=
  d.supply == 1 || d.limStep == 2 || d.anyThrottled (stack / 2) (List.range 8 ++ [8 + stack % 2])

/-- Show LIM_STEP; entering step 1 is counted (R395). -/
def Dev.showLimit (d : Dev) (was : Nat) : Dev :=
  let now := d.limStep
  let d := d.set F.PWR_STAT.LIM_STEP 0 now
  if was = 0 ∧ now ≠ 0 then d.count .PWR_THROTTLE_CNT else d

/-- LONG_A in force: at most its reset value (R395). -/
def Dev.longA (d : Dev) : Nat := min 400 (d.get F.PWR_LIMIT.LONG_A 0)

/-- SHORT_A in force. -/
def Dev.shortA (d : Dev) : Nat := min 450 (d.get F.PWR_LIMIT.SHORT_A 0)

/-- LIMITER_STEP1: the current, in 0.1 A, is above SHORT_A, or has stayed above LONG_A for 10 ms. -/
def Dev.limit1 (d : Dev) (avg1 avg100 : Nat) : Dev :=
  let d := (d.set F.PWR_I_MAIN.AVG1 0 avg1).set F.PWR_I_MAIN.AVG100 0 avg100
  if d.pwr.limStep = 0 ∧ (10 * d.shortA < avg1 ∨ 10 * d.longA < avg1) then
    let was := d.limStep
    (d.updPwr fun p => { p with limStep := 1 }).showLimit was
  else d

/-- LIMITER_STEP1 -/
def execLimiterStep1 (avg1 avg100 : BitVec 16) (s : State) : Host.Outcome State Fault Refusal :=
  run (·.limit1 avg1.toNat avg100.toNat) s

/-- LIMITER_STEP2: step 1 has held for 1 ms and the condition still holds. -/
def Dev.limit2 (d : Dev) : Dev :=
  if d.pwr.limStep = 1 then
    let was := d.limStep
    (d.updPwr fun p => { p with limStep := 2 }).showLimit was
  else d

/-- LIMITER_STEP2 -/
def execLimiterStep2 (s : State) : Host.Outcome State Fault Refusal := run (·.limit2) s

/-- LIMITER_RELEASE: the 100 ms average is below 95 % of LONG_A. -/
def Dev.limitEnd (d : Dev) (avg100 : Nat) : Dev :=
  let d := d.set F.PWR_I_MAIN.AVG100 0 avg100
  if 100 * avg100 < 950 * d.longA then
    let was := d.limStep
    (d.updPwr fun p => { p with limStep := 0 }).showLimit was
  else d

/-- LIMITER_RELEASE -/
def execLimiterRelease (avg100 : BitVec 16) (s : State) : Host.Outcome State Fault Refusal :=
  run (·.limitEnd avg100.toNat) s

/-- VR_HOT_N changes: it imposes both steps while it is asserted. -/
def Dev.vrHot (d : Dev) (on : Bool) : Dev :=
  let was := d.limStep
  (d.setB F.PWR_STAT.VR_HOT 0 on).showLimit was

/-- VR_HOT_ASSERT -/
def execVrHotAssert (s : State) : Host.Outcome State Fault Refusal := run (·.vrHot true) s

/-- VR_HOT_DEASSERT -/
def execVrHotDeassert (s : State) : Host.Outcome State Fault Refusal := run (·.vrHot false) s

/-! ## Supply warning (R387) -/

/-- Record a VIN_MAIN reading in mV, and the lowest since the last read. A lowest of 0 stands for none. -/
def Dev.vinMain (d : Dev) (mv : Nat) : Dev :=
  let low := d.get F.PWR_VIN_MAIN.LOW 0
  let d := (d.set F.PWR_VIN_MAIN.NOW 0 mv).set F.PWR_VIN_MAIN.LOW 0 (if low = 0 then mv else min low mv)
  if 5300 ≤ mv then d.updPwr fun p => { p with causes := p.causes.filter (· != 1) } else d

/-- SUPPLY_WARN: NORMAL to WARN. -/
def Dev.supplyWarn (d : Dev) (mv : Nat) : Dev :=
  let d := d.vinMain mv
  if d.supply = 0 then d.set F.PWR_STAT.STATE 0 1 else d

/-- SUPPLY_WARN -/
def execSupplyWarn (mv : BitVec 16) (s : State) : Host.Outcome State Fault Refusal := run (·.supplyWarn mv.toNat) s

/-- The engines that boot step 9 still has to enable are enabled, unless the supply is in WARN (Table 17.11). -/
def Dev.bootEngines (d : Dev) : Dev :=
  if d.supply = 1 then d
  else
    let l := d.boot.engines
    ({ d with boot := { d.boot with engines := [] } }.each l fun d oe => d.domainRequest oe).stageReady

/-- SUPPLY_WARN_CLEAR: WARN to NORMAL, counted, SUPPLY_DIP tripped. -/
def Dev.supplyClear (d : Dev) (mv : Nat) : Dev :=
  let d := d.vinMain mv
  if d.supply = 1 then (((d.set F.PWR_STAT.STATE 0 0).count .PWR_DIP_CNT).raise 43 0 0).bootEngines else d

/-- SUPPLY_WARN_CLEAR -/
def execSupplyWarnClear (mv : BitVec 16) (s : State) : Host.Outcome State Fault Refusal := run (·.supplyClear mv.toNat) s

/-! ## Safe stop (R389, Table 17.4) -/

/-- Step 2: every logical port to DOWN with the drops of Table 2.7. -/
def Dev.allDown (d : Dev) : Dev :=
  d.each (List.range 1024) fun d lp => if d.lpState lp = 0 then d else d.linkDown lp 0

/-- Step 4: tiles and Cabinet dies lose every context, tracker, receipt-cache entry, buffer and queue. The Desks keep the
mirrored state of every handle (R390, Table 17.5). -/
def Dev.safeDiscard (d : Dev) : Dev :=
  let d := d.each (List.range 8) fun d c => d.cabEmpty c fun d _ => d
  let d := d.each (List.range 24) fun d m => d.meshDieClear m
  let d := d.each (List.range 1024) fun d lp => d.updLp lp fun l => { l with rxq := [], answered := none, nextTxn := 0 }
  let d := d.updPool fun p => { p with trk := [], rc := [], home := [], comp := [], mst := [], resil := [] }
  let d := d.updTm fun t => { t with pol := [], shp := [], turn := [] }
  d.updFwd fun w => { w with learnQ := [], learnUpd := [], learnLag := [], rr := [], level := [] }

/-- Step 6: PD00 to PD23 off, the heater code latches held (R91). -/
def Dev.domainsOff (d : Dev) : Dev :=
  let d := d.each (List.range 16) fun d oe =>
    let d := d.each (List.range 576) fun d n =>
      let x := oeRing oe n
      let d := if d.ringState x = 0 ∨ d.ringState x = 7 then d else d.ringGo x 0
      if d.heater x = 0 then d else d.updRing x fun r => { r with latched := true, reacq := false, ok := 0 }
    let d := d.each (List.range 32) fun d c => d.setB F.OE_PC_STAT.LOCKED (32 * oe + c) false
    let d := ((d.setB F.OE_ENG_STAT.COMB_P_OK oe false).setB F.OE_ENG_STAT.COMB_S_OK oe false).set F.OE_ENG_STAT.FEED_STBY oe 0
    d.set F.OE_ENG_STAT.PHASE oe 0
  let d := { d with oe := { d.oe with combS := [], polls := [], rotating := [] } }
  ((d.set F.PWR_PD_STAT.ON 0 0).setB F.PWR_PD_STAT.BUSY 0 false).updPwr fun p => { p with pdq := [] }

/-- Step 3: PD24 to PD29 off, all ports electrical (R107, R108). -/
def Dev.sbdOff (d : Dev) : Dev :=
  let d := d.set F.PWR_PD_STAT.ON 0 (d.get F.PWR_PD_STAT.ON 0 % 2 ^ 24)
  d.sbdDomainOff.allElectrical.sbdNoLive.set F.SBD_STAT.STATE 0 0

/-- Enter SAFE for a cause: 1 VIN_MAIN, 2 VIN_HTR, 3 THERMTRIP, 4 Bureau L4. A cause that arises in SAFE is recorded and
changes nothing else (R389). -/
def Dev.safeStop (d : Dev) (cause : Nat) : Dev :=
  if cause = 0 then d
  else
    let d := d.updPwr fun p => { p with causes := if cause = 4 ∨ p.causes.contains cause then p.causes else p.causes ++ [cause] }
    if d.supply = 2 then d
    else
      let d := ((d.set F.PWR_STAT.STATE 0 2).set F.PWR_STAT.SAFE_CAUSE 0 cause).faultPin true
      let d := (d.set F.PWR_SAFE_REC.CAUSE 0 cause).set F.PWR_SAFE_REC.STOPS 0 (d.get F.PWR_SAFE_REC.STOPS 0 + 1)
      let d := if cause = 1 then d.raise 43 1 0 else d
      d.cwinCutAll.allDown.sbdOff.safeDiscard.domainsOff

/-- SAFE_STOP -/
def execSafeStop (cause : Fin 5) (s : State) : Host.Outcome State Fault Refusal := run (·.safeStop cause) s

/-! ## Resume (R391, R392, Table 17.5) -/

/-- Resume begins: RESUMING, the launches of the safe stop are missed, counters, Coat Racks and sample rings of the dies
are zero, and the domains that are to be on are requested in order. -/
def Dev.resumeBegin (d : Dev) : Dev :=
  let d := (d.set F.PWR_STAT.STATE 0 3).faultPin false
  let d := (d.updPwr fun p => { p with causes := [] }).launchMissed
  let d := (d.each (List.range 16) fun d t => d.coatClear t).updTm fun t => { t with smpSeq := [] }
  let d := d.zeroCounters 0x1000000 0x3000000
  let on := d.get F.PWR_PD_CTL.PD 0
  let d := d.each ((List.range 8).filter fun c => bitAt on c) fun d c => d.domainRequest (16 + c)
  let d := d.each ((List.range 16).filter fun oe => d.bit F.OE_ENG_CFG.ENABLE oe) fun d oe => d.domainRequest oe
  d.each ((List.range 6).filter fun n => bitAt on (8 + n)) fun d n => d.domainRequest (24 + n)

/-- RESUME_WRITE: discarded outside SAFE and while a cause persists. -/
def Dev.resumeWrite (d : Dev) : Dev := if d.supply = 2 ∧ d.pwr.causes = [] then d.resumeBegin else d

/-- RESUME_WRITE -/
def execResumeWrite (a : Access) (s : State) : Host.Outcome State Fault Refusal :=
  run (fun d => d.onWrite a .PWR_CTL 0 0 (·.resumeWrite)) s

/-- AUTO_RESUME: the supplies have been good for 10 ms; a safe stop that one of them caused resumes with AUTO_RESUME = 1. -/
def Dev.autoResume (d : Dev) : Dev :=
  let d := d.updPwr fun p => { p with causes := p.causes.filter fun c => decide (2 < c) }
  let c := d.get F.PWR_STAT.SAFE_CAUSE 0
  if d.supply = 2 ∧ (c = 1 ∨ c = 2) ∧ d.bit F.PWR_CTL.AUTO_RESUME 0 ∧ d.pwr.causes = [] then d.resumeBegin else d

/-- AUTO_RESUME -/
def execAutoResume (s : State) : Host.Outcome State Fault Refusal := run (·.autoResume) s

/-- The Drawers after a resume (Table 17.5): every handle in IDLE, ACTIVE, REFORMING or REPLACING is re-placed, on its own
die when that die is active. -/
def Dev.resumeDrawers (d : Dev) : Dev :=
  d.each ((List.range 4096).filter fun h => let st := d.get F.DRW_CFG.STATE h; decide (2 ≤ st ∧ st ≤ 5)) fun d h => d.resumeOne h

/-- The pool windows after a resume. -/
def Dev.resumeWindows (d : Dev) : Dev :=
  d.each (List.range 4096) fun d w =>
    match d.winState w with
    | 3 => d.set F.POOL_WIN.STATE w 5
    | 6 | 7 => (d.set F.POOL_WIN.STATE w 5).set F.POOL_WIN.COPY_PTR w 0
    | _ => d

/-- RESUME_COMPLETE -/
def Dev.resumeComplete (d : Dev) : Dev :=
  if d.supply = 3 then
    let d := ((d.set F.PWR_STAT.STATE 0 0).drainClear).resumeDrawers.resumeWindows
    d.count .PWR_SAFE_CNT
  else d

/-- RESUME_COMPLETE -/
def execResumeComplete (s : State) : Host.Outcome State Fault Refusal := run (·.resumeComplete) s

/-! ## Resets (R383, R384, R393, Table 18.8) -/

/-- What survives a device reset: fuses, the flash chips, the retained record and the straps unless VIN_AON was lost,
and, where VIN_MAIN was lost alone, the heater code latches. What has left the block stays. -/
def Dev.afterReset (d : Dev) (aon heaters : Bool) : Dev :=
  let e : Dev :=
    { boot := { flash := d.boot.flash, uds := d.boot.uds }, out := d.out, fresh := d.fresh,
      pwr := { faultLow := d.pwr.faultLow, tripLow := d.pwr.tripLow } }
  let e := (e.set F.DESK_IDENT.ORDER_CODE 0 (d.get F.DESK_IDENT.ORDER_CODE 0)).setB F.DESK_IDENT.KEY_ENROLLED 0
    (d.bit F.DESK_IDENT.KEY_ENROLLED 0)
  let e := e.each (List.range 8) fun e n => e.wr .DESK_KEY_HASH n 0 (d.rd .DESK_KEY_HASH n)
  let e := e.each (List.range 4) fun e n => e.wr .DESK_UID n 0 (d.rd .DESK_UID n)
  let e := e.set F.DESK_SVN.F 0 (d.get F.DESK_SVN.F 0)
  let e := if aon then e else
    ((e.wr .PWR_SAFE_REC 0 0 (d.rd .PWR_SAFE_REC 0)).wr .DESK_STRAP 0 0 (d.rd .DESK_STRAP 0)).wr .PWR_VIN_AUX 0 0
      (d.rd .PWR_VIN_AUX 0)
  if heaters then
    e.each (List.range 9216) fun e x => if d.heater x = 0 then e else e.set F.OE_RING_CTL.HEATER x (d.heater x)
  else e

/-- A device reset: the next start runs Table 17.2 from step 2, with FAULT_N low. -/
def Dev.deviceReset (d : Dev) (aon : Bool) : Dev := ((d.afterReset aon false).faultPin true).tripPin false

/-- DEVICE_RESET: VIN_AON below 3.00 V, or RESET_N low. -/
def execDeviceReset (aon : Bool) (s : State) : Host.Outcome State Fault Refusal := run (·.deviceReset aon) s

/-- POWER_LOSS: VIN_MAIN below 4.50 V. The safe stop that comes before it is in the retained record; the Desks and the HBM
contents are lost. -/
def execPowerLoss (s : State) : Host.Outcome State Fault Refusal :=
  run (fun d => ((d.safeStop 1).afterReset false true).faultPin true) s

/-- VIN_AON_IN_TOLERANCE: monitors armed, FAULT_N driven low (Table 17.2, steps 1 and 2). -/
def execVinAonInTolerance (mv : BitVec 16) (s : State) : Host.Outcome State Fault Refusal :=
  run (fun d => (d.set F.PWR_VIN_AUX.AON 0 mv.toNat).faultPin true) s

/-- POWER_ON_RESET_RELEASE: the straps are sampled and FAULT_N is released (Table 17.2, step 4; R406). -/
def execPowerOnResetRelease (straps : BitVec 6) (s : State) : Host.Outcome State Fault Refusal :=
  run (fun d => ((d.afterReset false true).set F.DESK_STRAP.DEVICE_ID 0 straps.toNat).faultPin false) s

/-! ## Switched domains (R394, Table 17.6A) -/

/-- A Cabinet die's domain goes off: the Bureau isolates the die and failover runs before power falls. -/
def Dev.cabOff (d : Dev) (c : Nat) : Dev :=
  if d.domainOn (16 + c) then
    let d := if d.unitState (16 + c) = 0 then (d.cabIsolate c).unitGo (16 + c) 5 else d.cabIsolate c
    ((d.failover c).domainOff (16 + c))
  else d.domainOff (16 + c)

/-- A Sideboard domain goes off (R108). -/
def Dev.sbdPdOff (d : Dev) (pd : Nat) : Dev :=
  if d.domainOn pd then (d.domainOff pd).sbdDomainOff else d.domainOff pd

/-- A write of PWR_PD_CTL. -/
def Dev.pdWrite (d : Dev) (v : Word) : Dev :=
  if d.domainRefused then d.count .PWR_PD_REFUSE
  else
    let old := d.get F.PWR_PD_CTL.PD 0
    let new := bitsOf v.toNat 29 16
    let d := d.set F.PWR_PD_CTL.PD 0 new
    d.each (List.range 14) fun d n =>
      if bitAt new n then (if bitAt old n then d else d.domainRequest (16 + n))
      else if !bitAt old n then d
      else if n < 8 then d.cabOff n
      else d.sbdPdOff (16 + n)

/-- DOMAIN_SWITCH_WRITE -/
def execDomainSwitchWrite (a : Access) (v : Word) (s : State) : Host.Outcome State Fault Refusal :=
  run (fun d => d.onWrite a .PWR_PD_CTL 0 0 (·.pdWrite v)) s

/-- DOMAIN_ON_COMPLETE: the domain that is turning on is on, and the next waiting request begins. -/
def Dev.pdOn (d : Dev) : Dev :=
  match d.pwr.pdq with
  | [] => d
  | pd :: rest =>
    let d := (d.updPwr fun p => { p with pdq := rest }).setB F.PWR_PD_STAT.BUSY 0 (rest != [])
    let d := d.set F.PWR_PD_STAT.ON 0 (withBit (d.get F.PWR_PD_STAT.ON 0) pd true)
    if pd < 16 then d.engineStart pd
    else if 24 ≤ pd then d.sbdDomainOn pd
    else d

/-- DOMAIN_ON_COMPLETE -/
def execDomainOnComplete (s : State) : Host.Outcome State Fault Refusal := run (·.pdOn) s

/-! ## Temperatures (R396, R397, Table 17.9) -/

/-- Thresholds of a sensor in °C: throttle, release, THERMAL and THERMTRIP; 0 where there is no throttle. -/
def thermal (n s : Nat) : Nat × Nat × Nat × Nat :=
  if n < 16 ∧ 8 ≤ s then (95, 92, 100, 110)
  else if n < 24 then (100, 97, 105, 115)
  else if n < 28 ∨ (n < 44 ∧ 16 ≤ s) then (0, 0, 105, 115)
  else (0, 0, 95, 105)

/-- The temperature that a sensor reads, in 0.125 °C. -/
def Dev.temp (d : Dev) (n s : Nat) : Int := toSigned 16 (d.get F.PWR_TEMP.TEMP (20 * n + s))

/-- Some sensor has not fallen 15 °C below its THERMTRIP value. -/
def Dev.tripHeld (d : Dev) : Bool :=
  (List.range 45).any fun n => (List.range (sensorsOf n)).any fun s =>
    d.bit F.PWR_TEMP.VALID (20 * n + s) && decide (8 * ((thermal n s).2.2.2 : Int) - 120 < d.temp n s)

/-- A sensor reading is compared with its thresholds. -/
def Dev.sensor (d : Dev) (n s : Nat) (t : Int) : Dev :=
  if sensorsOf n ≤ s then d
  else
    let i := 20 * n + s
    let (thr, rel, hot, trip) := thermal n s
    let d := (d.setB F.PWR_TEMP.VALID i true).set F.PWR_TEMP.TEMP i (ofSigned 16 t)
    let was := d.throttled n s
    let on := decide (thr ≠ 0) && (if was then decide (8 * (rel : Int) < t) else decide (8 * (thr : Int) ≤ t))
    let d := d.setB F.PWR_TEMP.THROTTLE i on
    let d := if on && !was then d.count .PWR_THERM_CNT else d
    let d := d.setB F.PWR_STAT.THR_THERM 0 ((List.range 24).any fun k => d.anyThrottled k (List.range (sensorsOf k)))
    let tripped := decide (8 * (hot : Int) ≤ t)
    let d := if tripped && !d.bit F.PWR_TEMP.TRIP i then d.raise (dieUnit n) 14 (instDie n) else d
    let d := d.setB F.PWR_TEMP.TRIP i tripped
    if 8 * (trip : Int) ≤ t then (d.tripPin true).safeStop 3
    else if d.pwr.tripLow && !d.tripHeld then
      (d.tripPin false).updPwr fun p => { p with causes := p.causes.filter (· != 3) }
    else d

/-- THERMAL_SENSOR_UPDATE -/
def execThermalSensorUpdate (die : Fin 45) (sensor : Fin 20) (temp : BitVec 16) (s : State) :
    Host.Outcome State Fault Refusal := run (·.sensor die sensor temp.toInt) s

/-! ## Reference clocks (R399) -/

/-- A reference is present. -/
def Dev.refOk (d : Dev) (b : Bool) : Bool := if b then d.bit F.CLK_STAT.REF_B_OK 0 else d.bit F.CLK_STAT.REF_A_OK 0

/-- Set whether a reference is present. -/
def Dev.setRef (d : Dev) (b ok : Bool) : Dev :=
  if b then d.setB F.CLK_STAT.REF_B_OK 0 ok else d.setB F.CLK_STAT.REF_A_OK 0 ok

/-- The PLL moves to a reference: counted, and REF_CLOCK tripped. -/
def Dev.refMove (d : Dev) (b : Bool) : Dev :=
  (((d.setB F.CLK_STAT.SEL 0 b).setB F.CLK_STAT.HOLDOVER 0 false).count .CLK_REF_SWITCH_CNT).raise 43 2 0

/-- A reference is lost: with the selected one the PLL holds over, and moves to the other with AUTO = 1 when that is
present. -/
def Dev.refLoss (d : Dev) (b : Bool) : Dev :=
  if !d.refOk b then d
  else
    let d := ((d.setRef b false).count .CLK_REF_LOSS_CNT).raise 43 2 0
    if d.bit F.CLK_STAT.SEL 0 != b then d
    else if d.bit F.CLK_REF_CTL.AUTO 0 && d.refOk (!b) then d.refMove (!b)
    else d.setB F.CLK_STAT.HOLDOVER 0 true

/-- REF_CLOCK_LOSS -/
def execRefClockLoss (b : Bool) (s : State) : Host.Outcome State Fault Refusal := run (·.refLoss b) s

/-- A write of SWITCH moves to the other reference when it is present (R399). -/
def Dev.refSwitch (d : Dev) : Dev :=
  let b := !d.bit F.CLK_STAT.SEL 0
  if d.refOk b then d.refMove b else d

/-- REF_SWITCH -/
def execRefSwitch (a : Access) (s : State) : Host.Outcome State Fault Refusal :=
  run (fun d => d.onWrite a .CLK_REF_CTL 0 0 (·.refSwitch)) s

/-- A reference shows edges again: the PLL in holdover takes it up, the other one only with AUTO = 1. -/
def Dev.refReturn (d : Dev) (b : Bool) : Dev :=
  let d := d.setRef b true
  if !d.bit F.CLK_STAT.HOLDOVER 0 then d
  else if d.bit F.CLK_STAT.SEL 0 == b then d.setB F.CLK_STAT.HOLDOVER 0 false
  else if d.bit F.CLK_REF_CTL.AUTO 0 then d.refMove b
  else d

/-- REF_CLOCK_RETURN -/
def execRefClockReturn (b : Bool) (s : State) : Host.Outcome State Fault Refusal := run (·.refReturn b) s

end Sys2Proof.Machine
end

