-- ==== Sys2Proof/Machine/Bureau.lean ====
section
/-! DEFINITION. The Bureau: sources, counting, reactions, notification, return to service, budgets, shadow comparison,
stand-in and fault injection (chapter 15). -/
namespace Sys2Proof.Machine

/-! ## Sources (R340, Tables 15.1 to 15.3) -/

/-- The source exists: a unit of Table 15.1 and a kind of Tables 15.2 or 15.3. -/
def srcValid (s : Nat) : Bool :=
  let u := s / 16
  let k := s % 16
  if u = 43 then decide (k ≤ 4)
  else if 43 < u then false
  else [0, 12, 13, 14, 15].contains k ||
    decide (1 ≤ k ∧ k ≤ (if u < 16 then 11 else if u < 32 then 8 else if u < 40 then 9 else if u = 40 then 5 else 6))

/-- CLASS of a source. -/
def Dev.srcClass (d : Dev) (s : Nat) : Nat := d.get F.BUR_SRC.CLASS s

/-- CEIL of a source; codes above 4 act as 4. -/
def Dev.srcCeil (d : Dev) (s : Nat) : Nat := min 4 (d.get F.BUR_SRC.CEIL s)

/-- LEVEL of a source; codes above 4 act as 4. -/
def Dev.srcLevel (d : Dev) (s : Nat) : Nat := min 4 (d.get F.BUR_SRC.LEVEL s)

/-- A source holds PENDING. -/
def Dev.pending (d : Dev) (s : Nat) : Bool := d.bit F.BUR_SRC.PENDING s

/-- The sources of a unit that hold PENDING in a class. -/
def Dev.pendingOf (d : Dev) (u cls : Nat) : List Nat :=
  ((List.range 16).map (16 * u + ·)).filter fun s => d.pending s && d.srcClass s == cls

/-- Some Desk is in service. -/
def Dev.someDesk (d : Dev) : Bool := d.deskUp 0 || d.deskUp 1

/-! ## Instances (Table 15.7) -/

/-- An instance: its kind and what it names. -/
inductive Inst where
  | die (n : Nat) | lane (port lane : Nat) | lp (n : Nat) | mesh (die dir : Nat) | win (w : Nat) | drawer (h : Nat)
  | stack (n : Nat)
  deriving DecidableEq, Repr

/-- The instance that an INST value names; none where it names none (Table 15.7). -/
def instOf (v : Nat) : Option Inst :=
  let x := v % 2 ^ 28
  match v / 2 ^ 28 with
  | 0 => if x < 45 then some (.die x) else none
  | 1 => if x < 2 ^ 18 ∧ x % 256 < 18 then some (.lane (x / 256 % 1024) (x % 32)) else none
  | 2 => if x < 1024 then some (.lp x) else none
  | 3 => if x < 1024 ∧ (meshNbr (x / 32) (x % 4)).isSome ∧ x / 32 < 24 ∧ x % 32 < 4 then some (.mesh (x / 32) (x % 4)) else none
  | 4 => if x < 4096 then some (.win x) else none
  | 5 => if x < 4096 then some (.drawer x) else none
  | 6 => if x < 32 then some (.stack x) else none
  | _ => none

/-- The instance is out of service; a Drawer with its Cabinet die (Table 15.14). -/
def Dev.instOut (d : Dev) (i : Inst) : Bool :=
  match i with
  | .die n => d.unitState n != 0
  | .lane p j => d.isOut (instLane p j)
  | .lp n => d.isOut (instLp n)
  | .mesh m dir => d.isOut (instMesh m dir)
  | .drawer h => d.get F.DRW_CFG.STATE h != 0 && d.unitState (16 + d.drwDie h) != 0
  | .win _ | .stack _ => false

/-- The budget type and scope of an expulsion of an instance (Table 15.8). -/
def Dev.budgetOf (d : Dev) (i : Inst) : Option (Nat × Nat) :=
  match i with
  | .lane p _ => some (0, p)
  | .lp _ => some (1, 0)
  | .mesh _ _ => some (3, 0)
  | .die n => if 16 ≤ n ∧ n < 24 then some (5, 0) else if 28 ≤ n ∧ n < 44 then some (4, 0) else none
  | .drawer h => if d.get F.DRW_CFG.STATE h = 0 then none else some (5, 0)
  | .win _ | .stack _ => none

/-! ## The log (R345, Table 15.5) -/

/-- What a log record says. -/
structure LogRec where
  /-- SOURCE -/
  src : Nat
  /-- LEVEL -/
  level : Nat
  /-- RKIND -/
  kind : Nat
  /-- INST -/
  inst : Nat
  /-- INST2 -/
  inst2 : Nat := 0
  /-- INJECTED -/
  injected : Bool := false
  /-- DRY -/
  dry : Bool := false
  /-- BUDGET -/
  budget : Bool := false

/-- The configuration generation of a source's unit; DESK_GEN for the device. -/
def Dev.srcGen (d : Dev) (s : Nat) : Nat :=
  match unitDie (s / 16) with
  | some n => d.unitGen n
  | none => d.get F.BUR_GEN.DESK_GEN 0

/-- The eight words of a log record. -/
def Dev.logWords (d : Dev) (r : LogRec) : List Nat :=
  [d.bur.seq % 2 ^ 32, d.now,
   r.src % 1024 * 2 ^ 22 + r.level * 2 ^ 19 + r.kind * 2 ^ 16 + d.get F.BUR_SRC.N r.src * 2 ^ 8 + r.injected.toNat * 2 ^ 7 +
     r.dry.toNat * 2 ^ 6 + r.budget.toNat * 2 ^ 5,
   r.inst, r.inst2, d.srcGen r.src * 2 ^ 16 + d.get F.BUR_SRC.RECOV r.src, 0, 0]

/-- The MAC address of a Desk's management port (Table 16.5). -/
def Dev.deskMac (d : Dev) (k : Nat) : Nat := (d.boot.mac + k) % 2 ^ 48

/-- An Ethernet frame of register access on a management port (Table 16.8). -/
def mgmtFrame (dst src op status seq addr count : Nat) (data : List Nat) : List Byte :=
  beBytes 6 dst ++ beBytes 6 src ++ beBytes 2 0x88B5 ++ beBytes 1 (16 + op) ++ beBytes 1 status ++ beBytes 2 seq ++
    beBytes 4 addr ++ beBytes 2 count ++ beBytes 2 0 ++ data.flatMap (beBytes 4)

/-- Write a record into a Desk's ring; one of level 1 or above raises its interrupt and may leave as an EVENT frame. A
record that finds the ring full is lost. -/
def Dev.logAt (d : Dev) (k : Nat) (ws : List Nat) (level : Nat) : Dev :=
  if !d.deskUp k then d
  else
    let w := d.get F.BUR_LOG_WPTR.PTR k
    if (w + 1) % 1024 = d.get F.BUR_LOG_RPTR.PTR k then d.count .BUR_LOG_LOST k
    else
      let d := d.each (ws.zipIdx) fun d e => d.wr .BUR_LOG (1024 * k + w) e.2 (BitVec.ofNat 32 e.1)
      let d := d.set F.BUR_LOG_WPTR.PTR k ((w + 1) % 1024)
      if level = 0 then d
      else
        let d := d.irq k 0
        if d.bit F.DESK_ETH_CFG.EVT_EN k then
          let (n, d) := d.draw
          let x := (Config.freeEvent n).toNat
          d.emit (.mgmt k (mgmtFrame (d.get F.DESK_EVT_MAC.MAC k) (d.deskMac k) 4 0 (x / 2 ^ 32) (x % 2 ^ 32) 8 ws))
        else d

/-- Write one record, with one SEQ, into both rings; with both Desks out of service it is lost (R339, R345). -/
def Dev.log (d : Dev) (r : LogRec) : Dev :=
  if !d.someDesk then d
  else
    let ws := d.logWords r
    (((d.logAt 0 ws r.level).logAt 1 ws r.level)).updBur fun b => { b with seq := (b.seq + 1) % 2 ^ 32 }

/-! ## Grace timers (R343) -/

/-- The key of a grace timer: unit and class. -/
def graceKey (u cls : Nat) : Nat := key2 u cls

/-- A trip or an escalation of a source to a level starts the timer of its unit and class while the level is below its
CEIL; otherwise the source no longer escalates. -/
def Dev.graceSet (d : Dev) (s level : Nat) : Dev :=
  let k := graceKey (s / 16) (d.srcClass s)
  if level < d.srcCeil s then d.updBur fun b => { b with grace := b.grace.put 0 k (1 + s) }
  else if d.bur.grace.at 0 k = 1 + s then d.updBur fun b => { b with grace := b.grace.erase k }
  else d

/-- Every grace timer is cancelled (Table 15.14, L4). -/
def Dev.graceNone (d : Dev) : Dev := d.updBur fun b => { b with grace := [] }

/-! ## Reactions (R342, Table 15.4) -/

/-- Put an instance of a lane, logical port or mesh direction out of service: QUIET with AUTO_RETURN = 1, else HELD. -/
def Dev.putOut (d : Dev) (inst src : Nat) (auto : Bool) : Dev :=
  d.updBur fun b => { b with outs := b.outs.insert inst { state := if auto then 3 else 5, src := src, auto := auto } }

/-- Put a die out of service: isolated it is QUIET or HELD at once, reset it is RESETTING until its rejoin is done
(R346, R347). -/
def Dev.dieOutBy (d : Dev) (n src : Nat) (auto reset : Bool) : Dev :=
  let st := if reset then 2 else if auto then 3 else 5
  (d.unitGo n st).updBur fun b => { b with outs := b.outs.insert (instDie n) { state := st, src := src, auto := auto } }

/-- L2 and L3 on a lane: out of service in role 110 in both directions, then re-acquisition (R64, R73). -/
def Dev.isolateLane (d : Dev) (p j : Nat) : Dev :=
  let i := laneIx p j
  let d := d.updLane i fun x => { x with good := 0, spareGood := 0 }
  let r := d.role p j true
  let d :=
    if r < 4 then (d.rxTakeOut p j r 6 4).afterMap (4 * p + r)
    else if r = 4 then d.setRole p j true 6
    else d
  let t := d.role p j false
  let d :=
    if t < 4 then ((d.txLaneOut p j t).txRemove (4 * p + t) j 4).afterMap (4 * p + t)
    else if t = 4 then (d.setRole p j false 6).unqualify p j
    else d
  d.ringReacquire (ringIx p j 1)

/-- L2 and L3 on a die of BUR_UNIT. -/
def Dev.actDie (d : Dev) (n level src : Nat) (auto : Bool) : Dev :=
  let reset := decide (level = 3)
  if n < 16 then
    if reset then d.each (tileLps n) (fun d lp => d.forceDown lp) |>.dieOutBy n src auto true else d
  else if n < 24 then
    let d := (d.cabIsolate (n - 16)).dieOutBy n src auto reset
    if reset then (d.domainOff n).domainRequest n else d
  else if n < 26 ∨ n = 44 then
    if reset then
      let d := d.each (List.range 6) fun d k => d.domainOff (24 + k)
      let d := (d.sbdDomainOff.allElectrical.sbdNoLive.set F.SBD_STAT.STATE 0 0).dieOutBy n src auto true
      d.each (List.range 6) fun d k => d.domainRequest (24 + k)
    else (d.noDriveOn (drivenBy (if n = 24 then 16 else if n = 25 then 32 else 48))).dieOutBy n src auto false
  else if n < 28 then
    let d := if reset then d.deskReset (n - 26) else d
    let o : OutInst := { state := if reset then 2 else if auto then 3 else 5, src := src, auto := auto }
    (d.deskLeave (n - 26) o.state).updBur fun b => { b with outs := b.outs.insert (instDie n) o }
  else
    let d := (d.engineDown (n - 28) (!reset)).dieOutBy n src auto reset
    if reset then d.domainRequest (n - 28) else d

/-- An action at L2 or L3 on an instance; ordered by management or taken for a source. -/
def Dev.act (d : Dev) (i : Inst) (level src : Nat) (auto : Bool) : Dev :=
  match i with
  | .die n => d.actDie n level src auto
  | .lane p j => (d.isolateLane p j).putOut (instLane p j) src auto
  | .lp n =>
    if level = 2 then (d.forceDown n).putOut (instLp n) src auto
    else ((if d.lpState n = 0 then d else d.linkDown n 0).backIn (instLp n)).releaseDown n
  | .mesh m dir =>
    if level = 2 then
      let r := meshReg m dir
      let d := if d.get F.XBAR_MESH_STAT.STATE r = 4 then d else d.meshFail m dir
      d.putOut (instMesh m dir) src auto
    else
      let d := (d.backIn (instMesh m dir)).updEnd m dir fun e => { e with retraining := true }
      (d.count .XBAR_MESH_RETRAIN (meshReg m dir)).set F.XBAR_MESH_STAT.STATE (meshReg m dir) 3
  | .drawer h => if d.get F.DRW_CFG.STATE h = 0 then d else d.actDie (16 + d.drwDie h) level src auto
  | .win _ | .stack _ => d

/-- A unit's DRY period runs (R356). -/
def Dev.dryUnit (d : Dev) (u : Nat) : Bool :=
  d.bur.inj.any (fun e => e.2.dry && e.2.src / 16 == u) ||
  (match d.bur.dry.at 0 u with
   | 0 => false
   | n + 1 => decide (d.raw < n))

/-- L4: the safe stop, with every timer cancelled (Table 15.14). -/
def Dev.actStop (d : Dev) : Dev := d.graceNone.safeStop 4

/-- Take a reaction of a source at a level: RKIND 0 for a trip, 1 for an escalation. Answers the level taken. -/
def Dev.react (d : Dev) (s level inst inst2 kind : Nat) (injected : Bool) : Nat × Dev :=
  let i := instOf inst
  let auto := d.bit F.BUR_SRC.AUTO_RETURN s
  if level < 4 ∧ kind = 0 ∧ (i.map d.instOut).getD false then
    (0, d.log { src := s, level := 0, kind := 0, inst := inst, inst2 := inst2, injected := injected })
  else if level = 0 then (0, d.log { src := s, level := 0, kind := kind, inst := inst, inst2 := inst2, injected := injected })
  else
    let dry := decide (2 ≤ level) && d.dryUnit (s / 16)
    let (spent, d) :=
      if dry ∨ level < 2 ∨ 4 ≤ level then (false, d)
      else match i.bind d.budgetOf with
        | some (n, scope) =>
          let (ok, d) := d.tryExpel n scope inst
          (!ok, d)
        | none => (false, d)
    let level := if spent then 1 else level
    let d := d.setB F.BUR_SRC.PENDING s true
    let d := d.set F.BUR_SRC.LEVEL_NOW s (max (d.get F.BUR_SRC.LEVEL_NOW s) level)
    let d := d.updBur fun b => { b with tripped := b.tripped.insert s (inst, inst2) }
    let d := d.log { src := s, level := level, kind := if spent then 4 else kind, inst := inst, inst2 := inst2,
                     injected := injected, dry := dry, budget := spent }
    let d :=
      if dry ∨ level < 2 then d
      else if level = 4 then d.actStop
      else match i with
        | some x => d.act x level s auto
        | none => d
    (level, d)

/-- Reactions with both Desks out of service: L2 and L3 on instances inside the agent's own die, and L4 (R339). -/
def Dev.reactAlone (d : Dev) (s level inst : Nat) : Dev :=
  if level = 4 then d.safeStop 4
  else if level < 2 then d
  else match instOf inst with
    | some (.lane p j) => d.isolateLane p j
    | some (.lp n) => if level = 2 then d.forceDown n else d.act (.lp n) level s false
    | some (.mesh m dir) => if d.get F.XBAR_MESH_STAT.STATE (meshReg m dir) = 4 then d else d.meshFail m dir
    | some (.die n) => if 28 ≤ n ∧ n < 44 then d.engineDown (n - 28) (level = 2) else d
    | _ => d

/-- A source trips on an instance (R342, R343). -/
def Dev.trip (d : Dev) (s inst inst2 : Nat) (injected : Bool) : Dev :=
  let d := d.set F.BUR_SRC.LAST s d.now
  let held := d.pendingOf (s / 16) (d.srcClass s)
  let h := (held.map fun x => d.get F.BUR_SRC.LEVEL_NOW x).foldl max 0
  let level := if held = [] then d.srcLevel s else max (d.srcLevel s) (min (h + 1) (d.srcCeil s))
  if !d.someDesk then d.reactAlone s level inst
  else
    let (l, d) := d.react s level inst inst2 0 injected
    if l = 0 ∨ l = 4 then d else d.graceSet s l

/-! ## Counting (R341) -/

/-- An event reaches its source: it opens or joins the source's window, and the source trips at N. -/
def Dev.bureauEvent (d : Dev) (s inst inst2 : Nat) (injected : Bool) : Dev :=
  let x : Raised := { src := s, inst := inst, inst2 := inst2, injected := injected }
  let d := { d with raised := d.raised.erase x }
  if !srcValid s ∨ !d.bit F.BUR_SRC.EN s then d
  else
    let n := d.get F.BUR_SRC.COUNT s + 1
    if max 1 (d.get F.BUR_SRC.N s) ≤ n then (d.set F.BUR_SRC.COUNT s 0).trip s inst inst2 injected
    else d.set F.BUR_SRC.COUNT s n

/-- BUREAU_EVENT -/
def execBureauEvent (source : Fin 1024) (inst inst2 : BitVec 32) (injected : Bool) (s : State) :
    Host.Outcome State Fault Refusal := run (·.bureauEvent source inst.toNat inst2.toNat injected) s

/-- SOURCE_WINDOW_EXPIRE -/
def execSourceWindowExpire (source : Fin 1024) (s : State) : Host.Outcome State Fault Refusal :=
  run (fun d => d.set F.BUR_SRC.COUNT source 0) s

/-- HEARTBEAT_MISS: one SILENCE event for the unit, by a Desk in service (R338). -/
def Dev.silence (d : Dev) (u : Nat) : Dev :=
  match unitDie u with
  | some n => if d.someDesk then d.raise u 15 (instDie n) else d
  | none => d

/-- HEARTBEAT_MISS -/
def execHeartbeatMiss (u : Fin 43) (s : State) : Host.Outcome State Fault Refusal := run (·.silence u) s

/-! ## Escalation and acknowledgement (R343) -/

/-- GRACE_EXPIRE: the source acts at the next level, and the timer restarts while that is below its CEIL. -/
def Dev.graceExpire (d : Dev) (u cls : Nat) : Dev :=
  let k := graceKey u cls
  match d.bur.grace.at 0 k with
  | 0 => d
  | n + 1 =>
    let d := d.updBur fun b => { b with grace := b.grace.erase k }
    let next := d.get F.BUR_SRC.LEVEL_NOW n + 1
    if d.pending n ∧ next ≤ d.srcCeil n ∧ d.someDesk then
      let (i, i2) := d.bur.tripped.at (0, 0) n
      let (l, d) := d.react n next i i2 1 false
      if l = 4 ∨ l < next then d else d.graceSet n l
    else d

/-- GRACE_EXPIRE -/
def execGraceExpire (u : Fin 44) (cls : Fin 16) (s : State) : Host.Outcome State Fault Refusal :=
  run (·.graceExpire u cls) s

/-- A source is acknowledged, at both Desks: its timer stops, unless another pending source of the class still waits. -/
def Dev.acknowledge (d : Dev) (n : Nat) : Dev :=
  let d := (d.setB F.BUR_SRC.PENDING n false).set F.BUR_SRC.LEVEL_NOW n 0
  let d := d.updBur fun b => { b with tripped := b.tripped.erase n }
  let cls := d.srcClass n
  let k := graceKey (n / 16) cls
  if d.bur.grace.at 0 k ≠ 1 + n then d
  else match (d.pendingOf (n / 16) cls).find? (fun x => decide (d.get F.BUR_SRC.LEVEL_NOW x < d.srcCeil x)) with
    | some x => d.updBur fun b => { b with grace := b.grace.put 0 k (1 + x) }
    | none => d.updBur fun b => { b with grace := b.grace.erase k }

/-- PENDING_ACK -/
def execPendingAck (a : Access) (source : Fin 1024) (s : State) : Host.Outcome State Fault Refusal :=
  run (fun d => d.onWrite a .BUR_SRC source 1 (·.acknowledge source)) s

/-! ## Ordered actions (R344) -/

/-- BUR_ACT with GO: STATUS 2 where the instance is not one, 1 where the level is not defined. -/
def Dev.burAct (d : Dev) (desk : Nat) (v : Word) : Dev :=
  let d := d.writeRw .BUR_ACT 0 0 v
  if !bitAt v.toNat 31 then d
  else
    let s := d.get F.BUR_ACT.SOURCE 0
    let level := d.get F.BUR_ACT.LEVEL 0
    let inst := d.get F.BUR_ACT_INST.INST 0
    let ok := match instOf inst with
      | some (.drawer h) => d.get F.DRW_CFG.STATE h != 0
      | some _ => true
      | none => false
    let (status, d) :=
      if !ok then (2, d)
      else if 4 < level then (1, d)
      else
        let d := d.log { src := s, level := level, kind := 6, inst := inst }
        let d := if level = 4 then d.actStop else if level < 2 then d
          else match instOf inst with
            | some i => d.act i level s false
            | none => d
        (0, d)
    (d.set F.BUR_ACT.STATUS 0 status).irq desk 4

/-- BUR_ACT -/
def execBurAct (a : Access) (v : Word) (s : State) : Host.Outcome State Fault Refusal :=
  run (fun d => d.onWrite a .BUR_ACT 0 0 (·.burAct (deskNo a.deskB) v)) s

/-! ## Return to service (R346, R347, R426) -/

/-- The bring-up of a die that returns, its copies reloaded (R349). -/
def Dev.dieBack (d : Dev) (n : Nat) : Dev :=
  let d := (d.unitGo n 0).backIn (instDie n)
  if n < 16 then d.each (tileLps n) fun d lp => if d.isOut (instLp lp) then d else d.releaseDown lp
  else if n = 26 ∨ n = 27 then d.setMaster
  else if 28 ≤ n ∧ n < 44 then
    if d.bit F.OE_ENG_CFG.ENABLE (n - 28) then d.domainRequest (n - 28) else d
  else d

/-- The bring-up of an instance. -/
def Dev.instBack (d : Dev) (i : Inst) : Dev :=
  match i with
  | .die n => d.dieBack n
  | .lane p j =>
    let d := d.backIn (instLane p j)
    let d := if d.role p j true = 6 then d.setRole p j true 4 else d
    if d.role p j false = 6 then d.setRole p j false 4 else d
  | .lp n => (d.backIn (instLp n)).releaseDown n
  | .mesh m dir =>
    let r := meshReg m dir
    ((d.backIn (instMesh m dir)).set F.XBAR_MESH_STAT.STATE r 2).set F.XBAR_MESH_STAT.GROUPS r
      (21 - (d.meshEnd m dir).retired.length)
  | _ => d

/-- The instance is in QUIET. -/
def Dev.quiet (d : Dev) (inst : Nat) : Bool :=
  match d.bur.outs.find inst with
  | some o => o.state == 3
  | none => false

/-- QUIET_EXPIRE: the instance returns when its bring-up passes, or is held. The bring-up of a logical port passes when
the forced DOWN is released. -/
def Dev.quietExpire (d : Dev) (inst : Nat) (ok : Bool) : Dev :=
  match instOf inst, d.bur.outs.find inst with
  | some i, some o =>
    if o.state ≠ 3 ∨ !d.someDesk then d
    else
      let ok := ok || (match i with | .lp _ => true | _ => false)
      if ok then
        (((d.instBack i).bumpSat F.BUR_SRC.RECOV o.src).log { src := o.src, level := 0, kind := 2, inst := inst })
      else
        let d := d.updBur fun b => { b with outs := b.outs.insert inst { o with state := 5 } }
        let d := match i with | .die n => d.set F.BUR_UNIT.STATE n 5 | _ => d
        d.log { src := o.src, level := 1, kind := 3, inst := inst }
  | _, _ => d

/-- QUIET_EXPIRE -/
def execQuietExpire (inst : BitVec 32) (ok : Bool) (s : State) : Host.Outcome State Fault Refusal :=
  run (·.quietExpire inst.toNat ok) s

/-- A write of STATE: only 0x0, and only in HELD (Table 15.12). -/
def Dev.unitWrite (d : Dev) (n : Nat) (v : Word) : Dev :=
  if d.unitState n = 5 ∧ v.toNat / 2 ^ 29 = 0 then d.dieBack n else d

/-- UNIT_STATE_WRITE -/
def execUnitStateWrite (a : Access) (die : Fin 45) (v : Word) (s : State) : Host.Outcome State Fault Refusal :=
  run (fun d => d.onWrite a .BUR_UNIT die 0 (·.unitWrite die v)) s

/-- A die rejoins (R324): its counters and queues are zero, its links train, its path delay is recorded and its check
passes. A die in RESETTING goes on to QUIET or HELD. -/
def Dev.rejoin (d : Dev) (n delay : Nat) : Dev :=
  let d := d.dieClear n
  let d :=
    if n < 24 then d.each (List.range 4) fun d dir =>
      if (meshNbr n dir).isSome ∧ d.get F.XBAR_MESH_STAT.STATE (meshReg n dir) ≠ 4 then
        d.set F.XBAR_MESH_STAT.STATE (meshReg n dir) 2 else d
    else d
  let d :=
    if n < 28 then
      ((d.set F.CLK_ALIGN_DIE.PATH_DELAY n delay).setB F.CLK_ALIGN_DIE.CHECKED n true).setB F.CLK_ALIGN_DIE.OK n true
    else d
  if d.unitState n = 2 then
    let auto := match d.bur.outs.find (instDie n) with | some o => o.auto | none => false
    let st := if auto then 3 else 5
    (d.set F.BUR_UNIT.STATE n st).updBur fun b => { b with outs := b.outs.modify (instDie n) fun o => { o with state := st } }
  else d

/-- DIE_REJOIN -/
def execDieRejoin (die : Fin 45) (delay : BitVec 16) (s : State) : Host.Outcome State Fault Refusal :=
  run (·.rejoin die delay.toNat) s

/-- DESK_TAKEOVER: a Desk is lost, and the other is master. -/
def Dev.takeover (d : Dev) (k : Nat) : Dev :=
  if d.deskUp k then
    let o : OutInst := { state := 5, src := 16 * (41 + k) + 15, auto := false }
    (d.deskLeave k 5).updBur fun b => { b with outs := b.outs.insert (instDie (26 + k)) o }
  else d

/-- DESK_TAKEOVER -/
def execDeskTakeover (lostB : Bool) (s : State) : Host.Outcome State Fault Refusal := run (·.takeover (deskNo lostB)) s

/-- RESET_ALIGNMENT (Table 14.3): the dividers are released, the raw counters start at 0, every link trains to its fixed
latency, the path delays are recorded and the check passes. -/
def Dev.resetAlign (d : Dev) (delays : List Nat) : Dev :=
  let sel := if d.refOk (d.bit F.CLK_REF_CTL.PREF 0) then d.bit F.CLK_REF_CTL.PREF 0
    else if d.refOk (!d.bit F.CLK_REF_CTL.PREF 0) then !d.bit F.CLK_REF_CTL.PREF 0 else d.bit F.CLK_REF_CTL.PREF 0
  let d := ((d.setB F.CLK_STAT.SEL 0 sel).setRef sel true).setB F.CLK_STAT.ROOT_LOCK 0 true
  let d := (d.setB F.CLK_STAT.HOLDOVER 0 false).updTime fun t => { t with raw := 0, baseC := 0 }
  let d := d.updCore fun c => { c with cyc := 0 }
  let d := d.each (List.range 24) fun d m => d.each (List.range 4) fun d dir =>
    if (meshNbr m dir).isSome then
      ((d.set F.XBAR_MESH_STAT.STATE (meshReg m dir) 2).set F.XBAR_MESH_STAT.GROUPS (meshReg m dir) 21).set
        F.XBAR_MESH_STAT.SPARES (meshReg m dir) 64
    else d
  let d := d.each (List.range 28) fun d n =>
    ((d.set F.CLK_ALIGN_DIE.PATH_DELAY n (delays.getD n 0)).setB F.CLK_ALIGN_DIE.CHECKED n true).setB F.CLK_ALIGN_DIE.OK n true
  d.setB F.CLK_ALIGN_CTL.ALIGNED 0 true

/-- RESET_ALIGNMENT -/
def execResetAlignment (delays : List (BitVec 16)) (s : State) : Host.Outcome State Fault Refusal :=
  run (·.resetAlign (delays.map BitVec.toNat)) s

/-- BUDGET_WINDOW_EXPIRY: the oldest expulsion of a scope leaves its count. -/
def Dev.budgetExpire (d : Dev) (n scope : Nat) : Dev :=
  match d.bur.expel.find? (fun e => e.1 == n && e.2.1 == scope) with
  | some e => d.updBur fun b => { b with expel := b.expel.erase e }
  | none => d

/-- BUDGET_WINDOW_EXPIRY -/
def execBudgetWindowExpiry (budget : Fin 6) (scope : BitVec 32) (s : State) : Host.Outcome State Fault Refusal :=
  run (·.budgetExpire budget scope.toNat) s

/-! ## Shadowing (R351 to R353) -/

/-- A shadow's d reaches the primary die, which compares it with its own of the same chunk and epoch. -/
def Dev.shadowDigest (d : Dev) (prim : Nat) : Dev :=
  match d.cab.shadowD.at [] prim with
  | [] => d
  | x :: _ =>
    let d := d.updCab fun k => { k with shadowD := k.shadowD.upd [] prim (·.drop 1) }
    match (d.cab.primD.at [] prim).find? fun y => y.handle == x.handle && y.epoch == x.epoch && y.chunk == x.chunk with
    | none => d
    | some y =>
      let d := d.updCab fun k => { k with primD := k.primD.upd [] prim fun l => l.erase y }
      let fast := summing (d.desc x.handle).op && !(d.desc x.handle).exact
      if fast && !d.bit F.BUR_SHADOW_CFG.FAST_CMP 0 then d
      else if x.d = y.d then
        let n := min (d.get F.BUR_SHADOW_PASS.MATCHES x.die + 1) (2 ^ 24 - 1)
        let d := d.set F.BUR_SHADOW_PASS.MATCHES x.die n
        if d.get F.BUR_SHADOW_CFG.PASS_TARGET 0 ≤ n ∧ !d.bit F.BUR_SHADOW_PASS.MISMATCH x.die then
          d.setB F.BUR_UNIT.QUALIFIED (16 + x.die) true
        else d
      else
        ((d.setB F.BUR_SHADOW_PASS.MISMATCH x.die true).raise (32 + x.die) 5 (instDrawer x.handle) x.chunk).dropShadow x.handle

/-- SHADOW_DIGEST_RECEIVED -/
def execShadowDigestReceived (die : Fin 8) (s : State) : Host.Outcome State Fault Refusal := run (·.shadowDigest die) s

/-- A write of BUR_CTL after the lock: 1 clears SPINE_SHADOW (R353). -/
def Dev.spineClear (d : Dev) : Dev := d.setB F.BUR_CTL.SPINE_SHADOW 0 false

/-- SPINE_SHADOW_CLEAR -/
def execSpineShadowClear (a : Access) (s : State) : Host.Outcome State Fault Refusal :=
  run (fun d => d.onWrite a .BUR_CTL 0 0 (·.spineClear)) s

/-! ## Standing in for a place (R354) -/

/-- BUR_STANDIN with GO: STATUS 1 when SPARE is 0, 2 when the place is in no VALID entry of BUR_GROUP. -/
def Dev.standin (d : Dev) (desk : Nat) (v : Word) : Dev :=
  let d := d.writeRw .BUR_STANDIN 0 0 v
  if !bitAt v.toNat 31 then d
  else
    let p := d.get F.BUR_STANDIN.PLACE 0
    let (st, d) :=
      if !d.bit F.BUR_CTL.SPARE 0 then (1, d)
      else if !(List.range 16).any (fun n => d.bit F.BUR_GROUP.VALID n && d.get F.BUR_GROUP.PLACE n == p) then (2, d)
      else (0, (d.set F.FWD_PLACE.PLACE 0 p).setB F.BUR_CTL.SPARE 0 false)
    (d.set F.BUR_STANDIN.STATUS 0 st).irq desk 4

/-- STANDIN -/
def execStandin (a : Access) (v : Word) (s : State) : Host.Outcome State Fault Refusal :=
  run (fun d => d.onWrite a .BUR_STANDIN 0 0 (·.standin (deskNo a.deskB) v)) s

/-! ## Fault injection (R355, R356, Table 15.10) -/

/-- A Drawer handle has a context. -/
def Dev.hasCtx (d : Dev) (h : Nat) : Bool := (d.ctx (d.drwDie h) h).isSome

/-- INST names an instance that TYPE can act on. -/
def Dev.injectable (d : Dev) (type inst : Nat) : Bool :=
  match type, instOf inst with
  | 0, some _ => true
  | 1, some (.die _) | 2, some (.die _) | 6, some (.die _) => true
  | 1, some (.drawer h) | 2, some (.drawer h) => d.hasCtx h
  | 3, some (.lp _) => true
  | 4, some (.mesh _ _) => true
  | 5, some (.lane _ _) => true
  | 7, some (.stack _) => true
  | _, _ => false

/-- Apply an injected fault once. -/
def Dev.applyFault (d : Dev) (r : InjRun) : Dev :=
  let n := d.raised.length
  let d := match r.type, instOf r.inst with
    | 0, _ => d.raise (r.src / 16) (r.src % 16) r.inst
    | 1, some (.die k) => d.raise (dieUnit k) 0 r.inst
    | 1, some (.drawer h) => d.raise (32 + d.drwDie h) 0 r.inst
    | 2, some (.die k) =>
      if 16 ≤ k ∧ k < 24 then d.updBur fun b => { b with nextUe := b.nextUe ++ [k - 16] } else d.raise (dieUnit k) 12 r.inst
    | 2, some (.drawer h) => d.updBur fun b => { b with nextShelf := b.nextShelf ++ [h] }
    | 3, some (.lp l) => d.updBur fun b => { b with nextCw := b.nextCw.put 0 l (r.param % 32) }
    | 4, some (.mesh m dir) => d.updBur fun b => { b with nextMesh := b.nextMesh ++ [key2 m dir] }
    | 5, some (.lane p j) => d.updBur fun b => { b with nextMark := b.nextMark.put 0 (laneIx p j) (1 + r.param % 32) }
    | 6, some (.die k) => if 3 ≤ r.param then d.silence (dieUnit k) else d
    | 7, some (.stack k) => d.updBur fun b => { b with nextRead := b.nextRead ++ [k] }
    | _, _ => d
  let d := d.flagFrom n
  if r.dry ∧ r.left = 0 then d.updBur fun b => { b with dry := b.dry.insert (r.src / 16) (1 + d.raw + 8000000) } else d

/-- An injection entry fires: refused and counted, or applied, recorded, and repeated. -/
def Dev.inject (d : Dev) (e : Nat) : Dev :=
  let type := d.get F.BUR_INJ.TYPE e
  let inst := d.get F.BUR_INJ.INST e
  if !d.bit F.BUR_CTL.INJ_EN 0 ∨ !d.bit F.BUR_INJ.VALID e ∨ !d.injectable type inst then d.count .BUR_INJ_REFUSED
  else
    let r : InjRun := { type := type, src := d.get F.BUR_INJ.SOURCE e, inst := inst, param := d.get F.BUR_INJ.PARAM e,
                        dry := d.bit F.BUR_INJ.DRY e, left := max 1 (d.get F.BUR_INJ.REPEAT e) - 1 }
    let d := d.log { src := r.src, level := 0, kind := 5, inst := inst, injected := true }
    (d.updBur fun b => { b with inj := if r.left = 0 then b.inj.erase e else b.inj.insert e r }).applyFault r

/-- A write of BUR_INJ_CMD with GO fires its entry. -/
def Dev.injCmd (d : Dev) (v : Word) : Dev :=
  let d := d.writeRw .BUR_INJ_CMD 0 0 v
  if bitAt v.toNat 31 then d.inject (d.get F.BUR_INJ_CMD.ENTRY 0) else d

/-- INJECTION_CMD -/
def execInjectionCmd (a : Access) (v : Word) (s : State) : Host.Outcome State Fault Refusal :=
  run (fun d => d.onWrite a .BUR_INJ_CMD 0 0 (·.injCmd v)) s

/-- INJECTION_REPEAT: the next repetition of an entry that runs. -/
def Dev.injectNext (d : Dev) (e : Nat) : Dev :=
  match d.bur.inj.find e with
  | none => d
  | some r =>
    let r := { r with left := r.left - 1 }
    (d.updBur fun b => { b with inj := if r.left = 0 then b.inj.erase e else b.inj.insert e r }).applyFault r

/-- INJECTION_REPEAT -/
def execInjectionRepeat (e : Fin 1024) (s : State) : Host.Outcome State Fault Refusal := run (·.injectNext e) s

end Sys2Proof.Machine
end

