-- ==== Sys2Proof/Machine/Launch.lean ====
section
/-! DEFINITION. The firing of a launch entry (R311 to R314, Table 13.3). -/
namespace Sys2Proof.Machine

/-- What an action of Table 13.3 does, for an entry with launch time `l` and argument `arg`. NONE and FAULT_INJECT are the
Desks' own: with no Desk in service they do nothing. -/
def Dev.launchAction (d : Dev) (action arg l : Nat) : Dev :=
  match action with
  | 1 => d.routeSwap
  | 2 =>
    if d.sbdArmed then d.count .MNT_LAUNCH_CONFLICT
    else d.sbdSwapFire (d.time.ext - (d.now + 2 ^ 32 - l % 2 ^ 32) % 2 ^ 32)
  | 3 => d.releaseDrawer (arg % 4096)
  | 4 => d.cwinLaunch (arg % 256)
  | 5 => if d.someDesk then d.inject (arg % 1024) else d
  | _ => d

/-- OUTCOME of an armed entry that fires now (R311). -/
def Launch.outcome (l : Launch) : Nat := if l.past || l.early then 2 else 1

/-- An armed entry whose condition holds fires; in a safe stop none does (R314). -/
def Dev.launchFire (d : Dev) (e : Nat) : Dev :=
  match d.time.launch.find e with
  | none => d
  | some l =>
    if !d.launchDue l.time ∨ d.get F.PWR_STAT.STATE 0 = 2 then d
    else
      let d := if l.early then d.count .MNT_LAUNCH_EARLY else if l.past then d.count .MNT_LAUNCH_PAST else d
      let d := d.launchEnd e l.outcome
      let d := if l.irq && d.someDesk then d.irqBoth 1 else d
      d.launchAction l.action l.arg l.time

/-- LAUNCH_FIRE -/
def execLaunchFire (e : Fin 256) (s : State) : Host.Outcome State Fault Refusal := run (·.launchFire e) s

end Sys2Proof.Machine
end

