-- ==== Sys2Proof/Machine/Sha3.lean ====
section
/-! DEFINITION. SHA3-256 (FIPS 202), which R362, R365, R369, R370 and R377 name. A string of bytes is the number it spells,
its first byte lowest, so a state of the permutation is one number below 2^1600: bit 64 (5y + x) + z of it is the standard's
bit (x, y, z), and plane y is its 320 bits from 320 y. The offsets of the lane walk and the constants of the rounds are
computed by the standard's own rules for them. -/
namespace Sys2Proof.Machine

/-- Turn a string of w bits up by n places: bit i goes to i + n mod w. -/
def turnUp (w n v : Nat) : Nat := (v <<< n) % 2 ^ w ||| v >>> (w - n)

/-- Lane (x, y). -/
def shaLane (a x y : Nat) : Nat := (a >>> (64 * (5 * y + x))) % 2 ^ 64

/-- Plane y. -/
def shaPlane (a y : Nat) : Nat := (a >>> (320 * y)) % 2 ^ 320

/-- The five planes put together, each given by its number. -/
def shaPlanes (f : Nat → Nat) : Nat := f 0 ||| f 1 <<< 320 ||| f 2 <<< 640 ||| f 3 <<< 960 ||| f 4 <<< 1280

/-- The five lanes of a plane, each turned up by one place. -/
def lanesUp (p : Nat) : Nat :=
  (List.range 5).foldl (fun r x => r ||| turnUp 64 1 (shaLane p x 0) <<< (64 * x)) 0

/-- θ: every plane takes in the parity of the columns one lane before and that of those one lane after, one bit behind. -/
def theta (a : Nat) : Nat :=
  let c := (List.range 5).foldl (fun r y => r ^^^ shaPlane a y) 0
  let e := turnUp 320 64 c ^^^ lanesUp (turnUp 320 256 c)
  a ^^^ shaPlanes fun _ => e

/-- ρ and π in one walk: from (1, 0) each lane goes to (y, 2x + 3y), turned up by the next triangular number; `n` lanes are
still to go and `r` holds those that have gone. -/
def rhoPi (a : Nat) : Nat → Nat → Nat → Nat → Nat → Nat
  | 0, _, _, _, r => r
  | n + 1, t, x, y, r =>
    let y' := (2 * x + 3 * y) % 5
    rhoPi a n (t + 1) y y' (r ||| turnUp 64 ((t + 1) * (t + 2) / 2 % 64) (shaLane a x y) <<< (64 * (5 * y' + y)))

/-- χ on one plane. -/
def chiPlane (p : Nat) : Nat := p ^^^ ((2 ^ 320 - 1 - turnUp 320 256 p) &&& turnUp 320 192 p)

/-- One turn of the standard's shift register of eight bits, x^8 + x^6 + x^5 + x^4 + 1. -/
def rcTurn (r : Nat) : Nat := if r < 128 then 2 * r else (2 * r % 256) ^^^ 0x71

/-- ι: the seven bits the register gives from `r` on, bit j of them at place 2^j - 1, from j on; and the register after them. -/
def iota : Nat → Nat → Nat → Nat → Nat × Nat
  | 0, _, r, k => (k, r)
  | n + 1, j, r, k => iota n (j + 1) (rcTurn r) (k ||| (r % 2) <<< (2 ^ j - 1))

/-- The rounds still to go, with the shift register of their constants. -/
def shaRounds : Nat → Nat → Nat → Nat
  | 0, _, a => a
  | n + 1, r, a =>
    let a := theta a
    let b := rhoPi a 24 0 1 0 (shaLane a 0 0)
    let k := iota 7 0 r 0
    shaRounds n k.2 (shaPlanes (fun y => chiPlane (shaPlane b y)) ^^^ k.1)

/-- Take in the blocks of 136 bytes of a padded message, the lowest first. -/
def shaAbsorb : Nat → Nat → Nat → Nat
  | 0, _, a => a
  | n + 1, m, a => shaAbsorb n (m >>> 1088) (shaRounds 24 1 (a ^^^ m % 2 ^ 1088))

/-- SHA3-256 of a message: 01 and the pad 1 0* 1 fill its last block. -/
def sha3 (m : List Byte) : List Byte :=
  let n := m.length / 136 + 1
  leBytes 32 (shaAbsorb n (leNat m + 6 <<< (8 * m.length) + 1 <<< (1088 * n - 1)) 0)

end Sys2Proof.Machine
end

