-- ==== Sys2Proof/Machine/Desk.lean ====
section
/-! DEFINITION. The Desks' own commands (chapter 16): interrupts, the doorbell and the semaphores, the flash, image checks
and firmware commands, the anti-rollback count, attestation, and the teardown of a job. -/
namespace Sys2Proof.Machine

/-! ## Interrupts, doorbell, semaphores (R374, R375) -/

/-- A write of DESK_IRQ_MASK: unmasking a set bit sends its vector once. -/
def Dev.irqMaskWrite (d : Dev) (k : Nat) (v : Word) : Dev :=
  let old := (d.rd .DESK_IRQ_MASK k).toNat
  let st := (d.rd .DESK_IRQ_STAT k).toNat
  (d.wr .DESK_IRQ_MASK k 0 v).each (List.range 32) fun d n =>
    if bitAt old n && !bitAt v.toNat n && bitAt st n then d.emit (.irq k n) else d

/-- IRQ_MASK_WRITE -/
def execIrqMaskWrite (a : Access) (v : Word) (s : State) : Host.Outcome State Fault Refusal :=
  run (fun d => d.onWrite a .DESK_IRQ_MASK a.deskB.toNat 0 (·.irqMaskWrite a.deskB.toNat v)) s

/-- A write of DESK_DOORBELL passes its value to the other Desk while that one is in service. -/
def Dev.doorbell (d : Dev) (k : Nat) (v : Word) : Dev :=
  if d.deskUp (1 - k) then (d.wr .DESK_DOORBELL_IN (1 - k) 0 v).irq (1 - k) 5 else d

/-- DOORBELL_WRITE -/
def execDoorbellWrite (a : Access) (v : Word) (s : State) : Host.Outcome State Fault Refusal :=
  run (fun d => d.onWrite a .DESK_DOORBELL a.deskB.toNat 0 (·.doorbell a.deskB.toNat v)) s

/-- A write with ACQ = 1 takes a free semaphore; a held one stays as it is. -/
def Dev.semTake (d : Dev) (k n : Nat) (token : Nat) : Dev :=
  if d.bit F.DESK_SEM.HELD n then d
  else ((d.setB F.DESK_SEM.HELD n true).set F.DESK_SEM.OWNER n (k + 1)).set F.DESK_SEM.TOKEN n token

/-- SEM_ACQUIRE -/
def execSemAcquire (a : Access) (n : Fin 32) (token : BitVec 16) (s : State) : Host.Outcome State Fault Refusal :=
  run (fun d => d.onWrite a .DESK_SEM n 0 (·.semTake a.deskB.toNat n token.toNat)) s

/-- A write with ACQ = 0 through the owning Desk with its token releases the semaphore; SEM_FREE is raised. -/
def Dev.semFree (d : Dev) (k n : Nat) (token : Nat) : Dev :=
  if d.bit F.DESK_SEM.HELD n ∧ d.get F.DESK_SEM.OWNER n = k + 1 ∧ d.get F.DESK_SEM.TOKEN n = token then
    (d.wr .DESK_SEM n 0 0).irqBoth 6
  else d

/-- SEM_RELEASE -/
def execSemRelease (a : Access) (n : Fin 32) (token : BitVec 16) (s : State) : Host.Outcome State Fault Refusal :=
  run (fun d => d.onWrite a .DESK_SEM n 0 (·.semFree a.deskB.toNat n token.toNat)) s

/-! ## Flash (R361, R378) -/

/-- A byte of a Desk's flash; erased where nothing is written. -/
def Dev.flashByte (d : Dev) (k addr : Nat) : Byte := d.boot.flash.at 0xFF (key2 k addr)

/-- Bytes of a Desk's flash. -/
def Dev.flashBytes (d : Dev) (k addr n : Nat) : List Byte := (List.range n).map fun i => d.flashByte k (addr + i)

/-- Set bytes of a Desk's flash. -/
def Dev.flashPut (d : Dev) (k addr : Nat) (bs : List Byte) : Dev :=
  let t := bs.zipIdx.foldl (fun (t : Tbl Byte) e => t.put 0xFF (key2 k (addr + e.2)) e.1) d.boot.flash
  { d with boot := { d.boot with flash := t } }

/-- The 64 KiB of an erased block. -/
def erasedBlock : List Byte := List.replicate 65536 0xFF

/-- The 4 KiB of an erased pin record. -/
def erasedPin : List Byte := List.replicate 4096 0xFF

/-- The first byte of a slot (Table 16.2). -/
def slotBase (s : Nat) : Nat := if s = 0 then 0 else 0x1800000

/-- The size of a slot. -/
def slotSize : Nat := 0x1800000

/-- The calibration section. -/
def calBase : Nat := 0x3000000

/-- The identity section. -/
def identBase : Nat := 0x3100000

/-- The pin record. -/
def pinBase : Nat := 0x3110000

/-- STAGE. -/
def Dev.stage (d : Dev) : Nat := d.get F.DESK_BOOT_STAT.STAGE 0

/-- The slot of a Desk's own flash from which it booted. -/
def Dev.bootedSlot (d : Dev) (k : Nat) : Option Nat :=
  match d.boot.run.find k with
  | some r => if r.desk = k then some r.slot else none
  | none => none

/-- Erasing or programming at an address of a Desk's flash is refused (R378). -/
def Dev.flashProtected (d : Dev) (k addr : Nat) : Bool :=
  (match d.bootedSlot k with
   | some s => decide (slotBase s ≤ addr ∧ addr < slotBase s + slotSize)
   | none => false) ||
  decide (identBase ≤ addr ∧ addr < identBase + 0x10000) ||
  (decide (calBase ≤ addr ∧ addr < identBase) && !d.bit F.DESK_PROT_POLICY.CAL_WR 0 && d.stage != 0xF)

/-- The bytes of a Desk's flash window, in address order. -/
def Dev.windowBytes (d : Dev) (k : Nat) : List Byte :=
  (List.range 16384).flatMap fun n => leBytes 4 (d.rd .DESK_FLASH_WIN (16384 * k + n)).toNat

/-- A flash command by its OP: its STATUS and what it does. -/
def Dev.flashRun (d : Dev) (k op : Nat) : Nat × Dev :=
  let addr := d.get F.DESK_FLASH_ADDR.ADDR k
  if addr % 65536 ≠ 0 then (3, d)
  else match op with
    | 0 => (0, d.each (List.range 16384) fun e n =>
        e.wr .DESK_FLASH_WIN (16384 * k + n) 0 (BitVec.ofNat 32 (leNat (d.flashBytes k (addr + 4 * n) 4))))
    | 1 => if d.flashProtected k addr then (1, d) else (0, d.flashPut k addr erasedBlock)
    | _ => if d.flashProtected k addr then (1, d) else (0, d.flashPut k addr (d.windowBytes k))

/-- A flash command ends with its STATUS, and vector 7 is raised. -/
def flashEnd (k : Nat) (r : Nat × Dev) : Dev := (r.2.set F.DESK_FLASH_CMD.STATUS k r.1).irq k 7

/-- DESK_FLASH_CMD with GO: the command runs. A reserved OP runs nothing. -/
def Dev.flashCmd (d : Dev) (k op : Nat) : Dev :=
  let d := d.set F.DESK_FLASH_CMD.OP k op
  if 2 < op then d else flashEnd k (d.flashRun k op)

/-- FLASH_READ -/
def execFlashRead (a : Access) (s : State) : Host.Outcome State Fault Refusal :=
  run (fun d => d.onWrite a .DESK_FLASH_CMD a.deskB.toNat 0 (·.flashCmd a.deskB.toNat 0)) s

/-- FLASH_ERASE -/
def execFlashErase (a : Access) (s : State) : Host.Outcome State Fault Refusal :=
  run (fun d => d.onWrite a .DESK_FLASH_CMD a.deskB.toNat 0 (·.flashCmd a.deskB.toNat 1)) s

/-- FLASH_PROGRAM -/
def execFlashProgram (a : Access) (s : State) : Host.Outcome State Fault Refusal :=
  run (fun d => d.onWrite a .DESK_FLASH_CMD a.deskB.toNat 0 (·.flashCmd a.deskB.toNat 2)) s

/-! ## Fuses (R367, R368, R370) -/

/-- The fused key hash, most significant byte first; word 0 of DESK_KEY_HASH holds bits [31:0]. -/
def Dev.keyHash (d : Dev) : List Byte :=
  (List.range 8).flatMap fun n => beBytes 4 (d.rd .DESK_KEY_HASH (7 - n)).toNat

/-- The UID, most significant byte first. -/
def Dev.uid (d : Dev) : List Byte := (List.range 4).flatMap fun n => beBytes 4 (d.rd .DESK_UID (3 - n)).toNat

/-- The fused count F. -/
def Dev.fused (d : Dev) : Nat := d.get F.DESK_SVN.F 0

/-- The part waits for enrolment: a DZ-6432-O with KEY_ENROLLED = 0. -/
def Dev.unenrolled (d : Dev) : Bool := d.get F.DESK_IDENT.ORDER_CODE 0 == 1 && !d.bit F.DESK_IDENT.KEY_ENROLLED 0

/-! ## Images (R362, Tables 16.3 and 16.4) -/

/-- A section entry. -/
structure Section where
  /-- TYPE -/
  type : Nat
  /-- OFFSET -/
  off : Nat
  /-- LENGTH -/
  len : Nat
  /-- DIGEST -/
  digest : List Byte
  /-- its bytes that must be zero are zero -/
  zeros : Bool
  deriving DecidableEq, Repr

/-- Where an image lies: a Desk's flash and a slot. -/
structure Place where
  /-- the Desk -/
  desk : Nat
  /-- the slot -/
  slot : Nat
  deriving DecidableEq, Repr

/-- Bytes of an image. -/
def Dev.imgBytes (d : Dev) (p : Place) (off n : Nat) : List Byte := d.flashBytes p.desk (slotBase p.slot + off) n

/-- A field of an image, most significant byte first. -/
def Dev.imgNat (d : Dev) (p : Place) (off n : Nat) : Nat := beNat (d.imgBytes p off n)

/-- ENROL. -/
def Dev.imgEnrol (d : Dev) (p : Place) : Bool := d.imgNat p 6 2 % 2 == 1

/-- VERSION. -/
def Dev.imgVersion (d : Dev) (p : Place) : Nat := d.imgNat p 8 8

/-- SVN. -/
def Dev.imgSvn (d : Dev) (p : Place) : Nat := d.imgNat p 16 2

/-- LENGTH. -/
def Dev.imgLen (d : Dev) (p : Place) : Nat := d.imgNat p 20 4

/-- PUBKEY. -/
def Dev.imgPub (d : Dev) (p : Place) : List Byte := d.imgBytes p 64 1312

/-- The signed message. -/
def Dev.imgSigned (d : Dev) (p : Place) : List Byte := d.imgBytes p 0 64 ++ d.imgBytes p 4096 1536

/-- The image identifier. -/
def Dev.imgId (d : Dev) (p : Place) : List Byte := sha3 (d.imgSigned p)

/-- The section entries in use, at most 32. -/
def Dev.sections (d : Dev) (p : Place) : List Section :=
  (List.range (min 32 (d.imgNat p 18 2))).map fun n =>
    let e := d.imgBytes p (4096 + 48 * n) 48
    { type := beAt e 0 1, off := beAt e 4 4, len := beAt e 8 4, digest := e.drop 16,
      zeros := beAt e 1 3 == 0 && beAt e 12 4 == 0 }

/-- The body of a section. -/
def Dev.sectionBody (d : Dev) (p : Place) (s : Section) : List Byte := d.imgBytes p s.off s.len

/-- The first section of a type, with its entry number. -/
def Dev.sectionOf (d : Dev) (p : Place) (type : Nat) : Option (Section × Nat) :=
  (d.sections p).zipIdx.find? fun e => e.1.type == type

/-- The body of the first section of a type, empty where there is none. -/
def Dev.bodyOf (d : Dev) (p : Place) (type : Nat) : List Byte :=
  match d.sectionOf p type with | some e => d.sectionBody p e.1 | none => []

/-- The section table keeps R362. -/
def Dev.tableOk (d : Dev) (p : Place) : Bool :=
  let n := d.imgNat p 18 2
  let l := d.sections p
  let count (t : Nat) : Nat := (l.filter fun s => s.type == t).length
  decide (1 ≤ n ∧ n ≤ 32) &&
  l.all (fun s => decide (1 ≤ s.type ∧ s.type ≤ 8) && s.zeros && s.off % 4096 == 0 && decide (8192 ≤ s.off) &&
    decide (s.off + s.len ≤ d.imgLen p)) &&
  [1, 2, 4, 5, 6].all (fun t => count t == 1) && decide (1 ≤ count 3) && decide (count 7 ≤ 16) &&
  count 8 == (d.imgEnrol p).toNat

/-- The UIDs of the enrolment section. -/
def Dev.enrolUids (d : Dev) (p : Place) : List (List Byte) :=
  let b := d.bodyOf p 8
  (List.range (b.length / 16)).map fun n => (b.drop (16 * n)).take 16

/-- Checks 1 to 5 and 15 of Table 16.6 on a slot: the code of the first that fails and the section it names, or code 0. An
unenrolled part takes only an enrolment image, whose PUBKEY is the key (R370). -/
def Dev.slotCheck (d : Dev) (p : Place) : Nat × Nat :=
  if d.imgNat p 0 4 ≠ 0x50454146 ∨ d.imgNat p 4 2 ≠ 1 ∨ slotSize < d.imgLen p ∨ !d.tableOk p then (1, 0)
  else if (if d.unenrolled then !d.imgEnrol p else sha3 (d.imgPub p) != d.keyHash) then (2, 0)
  else if !Config.mlDsaVerify (d.imgPub p) (d.imgSigned p) (d.imgBytes p 1376 2420) then (3, 0)
  else if d.imgSvn p < d.fused then (4, 0)
  else match (d.sections p).zipIdx.find? fun e => sha3 (d.sectionBody p e.1) != e.1.digest with
    | some e => (5, e.2)
    | none => if d.imgEnrol p && (!d.unenrolled || !(d.enrolUids p).contains d.uid) then (15, 0) else (0, 0)

/-- A slot is valid (R365). -/
def Dev.slotValid (d : Dev) (p : Place) : Bool := (d.slotCheck p).1 == 0

/-- The slot that a Desk's pin record names. -/
def Dev.pinned (d : Dev) (k : Nat) : Option Nat :=
  match (d.flashByte k pinBase).toNat with
  | 0 => some 0
  | 1 => some 1
  | _ => none

/-- The pair (SVN, VERSION) as one number. -/
def Dev.imgRank (d : Dev) (p : Place) : Nat := d.imgSvn p * 2 ^ 64 + d.imgVersion p

/-- A Desk's candidate (R366). -/
def Dev.candidate (d : Dev) (k : Nat) : Option Place :=
  let v (s : Nat) : Bool := d.slotValid { desk := k, slot := s }
  let byRank : Option Nat :=
    match v 0, v 1 with
    | true, true => some (if d.imgRank { desk := k, slot := 0 } < d.imgRank { desk := k, slot := 1 } then 1 else 0)
    | true, false => some 0
    | false, true => some 1
    | false, false => none
  let slot := match d.pinned k with | some s => if v s then some s else byRank | none => byRank
  slot.map fun s => { desk := k, slot := s }

/-- The record of an image that a Desk runs. -/
def Dev.imageOf (d : Dev) (p : Place) : RunImg :=
  { id := d.imgId p, cfg := d.imgBytes p 32 32, version := d.imgVersion p, svn := d.imgSvn p, desk := p.desk, slot := p.slot,
    agent := match d.sectionOf p 2 with | some e => e.1.digest | none => [] }

/-- The image of a Desk. -/
def Dev.runOf (d : Dev) (k : Nat) : RunImg := d.boot.run.at {} k

/-- A Desk runs an image; FLASH_MISMATCH is shown while the two differ. -/
def Dev.setRun (d : Dev) (k : Nat) (r : RunImg) : Dev :=
  { d with boot := { d.boot with run := d.boot.run.insert k r } }

/-! ## Anti-rollback (R368) -/

/-- SVN_COMMIT: in READY the fuses up to the SVN of the running image are programmed; a supply that is not in tolerance
stops it. -/
def Dev.svnCommit (d : Dev) : Dev :=
  let n := (d.runOf d.master).svn
  if d.stage = 8 ∧ d.supply = 0 ∧ d.fused < n then d.set F.DESK_SVN.F 0 (min 64 n) else d

/-- SVN_COMMIT -/
def execSvnCommit (a : Access) (s : State) : Host.Outcome State Fault Refusal :=
  run (fun d => d.onWrite a .DESK_SVN 0 0 Dev.svnCommit) s

/-! ## Attestation (R377, Table 16.11) -/

/-- A list of exactly `n` bytes. -/
def fixLen (n : Nat) (l : List Byte) : List Byte := (l ++ List.replicate n 0).take n

/-- The fused secret. -/
def Dev.udsBytes (d : Dev) : List Byte := beBytes 32 d.boot.uds.toNat

/-- The seed of the identity key. -/
def Dev.idSeed (d : Dev) : List Byte := sha3 ([0x44, 0x5A, 0x49, 0x44] ++ d.udsBytes)

/-- The seed of the attestation key. -/
def Dev.akSeed (d : Dev) : List Byte := sha3 ([0x44, 0x5A, 0x41, 0x4B] ++ d.udsBytes ++ d.keyHash ++ beBytes 1 d.fused)

/-- Write bytes into a Desk's attestation buffer from word `w` of byte offset `off` on. -/
def Dev.attestPut (d : Dev) (k off : Nat) (bs : List Byte) : Dev :=
  d.each bs.zipIdx fun d e =>
    let a := off + e.2
    let w := (d.rd .DESK_ATTEST_BUF (2048 * k + a / 4)).toNat
    d.wr .DESK_ATTEST_BUF (2048 * k + a / 4) 0 (BitVec.ofNat 32 (withBits w (8 * (a % 4) + 7) (8 * (a % 4)) e.1.toNat))

/-- Bytes of an attestation certificate. -/
def certLen : Nat := 16 + 32 + 1 + 1312 + 2420

/-- The attestation certificate of a boot, at the start of a Desk's buffer. -/
def Dev.certify (d : Dev) (k : Nat) : Dev :=
  let body := d.uid ++ d.keyHash ++ beBytes 1 d.fused ++ fixLen 1312 (Config.mlDsaPub d.akSeed)
  let (x, d) := d.draw
  d.attestPut k 0 (body ++ fixLen 2420 (Config.mlDsaSign d.idSeed body x))

/-- FLAGS of a report. -/
def Dev.attestFlags (d : Dev) : Nat :=
  (d.bit F.DESK_PROT_LOCK.LOCKED 0).toNat + 2 * (d.bit F.BUR_CTL.INJ_EN 0).toNat + 4 * (d.bit F.BUR_CTL.SPINE_SHADOW 0).toNat +
  8 * (d.bit F.DESK_BOOT_STAT.FLASH_MISMATCH 0).toNat + 16 * (d.bit F.DESK_BOOT_STAT.CAL_OK 0).toNat +
  32 * (d.bit F.DESK_PROT_POLICY.JTAG_LOCK 0).toNat

/-- Bytes 0 to 183 of a report of a Desk. -/
def Dev.reportBody (d : Dev) (k : Nat) : List Byte :=
  let r := d.runOf k
  beBytes 4 0x41545354 ++ beBytes 4 (d.rd .DESK_IDENT 0).toNat ++ d.uid ++ d.keyHash ++ beBytes 1 d.fused ++ beBytes 1 r.svn ++
  beBytes 1 d.attestFlags ++ beBytes 1 (d.get F.DESK_STRAP.DEVICE_ID 0) ++ beBytes 8 r.version ++ fixLen 32 r.id ++
  fixLen 32 d.boot.calHash ++ beBytes 4 (d.rd .DESK_PROT_POLICY 0).toNat ++ beBytes 1 d.place ++ List.replicate 7 0 ++
  ((List.range 8).flatMap fun n => beBytes 4 (d.rd .DESK_ATTEST_NONCE (8 * k + n)).toNat) ++ beBytes 4 d.now ++
  List.replicate 4 0

/-- DESK_ATTEST_CMD with GO: STATUS 1 with ATTEST_EN = 0, else the signed report follows the certificate. -/
def Dev.attest (d : Dev) (k : Nat) : Dev :=
  if !d.bit F.DESK_PROT_POLICY.ATTEST_EN 0 then d.set F.DESK_ATTEST_CMD.STATUS k 1
  else
    let body := d.reportBody k
    let (x, d) := d.draw
    (d.attestPut k certLen (body ++ fixLen 2420 (Config.mlDsaSign d.akSeed body x))).set F.DESK_ATTEST_CMD.STATUS k 0

/-- ATTEST -/
def execAttest (a : Access) (s : State) : Host.Outcome State Fault Refusal :=
  run (fun d => d.onWrite a .DESK_ATTEST_CMD a.deskB.toNat 0 (·.attest a.deskB.toNat)) s

/-! ## Firmware commands (R378, R379) -/

/-- A firmware command of a Desk ends: STATUS, CODE, and vector 7. -/
def Dev.fwEnd (d : Dev) (k st code : Nat) : Dev :=
  ((d.set F.DESK_FW_CMD.STATUS k st).set F.DESK_FW_CMD.CODE k code).irq k 7

/-- Show whether the two Desks run different images (R366, R379). -/
def Dev.showMismatch (d : Dev) : Dev := d.setB F.DESK_BOOT_STAT.FLASH_MISMATCH 0 ((d.runOf 0).id != (d.runOf 1).id)

/-- HITLESS of a Desk onto a slot: the STATUS, and the Desk reset onto the image while the other serves. -/
def Dev.hitless (d : Dev) (t slot : Nat) : Nat × Dev :=
  let p : Place := { desk := t, slot := slot }
  let code := (d.slotCheck p).1
  let r := d.imageOf p
  let now := d.runOf t
  if !d.bit F.DESK_PROT_POLICY.HITLESS_EN 0 then (2, d)
  else if code ≠ 0 ∧ code ≠ 4 then (1, d)
  else if r.cfg ≠ now.cfg ∨ r.agent ≠ now.agent ∨ r.svn < d.fused then (3, d)
  else if !d.deskUp (1 - t) then (4, d)
  else
    let d := (((d.deskLeave t 2).deskReset t).setRun t r).deskReturn t
    (0, (d.showMismatch).certify t)

/-- HITLESS ends with its STATUS. -/
def hitlessEnd (k : Nat) (r : Nat × Dev) : Dev := r.2.fwEnd k r.1 0

/-- DESK_FW_CMD as written: OP, SLOT and DESK. -/
def Dev.fwSet (d : Dev) (k op slot t : Nat) : Dev :=
  ((d.set F.DESK_FW_CMD.OP k op).set F.DESK_FW_CMD.SLOT k slot).set F.DESK_FW_CMD.DESK k t

/-- VERIFY: the check of a slot. -/
def Dev.fwVerify (d : Dev) (k slot : Nat) : Dev :=
  let c := (d.slotCheck { desk := k, slot := slot }).1
  d.fwEnd k (if c = 0 then 0 else 1) c

/-- PIN: the pin record names a slot. -/
def Dev.fwPin (d : Dev) (k slot : Nat) : Dev := (d.flashPut k pinBase [BitVec.ofNat 8 slot]).fwEnd k 0 0

/-- UNPIN: the pin record is erased. -/
def Dev.fwUnpin (d : Dev) (k : Nat) : Dev := (d.flashPut k pinBase erasedPin).fwEnd k 0 0

/-- HITLESS, ended. -/
def Dev.fwHitless (d : Dev) (k slot t : Nat) : Dev := hitlessEnd k (d.hitless t slot)

/-- DESK_FW_CMD with GO. Reserved OPs run nothing. -/
def Dev.fwCmd (d : Dev) (k op slot t : Nat) : Dev :=
  match op with
  | 0 => (d.fwSet k 0 slot t).fwVerify k slot
  | 1 => (d.fwSet k 1 slot t).fwPin k slot
  | 2 => (d.fwSet k 2 slot t).fwUnpin k
  | 3 => (d.fwSet k 3 slot t).fwHitless k slot t
  | 4 => (d.fwSet k 4 slot t).deviceReset false
  | n => d.fwSet k n slot t

/-- FW_VERIFY -/
def execFwVerify (a : Access) (slot : Bool) (deskB : Bool) (s : State) : Host.Outcome State Fault Refusal :=
  run (fun d => d.onWrite a .DESK_FW_CMD a.deskB.toNat 0 fun d =>
    (d.fwSet a.deskB.toNat 0 slot.toNat deskB.toNat).fwVerify a.deskB.toNat slot.toNat) s

/-- FW_PIN -/
def execFwPin (a : Access) (slot : Bool) (deskB : Bool) (s : State) : Host.Outcome State Fault Refusal :=
  run (fun d => d.onWrite a .DESK_FW_CMD a.deskB.toNat 0 fun d =>
    (d.fwSet a.deskB.toNat 1 slot.toNat deskB.toNat).fwPin a.deskB.toNat slot.toNat) s

/-- FW_UNPIN -/
def execFwUnpin (a : Access) (deskB : Bool) (s : State) : Host.Outcome State Fault Refusal :=
  run (fun d => d.onWrite a .DESK_FW_CMD a.deskB.toNat 0 fun d =>
    (d.fwSet a.deskB.toNat 2 0 deskB.toNat).fwUnpin a.deskB.toNat) s

/-- FW_HITLESS -/
def execFwHitless (a : Access) (slot : Bool) (deskB : Bool) (s : State) : Host.Outcome State Fault Refusal :=
  run (fun d => d.onWrite a .DESK_FW_CMD a.deskB.toNat 0 fun d =>
    (d.fwSet a.deskB.toNat 3 slot.toNat deskB.toNat).fwHitless a.deskB.toNat slot.toNat deskB.toNat) s

/-- FW_REBOOT -/
def execFwReboot (a : Access) (s : State) : Host.Outcome State Fault Refusal :=
  run (fun d => d.onWrite a .DESK_FW_CMD a.deskB.toNat 0 fun d => (d.fwSet a.deskB.toNat 4 0 0).deviceReset false) s

/-- ENROL_SELF_RESET: 10 ms after enrolment the device resets itself (R370). -/
def execEnrolSelfReset (s : State) : Host.Outcome State Fault Refusal :=
  run (fun d => if d.boot.selfReset then d.deviceReset false else d) s

/-! ## Teardown of a job (R376, Table 16.10) -/

/-- Abort and close a handle: its contexts, shadow, records and steering go, and it is FREE. -/
def Dev.dropHandle (d : Dev) (h : Nat) : Dev :=
  let die := d.drwDie h
  let d := d.dropShadow h
  let d := match d.ctx die h with
    | some _ => ((d.abortCtx die h).delCtx die h).dropRecords die h
    | none => d
  let d := (d.steer h none).updCab fun k => { k with released := k.released.erase h, reforms := k.reforms.erase h }
  d.setState h 0

/-- Launch entries that release one of some handles are cancelled. -/
def Dev.cancelReleases (d : Dev) (hs : List Nat) : Dev :=
  let hit (action arg : Nat) : Bool := action == 3 && hs.contains (arg % 4096)
  let gone := (d.time.launch.filter fun e => hit e.2.action e.2.arg).map Prod.fst ++
    (d.time.launchUpd.filter fun u => hit u.action u.arg).map (·.entry)
  let d := d.updTime fun t => { t with launch := t.launch.filter fun e => !hit e.2.action e.2.arg
                                       launchUpd := t.launchUpd.filter fun u => !(u.arm && hit u.action u.arg) }
  d.each gone fun d e => d.setB F.MNT_LAUNCH.VALID e false

/-- JOB_TEARDOWN. -/
def Dev.teardown (d : Dev) (r : JobCtl) : Dev :=
  let j := r.target.val
  if j = 0 then d.jobDone r 3 []
  else if !d.jobValid j then d.jobDone r 5 []
  else
    let w0 : Word := BitVec.ofNat 32 (withBit (d.jobWord j 0) 31 false)
    let d := ((d.wr .FWD_JOB j 0 w0).updFwd fun x => { x with job := x.job.put 0 (key2 j 0) w0 }).genBump
    let hs := (List.range 4096).filter fun h => d.drwState h != 0 && d.get F.DRW_CFG.JOB h == j
    let d := (d.each hs fun d h => d.dropHandle h).cancelReleases hs
    let d := d.each (List.range 256) fun d n =>
      if d.get F.DESK_CWIN.PERMIT_JOB n = j then d.setB F.DESK_CWIN.PERMIT_V n false else d
    (d.poolTeardown j).jobDone r 0 []

/-- JOB_TEARDOWN: CMD 0x10. -/
def execJobTeardown (r : JobCtl) (s : State) : Host.Outcome State Fault Refusal :=
  run (fun d => d.onJob r fun d => d.teardown r) s

end Sys2Proof.Machine
end

