-- ==== Sys2Proof/Machine/Registers.lean ====
section
/-! DEFINITION. Register accesses (R8 to R12, R360, R415 to R423): what each write does, what each read returns, and
register access over a management port (R373). -/
namespace Sys2Proof.Machine

/-! ## Writes by access type (Table 0.5) -/

/-- A 1 clears a W1C bit. -/
def Dev.writeW1c (d : Dev) (r : Reg) (i w : Nat) (v : Word) : Dev :=
  d.wr r i w (d.rd r i w &&& ~~~(v &&& (r.masks w).w1c))

/-- The BOOT bits of a word that are BOOT after the lock: SPINE_SHADOW is W1C then (Table 15.9). -/
def lockedMask (r : Reg) (w : Nat) : Word :=
  if r = .BUR_CTL then (r.masks w).boot &&& 0xDFFFFFFF else (r.masks w).boot

/-- BOOT bits: stored while the lock is open; after it, a changed value is a locked-write event. -/
def Dev.writeBoot (d : Dev) (a : Access) (r : Reg) (i w : Nat) (v : Word) : Dev :=
  let m := (r.masks w).boot
  if m = 0 then d
  else if !d.bit F.DESK_PROT_LOCK.LOCKED 0 then d.wr r i w ((d.rd r i w &&& ~~~m) ||| (v &&& m))
  else if (v ^^^ d.rd r i w) &&& lockedMask r w = 0 then d else d.lockedWrite a

/-- A write that takes effect under the access type of each field and does nothing more. -/
def Dev.writePlain (d : Dev) (a : Access) (r : Reg) (i w : Nat) (v : Word) : Dev :=
  ((d.writeRw r i w v).writeW1c r i w v).writeBoot a r i w v

/-! ## Registers whose write does more -/

/-- LNK_PORT_CFG: each ADMIN_UP bit acts for its sub-port, and BREAKOUT takes effect where it may (R31, R55). -/
def Dev.portCfgWrite (d : Dev) (port : Nat) (v : Word) : Dev :=
  let was := d.get F.LNK_PORT_CFG.ADMIN_UP port
  let new := bitsOf v.toNat 11 8
  let d := (d.writeRw .LNK_PORT_CFG port 0 v).set F.LNK_PORT_CFG.ADMIN_UP port was
  let d := d.breakoutApply port
  d.each (List.range 4) fun d s =>
    if bitAt new s = bitAt was s then d else d.adminWrite (4 * port + s) (bitAt new s)

/-- OE_ENG_CFG: KEEP_LASER and AUTO_FEED are stored, then ENABLE and FEED_FORCE act. Before the lock the image's value is
stored, and boot step 9 enables the engine. -/
def Dev.engCfgWrite (d : Dev) (oe : Nat) (v : Word) : Dev :=
  if !d.bit F.DESK_PROT_LOCK.LOCKED 0 then d.writeRw .OE_ENG_CFG oe 0 v
  else
    let x := v.toNat
    let d := (d.setB F.OE_ENG_CFG.KEEP_LASER oe (bitAt x 30)).setB F.OE_ENG_CFG.AUTO_FEED oe (bitAt x 29)
    let d :=
      if bitAt x 31 = d.bit F.OE_ENG_CFG.ENABLE oe then d
      else if bitAt x 31 then d.engineEnable oe else d.engineDisable oe
    d.feedForce oe (x % 65536)

/-- FWD_IND_CMD with GO: the command of OP; a reserved OP ends with STATUS 5. -/
def Dev.indCmd (d : Dev) (k : Nat) (v : Nat) : Dev :=
  let table := bitsOf v 27 24
  let bank := bitAt v 23
  match bitsOf v 30 28 with
  | 0 => d.indRead k table bank
  | 1 => d.indWrite k table bank
  | 2 => d.indInsert k table bank
  | 3 => d.indDelete k table bank
  | 4 => d.indSearch k table bank
  | op => d.indDone k op table bank 5

/-- Word 0 of a shaper takes words 1 to 3 with it at the next refill (R191). -/
def Dev.shaperWord0 (d : Dev) (i : Nat) (v : Word) : Dev :=
  let d := d.writeRw .TM_SHP i 0 v
  d.updTm fun m =>
    { m with shpPend := m.shpPend.put [] (key2 (i / 512) (i % 512)) ((List.range 4).map fun w => d.rd .TM_SHP i w) }

/-- Word 0 of a drop profile takes words 1 and 2 with it (Table 8.3). -/
def Dev.wredWord0 (d : Dev) (i : Nat) (v : Word) : Dev :=
  let d := d.writeRw .TM_WRED i 0 v
  d.updTm fun m =>
    { m with wred := (List.range 3).foldl (fun t w =>
        Tbl.put t (Reg.TM_WRED.reset 0 w) (key3 (i / 16) (i % 16) w) (d.rd .TM_WRED i w)) m.wred }

/-- SBD_CTL: CHECK and CLEAR act beside the stored fields. -/
def Dev.sbdCtlWrite (d : Dev) (v : Word) : Dev :=
  let d := d.writeRw .SBD_CTL 0 0 v
  let d := if bitAt v.toNat 31 then d.sbdCheckCmd else d
  if bitAt v.toNat 30 then d.sbdClear else d

/-- OE_I2C_CMD with GO where no answer of the module comes with the write: the answer is a free value. -/
def Dev.i2cFree (d : Dev) (oe : Nat) (v : Word) : Dev :=
  let (x, d) := d.draw
  let m := (Config.freeMeasure x).toNat
  d.i2cCmd oe v.toNat (bitAt m 16) (m % 65536)

/-- A write to a word of a register that is not a writable 64-bit one. -/
def Dev.writeWord (d : Dev) (a : Access) (r : Reg) (i w : Nat) (v : Word) : Dev :=
  let k := a.deskB.toNat
  let x := v.toNat
  let go := bitAt x 31
  match r with
  | .DESK_SVN => if go then d.svnCommit else d
  | .DESK_IRQ_MASK => d.irqMaskWrite k v
  | .DESK_DOORBELL => d.doorbell k v
  | .DESK_SEM => if go then d.semTake k i (x % 65536) else d.semFree k i (x % 65536)
  | .DESK_FLASH_CMD => if go then d.flashCmd k (bitsOf x 30 28) else d.writeRw r i w v
  | .DESK_FW_CMD => if go then d.fwCmd k (bitsOf x 30 28) (bitsOf x 27 27) (bitsOf x 26 26) else d.writeRw r i w v
  | .DESK_ATTEST_CMD => if go then d.attest k else d
  | .LNK_PORT_CFG => d.portCfgWrite i v
  | .LNK_SWAP_CMD => if go then d.swapCmd i (bitsOf x 30 28) (bitsOf x 27 23) (bitsOf x 22 18) else d.writeRw r i w v
  | .LNK_LANE_CFG => d.laneCfgWrite (i / 18) (i % 18) v
  | .OE_ENG_CFG => d.engCfgWrite i v
  | .OE_I2C_CMD => if go then d.i2cFree i v else d.writeRw r i w v
  | .OE_FEED_RET => d.feedRet i (x % 65536)
  | .OE_RING_CTL => d.ringModeWrite i x
  | .SBD_CTL => d.sbdCtlWrite v
  | .SBD_SHADOW_SLOT | .SBD_SHADOW_N => d.shadowWrite r i w v
  | .SBD_LIVE_SLOT | .SBD_LIVE_N => d.count .SBD_LATE_WR_CNT
  | .FWD_JOB => if w = 0 then d.jobCommit k i v else d.writeRw r i w v
  | .FWD_RANK_MAP => d.rankMapPut i v
  | .FWD_LP_WITHDRAW => d.withdrawWrite i v
  | .FWD_BANK_CTL => if go then d.routeSwap else d
  | .FWD_IND_CMD => if go then d.indCmd k x else d.writeRw r i w v
  | .TM_POL => if w = 0 then d.policerWord0 k (i / 1024) (i % 1024) v else d.writeRw r i w v
  | .TM_SHP => if w = 0 then d.shaperWord0 i v else d.writeRw r i w v
  | .TM_WRED => if w = 0 then d.wredWord0 i v else d.writeRw r i w v
  | .TM_JOB_POL | .BUR_BUDGET => (d.writeRw r i w v).genBump
  | .CAB_WEIGHT => d.weightWrite (i / 65536) (i % 65536) v
  | .DRW_CFG => d.cfgWrite i w v
  | .DRW_MEMBER => d.cfgWriteFree (d.get F.DRW_MEMSEL.HANDLE 0) r (memberIx (d.get F.DRW_MEMSEL.HANDLE 0) i) w v
  | .DRW_COLL => d.cfgWriteFree i r i w v
  | .DRW_CMD => if go then d.drwCmd k (bitsOf x 30 28) (x % 4096) else d.writeRw r i w v
  | .DRW_RELEASE => d.releaseDrawer (x % 4096)
  | .POOL_WIN_CMD => if go then d.winCmd k (bitsOf x 30 28) (x % 4096) else d.writeRw r i w v
  | .POOL_WIN => d.winWrite i w v
  | .TM_SCHED => if 6 ≤ i % 8 then d.set F.TM_SCHED.WEIGHT i (x % 256) else d.writeRw r i w v
  | .MNT_CTL => d.mntCtlWrite k v
  | .MNT_RATE => d.rateWrite v
  | .MNT_LAUNCH => if w = 0 then d.launchTime i v else if w = 1 then d.launchWord1 i v else d
  | .MNT_PTP_TX => d.ptpSend k v
  | .DESK_PMC_CMD => if go then d.pmcCmd k (bitsOf x 30 28) (x % 256) else d.writeRw r i w v
  | .CLK_ALIGN_CTL => if go then d.alignCheck else d
  | .DESK_CWIN => d.cwinWrite i w v
  | .XBAR_PMC_CFG0 | .XBAR_PMC_CFG1 => d.pmcCfgWrite (i / 16) r i v
  | .CAB_PMC_CFG0 | .CAB_PMC_CFG1 => d.pmcCfgWrite (16 + i / 16) r i v
  | .BUR_CTL => (if d.bit F.DESK_PROT_LOCK.LOCKED 0 && bitAt x 29 then d.spineClear else d).writeBoot a r i w v
  | .BUR_STANDIN => d.standin k v
  | .BUR_ACT => d.burAct k v
  | .BUR_INJ_CMD => d.injCmd v
  | .BUR_SRC => if w = 1 then (if go then d.acknowledge i else d) else d.writeRw r i w v
  | .BUR_UNIT => d.unitWrite i v
  | .PWR_CTL => if go then (d.writeRw r i w v).resumeWrite else d.writeRw r i w v
  | .PWR_PD_CTL => d.pdWrite v
  | .CLK_REF_CTL => if bitAt x 29 then (d.writeRw r i w v).refSwitch else d.writeRw r i w v
  | _ => d.writePlain a r i w v

/-! ## Writable 64-bit registers (R11) -/

/-- A writable 64-bit register. -/
def Reg.wide (r : Reg) : Bool :=
  r.is64 && (((r.masks 0).rw ||| (r.masks 0).w1c ||| (r.masks 0).wo) != 0)

/-- A low-word write is staged in its register. -/
def Dev.stage64 (d : Dev) (r : Reg) (i : Nat) (v : Word) : Dev :=
  { d with bus := { d.bus with staged := d.bus.staged.insert (rkey r i 0) v } }

/-- A high-word write commits both words. -/
def Dev.commit64 (d : Dev) (a : Access) (r : Reg) (i : Nat) (v : Word) : Dev :=
  if r = .MNT_STEP then d.stepCommit v
  else
    let (lo, d) := d.takeStaged r i 0
    (d.writePlain a r i 0 lo).writePlain a r i 1 v

/-- A write that reaches its register word. -/
def Dev.writeReg (d : Dev) (a : Access) (r : Reg) (i w : Nat) (v : Word) : Dev :=
  if r.wide then (if w = 0 then d.stage64 r i v else d.commit64 a r i v) else d.writeWord a r i w v

/-- A write of a whole word at an address; an unassigned one is discarded (R9). -/
def Dev.writeTo (d : Dev) (a : Access) (addr : Nat) (v : Word) : Dev :=
  match decodeAddr a.deskB.toNat (addr / 4 * 4) with
  | some (r, i, w) => d.onWrite a r i w (·.writeReg a r i w v)
  | none => d

/-- A write whose byte enables do not cover the word is discarded and recorded with cause 1 (R416). -/
def Dev.writeBytes (d : Dev) (a : Access) (addr : Nat) (be : Nat) (v : Word) : Dev :=
  if be = 15 then d.writeTo a addr v
  else match decodeAddr a.deskB.toNat (addr / 4 * 4) with
    | some (r, i, w) => d.onWrite a r i w (·.accErr a 1 (addr / 4 * 4) true)
    | none => d

/-- REGISTER_WRITE -/
def execRegisterWrite (a : Access) (addr : BitVec 26) (be : BitVec 4) (v : Word) (s : State) :
    Host.Outcome State Fault Refusal := run (·.writeBytes a addr.toNat be.toNat v) s

/-- LOW_WORD_WRITE -/
def execLowWordWrite (a : Access) (addr : BitVec 26) (v : Word) (s : State) : Host.Outcome State Fault Refusal :=
  run (·.writeTo a addr.toNat v) s

/-- HIGH_WORD_WRITE -/
def execHighWordWrite (a : Access) (addr : BitVec 26) (v : Word) (s : State) : Host.Outcome State Fault Refusal :=
  run (·.writeTo a addr.toNat v) s

/-! ## Reads: fields that show other state -/

/-- DESK_GSTAT (Table 18.6). -/
def Dev.gstat (d : Dev) : Nat :=
  d.stage * 2 ^ 28 + d.supply % 4 * 2 ^ 26 + (d.bit F.DESK_PROT_LOCK.LOCKED 0).toNat * 2 ^ 25 + d.master * 2 ^ 24 +
  (d.deskUp 0 && d.deskUp 1).toNat * 2 ^ 23 +
  ((List.range 1024).any fun n => d.bit F.BUR_SRC.PENDING n).toNat * 2 ^ 22 + (d.budgetStat != 0).toNat * 2 ^ 21 +
  (d.bit F.CLK_ALIGN_CTL.ALIGNED 0).toNat * 2 ^ 20 + (d.bit F.MNT_CTL.HOLDOVER 0).toNat * 2 ^ 19 +
  (d.bit F.FWD_BANK_CTL.DRAINING 0).toNat * 2 ^ 18 + d.cabHalfAny.toNat * 2 ^ 17 +
  (d.bit F.BUR_CTL.SPARE 0).toNat * 2 ^ 16 + d.place

/-- Word `w` of DRW_SLOT[s] of a Cabinet die (Table 10.11). -/
def Dev.slotWord (d : Dev) (die s w : Nat) : Nat :=
  match (d.ctxsOn die).find? fun c => c.2.slot == s with
  | none => 0
  | some (h, c) =>
    match w with
    | 0 => c.state * 2 ^ 28 + c.shadow.toNat * 2 ^ 27 + c.epoch * 2 ^ 16 + h
    | 1 => c.tag
    | 2 => c.limit
    | 3 => c.w
    | 4 => d.sramShelves die h c + d.spillShelves die h c
    | 5 => (c.chunks.filter fun e => e.2.retry).length
    | _ => 0

/-- Cells that every die holds with the generation bit of the bank that is not live. -/
def Dev.drainTotal (d : Dev) : Nat :=
  min (2 ^ 24 - 1) ((List.range 24).map fun m => d.drainCells m (1 - d.liveBank)).sum

/-- A register word as it reads, before the read has any effect: the stored value, or the state that its fields show. -/
def Dev.view (d : Dev) (k : Nat) (r : Reg) (i w : Nat) : Word :=
  let v := (d.rd r i w).toNat
  let n : Nat := match r with
    | .DESK_BOOT_STAT =>
      let x := d.runOf k
      withBits v 25 24 (if x.desk = k then x.slot else 2)
    | .DESK_SVN => withBits v 14 8 (d.runOf d.master).svn
    | .DESK_IMG_VER => (d.runOf d.master).version / 2 ^ (32 * w)
    | .DESK_GSTAT => d.gstat
    | .FWD_LEARN_STAT => d.fwd.learn.length
    | .FWD_DRAIN_TOTAL => d.drainTotal
    | .FWD_DRAIN_CELLS => min (2 ^ 24 - 1) (d.drainCells (i / 2) (i % 2))
    | .FWD_DRAIN_CELLS_CAB => min (2 ^ 24 - 1) (d.drainCells (16 + i / 2) (i % 2))
    | .XBAR_SHARED => d.sharedSize i
    | .XBAR_DEEP_FREE => min (2 ^ 25 - 1) (d.deepFree i)
    | .PWR_CTL => withBit v 31 (d.supply == 3)
    | .TM_Q_DEPTH => (d.queue (i / 512) (i % 512 / 8) (i % 8)).whole
    | .DRW_MEMBER => (d.rd .DRW_MEMBER (memberIx (d.get F.DRW_MEMSEL.HANDLE 0) i) w).toNat
    | .CAB_SHELF_USED => d.shelfUsed i false * 2 ^ 16 + d.shelfUsed i true
    | .CAB_SPILL_USED => d.spillUsed i
    | .CAB_RANK_HELD => d.rankHeld (i / 8) (i % 8) * 2 ^ 16 + d.rankActive (i / 8) (i % 8)
    | .CAB_COUNT_USED => d.countUsed i
    | .DRW_SLOT => d.slotWord (i / 512) (i % 512) w
    | .POOL_TRK_USED => d.trkUsed i
    | .POOL_SRC_USED => d.srcUsed i
    | .POOL_RC_USED => d.rcUsed i
    | .MNT_NOW => d.time.ext / 2 ^ (32 * w)
    | .BUR_BUDGET_STAT => d.budgetStat
    | .BUR_UNIT => withBit (withBits v 15 0 (d.unitGen i)) 28 (d.unitStale i)
    | .PWR_PD_CTL => withBits v 15 0 ((List.range 16).map fun oe => (d.bit F.OE_ENG_CFG.ENABLE oe).toNat * 2 ^ oe).sum
    | .CLK_STAT => withBit v 26 d.cabHalfAny
    | _ => v
  BitVec.ofNat 32 n &&& ~~~(r.masks w).wo

/-- A register whose value is measured and that no command of the block delivers: it reads a free value. -/
def Dev.viewFree (d : Dev) (k : Nat) (r : Reg) (i w : Nat) : Word × Dev :=
  match r with
  | .PWR_VIN_AUX =>
    let (x, d) := d.draw
    (BitVec.ofNat 32 (withBits (d.rd r i w).toNat 31 16 (Config.freeMeasure x).toNat), d)
  | .SBD_IN_PWR =>
    let (x, d) := d.draw
    (Config.freeMeasure x &&& 0xFFFF, d)
  | .SBD_OUT_STAT =>
    let (x, d) := d.draw
    (BitVec.ofNat 32 (withBits (d.rd r i w).toNat 15 0 (Config.freeMeasure x).toNat), d)
  | .CLK_REF_DIFF =>
    if d.refOk false && d.refOk true then
      let (x, d) := d.draw
      (Config.freeMeasure x, d)
    else (0, d)
  | _ => (d.view k r i w, d)

/-! ## Reads: latches and clearing (R8, R11, R421) -/

/-- RC bits of a word return to zero. -/
def Dev.clearRc (d : Dev) (r : Reg) (i w : Nat) : Dev :=
  let m := (r.masks w).rc
  if m = 0 then d else d.wr r i w (d.rd r i w &&& ~~~m)

/-- The high word that the latch of an access path holds for a register. -/
def Dev.latched (d : Dev) (a : Access) (r : Reg) (i : Nat) : Option Word :=
  match d.bus.latch.at none (2 * a.deskB.toNat + a.eth.toNat) with
  | some (key, v) => if key = rkey r i 0 then some v else none
  | none => none

/-- A read of the low word of a 64-bit register: the high word is latched, and an RC register is cleared whole. -/
def Dev.readLow (d : Dev) (a : Access) (r : Reg) (i : Nat) : Word × Dev :=
  let k := a.deskB.toNat
  let lo := match d.bus.staged.find (rkey r i 0) with
    | some v => v &&& ~~~(r.masks 0).wo
    | none => d.view k r i 0
  let d := d.latch a (rkey r i 0) (d.view k r i 1)
  (lo, (d.clearRc r i 0).clearRc r i 1)

/-- A read that reaches its register word. -/
def Dev.readReg (d : Dev) (a : Access) (r : Reg) (i w : Nat) : Word × Dev :=
  let k := a.deskB.toNat
  let rack := if r = .MNT_CR_POP then i else 16 + i
  if r = .MNT_CR_POP ∨ r = .MNT_CR_POP_DESK then
    if w = 0 then d.coatPop a rack (rkey r i 0) else ((d.latched a r i).getD 0, d)
  else if r.is64 then
    if w = 0 then d.readLow a r i else ((d.latched a r i).getD (d.view k r i 1), d)
  else if r = .CAB_DIGEST ∧ w = 2 then (d.rd r i 2, d.latch a (rkey r i 0) (d.rd r i 3))
  else if r = .CAB_DIGEST ∧ w = 3 then ((d.latched a r i).getD (d.rd r i 3), d)
  else
    let (v, d) := d.viewFree k r i w
    (v, d.clearRc r i w)

/-- A read at an address: its value, zero where it does not reach a register (R9, R360, R419). -/
def Dev.readFrom (d : Dev) (a : Access) (addr : Nat) : Word × Dev :=
  match decodeAddr a.deskB.toNat (addr / 4 * 4) with
  | none => (0, d)
  | some (r, i, w) =>
    match d.gate a (addr / 4 * 4) with
    | .silent => (0, d)
    | .cause n => (0, d.accErr a n (addr / 4 * 4) false)
    | .ok => d.readReg a r i w

/-- A read through PCIe or through the management port completes with its value; a Desk out of service answers nothing,
and the management port answers nothing before the lock. -/
def Dev.answer (d : Dev) (a : Access) (addr : Nat) : Dev :=
  if d.deskUp a.deskB.toNat && (!a.eth || d.bit F.DESK_PROT_LOCK.LOCKED 0) then
    let (v, d) := d.readFrom a addr
    d.emit (.read a.deskB a.eth (addr / 4 * 4) v)
  else d

/-- LOW_WORD_READ -/
def execLowWordRead (a : Access) (addr : BitVec 26) (s : State) : Host.Outcome State Fault Refusal :=
  run (·.answer a addr.toNat) s

/-- HIGH_WORD_READ -/
def execHighWordRead (a : Access) (addr : BitVec 26) (s : State) : Host.Outcome State Fault Refusal :=
  run (·.answer a addr.toNat) s

/-- RC_READ -/
def execRcRead (a : Access) (addr : BitVec 26) (s : State) : Host.Outcome State Fault Refusal :=
  run (·.answer a addr.toNat) s

/-! ## Register access over a management port (R373, Table 16.8) -/

/-- Read a number of words, rising. -/
def Dev.readWords (d : Dev) (a : Access) (addr : Nat) : Nat → List Nat × Dev
  | 0 => ([], d)
  | n + 1 =>
    let (v, d) := if addr < 2 ^ 26 then d.readFrom a addr else (0, d)
    let (l, d) := d.readWords a (addr + 4) n
    (v.toNat :: l, d)

/-- Write words, rising. -/
def Dev.writeWords (d : Dev) (a : Access) (addr : Nat) : List Word → Dev
  | [] => d
  | v :: l => (if addr < 2 ^ 26 then d.writeTo a addr v else d).writeWords a (addr + 4) l

/-- A response leaves on a Desk's port and is kept with its request, the last 16 of them. -/
def Dev.ethReply (d : Dev) (k : Nat) (q : EthReq) (status : Nat) (data : List Nat) : Dev :=
  let resp := mgmtFrame q.mac.toNat (d.deskMac k) 3 status q.seq.toNat q.addr.toNat q.count.toNat data
  let e : EthSeen := { mac := q.mac.toNat, seq := q.seq.toNat, resp := resp }
  let d := { d with boot := { d.boot with eth := d.boot.eth.upd [] k fun l => (l ++ [e]).drop (l.length + 1 - 16) } }
  d.emit (.mgmt k resp)

/-- A request on a Desk's port: answered only with ETH_MGMT_EN = 1 after the lock; a repeated one from the store. -/
def Dev.ethServe (d : Dev) (k : Nat) (q : EthReq) (f : Dev → Dev) : Dev :=
  if !d.deskUp k ∨ !d.bit F.DESK_PROT_LOCK.LOCKED 0 ∨ !d.bit F.DESK_PROT_POLICY.ETH_MGMT_EN 0 ∨ q.dst.toNat ≠ d.deskMac k ∨
      q.version ≠ 1 then d
  else match (d.boot.eth.at [] k).find? fun e => e.mac == q.mac.toNat && e.seq == q.seq.toNat with
    | some e => d.emit (.mgmt k e.resp)
    | none => f d

/-- COUNT lies from 1 to 256. -/
def ethCountOk (q : EthReq) : Bool := decide (1 ≤ q.count.toNat ∧ q.count.toNat ≤ 256)

/-- A READ. -/
def Dev.ethRead (d : Dev) (k : Nat) (q : EthReq) : Dev :=
  if !ethCountOk q then d.ethReply k q 2 []
  else
    let (l, d) := d.readWords { deskB := k == 1, eth := true } (q.addr.toNat / 4 * 4) q.count.toNat
    d.ethReply k q 0 l

/-- ETH_MGMT_READ -/
def execEthMgmtRead (deskB : Bool) (q : EthReq) (s : State) : Host.Outcome State Fault Refusal :=
  run (fun d => d.ethServe deskB.toNat q (·.ethRead deskB.toNat q)) s

/-- A WRITE: DENIED without ETH_MGMT_WR. A write that resets the device or takes the Desk from service is not answered. -/
def Dev.ethWrite (d : Dev) (k : Nat) (q : EthReq) : Dev :=
  if !d.bit F.DESK_PROT_POLICY.ETH_MGMT_WR 0 then d.ethReply k q 1 []
  else if !ethCountOk q ∨ q.data.length ≠ q.count.toNat then d.ethReply k q 2 []
  else
    let d := d.writeWords { deskB := k == 1, eth := true } (q.addr.toNat / 4 * 4) q.data
    if d.deskUp k && d.bit F.DESK_PROT_LOCK.LOCKED 0 then d.ethReply k q 0 [] else d

/-- ETH_MGMT_WRITE -/
def execEthMgmtWrite (deskB : Bool) (q : EthReq) (s : State) : Host.Outcome State Fault Refusal :=
  run (fun d => d.ethServe deskB.toNat q (·.ethWrite deskB.toNat q)) s

end Sys2Proof.Machine
end

