-- ==== Sys2Proof/Machine/Boot.lean ====
section
/-! DEFINITION. The boot order (R359 to R371): agreement on an image, enrolment, its configuration, partition, place table
and policy, the checks of Table 16.6, the calibration section, the lock, and the engines. -/
namespace Sys2Proof.Machine

/-! ## Agreement (R366) -/

/-- The images that the two Desks boot, and FLASH_MISMATCH; none where neither has a valid slot. -/
def Dev.agree (d : Dev) : Option (Place × Place × Bool) :=
  match d.candidate 0, d.candidate 1 with
  | some a, some b =>
    if d.imgId a = d.imgId b then some (a, b, false)
    else if d.imgRank a < d.imgRank b then some (b, b, true) else some (a, a, true)
  | some a, none => some (a, a, false)
  | none, some b => some (b, b, false)
  | none, none => none

/-- Boot ends in FAILED: the code and the section it names, and FAULT_N low (Table 17.14). -/
def Dev.bootFail (d : Dev) (code sec : Nat) : Dev :=
  (((d.set F.DESK_BOOT_STAT.CHECK_ERR 0 code).set F.DESK_BOOT_STAT.CHECK_SECTION 0 sec).stageGo 0xF).faultPin true

/-! ## Configuration records (R363) -/

/-- The access that a configuration record makes. -/
def bootAccess : Access := { deskB := false, eth := false }

/-- Some bit of a register word is writable in boot. A record that commands the firmware itself is refused. -/
def wordWritable (r : Reg) (w : Nat) : Bool :=
  let m := r.masks w
  r != .DESK_FW_CMD && ((m.rw ||| m.w1c ||| m.wo ||| m.ws ||| m.boot) != 0 ||
  [Reg.DESK_SEM, .BUR_UNIT].contains r)

/-- The status that a command register shows once its command has completed: LNK_SWAP_CMD has RESULT, where 0 is none
and 1 is success; OE_I2C_CMD has ERR. -/
def Dev.cmdFailed (d : Dev) (r : Reg) (i : Nat) : Bool :=
  match r with
  | .FWD_IND_CMD => d.get F.FWD_IND_CMD.STATUS i != 0
  | .DRW_CMD => d.get F.DRW_CMD.STATUS i != 0
  | .POOL_WIN_CMD => d.get F.POOL_WIN_CMD.STATUS i != 0
  | .DESK_PMC_CMD => d.get F.DESK_PMC_CMD.STATUS i != 0
  | .BUR_STANDIN => d.get F.BUR_STANDIN.STATUS i != 0
  | .BUR_ACT => d.get F.BUR_ACT.STATUS i != 0
  | .DESK_FLASH_CMD => d.get F.DESK_FLASH_CMD.STATUS i != 0
  | .DESK_ATTEST_CMD => d.get F.DESK_ATTEST_CMD.STATUS i != 0
  | _ => false

/-- Write one word of a record: 0, or the code of the check that fails (12 a job entry, 13 a policer, 14 the address or the
command). -/
def Dev.bootWord (d : Dev) (addr : Nat) (v : Word) : Nat × Dev :=
  match decodeAddr 0 addr with
  | none => (14, d)
  | some (r, i, w) =>
    if addr % 4 ≠ 0 ∨ !wordWritable r w then (14, d)
    else
      let job := r == .FWD_JOB && w == 0 &&
        decide (262144 < bitsOf (d.rd .FWD_JOB i 2).toNat 17 0 + bitsOf (d.rd .FWD_JOB i 3).toNat 18 0)
      let pol := r == .TM_POL && w == 0 &&
        !polRulesOk (d.rd .TM_POL i 1).toNat (d.rd .TM_POL i 2).toNat (d.rd .TM_POL i 3).toNat
      if job then (12, d)
      else if pol then (13, d)
      else
        let d := d.writeReg bootAccess r i w v
        (if r.isCmd && bitAt v.toNat 31 && d.cmdFailed r i then 14 else 0, d)

/-- Go on with `f` unless a check has failed. -/
def thenBoot (r : Nat × Dev) (f : Dev → Nat × Dev) : Nat × Dev := if r.1 ≠ 0 then r else f r.2

/-- Write words at rising addresses until one fails. -/
def Dev.bootWords (d : Dev) (addr : Nat) : List Word → Nat × Dev
  | [] => (0, d)
  | v :: l => thenBoot (d.bootWord addr v) fun d => d.bootWords (addr + 4) l

/-- An IND record: the index, the data words and then the command, through the indirect block. -/
def Dev.bootInd (d : Dev) (index : Word) (ws : List Word) : Nat × Dev :=
  thenBoot (d.bootWord (regAddr .FWD_IND_INDEX 0 0) index) fun d =>
    thenBoot (d.bootWords (regAddr .FWD_IND_DATA 0 0) (ws.drop 1)) fun d =>
      d.bootWord (regAddr .FWD_IND_CMD 0 0) (ws.headD 0)

/-- The words of a body. -/
def bodyWords (b : List Byte) : List Word := (List.range (b.length / 4)).map fun n => BitVec.ofNat 32 (beAt b (4 * n) 4)

/-- Apply the records of a configuration section, at most as many as it has words; the code of the check that fails. A
section that ends without END fails check 14. -/
def Dev.bootRecords (d : Dev) : Nat → List Word → Nat × Dev
  | 0, _ => (14, d)
  | n + 1, w0 :: w1 :: rest =>
    let count := w0.toNat % 2 ^ 24
    let addr := w1.toNat
    match w0.toNat / 2 ^ 24 with
    | 1 =>
      if rest.length < count then (14, d)
      else thenBoot (d.bootWords addr (rest.take count)) fun d => d.bootRecords n (rest.drop count)
    | 2 =>
      match rest with
      | [] => (14, d)
      | v :: rest => thenBoot (d.bootWords addr (List.replicate count v)) fun d => d.bootRecords n rest
    | 3 =>
      if rest.length < count ∨ count = 0 then (14, d)
      else thenBoot (d.bootInd w1 (rest.take count)) fun d => d.bootRecords n (rest.drop count)
    | 4 => (0, d)
    | _ => (14, d)
  | _ + 1, _ => (14, d)

/-- Apply one configuration section. -/
def Dev.bootSection (d : Dev) (b : List Byte) : Nat × Dev := d.bootRecords (b.length / 4 + 1) (bodyWords b)

/-! ## Checks 8 to 11 (Table 16.6) -/

/-- XBAR_RSV, XBAR_RSV4S, XBAR_MESH_RSV and shared_size keep R162. -/
def Dev.reservesOk (d : Dev) : Bool :=
  let least := [72, 34, 34, 34, 4, 2, 10, 14]
  (List.range 24).all fun m =>
    (List.range 8).all (fun c => decide (least.getD c 0 ≤ d.get F.XBAR_RSV.CELLS (8 * m + c))) &&
    decide (2 ≤ d.get F.XBAR_RSV4S.CELLS m) &&
    decide (d.get F.XBAR_RSV4S.CELLS m + 2 ≤ d.get F.XBAR_RSV.CELLS (8 * m + 4)) &&
    decide (d.get F.XBAR_RSV4S.CELLS m + 2 ≤ d.get F.XBAR_MESH_RSV.CELLS m) &&
    (decide (16 ≤ m) || decide (131072 ≤ d.sharedSize m))

/-- A check of the configuration in force passes. -/
def Dev.bootCheck (d : Dev) (code : Nat) : Bool :=
  match code with
  | 8 => d.reservesOk
  | 9 => (List.range 16).all fun t =>
      decide (((List.range 16).filter fun k => d.bit F.LNK_PORT_CFG.EXT_RETRY (16 * t + k)).length ≤ 4)
  | 10 => (List.range 9216).all fun x => decide (32 * d.get F.OE_RING_CAL.HALF_WIDTH x ≤ 2240)
  | 11 => (List.range 8).all fun c =>
      decide (d.get F.CAB_SHELF_PART.FAST_PART c + d.get F.CAB_SHELF_PART.EXACT_PART c ≤ 2304)
  | _ => true

/-- The section since which each of checks 8 to 11 fails, after section `sec` has been applied. -/
def Dev.failing (d : Dev) (sec : Nat) (since : Tbl Nat) : Tbl Nat :=
  [8, 9, 10, 11].foldl (fun t c => if d.bootCheck c then Tbl.erase t c else if (Tbl.find t c).isSome then t else Tbl.insert t c sec)
    since

/-- Apply configuration sections in order, each with its entry number: the code and section of a failure, or code 0. -/
def Dev.bootConfig (d : Dev) (since : Tbl Nat) : List (List Byte × Nat) → (Nat × Nat) × Dev
  | [] => ((match since with | (c, s) :: _ => (c, s) | [] => (0, 0)), d)
  | (b, sec) :: l =>
    let (c, d) := d.bootSection b
    if c ≠ 0 then ((c, sec), d) else d.bootConfig (d.failing sec since) l

/-! ## Place, partition, policy (R363, R364, R371, Table 16.5) -/

/-- The place-table entry of this device: four words. -/
def Dev.placeEntry (d : Dev) (p : Place) : List Nat :=
  let b := (d.bodyOf p 5).drop (16 * d.get F.DESK_STRAP.DEVICE_ID 0)
  (List.range 4).map fun n => beAt b (4 * n) 4

/-- The profile sections, in order, with their entry numbers. -/
def Dev.profiles (d : Dev) (p : Place) : List (Section × Nat) := (d.sections p).zipIdx.filter fun e => e.1.type == 7

/-- Check 6. -/
def Dev.placeOk (d : Dev) (p : Place) : Bool :=
  let w := (d.placeEntry p).getD 0 0
  bitAt w 31 && (!bitAt w 4 || decide (w % 16 < (d.profiles p).length))

/-- The place table takes effect. -/
def Dev.setPlace (d : Dev) (p : Place) : Dev :=
  let e := d.placeEntry p
  let w := e.getD 0 0
  let spare := bitAt w 30
  let d := if spare then d else d.set F.FWD_PLACE.PLACE 0 (bitsOf w 23 16)
  let d := (d.setB F.BUR_CTL.SPARE 0 spare).setB F.BUR_CTL.SPINE_SHADOW 0 (bitAt w 29)
  { d with boot := { d.boot with mac := (e.getD 1 0 + 2 ^ 32 * e.getD 2 0) % 2 ^ 48 } }

/-- Check 7: the three sizes make at most 71 GiB per stack (R364). -/
def Dev.partitionOk (d : Dev) (p : Place) : Bool :=
  let b := d.bodyOf p 4
  decide (byteAt b 0 + byteAt b 1 + byteAt b 2 ≤ 71)

/-- The partitions are set. -/
def Dev.setPartition (d : Dev) (p : Place) : Dev :=
  let b := d.bodyOf p 4
  let d := d.set F.POOL_PART.GIB 0 (32 * byteAt b 0)
  let d := d.each (List.range 16) fun d t => d.updCore fun c => { c with deep := c.deep.put 0 t (byteAt b 2 * 2 * 2 ^ 22) }
  { d with boot := { d.boot with spillGib := byteAt b 1 } }

/-- The configuration sections to apply: those of type 3 in table order, then the profile that the place entry selects. -/
def Dev.configList (d : Dev) (p : Place) : List (List Byte × Nat) :=
  let w := (d.placeEntry p).getD 0 0
  let own := (d.sections p).zipIdx.filter fun e => e.1.type == 3
  let prof := if bitAt w 4 then ((d.profiles p)[w % 16]?).toList else []
  (own ++ prof).map fun e => (d.sectionBody p e.1, e.2)

/-- The entry number of the first section of a type. -/
def Dev.sectionNo (d : Dev) (p : Place) (type : Nat) : Nat :=
  match d.sectionOf p type with | some e => e.2 | none => 0

/-! ## Calibration section (R369) -/

/-- Bytes of the calibration body. -/
def calLen : Nat := 92160

/-- The calibration body of a Desk's flash. -/
def Dev.calBody (d : Dev) (k : Nat) : List Byte := d.flashBytes k (calBase + 64) calLen

/-- A Desk's calibration section is this device's and its digest matches. -/
def Dev.calOk (d : Dev) (k : Nat) : Bool :=
  let h := d.flashBytes k calBase 64
  beAt h 0 4 == 0x43414C31 && (h.drop 4).take 16 == d.uid && beAt h 20 4 == calLen && h.drop 32 == sha3 (d.calBody k)

/-- The registers that a calibration body fills. -/
def Dev.calRegs (d : Dev) (b : List Byte) : Dev :=
  d.each (List.range 16) fun d oe =>
    let base := 5760 * oe
    let d := d.each (List.range 576) fun d r =>
      (d.writeRw .OE_RING_CAL (576 * oe + r) 0 (BitVec.ofNat 32 (beAt b (base + 8 * r) 4))).writeRw .OE_RING_TEMPCO
        (576 * oe + r) 0 (BitVec.ofNat 32 (beAt b (base + 8 * r + 4) 4))
    d.each (List.range 288) fun d n =>
      d.writeRw .OE_LINE_PWR (288 * oe + n) 0 (BitVec.ofNat 32 (beAt b (base + 4608 + 4 * n) 4))

/-- Remember the digest of the loaded calibration body. -/
def Dev.calMark (d : Dev) (h : List Byte) : Dev := { d with boot := { d.boot with calHash := h } }

/-- Load a calibration body. -/
def Dev.calLoad (d : Dev) (b : List Byte) : Dev := ((d.calRegs b).setB F.DESK_BOOT_STAT.CAL_OK 0 true).calMark (sha3 b)

/-- The Desks load Desk A's section if it is good, and Desk B's otherwise. -/
def Dev.calSection (d : Dev) : Dev :=
  if d.calOk 0 then d.calLoad (d.calBody 0) else if d.calOk 1 then d.calLoad (d.calBody 1) else d

/-! ## The boot order (Table 16.1) -/

/-- The engines that the image enables, in order. -/
def Dev.enginesDue (d : Dev) : Dev :=
  { d with boot := { d.boot with engines := (List.range 16).filter fun oe => d.bit F.OE_ENG_CFG.ENABLE oe } }

/-- Steps 8 to 10: the lock is set, the certificates are in place, and the engines that the image enables are requested in
order. -/
def Dev.bootLock (d : Dev) (p : Place) : Dev :=
  let d := d.wr .DESK_PROT_POLICY 0 0 (BitVec.ofNat 32 (beNat (d.bodyOf p 6 |>.take 4)) &&& 0xFC000000)
  let d := ((d.setB F.DESK_PROT_LOCK.LOCKED 0 true).stageGo 6).certify 0
  let d := (d.certify 1).stageGo 7
  d.enginesDue.bootEngines

/-- The configuration has been applied: boot goes on, or ends with the code and section of the check that failed. -/
def bootEnd (p : Place) (r : (Nat × Nat) × Dev) : Dev :=
  if r.1.1 = 0 then ((r.2.calSection).stageGo 5).bootLock p else r.2.bootFail r.1.1 r.1.2

/-- Steps 5 to 10 with the images agreed: the first is Desk A's, whose configuration is applied. -/
def Dev.bootImage (d : Dev) (a b : Place) (mismatch : Bool) : Dev :=
  let d := ((d.setRun 0 (d.imageOf a)).setRun 1 (d.imageOf b)).setB F.DESK_BOOT_STAT.FLASH_MISMATCH 0 mismatch
  let d := d.stageGo 3
  if !d.placeOk a then d.bootFail 6 (d.sectionNo a 5)
  else if !d.partitionOk a then d.bootFail 7 (d.sectionNo a 4)
  else
    let d := ((d.setPartition a).stageGo 4).setPlace a
    bootEnd a (d.bootConfig (d.failing 0 []) (d.configList a))

/-- Enrolment (R370): the key hash is fused, and the self-reset is due in 10 ms. -/
def Dev.enrol (d : Dev) (p : Place) : Dev :=
  let h := sha3 (d.imgPub p)
  let d := d.each (List.range 8) fun d n => d.wr .DESK_KEY_HASH n 0 (BitVec.ofNat 32 (beAt h (28 - 4 * n) 4))
  let d := d.setB F.DESK_IDENT.KEY_ENROLLED 0 true
  ({ d with boot := { d.boot with selfReset := true } }).stageGo 0xE

/-- From step 3 on, with the images on which the Desks agree, if any. -/
def Dev.bootAgreed (d : Dev) (r : Option (Place × Place × Bool)) : Dev :=
  match r with
  | some (a, b, m) => if d.unenrolled then d.enrol a else d.bootImage a b m
  | none =>
    if d.unenrolled then d.stageGo 0xE
    else d.bootFail (d.slotCheck { desk := 0, slot := 0 }).1 (d.slotCheck { desk := 0, slot := 0 }).2

/-- Steps 1 and 2: FAULT_N is released, and the images are read. -/
def Dev.bootStart (d : Dev) : Dev := ((d.faultPin false).stageGo 1).stageGo 2

/-- The boot order: it runs once, from STAGE 0, after the power-on reset is released. -/
def Dev.bootRun (d : Dev) : Dev :=
  if d.stage ≠ 0 then d else d.bootStart.bootAgreed d.bootStart.agree

/-- BOOT -/
def execBoot (s : State) : Host.Outcome State Fault Refusal := run (·.bootRun) s

end Sys2Proof.Machine
end

