-- ==== Sys2Proof/Machine/Dispatch.lean ====
section
/-! DEFINITION. One arm per command: the meaning it calls. -/
namespace Sys2Proof.Machine

/-- The effect of a command on everything but the queue. -/
def exec (i : Instr) (s : State) : Host.Outcome State Fault Refusal :=
  match i with
  | .registerWrite a addr be v => Sys2Proof.Machine.execRegisterWrite a addr be v s
  | .lowWordRead a addr => Sys2Proof.Machine.execLowWordRead a addr s
  | .highWordRead a addr => Sys2Proof.Machine.execHighWordRead a addr s
  | .lowWordWrite a addr v => Sys2Proof.Machine.execLowWordWrite a addr v s
  | .highWordWrite a addr v => Sys2Proof.Machine.execHighWordWrite a addr v s
  | .rcRead a addr => Sys2Proof.Machine.execRcRead a addr s
  | .adminUpWrite a lp up => Sys2Proof.Machine.execAdminUpWrite a lp up s
  | .laneCfgWrite a port lane v => Sys2Proof.Machine.execLaneCfgWrite a port lane v s
  | .lightPresent lp => Sys2Proof.Machine.execLightPresent lp s
  | .ringsLockedAlign lp => Sys2Proof.Machine.execRingsLockedAlign lp s
  | .fecLock lp => Sys2Proof.Machine.execFecLock lp s
  | .laneMarkerReceived port lane m prbsOk => Sys2Proof.Machine.execLaneMarkerReceived port lane m prbsOk s
  | .linkControlReceived lp flit badCodeword corrected => Sys2Proof.Machine.execLinkControlReceived lp flit badCodeword corrected s
  | .trainTimeout lp => Sys2Proof.Machine.execTrainTimeout lp s
  | .retrainTimeout lp => Sys2Proof.Machine.execRetrainTimeout lp s
  | .markerLockLoss port lane => Sys2Proof.Machine.execMarkerLockLoss port lane s
  | .lmapGenMismatchTimeout lp => Sys2Proof.Machine.execLmapGenMismatchTimeout lp s
  | .dataFlitReceived lp flit badCodeword corrected => Sys2Proof.Machine.execDataFlitReceived lp flit badCodeword corrected s
  | .replayReqReceived lp ack => Sys2Proof.Machine.execReplayReqReceived lp ack s
  | .senderReplayTimeout lp => Sys2Proof.Machine.execSenderReplayTimeout lp s
  | .receiverReplayTimeout lp => Sys2Proof.Machine.execReceiverReplayTimeout lp s
  | .egressFlitSlot lp => Sys2Proof.Machine.execEgressFlitSlot lp s
  | .fastReacquire lp within1us => Sys2Proof.Machine.execFastReacquire lp within1us s
  | .fastReacqTimeout lp => Sys2Proof.Machine.execFastReacqTimeout lp s
  | .spareLight lp m => Sys2Proof.Machine.execSpareLight lp m s
  | .spareReady lp m => Sys2Proof.Machine.execSpareReady lp m s
  | .mirror lp m => Sys2Proof.Machine.execMirror lp m s
  | .mirrorAck lp m => Sys2Proof.Machine.execMirrorAck lp m s
  | .switchDone lp m => Sys2Proof.Machine.execSwitchDone lp m s
  | .laneFault lp m => Sys2Proof.Machine.execLaneFault lp m s
  | .drop lp m => Sys2Proof.Machine.execDrop lp m s
  | .dropAck lp m => Sys2Proof.Machine.execDropAck lp m s
  | .add lp m => Sys2Proof.Machine.execAdd lp m s
  | .addAck lp m => Sys2Proof.Machine.execAddAck lp m s
  | .nak lp m => Sys2Proof.Machine.execNak lp m s
  | .lanectlTimeout lp => Sys2Proof.Machine.execLanectlTimeout lp s
  | .mirrorBegin lp => Sys2Proof.Machine.execMirrorBegin lp s
  | .mirrorSwitch lp => Sys2Proof.Machine.execMirrorSwitch lp s
  | .dropApply lp => Sys2Proof.Machine.execDropApply lp s
  | .addApply lp => Sys2Proof.Machine.execAddApply lp s
  | .lnkSwapCmdSwap a port lane spare => Sys2Proof.Machine.execLnkSwapCmdSwap a port lane spare s
  | .lnkSwapCmdDrop a port lane => Sys2Proof.Machine.execLnkSwapCmdDrop a port lane s
  | .lnkSwapCmdAdd a port lane => Sys2Proof.Machine.execLnkSwapCmdAdd a port lane s
  | .laneLossOfLight port lane => Sys2Proof.Machine.execLaneLossOfLight port lane s
  | .ringLockinUpdate oe ring o => Sys2Proof.Machine.execRingLockinUpdate oe ring o s
  | .ringWindowEval oe ring temp => Sys2Proof.Machine.execRingWindowEval oe ring temp s
  | .preheatDone oe ring => Sys2Proof.Machine.execPreheatDone oe ring s
  | .sweepComplete oe ring o => Sys2Proof.Machine.execSweepComplete oe ring o s
  | .captureTimeout oe ring => Sys2Proof.Machine.execCaptureTimeout oe ring s
  | .outRetryTimer oe ring => Sys2Proof.Machine.execOutRetryTimer oe ring s
  | .reacqMarkerTimeout port lane => Sys2Proof.Machine.execReacqMarkerTimeout port lane s
  | .symbolErrorCheck port lane errors symbols => Sys2Proof.Machine.execSymbolErrorCheck port lane errors symbols s
  | .feedRejectTimeout oe k => Sys2Proof.Machine.execFeedRejectTimeout oe k s
  | .combFailDetect oe dark => Sys2Proof.Machine.execCombFailDetect oe dark s
  | .oeFeedRetWrite a oe v => Sys2Proof.Machine.execOeFeedRetWrite a oe v s
  | .feedForceWrite a oe v => Sys2Proof.Machine.execFeedForceWrite a oe v s
  | .engineEnable a oe => Sys2Proof.Machine.execEngineEnable a oe s
  | .engineDisable a oe => Sys2Proof.Machine.execEngineDisable a oe s
  | .combModuleReady oe prim stby => Sys2Proof.Machine.execCombModuleReady oe prim stby s
  | .engineReady oe => Sys2Proof.Machine.execEngineReady oe s
  | .enginePowerupTimeout oe => Sys2Proof.Machine.execEnginePowerupTimeout oe s
  | .linePowerReading oe k lane power => Sys2Proof.Machine.execLinePowerReading oe k lane power s
  | .calibrationTask oe task k lane o => Sys2Proof.Machine.execCalibrationTask oe task k lane o s
  | .laneRotation oe => Sys2Proof.Machine.execLaneRotation oe s
  | .modulePoll oe modul ok status => Sys2Proof.Machine.execModulePoll oe modul ok status s
  | .oeI2cCmd a oe v ok data => Sys2Proof.Machine.execOeI2cCmd a oe v ok data s
  | .ringModeWrite a oe ring v => Sys2Proof.Machine.execRingModeWrite a oe ring v s
  | .sbdShadowWrite a addr v => Sys2Proof.Machine.execSbdShadowWrite a addr v s
  | .sbdLiveWrite a addr v => Sys2Proof.Machine.execSbdLiveWrite a addr v s
  | .sbdCheck a => Sys2Proof.Machine.execSbdCheck a s
  | .sbdClear a => Sys2Proof.Machine.execSbdClear a s
  | .sbdSwapTakeEffect => Sys2Proof.Machine.execSbdSwapTakeEffect s
  | .slotGuard => Sys2Proof.Machine.execSlotGuard s
  | .slotBoundary => Sys2Proof.Machine.execSlotBoundary s
  | .slotDarkEnd => Sys2Proof.Machine.execSlotDarkEnd s
  | .sbdDriveLost dies => Sys2Proof.Machine.execSbdDriveLost dies s
  | .sbdCalibration o => Sys2Proof.Machine.execSbdCalibration o s
  | .ingressFrame lp cls bytes => Sys2Proof.Machine.execIngressFrame lp cls bytes s
  | .jobCtlUnknownCmd r => Sys2Proof.Machine.execJobCtlUnknownCmd r s
  | .setController r => Sys2Proof.Machine.execSetController r s
  | .rankMapWrite r => Sys2Proof.Machine.execRankMapWrite r s
  | .rankMapRegWrite a e v => Sys2Proof.Machine.execRankMapRegWrite a e v s
  | .jobEntryCommit a j v => Sys2Proof.Machine.execJobEntryCommit a j v s
  | .loadLevelPublish tile => Sys2Proof.Machine.execLoadLevelPublish tile s
  | .lpWithdraw a lp => Sys2Proof.Machine.execLpWithdraw a lp s
  | .learnHitReport tile => Sys2Proof.Machine.execLearnHitReport tile s
  | .learnMoveRequest tile => Sys2Proof.Machine.execLearnMoveRequest tile s
  | .learnInsertRequest tile => Sys2Proof.Machine.execLearnInsertRequest tile s
  | .learnUpdateApply tile => Sys2Proof.Machine.execLearnUpdateApply tile s
  | .ageSweep tile => Sys2Proof.Machine.execAgeSweep tile s
  | .swapNow a => Sys2Proof.Machine.execSwapNow a s
  | .drainComplete => Sys2Proof.Machine.execDrainComplete s
  | .drainTimeout => Sys2Proof.Machine.execDrainTimeout s
  | .fwdIndRead a table bank => Sys2Proof.Machine.execFwdIndRead a table bank s
  | .fwdIndWrite a table bank => Sys2Proof.Machine.execFwdIndWrite a table bank s
  | .fwdIndInsert a table => Sys2Proof.Machine.execFwdIndInsert a table s
  | .fwdIndDelete a table => Sys2Proof.Machine.execFwdIndDelete a table s
  | .fwdIndSearch a table => Sys2Proof.Machine.execFwdIndSearch a table s
  | .meshFrameReceived die dir crcBad parity => Sys2Proof.Machine.execMeshFrameReceived die dir crcBad parity s
  | .meshReplayRequest die dir => Sys2Proof.Machine.execMeshReplayRequest die dir s
  | .meshRetrainDone die dir ok bad => Sys2Proof.Machine.execMeshRetrainDone die dir ok bad s
  | .meshRepairRequest die dir => Sys2Proof.Machine.execMeshRepairRequest die dir s
  | .meshLaneSwitch die dir => Sys2Proof.Machine.execMeshLaneSwitch die dir s
  | .cellPromotion die src ci => Sys2Proof.Machine.execCellPromotion die src ci s
  | .reseqRelease tile lane group cls n => Sys2Proof.Machine.execReseqRelease tile lane group cls n s
  | .reseqTimeout tile lane group cls => Sys2Proof.Machine.execReseqTimeout tile lane group cls s
  | .poisonMark frame cell => Sys2Proof.Machine.execPoisonMark frame cell s
  | .spillReadback lp cls uncorrectable => Sys2Proof.Machine.execSpillReadback lp cls uncorrectable s
  | .refillInstant tile => Sys2Proof.Machine.execRefillInstant tile s
  | .policerWord0Write a tile n v => Sys2Proof.Machine.execPolicerWord0Write a tile n v s
  | .sampleInstant tile => Sys2Proof.Machine.execSampleInstant tile s
  | .contribReceived die c => Sys2Proof.Machine.execContribReceived die c s
  | .outputStageDone die => Sys2Proof.Machine.execOutputStageDone die s
  | .allocationGrant die => Sys2Proof.Machine.execAllocationGrant die s
  | .chunkSpill die => Sys2Proof.Machine.execChunkSpill die s
  | .chunkSpillReturn die => Sys2Proof.Machine.execChunkSpillReturn die s
  | .shelfUncorrectedError die handle chunk => Sys2Proof.Machine.execShelfUncorrectedError die handle chunk s
  | .drawerLevelReplay die handle => Sys2Proof.Machine.execDrawerLevelReplay die handle s
  | .drwOpen a handle => Sys2Proof.Machine.execDrwOpen a handle s
  | .drwClose a handle => Sys2Proof.Machine.execDrwClose a handle s
  | .drwAbort a handle => Sys2Proof.Machine.execDrwAbort a handle s
  | .drwShadowOpen a handle => Sys2Proof.Machine.execDrwShadowOpen a handle s
  | .drwShadowClose a handle => Sys2Proof.Machine.execDrwShadowClose a handle s
  | .drawerAbort r => Sys2Proof.Machine.execDrawerAbort r s
  | .drwCfgWrite a addr v => Sys2Proof.Machine.execDrwCfgWrite a addr v s
  | .weightWrite a die e v => Sys2Proof.Machine.execWeightWrite a die e v s
  | .drawerMirrorRecord die => Sys2Proof.Machine.execDrawerMirrorRecord die s
  | .failoverReplace die => Sys2Proof.Machine.execFailoverReplace die s
  | .shadowStreamReceived die => Sys2Proof.Machine.execShadowStreamReceived die s
  | .stragglerTimeout die handle => Sys2Proof.Machine.execStragglerTimeout die handle s
  | .reform r => Sys2Proof.Machine.execReform r s
  | .reformApply handle => Sys2Proof.Machine.execReformApply handle s
  | .reformClearDone handle => Sys2Proof.Machine.execReformClearDone handle s
  | .drwRelease a handle => Sys2Proof.Machine.execDrwRelease a handle s
  | .noticeResendTimeout die member seq => Sys2Proof.Machine.execNoticeResendTimeout die member seq s
  | .gnRead r => Sys2Proof.Machine.execGnRead r s
  | .gnWrite r => Sys2Proof.Machine.execGnWrite r s
  | .gnWritePart r => Sys2Proof.Machine.execGnWritePart r s
  | .gnFwrite r => Sys2Proof.Machine.execGnFwrite r s
  | .gnSync r => Sys2Proof.Machine.execGnSync r s
  | .gnMwrite r => Sys2Proof.Machine.execGnMwrite r s
  | .gnMread r => Sys2Proof.Machine.execGnMread r s
  | .gnAtomicAdd r => Sys2Proof.Machine.execGnAtomicAdd r s
  | .gnAtomicSwap r => Sys2Proof.Machine.execGnAtomicSwap r s
  | .gnAtomicCas r => Sys2Proof.Machine.execGnAtomicCas r s
  | .gnAtomicAnd r => Sys2Proof.Machine.execGnAtomicAnd r s
  | .gnAtomicOr r => Sys2Proof.Machine.execGnAtomicOr r s
  | .gnAtomicXor r => Sys2Proof.Machine.execGnAtomicXor r s
  | .gnAtomicSmin r => Sys2Proof.Machine.execGnAtomicSmin r s
  | .gnAtomicSmax r => Sys2Proof.Machine.execGnAtomicSmax r s
  | .gnAtomicUmin r => Sys2Proof.Machine.execGnAtomicUmin r s
  | .gnAtomicUmax r => Sys2Proof.Machine.execGnAtomicUmax r s
  | .lineHomeExecute tile n ue => Sys2Proof.Machine.execLineHomeExecute tile n ue s
  | .lineHomeCompletion tile => Sys2Proof.Machine.execLineHomeCompletion tile s
  | .gnRespConsumed tile r => Sys2Proof.Machine.execGnRespConsumed tile r s
  | .gapTimeout srcType src => Sys2Proof.Machine.execGapTimeout srcType src s
  | .rcEntryExpire srcType src tag => Sys2Proof.Machine.execRcEntryExpire srcType src tag s
  | .tombstoneFree srcType src tag => Sys2Proof.Machine.execTombstoneFree srcType src tag s
  | .sourceTrackerFree srcType src => Sys2Proof.Machine.execSourceTrackerFree srcType src s
  | .mirrorResend tile place seq => Sys2Proof.Machine.execMirrorResend tile place seq s
  | .mirrorBusyRetry tile place seq => Sys2Proof.Machine.execMirrorBusyRetry tile place seq s
  | .mirrorTimeout window => Sys2Proof.Machine.execMirrorTimeout window s
  | .poolWinOpen a window => Sys2Proof.Machine.execPoolWinOpen a window s
  | .poolWinOpenMirror a window => Sys2Proof.Machine.execPoolWinOpenMirror a window s
  | .poolWinClose a window => Sys2Proof.Machine.execPoolWinClose a window s
  | .poolWinResilverPush a window => Sys2Proof.Machine.execPoolWinResilverPush a window s
  | .poolWinResilverPull a window => Sys2Proof.Machine.execPoolWinResilverPull a window s
  | .poolWinMarkLost a window => Sys2Proof.Machine.execPoolWinMarkLost a window s
  | .windowZeroDone window => Sys2Proof.Machine.execWindowZeroDone window s
  | .resilverGranuleDone window => Sys2Proof.Machine.execResilverGranuleDone window s
  | .poolWinWrite a window word v => Sys2Proof.Machine.execPoolWinWrite a window word v s
  | .mantelSyncRecord die diff => Sys2Proof.Machine.execMantelSyncRecord die diff s
  | .rateWrite a v => Sys2Proof.Machine.execRateWrite a v s
  | .paramUpdate => Sys2Proof.Machine.execParamUpdate s
  | .stepCommit a v => Sys2Proof.Machine.execStepCommit a v s
  | .stepArm a => Sys2Proof.Machine.execStepArm a s
  | .timeSnap a => Sys2Proof.Machine.execTimeSnap a s
  | .holdoverTimeout => Sys2Proof.Machine.execHoldoverTimeout s
  | .coatRackPop a which => Sys2Proof.Machine.execCoatRackPop a which s
  | .mgmtPtpRx deskB frame => Sys2Proof.Machine.execMgmtPtpRx deskB frame s
  | .ptpTx a v => Sys2Proof.Machine.execPtpTx a v s
  | .ppsInEdge => Sys2Proof.Machine.execPpsInEdge s
  | .ppsOutPulse => Sys2Proof.Machine.execPpsOutPulse s
  | .launchWord1Write a e v => Sys2Proof.Machine.execLaunchWord1Write a e v s
  | .launchArm e => Sys2Proof.Machine.execLaunchArm e s
  | .launchCancel e => Sys2Proof.Machine.execLaunchCancel e s
  | .launchFire e => Sys2Proof.Machine.execLaunchFire e s
  | .resetAlignment delays => Sys2Proof.Machine.execResetAlignment delays s
  | .dieRejoin die delay => Sys2Proof.Machine.execDieRejoin die delay s
  | .alignCheck a => Sys2Proof.Machine.execAlignCheck a s
  | .alignCheckSample bad => Sys2Proof.Machine.execAlignCheckSample bad s
  | .pmcOpen a window => Sys2Proof.Machine.execPmcOpen a window s
  | .pmcClose a window => Sys2Proof.Machine.execPmcClose a window s
  | .pmcSnap a => Sys2Proof.Machine.execPmcSnap a s
  | .pmcSnapCapture => Sys2Proof.Machine.execPmcSnapCapture s
  | .counterWindowOpen window => Sys2Proof.Machine.execCounterWindowOpen window s
  | .counterWindowClose window => Sys2Proof.Machine.execCounterWindowClose window s
  | .counterRead r => Sys2Proof.Machine.execCounterRead r s
  | .digestRead r => Sys2Proof.Machine.execDigestRead r s
  | .bureauEvent source inst inst2 injected => Sys2Proof.Machine.execBureauEvent source inst inst2 injected s
  | .sourceWindowExpire source => Sys2Proof.Machine.execSourceWindowExpire source s
  | .heartbeatMiss u => Sys2Proof.Machine.execHeartbeatMiss u s
  | .graceExpire u cls => Sys2Proof.Machine.execGraceExpire u cls s
  | .pendingAck a source => Sys2Proof.Machine.execPendingAck a source s
  | .burAct a v => Sys2Proof.Machine.execBurAct a v s
  | .quietExpire inst ok => Sys2Proof.Machine.execQuietExpire inst ok s
  | .unitStateWrite a die v => Sys2Proof.Machine.execUnitStateWrite a die v s
  | .shadowDigestReceived die => Sys2Proof.Machine.execShadowDigestReceived die s
  | .spineShadowClear a => Sys2Proof.Machine.execSpineShadowClear a s
  | .standin a v => Sys2Proof.Machine.execStandin a v s
  | .injectionCmd a v => Sys2Proof.Machine.execInjectionCmd a v s
  | .injectionRepeat e => Sys2Proof.Machine.execInjectionRepeat e s
  | .deskTakeover lostB => Sys2Proof.Machine.execDeskTakeover lostB s
  | .boot => Sys2Proof.Machine.execBoot s
  | .enrolSelfReset => Sys2Proof.Machine.execEnrolSelfReset s
  | .flashRead a => Sys2Proof.Machine.execFlashRead a s
  | .flashErase a => Sys2Proof.Machine.execFlashErase a s
  | .flashProgram a => Sys2Proof.Machine.execFlashProgram a s
  | .fwVerify a slot deskB => Sys2Proof.Machine.execFwVerify a slot deskB s
  | .fwPin a slot deskB => Sys2Proof.Machine.execFwPin a slot deskB s
  | .fwUnpin a deskB => Sys2Proof.Machine.execFwUnpin a deskB s
  | .fwHitless a slot deskB => Sys2Proof.Machine.execFwHitless a slot deskB s
  | .fwReboot a => Sys2Proof.Machine.execFwReboot a s
  | .svnCommit a => Sys2Proof.Machine.execSvnCommit a s
  | .attest a => Sys2Proof.Machine.execAttest a s
  | .doorbellWrite a v => Sys2Proof.Machine.execDoorbellWrite a v s
  | .semAcquire a n token => Sys2Proof.Machine.execSemAcquire a n token s
  | .semRelease a n token => Sys2Proof.Machine.execSemRelease a n token s
  | .irqMaskWrite a v => Sys2Proof.Machine.execIrqMaskWrite a v s
  | .ethMgmtRead deskB q => Sys2Proof.Machine.execEthMgmtRead deskB q s
  | .ethMgmtWrite deskB q => Sys2Proof.Machine.execEthMgmtWrite deskB q s
  | .jobTeardown r => Sys2Proof.Machine.execJobTeardown r s
  | .powerOnResetRelease straps => Sys2Proof.Machine.execPowerOnResetRelease straps s
  | .deviceReset aon => Sys2Proof.Machine.execDeviceReset aon s
  | .perst deskB => Sys2Proof.Machine.execPerst deskB s
  | .supplyWarn mv => Sys2Proof.Machine.execSupplyWarn mv s
  | .supplyWarnClear mv => Sys2Proof.Machine.execSupplyWarnClear mv s
  | .safeStop cause => Sys2Proof.Machine.execSafeStop cause s
  | .powerLoss => Sys2Proof.Machine.execPowerLoss s
  | .resumeWrite a => Sys2Proof.Machine.execResumeWrite a s
  | .autoResume => Sys2Proof.Machine.execAutoResume s
  | .resumeComplete => Sys2Proof.Machine.execResumeComplete s
  | .domainSwitchWrite a v => Sys2Proof.Machine.execDomainSwitchWrite a v s
  | .domainOnComplete => Sys2Proof.Machine.execDomainOnComplete s
  | .limiterStep1 avg1 avg100 => Sys2Proof.Machine.execLimiterStep1 avg1 avg100 s
  | .limiterStep2 => Sys2Proof.Machine.execLimiterStep2 s
  | .limiterRelease avg100 => Sys2Proof.Machine.execLimiterRelease avg100 s
  | .vrHotAssert => Sys2Proof.Machine.execVrHotAssert s
  | .vrHotDeassert => Sys2Proof.Machine.execVrHotDeassert s
  | .thermalSensorUpdate die sensor temp => Sys2Proof.Machine.execThermalSensorUpdate die sensor temp s
  | .refClockLoss b => Sys2Proof.Machine.execRefClockLoss b s
  | .refSwitch a => Sys2Proof.Machine.execRefSwitch a s
  | .meshFrameSend die dir => Sys2Proof.Machine.execMeshFrameSend die dir s
  | .refClockReturn b => Sys2Proof.Machine.execRefClockReturn b s
  | .budgetWindowExpiry budget scope => Sys2Proof.Machine.execBudgetWindowExpiry budget scope s
  | .ringFailWindowExpiry oe ring => Sys2Proof.Machine.execRingFailWindowExpiry oe ring s
  | .polarisationLockChange oe comb k locked rejected => Sys2Proof.Machine.execPolarisationLockChange oe comb k locked rejected s
  | .vinAonInTolerance mv => Sys2Proof.Machine.execVinAonInTolerance mv s

end Sys2Proof.Machine
end

