-- ==== Sys2Proof/Safety.lean ====
section
/-! DEFINITION. What counts as a sound device and a safe run, in the terms the statements use. -/
namespace Sys2Proof.Machine

/-- The register words in canonical form: keys strictly rising, and every listed word is the word of some register and
differs from its reset value. Equal register contents are then equal data. -/
def RegsOk (t : Tbl Word) : Prop :=
  t.Pairwise (fun a b => a.1 < b.1) ∧ ∀ e ∈ t, ∃ r i w, e.1 = rkey r i w ∧ e.2 ≠ Reg.reset r i w

/-- The device's data is canonical: register words, pool bytes and flash bytes each have one form, and the raw counter is
a 64-bit number (R297). -/
def Dev.Canon (d : Dev) : Prop :=
  RegsOk d.regs ∧ Memory.wf d.pool.mem ∧ Tbl.wf d.boot.flash 0xFF ∧ d.time.raw < 2 ^ 64

/-- The device's data is canonical, what had left the block stays as it was, and no index of a free value is used again. -/
def Dev.Sound (p : List Out) (n : Nat) (d : Dev) : Prop := d.Canon ∧ p <+: d.out ∧ n ≤ d.fresh

/-- A write through a Desk and path reaches its register: the Desk is in service, the lock is set or the register answers
before it, the register's block answers (R360, R419), and a command register is not busy (R420). -/
abbrev Dev.Reaches (d : Dev) (a : Access) (r : Reg) (i w : Nat) : Prop :=
  d.gate a (regAddr r i w) = .ok ∧ (r.isCmd && bitAt (d.rd r i 0).toNat 31) = false

/-- The device after a JOB_CTL request is taken from the queue of the master Desk. -/
abbrev Dev.jobTaken (d : Dev) (r : JobCtl) : Dev := (d.takeInbox (deskTile d.master) 3 fun f => jobCtlOf f == r).2

/-- A JOB_CTL request is executed: its sender may give it (R126), and its REQ_ID is not among those the job has had
answered in the last 10 ms (R127). -/
abbrev Dev.JobReaches (d : Dev) (r : JobCtl) : Prop :=
  (d.jobTaken r).jobAllowed r = true ∧
  ((d.jobTaken r).cab.jobReq.at [] r.target.val).find? (fun e =>
    e.1 == r.reqId.toNat && decide ((d.jobTaken r).since e.2.2 ≤ ticksOfUs 10000)) = none

/-- A GN_REQ finds what it needs at its ordering tile: a mirror write its reserve, any other a free transaction tracker
(R295). -/
abbrev Dev.GnReaches (d : Dev) (r : GnReq) : Prop := r.isMirror = true ∨ d.trkFree r.tile = true

/-- The device after a GN_REQ is taken at its ordering tile: out of the inbox, its RACK_TAG applied, and counted. -/
def Dev.gnTaken (d : Dev) (r : GnReq) : Dev :=
  ((d.takeInbox r.tile 2 fun f => gnReqOf f == r).2.rack r).pulse r.tile 0x010 1 none none (some r.job)

/-- The state with another device and the same queue. -/
abbrev State.withDev (s : State) (d : Dev) : State := { s with dev := d }

/-- A step that does not stop. -/
def Runs (o : Host.Outcome State Fault Refusal) : Prop := ∃ t, o = .next t

/-- `k` steps of the block from a state; none where one of them stops. -/
def runSteps (k : Nat) (s : State) : Option State :=
  match k with
  | 0 => some s
  | k + 1 =>
    match step s with
    | .next t => runSteps k t
    | .fault _ => none
    | .refused _ => none

/-- A run of `k` steps is safe: no step stops, and the state at its end is canonical. -/
def SafeRun (k : Nat) (s : State) : Prop := ∃ t, runSteps k s = some t ∧ t.dev.Canon

end Sys2Proof.Machine
end

