-- ==== Sys2Proof/Certificates/Slice0/Obligations.lean ====
section
/-! DEFINITION. The statements about the block: for each family of commands what the command does, as the next state that
exec answers; the step; and what every step keeps. -/
open Sys2Proof Sys2Proof.Machine

/-- A write of a whole word (R8, R9, R416): at an address that no chapter assigns it has no effect; with byte enables that do
not cover the word it is recorded with cause 1 and has no effect; one that reaches its register acts on that word. A write under
the access types of Table 0.5 alone stores the RW bits, clears the W1C bits that are written 1 and stores the BOOT bits only
while the lock is open; it leaves every other register word as it is. -/
def Obligations.RegisterWrites : Prop :=
  (∀ (s : State) (a : Access) (addr : BitVec 26) (be : BitVec 4) (v : Word),
    decodeAddr a.deskB.toNat (addr.toNat / 4 * 4) = none → exec (.registerWrite a addr be v) s = .next s) ∧
  (∀ (s : State) (a : Access) (addr : BitVec 26) (be : BitVec 4) (v : Word) (r : Reg) (i w : Nat), be ≠ 15#4 →
    decodeAddr a.deskB.toNat (addr.toNat / 4 * 4) = some (r, i, w) → s.dev.Reaches a r i w →
    exec (.registerWrite a addr be v) s = .next (s.withDev (s.dev.accErr a 1 (addr.toNat / 4 * 4) true))) ∧
  (∀ (s : State) (a : Access) (addr : BitVec 26) (v : Word) (r : Reg) (i w : Nat),
    decodeAddr a.deskB.toNat (addr.toNat / 4 * 4) = some (r, i, w) → s.dev.Reaches a r i w →
    exec (.registerWrite a addr 15#4 v) s = .next (s.withDev (s.dev.writeReg a r i w v))) ∧
  (∀ (d : Dev) (a : Access) (r : Reg) (i w : Nat) (v : Word), d.Canon → (r.masks w).boot = 0 →
    (d.writePlain a r i w v).rd r i w = ((d.rd r i w &&& ~~~(r.masks w).rw) ||| (v &&& (r.masks w).rw)) &&&
      ~~~(v &&& (r.masks w).w1c)) ∧
  (∀ (d : Dev) (a : Access) (r q : Reg) (i w j u : Nat) (v : Word), ¬(q = r ∧ j = i ∧ u = w) →
    (d.writePlain a r i w v).rd q j u = d.rd q j u) ∧
  (∀ (d : Dev) (a : Access) (r : Reg) (i w : Nat) (v : Word), d.bit F.DESK_PROT_LOCK.LOCKED 0 = true →
    d.writeBoot a r i w v = d ∨ d.writeBoot a r i w v = d.lockedWrite a)

/-- An access that a Desk completes without effect (R360, R419, R420, R423): a write to a block that is off or that the Desk
does not reach is discarded and recorded with cause 3 or 2; a write to a command register that is busy is recorded with cause 4;
before the lock a write to a register that does not answer is a locked-write event and a read of it returns zero. The record
counts the word, which saturates, and names cause, path, direction and address. -/
def Obligations.AccessesWithoutEffect : Prop :=
  (∀ (d : Dev) (a : Access) (addr : Nat) (l : List Nat), d.deskUp a.deskB.toNat = true →
    (d.bit F.DESK_PROT_LOCK.LOCKED 0 = false → preLock addr = false → d.gate a addr = .silent) ∧
    (d.bit F.DESK_PROT_LOCK.LOCKED 0 = true → d.blockDies addr = some l →
      (d.blockOff addr = true → d.gate a addr = .cause 3) ∧
      (d.blockOff addr = false → (∀ m ∈ l, d.deskReaches a.deskB.toNat m = false) → d.gate a addr = .cause 2))) ∧
  (∀ (s : State) (a : Access) (addr : BitVec 26) (v : Word) (r : Reg) (i w n : Nat),
    decodeAddr a.deskB.toNat (addr.toNat / 4 * 4) = some (r, i, w) → s.dev.gate a (regAddr r i w) = .cause n →
    exec (.registerWrite a addr 15#4 v) s = .next (s.withDev (s.dev.accErr a n (regAddr r i w) true))) ∧
  (∀ (s : State) (a : Access) (addr : BitVec 26) (v : Word) (r : Reg) (i w : Nat),
    decodeAddr a.deskB.toNat (addr.toNat / 4 * 4) = some (r, i, w) → s.dev.gate a (regAddr r i w) = .ok →
    r.isCmd = true → bitAt (s.dev.rd r i 0).toNat 31 = true →
    exec (.registerWrite a addr 15#4 v) s = .next (s.withDev (s.dev.accErr a 4 (regAddr r i 0) true))) ∧
  (∀ (s : State) (a : Access) (addr : BitVec 26) (v : Word) (r : Reg) (i w : Nat),
    decodeAddr a.deskB.toNat (addr.toNat / 4 * 4) = some (r, i, w) → s.dev.gate a (regAddr r i w) = .silent →
    s.dev.deskUp a.deskB.toNat = true →
    exec (.registerWrite a addr 15#4 v) s = .next (s.withDev (s.dev.lockedWrite a))) ∧
  (∀ (s : State) (a : Access) (addr : BitVec 26), a.eth = false → s.dev.deskUp a.deskB.toNat = true →
    s.dev.bit F.DESK_PROT_LOCK.LOCKED 0 = false → preLock (addr.toNat / 4 * 4) = false →
    exec (.lowWordRead a addr) s = .next (s.withDev (s.dev.emit (.read a.deskB false (addr.toNat / 4 * 4) 0)))) ∧
  (∀ (d : Dev) (a : Access) (c addr : Nat) (wr : Bool), d.Canon → ((d.accErr a c addr wr).rd .DESK_ACC_LAST a.deskB.toNat =
      BitVec.ofNat 32 (c * 2 ^ 28 + a.eth.toNat * 2 ^ 27 + wr.toNat * 2 ^ 26 + addr % 2 ^ 26)) ∧
    ((d.accErr a c addr wr).rd .DESK_ACC_ERR a.deskB.toNat).toNat =
      min ((d.rd .DESK_ACC_ERR a.deskB.toNat).toNat + 1) 0xFFFFFFFF)

/-- Registers of 64 bits (R11, R421): a low-word write is staged, and a high-word write takes the staged low word, or the stored
one, with it; a low-word read returns the low word, latches the high word for its Desk and path and clears an RC register; a
high-word read returns the latched word of that register, else the current one. A read of an unassigned address returns zero
(R9). Each read leaves the block as one answer. -/
def Obligations.WideRegisters : Prop :=
  (∀ (s : State) (a : Access) (addr : BitVec 26) (v : Word) (r : Reg) (i : Nat), r.wide = true →
    decodeAddr a.deskB.toNat (addr.toNat / 4 * 4) = some (r, i, 0) → s.dev.Reaches a r i 0 →
    exec (.lowWordWrite a addr v) s = .next (s.withDev { s.dev with
      bus := { s.dev.bus with staged := s.dev.bus.staged.insert (rkey r i 0) v } })) ∧
  (∀ (s : State) (a : Access) (addr : BitVec 26) (v : Word) (r : Reg) (i w : Nat), r.wide = true → w ≠ 0 → r ≠ .MNT_STEP →
    decodeAddr a.deskB.toNat (addr.toNat / 4 * 4) = some (r, i, w) → s.dev.Reaches a r i w →
    exec (.highWordWrite a addr v) s = .next (s.withDev (
      ((({ s.dev with bus := { s.dev.bus with staged := s.dev.bus.staged.erase (rkey r i 0) } } : Dev).writePlain a r i 0
        ((s.dev.bus.staged.find (rkey r i 0)).getD (s.dev.rd r i 0)))).writePlain a r i 1 v))) ∧
  (∀ (s : State) (a : Access) (addr : BitVec 26) (r : Reg) (i : Nat), r.is64 = true → r ≠ .MNT_CR_POP →
    r ≠ .MNT_CR_POP_DESK → decodeAddr a.deskB.toNat (addr.toNat / 4 * 4) = some (r, i, 0) →
    s.dev.gate a (addr.toNat / 4 * 4) = .ok → s.dev.bus.staged.find (rkey r i 0) = none →
    exec (.lowWordRead a addr) s = .next (s.withDev (
      ((((s.dev.latch a (rkey r i 0) (s.dev.view a.deskB.toNat r i 1)).clearRc r i 0).clearRc r i 1)).emit
        (.read a.deskB a.eth (addr.toNat / 4 * 4) (s.dev.view a.deskB.toNat r i 0))))) ∧
  (∀ (s : State) (a : Access) (addr : BitVec 26) (r : Reg) (i w : Nat), r.is64 = true → r ≠ .MNT_CR_POP →
    r ≠ .MNT_CR_POP_DESK → w ≠ 0 → decodeAddr a.deskB.toNat (addr.toNat / 4 * 4) = some (r, i, w) →
    s.dev.gate a (addr.toNat / 4 * 4) = .ok →
    exec (.highWordRead a addr) s = .next (s.withDev (s.dev.emit (.read a.deskB a.eth (addr.toNat / 4 * 4)
      ((s.dev.latched a r i).getD (s.dev.view a.deskB.toNat r i 1)))))) ∧
  (∀ (s : State) (a : Access) (addr : BitVec 26) (i : Nat),
    decodeAddr a.deskB.toNat (addr.toNat / 4 * 4) = some (.FWD_HCRC_ERR, i, 0) →
    s.dev.gate a (addr.toNat / 4 * 4) = .ok →
    exec (.rcRead a addr) s = .next (s.withDev ((s.dev.wr .FWD_HCRC_ERR i 0 0).emit
      (.read a.deskB a.eth (addr.toNat / 4 * 4) (s.dev.rd .FWD_HCRC_ERR i))))) ∧
  (∀ (s : State) (a : Access) (addr : BitVec 26), decodeAddr a.deskB.toNat (addr.toNat / 4 * 4) = none →
    s.dev.deskUp a.deskB.toNat = true → s.dev.bit F.DESK_PROT_LOCK.LOCKED 0 = true →
    exec (.lowWordRead a addr) s = .next (s.withDev (s.dev.emit (.read a.deskB a.eth (addr.toNat / 4 * 4) 0))))

/-- Bring-up of a logical port, by the events of Table 2.7: light on an enabled port whose map is valid and whose engine is in
PHASE 5 leads from DOWN to ACQUIRE, locked rings to ALIGN, FEC lock to TRAIN, a training time-out back to ALIGN. -/
def Obligations.LinkBringUp : Prop :=
  (∀ (s : State) (lp : Fin 1024) (d : Dev), d = (s.dev.updLp lp fun l => { l with light := true }) →
    d.lpState lp = 0 → d.adminUp lp = true → (d.lp lp).light = true → (d.lp lp).forced = false →
    d.mapInvalid lp = false → lpSub lp < lpsOfBreakout (d.breakout (lpPort lp)) → d.engineReady (lp / 64) = true →
    exec (.lightPresent lp) s = .next (s.withDev ((d.tryAcquire lp).set F.LNK_LP_STATE.STATE lp 1))) ∧
  (∀ (s : State) (lp : Fin 1024), s.dev.lpState lp = 1 →
    exec (.ringsLockedAlign lp) s = .next (s.withDev (s.dev.set F.LNK_LP_STATE.STATE lp 2))) ∧
  (∀ (s : State) (lp : Fin 1024), s.dev.lpState lp = 2 →
    exec (.fecLock lp) s = .next (s.withDev (
      (s.dev.updLp lp fun l =>
        { rxq := l.rxq, forced := l.forced, light := l.light, nextTxn := l.nextTxn, answered := l.answered }).set
        F.LNK_LP_STATE.STATE lp 3))) ∧
  (∀ (s : State) (lp : Fin 1024), s.dev.lpState lp = 2 ∨ s.dev.lpState lp = 3 →
    exec (.trainTimeout lp) s = .next (s.withDev (
      ((s.dev.updLp lp fun l => { l with train := [], trainRx := 0, trainTx := 0, trained := false, farZero := false }).set
        F.LNK_LP_STATE.STATE lp 2).count .LNK_TRAIN_FAIL lp)))

/-- Leaving ACTIVE: a lane-map disagreement and a slow re-acquire enter RETRAIN, which keeps window, sequence and credits, is
counted and is raised as the port's event; RETRAIN that does not end leads to DOWN, where no lane is active and nothing waits
for an acknowledgement; a fast re-acquire returns to ACTIVE, and only a return that took longer than 1 µs is counted in
LNK_REACQ_SLOW (R55, R58, R60). -/
def Obligations.LinkRetrain : Prop :=
  (∀ (s : State) (lp : Fin 1024), s.dev.lpState lp = 4 → ∃ t,
    exec (.lmapGenMismatchTimeout lp) s = .next t ∧ t = s.withDev (s.dev.toRetrain lp) ∧ t.dev.lpState lp = 7) ∧
  (∀ (s : State) (lp : Fin 1024), s.dev.lpState lp = 6 → ∃ t,
    exec (.fastReacqTimeout lp) s = .next t ∧ t = s.withDev (s.dev.toRetrain lp) ∧ t.dev.lpState lp = 7) ∧
  (∀ (d e : Dev) (lp : Fin 1024), e = d.toRetrain lp →
    e.raised = d.raised ++ [{ src := 16 * (lp / 64) + 7, inst := instLp lp, inst2 := 0 }] ∧
    e.rd .LNK_RETRAIN_CNT lp = (d.count .LNK_RETRAIN_CNT lp).rd .LNK_RETRAIN_CNT lp ∧
    (e.lp lp).window = (d.lp lp).window ∧ (e.lp lp).txSeq = (d.lp lp).txSeq ∧ (e.lp lp).rxAck = (d.lp lp).rxAck ∧
    (e.lp lp).credInit = (d.lp lp).credInit ∧ e.core.queues = d.core.queues) ∧
  (∀ (s : State) (lp : Fin 1024), s.dev.lpState lp = 7 → ∃ t,
    exec (.retrainTimeout lp) s = .next t ∧ t = s.withDev (s.dev.linkDown lp 0) ∧ t.dev.lpState lp = 0 ∧
      t.dev.get F.LNK_LP_STATE.ACTIVE_LANES lp = 0 ∧ (t.dev.lp lp).window = []) ∧
  (∀ (s : State) (lp : Fin 1024) (fast : Bool), s.dev.lpState lp = 6 → (s.dev.lp lp).fast = true → ∃ t,
    exec (.fastReacquire lp fast) s = .next t ∧
      t = s.withDev ((s.dev.updLp lp fun l => { l with back := !fast }).enterActive lp) ∧ t.dev.lpState lp = 4 ∧
      t.dev.rd .LNK_REACQ_SLOW lp = (if fast then s.dev else s.dev.count .LNK_REACQ_SLOW lp).rd .LNK_REACQ_SLOW lp)

/-- Management of a logical port: ADMIN_UP = 0 takes a port that is not in DOWN to DOWN and clears MAP_INVALID and MISMATCH;
ADMIN_UP = 1 leads an enabled port with light to ACQUIRE; a write of the lane map is applied while every logical port that the
lane serves, or is to serve, is in DOWN, and a drop ring that lost its light sweeps for the lane that is assigned again. A port
that enters DOWN or FAULT has that state, no active lane, no flit to be acknowledged and no open transaction (R31, R33, R55,
R73). -/
def Obligations.LinkManagement : Prop :=
  (∀ (s : State) (a : Access) (lp : Fin 1024) (d e : Dev), s.dev.Reaches a .LNK_PORT_CFG (lp / 4) 0 →
    d = (s.dev.set F.LNK_PORT_CFG.ADMIN_UP (lpPort lp)
      (withBit (s.dev.get F.LNK_PORT_CFG.ADMIN_UP (lpPort lp)) (lpSub lp) false)).heldBack (instLp lp) →
    e = (d.updLp lp fun l => { l with forced := d.isOut (instLp lp) }) → e.lpState lp ≠ 0 →
    exec (.adminUpWrite a lp false) s = .next (s.withDev (
      ((e.linkDown lp 0).setB F.LNK_LP_STATE.MAP_INVALID lp false).setB F.LNK_LP_STATE.MISMATCH lp false))) ∧
  (∀ (s : State) (a : Access) (lp : Fin 1024) (d : Dev), s.dev.Reaches a .LNK_PORT_CFG (lp / 4) 0 →
    d = s.dev.set F.LNK_PORT_CFG.ADMIN_UP (lpPort lp)
      (withBit (s.dev.get F.LNK_PORT_CFG.ADMIN_UP (lpPort lp)) (lpSub lp) true) →
    d.lpState lp = 0 → d.adminUp lp = true → (d.lp lp).forced = false → d.mapInvalid lp = false →
    lpSub lp < lpsOfBreakout (d.breakout (lpPort lp)) → (d.lp lp).light = true → d.engineReady (lp / 64) = true →
    exec (.adminUpWrite a lp true) s = .next (s.withDev ((d.tryAcquire lp).set F.LNK_LP_STATE.STATE lp 1))) ∧
  (∀ (s : State) (a : Access) (port : Fin 256) (lane : Fin 18) (v : Word) (d : Dev),
    s.dev.Reaches a .LNK_LANE_CFG (18 * port + lane) 0 →
    (∀ y, y = s.dev.role port lane false ∨ y = s.dev.role port lane true ∨ y = bitsOf v.toNat 14 12 ∨ y = bitsOf v.toNat 6 4 →
      y < 4 → s.dev.lpState (4 * port + y) = 0) → d = ((s.dev.wr .LNK_LANE_CFG (18 * port + lane) 0 (v &&& 0x7F7F)).updLane
      (18 * port + lane) fun l => { l with txOut := none, rxOut := none, dropped := false }) → ∃ t,
    exec (.laneCfgWrite a port lane v) s = .next t ∧ t.dev.rd .LNK_LANE_CFG (18 * port + lane) = v &&& 0x7F7F ∧
    t = s.withDev (
      if d.ringState (ringIx port lane 1) = 5 ∧ (d.ring (ringIx port lane 1)).unlit ∧ bitsOf v.toNat 6 4 < 5 then
        (d.updRing (ringIx port lane 1) fun r => { r with unlit := false }).ringSweep (ringIx port lane 1)
      else d)) ∧
  (∀ (d e : Dev) (lp st : Nat), st = 0 ∨ st = 8 → e = d.linkDown lp st →
    e.lpState lp = st ∧ e.get F.LNK_LP_STATE.ACTIVE_LANES lp = 0 ∧ e.bit F.LNK_LP_STATE.SWAP_BUSY lp = false ∧
    (e.lp lp).window = [] ∧ (e.lp lp).txTxn = none ∧ (e.lp lp).rxTxn = none)

/-- Flits and markers received on a logical port: a good lane marker that names its lane is taken; the next DATA flit in order
is accepted and its payload enters the class stream, and one that is damaged asks for a replay; a LINK_CONTROL flit of an ACTIVE
port gives its credits, its header and its messages (R39, R45, R46, R51). -/
def Obligations.LinkReceive : Prop :=
  (∀ (s : State) (port : Fin 256) (lane : Fin 18) (m : BitVec 160) (prbsOk : Bool),
    m.toNat / 2 ^ 96 = 0x4B1DE27C93A605F8 → crc16 (beBytes 18 (m.toNat / 65536)) = m.toNat % 65536 →
    bitsOf m.toNat 87 83 = lane →
    ∃ t, exec (.laneMarkerReceived port lane m prbsOk) s = .next t ∧ t = s.withDev (
      (s.dev.set F.LNK_LANE_STAT.MARKER_LANE (18 * port + lane) lane).goodMarker port lane m.toNat prbsOk) ∧
      t.dev.bit F.LNK_LANE_STAT.MARKER_OK (18 * port + lane) = true ∧
      t.dev.get F.LNK_LANE_STAT.MARKER_LANE (18 * port + lane) = lane) ∧
  (∀ (s : State) (lp : Fin 1024) (f : List Byte) (c : List (Fin 16)) (d e : Dev),
    s.dev.bur.nextCw.at 0 lp = 0 → d = s.dev.codewords lp c false → d.lpState lp = 4 → flitOk f = true →
    byteAt f 0 / 16 = 1 → e = d.flitHeader lp f → e.lpState lp = 4 → beAt f 4 2 = ((e.lp lp).rxAck + 1) % 65536 → ∃ t,
    exec (.dataFlitReceived lp f false c) s = .next t ∧ t = s.withDev (
      ((e.addWrap64 .XBAR_PMC_PORT_RX (8 * lp + byteAt f 0 % 8) (8 * (byteAt f 2 % 64))).updLp lp fun l =>
        { l with rxAck := beAt f 4 2, rxDisc := false, replayReq := false }).rxPayload lp f) ∧
      (t.dev.lp lp).rxAck = beAt f 4 2) ∧
  (∀ (s : State) (lp : Fin 1024) (f : List Byte) (c : List (Fin 16)) (d : Dev), s.dev.bur.nextCw.at 0 lp = 0 →
    d = s.dev.codewords lp c false → d.lpState lp = 4 → flitOk f = false →
    exec (.dataFlitReceived lp f false c) s = .next (s.withDev (
      (d.count .LNK_FLIT_CRC_ERR lp).updLp lp fun l =>
        { l with replayReq := l.replayReq || !l.rxDisc, rxDisc := true }))) ∧
  (∀ (s : State) (lp : Fin 1024) (f : List Byte) (c : List (Fin 16)) (d : Dev), s.dev.bur.nextCw.at 0 lp = 0 →
    d = s.dev.codewords lp c true → d.lpState lp = 4 →
    exec (.dataFlitReceived lp f true c) s = .next (s.withDev (d.updLp lp fun l =>
        { l with replayReq := l.replayReq || !l.rxDisc, rxDisc := true }))) ∧
  (∀ (s : State) (lp : Fin 1024) (f : List Byte) (c : List (Fin 16)) (d : Dev) (r : Tbl Nat), s.dev.bur.nextCw.at 0 lp = 0 →
    (s.dev.codewords lp c false).lpState lp = 4 → flitOk f = true → byteAt f 0 / 16 = 2 →
    r = (List.range 8).foldl (fun t i => Tbl.put t 0 i (if i = 1 then 0 else beAt f (16 + 2 * i) 2)) [] →
    d = (((s.dev.codewords lp c false).updLp lp fun l => { l with returned := r }).flitHeader lp f).takeTrain lp
      ((f.drop 64).take 64) →
    exec (.linkControlReceived lp f false c) s = .next (s.withDev (
      match laneMsgOf f with
      | some (op, m) => if op = 0 then d else d.laneMsg lp op m
      | none => d)))

/-- Replay: REPLAY_REQ releases what its ACK covers and replays from the oldest flit; so does a sender's time-out; the eighth
replay without progress retrains; a receiver's time-out sets REPLAY_REQ again (R51). -/
def Obligations.LinkReplay : Prop :=
  (∀ (s : State) (lp : Fin 1024) (ack : BitVec 16),
    exec (.replayReqReceived lp ack) s = .next (s.withDev ((s.dev.takeAck lp ack.toNat).startReplay lp))) ∧
  (∀ (s : State) (lp : Fin 1024) (d : Dev), s.dev.lpState lp = 4 → (s.dev.lp lp).window ≠ [] →
    d = s.dev.pulse (lp / 64) 0x005 1 (some (lp % 64)) none none →
    exec (.senderReplayTimeout lp) s = .next (s.withDev (
      if 7 ≤ (s.dev.lp lp).noProg then (d.count .LNK_REPLAY_CNT lp).toRetrain lp
      else (d.updLp lp fun l => { l with replay := some 0, noProg := l.noProg + 1, oldest := d.raw }).count
        .LNK_REPLAY_CNT lp))) ∧
  (∀ (s : State) (lp : Fin 1024), s.dev.lpState lp = 4 → (s.dev.lp lp).rxDisc = true →
    exec (.receiverReplayTimeout lp) s = .next (s.withDev (s.dev.updLp lp fun l => { l with replayReq := true })))

/-- A flit slot. Of an ACTIVE port, in a slot that is no link-control slot: while a replay runs, the next flit of the window
leaves with its own SEQ and is counted, and otherwise what dataSlot chooses; in a link-control slot a LINK_CONTROL flit leaves;
the slot number then moves on. In training a slot is a LINK_CONTROL flit; a port in HOLD sends the one that is due and nothing
after it; a port in REACQUIRE sends LINK_CONTROL in the four slots after the burst and at slot 147 of every 148, and IDLE
otherwise; in DOWN, ACQUIRE and FAULT nothing leaves (R42, R43, R50, R51, R59, R60). -/
def Obligations.EgressFlitSlot : Prop :=
  (∀ (s : State) (lp : Fin 1024), s.dev.lpState lp = 4 → (s.dev.lp lp).burst = 0 → (s.dev.lp lp).slot % 148 ≠ 147 →
    exec (.egressFlitSlot lp) s = .next (s.withDev ((s.dev.dataSlot lp).nextFlitSlot lp false))) ∧
  (∀ (s : State) (lp : Fin 1024) (i : Nat) (f : Flit), s.dev.lpState lp = 4 → (s.dev.lp lp).burst = 0 →
    (s.dev.lp lp).slot % 148 ≠ 147 → (s.dev.lp lp).replay = some i → (s.dev.lp lp).window[i]? = some f → ∃ t,
    exec (.egressFlitSlot lp) s = .next t ∧ t = s.withDev (
      ((((s.dev.sendFlit lp 1 1 f.cls f.first f.fill f.seq f.payload).count .LNK_REPLAY_FLITS lp).updQueue (lp / 64) (lp % 64)
        f.cls fun q => { q with txBytes := q.txBytes + 8 * f.fill }).updLp lp fun l =>
        { l with replay := if l.window.length ≤ i + 1 then none else some (i + 1) }).nextFlitSlot lp false) ∧
      Out.flit lp (mkFlit (s.dev.mkHdr lp 1 1 f.cls f.first f.fill f.seq) f.payload) ∈ t.dev.out) ∧
  (∀ (s : State) (lp : Fin 1024) (d : Dev), s.dev.lpState lp = 4 ∨ s.dev.lpState lp = 6 →
    0 < (s.dev.lp lp).burst ∨ (s.dev.lp lp).slot % 148 = 147 →
    d = (s.dev.updLp lp fun l => { l with burst := l.burst - 1 }) →
    exec (.egressFlitSlot lp) s = .next (s.withDev ((d.sendControl lp).nextFlitSlot lp false))) ∧
  (∀ (s : State) (lp : Fin 1024), s.dev.lpState lp = 6 → (s.dev.lp lp).burst = 0 → (s.dev.lp lp).slot % 148 ≠ 147 → ∃ t,
    exec (.egressFlitSlot lp) s = .next t ∧ t = s.withDev ((s.dev.sendFlit lp 0 0 0 63 0 0 []).nextFlitSlot lp false) ∧
      Out.flit lp (mkFlit (s.dev.mkHdr lp 0 0 0 63 0 0) []) ∈ t.dev.out) ∧
  (∀ (s : State) (lp : Fin 1024) (d : Dev), s.dev.lpState lp = 2 ∨ s.dev.lpState lp = 3 ∨ s.dev.lpState lp = 7 →
    d = s.dev.sendControl lp →
    exec (.egressFlitSlot lp) s = .next (s.withDev (
      if (d.lp lp).trained = (s.dev.lp lp).trained ∧ d.lpState lp = s.dev.lpState lp then
        d.nextFlitSlot lp (!(s.dev.lp lp).trained)
      else d))) ∧
  (∀ (s : State) (lp : Fin 1024), s.dev.lpState lp = 5 →
    exec (.egressFlitSlot lp) s = .next (s.withDev (
      if 0 < (s.dev.lp lp).burst then
        ((s.dev.updLp lp fun l => { l with burst := l.burst - 1 }).sendControl lp).flushBits lp
      else s.dev))) ∧
  (∀ (s : State) (lp : Fin 1024), s.dev.lpState lp = 0 ∨ s.dev.lpState lp = 1 ∨ s.dev.lpState lp = 8 →
    exec (.egressFlitSlot lp) s = .next s)

/-- The receiving end of the lane-control messages: a qualified spare is reported, and MIRROR, DROP and ADD that name lanes it
holds and a codeword ahead of it are accepted with their acknowledgement, which is sent once and remembered; a lane that it does
not hold is refused with NAK, STATUS 3. At the agreed codeword a qualified spare takes the position, SWITCH_DONE with STATUS 0
follows, and one that is not leaves the map with STATUS 1 (R61 to R64, Table 2.11). -/
def Obligations.LaneControlReceiver : Prop :=
  (∀ (s : State) (lp : Fin 1024) (m : LaneMsg), s.dev.qualified (lpPort lp) m.lane = true →
    exec (.spareLight lp m) s = .next (s.withDev (s.dev.answerLane lp (answerTo m 2 0)))) ∧
  (∀ (s : State) (lp : Fin 1024) (m : LaneMsg), s.dev.repeated lp 4 m.txn.toNat = none → s.dev.lpState lp = 4 →
    s.dev.holds lp m.lane true = true → s.dev.role (lpPort lp) m.spare true = 4 → s.dev.cwAheadOk lp m.cw.toNat = true →
    exec (.mirror lp m) s = .next (s.withDev (s.dev.acceptTxn lp 3 4 m))) ∧
  (∀ (s : State) (lp : Fin 1024) (m : LaneMsg), s.dev.repeated lp 8 m.txn.toNat = none → s.dev.lpState lp = 4 →
    s.dev.holds lp m.lane true = true → s.dev.cwAheadOk lp m.cw.toNat = true →
    exec (.drop lp m) s = .next (s.withDev (s.dev.acceptTxn lp 7 8 m))) ∧
  (∀ (s : State) (lp : Fin 1024) (m : LaneMsg), s.dev.repeated lp 10 m.txn.toNat = none → s.dev.lpState lp = 4 →
    4 ≤ s.dev.role (lpPort lp) m.lane true → s.dev.qualified (lpPort lp) m.lane = true →
    s.dev.cwAheadOk lp m.cw.toNat = true →
    exec (.add lp m) s = .next (s.withDev (s.dev.acceptTxn lp 9 10 m))) ∧
  (∀ (s : State) (lp : Fin 1024) (t : LaneTxn), (s.dev.lp lp).rxTxn = some t → t.op = 3 →
    exec (.mirrorSwitch lp) s = .next (s.withDev (s.dev.rxSwitch lp t))) ∧
  (∀ (s : State) (lp : Fin 1024) (m : LaneMsg), s.dev.repeated lp 4 m.txn.toNat = none → s.dev.lpState lp = 4 →
    s.dev.holds lp m.lane true = false → ∃ t, exec (.mirror lp m) s = .next t ∧
      t = s.withDev (s.dev.answerLane lp (answerTo m 15 3)) ∧ (t.dev.lp lp).rxTxn = (s.dev.lp lp).rxTxn) ∧
  (∀ (d e : Dev) (lp : Fin 1024) (op ack : Nat) (m : LaneMsg), e = d.acceptTxn lp op ack m →
    (e.lp lp).rxTxn = some { op := op, txn := m.txn.toNat, lane := m.lane, spare := m.spare, cw := m.cw.toNat,
                             reason := m.reason.toNat, phase := 1 } ∧
    (e.lp lp).laneAns = (d.lp lp).laneAns ++ [answerTo m ack 0] ∧ (e.lp lp).answered = some (answerTo m ack 0) ∧
    e.bit F.LNK_LP_STATE.SWAP_BUSY lp = true) ∧
  (∀ (d e : Dev) (lp : Fin 1024) (t : LaneTxn), t.lane < 18 → t.spare < 18 → t.lane ≠ t.spare →
    e = d.rxSwitch lp t →
    (e.lp lp).rxTxn = none ∧
    (e.lp lp).laneOut = (d.lp lp).laneOut ++
      [{ op := 5, txn := t.txn, lane := t.lane, spare := t.spare, cw := t.cw, reason := t.reason,
         status := if d.qualified (lpPort lp) t.spare then 0 else 1 }] ∧
    (d.qualified (lpPort lp) t.spare = true → e.role (lpPort lp) t.spare true = lpSub lp ∧
      e.pos (lpPort lp) t.spare true = d.pos (lpPort lp) t.lane true) ∧
    (d.qualified (lpPort lp) t.spare = false → ∀ j, e.role (lpPort lp) j true = d.role (lpPort lp) j true))

/-- The transmitting end of the lane-control messages: SPARE_READY makes the lane known as qualified, starts what waited and
lets the lane return; an acknowledgement of the open transaction ends its repetition; SWITCH_DONE with STATUS 0 moves the
position to the spare and raises LMAP_GEN; NAK ends the transaction with the map as it was; LANE_FAULT is reported to the Bureau
and starts the removal of the lane, after its select ring is re-acquired under REASON 2 and 3; a transaction without an answer
is abandoned and counted; the agreed codewords begin the mirror and apply DROP and ADD, each of which raises LMAP_GEN (R61 to
R66, R73, R77). -/
def Obligations.LaneControlSender : Prop :=
  (∀ (s : State) (lp : Fin 1024) (m : LaneMsg), ∃ t, exec (.spareReady lp m) s = .next t ∧ t = s.withDev (((s.dev.updLp lp fun l =>
      { l with spareOk := if l.spareOk.contains m.lane.val then l.spareOk else l.spareOk ++ [m.lane.val]
               laneOut := l.laneOut.filter fun x => x.op != 1 || x.lane != m.lane.val }).nextTodo lp).laneReturn (lpPort lp)
        m.lane) ∧ m.lane.val ∈ (t.dev.lp lp).spareOk) ∧
  (∀ (s : State) (lp : Fin 1024) (m : LaneMsg) (t : LaneTxn), (s.dev.lp lp).txTxn = some t → t.txn = m.txn.toNat →
    (t.op = 3 → exec (.mirrorAck lp m) s = .next (s.withDev (s.dev.updLp lp fun l =>
      { l with txTxn := some { t with phase := max 1 t.phase, acked := true }
               laneOut := l.laneOut.filter fun x => x.txn != t.txn || x.op != 3 }))) ∧
    (t.op = 7 → exec (.dropAck lp m) s = .next (s.withDev (s.dev.updLp lp fun l =>
      { l with txTxn := some { t with phase := max 1 t.phase, acked := true }
               laneOut := l.laneOut.filter fun x => x.txn != t.txn || x.op != 7 }))) ∧
    (t.op = 9 → exec (.addAck lp m) s = .next (s.withDev (s.dev.updLp lp fun l =>
      { l with txTxn := some { t with phase := max 1 t.phase, acked := true }
               laneOut := l.laneOut.filter fun x => x.txn != t.txn || x.op != 9 }))) ∧
    (∃ u, exec (.nak lp m) s = .next u ∧ u = s.withDev (s.dev.finishTx lp m.status.toNat) ∧
      ∀ port lane rx, u.dev.role port lane rx = s.dev.role port lane rx ∧ u.dev.pos port lane rx = s.dev.pos port lane rx)) ∧
  (∀ (s : State) (lp : Fin 1024) (m : LaneMsg) (t : LaneTxn), (s.dev.lp lp).txTxn = some t →
    t.txn = m.txn.toNat → t.op = 3 → m.status = 0 → s.dev.oe.rotating.at 0 (lp / 64) = 0 → t.lane ≠ t.spare → ∃ u,
    exec (.switchDone lp m) s = .next u ∧ u = s.withDev (
      ((((s.dev.movePos lp t.lane t.spare t.reason false).lmapBump lp).showLanes lp).updLp lp fun l =>
        { l with spareOk := l.spareOk.filter (· != t.spare) }).finishTx lp 0) ∧
      u.dev.role (lpPort lp) t.spare false = lpSub lp ∧
      u.dev.pos (lpPort lp) t.spare false = s.dev.pos (lpPort lp) t.lane false ∧
      u.dev.get F.LNK_LP_STATE.LMAP_GEN lp = (s.dev.get F.LNK_LP_STATE.LMAP_GEN lp + 1) % 256) ∧
  (∀ (s : State) (lp : Fin 1024) (m : LaneMsg) (p y : Nat) (d e : Dev), p = lpPort lp →
    d = (if m.reason = 2 ∨ m.reason = 3 then s.dev.selectOut p m.lane else s.dev) → d.role p m.lane false ≠ 4 →
    e = d.unqualify p m.lane → y = e.txOwner p m.lane → y < 4 → e.laneNamed (4 * p + y) m.lane = false → ∃ t,
    exec (.laneFault lp m) s = .next t ∧ t = s.withDev (
      (((e.forceExpel 0 p (instLane p m.lane)).raise (16 + p / 16) 2 (instLane p m.lane)).txRemove (4 * p + y) m.lane
        m.reason.toNat).afterMap (4 * p + y)) ∧
      { src := 16 * (16 + p / 16) + 2, inst := instLane p m.lane, inst2 := 0 } ∈ t.dev.raised) ∧
  (∀ (s : State) (lp : Fin 1024) (t : LaneTxn), (s.dev.lp lp).txTxn = some t → t.acked = false → ∃ u,
    exec (.lanectlTimeout lp) s = .next u ∧ u = s.withDev (
      (if (s.dev.lp lp).mgmt then (s.dev.count .LNK_LANECTL_LOST lp).setB F.LNK_SWAP_CMD.GO (lpPort lp) false
        else s.dev.count .LNK_LANECTL_LOST lp).closeTx lp) ∧
      u.dev.rd .LNK_LANECTL_LOST lp = (s.dev.count .LNK_LANECTL_LOST lp).rd .LNK_LANECTL_LOST lp ∧
      ((s.dev.lp lp).todo = [] → (u.dev.lp lp).txTxn = none)) ∧
  (∀ (s : State) (lp : Fin 1024) (t : LaneTxn), (s.dev.lp lp).txTxn = some t → (s.dev.lp lp).rxTxn = none → t.op = 3 →
    exec (.mirrorBegin lp) s = .next (s.withDev (s.dev.updLp lp fun l => { l with txTxn := some { t with phase := 2 } }))) ∧
  (∀ (s : State) (lp : Fin 1024) (t : LaneTxn), (s.dev.lp lp).txTxn = some t → (s.dev.lp lp).rxTxn = none →
    t.acked = true →
    (t.op = 7 → ∃ u, exec (.dropApply lp) s = .next u ∧ u = s.withDev (
      (((s.dev.dropPos lp t.lane t.reason false).lmapBump lp).finishTx lp 0).afterMap lp) ∧
      u.dev.get F.LNK_LP_STATE.LMAP_GEN lp = (s.dev.get F.LNK_LP_STATE.LMAP_GEN lp + 1) % 256) ∧
    (t.op = 9 → ∃ u, exec (.addApply lp) s = .next u ∧ u = s.withDev (
      (((s.dev.addPos lp t.lane false).lmapBump lp).finishTx lp 0).afterMap lp) ∧
      u.dev.get F.LNK_LP_STATE.LMAP_GEN lp = (s.dev.get F.LNK_LP_STATE.LMAP_GEN lp + 1) % 256))

/-- Lanes changed by command and by faults. LNK_SWAP_CMD with GO on an ACTIVE port with no open transaction opens the
transaction of its ACTION: MIRROR onto a lane in role 100, DROP, or ADD to the lowest sub-port that is short of lanes (that it
is the lowest is a DESIGN CHOICE of the model, log entry 54; Table 2.17). An opened transaction is sent and shown in SWAP_BUSY.
Loss of light shows NO_LIGHT, holds a LOCKED drop ring and takes the lane out of service, and fewer lanes than MIN_LANES take
the port to DOWN (that this is Table 2.7's 'too many lanes' is a DESIGN CHOICE, log entry 159); loss of marker lock takes the
lane out, or retrains where too few lanes would stay; symbol errors are counted, and above one in a thousand the lane is taken
out with REASON 4, too few lanes faulting the port (R55, R64, R66, R78). -/
def Obligations.LaneChanges : Prop :=
  (∀ (s : State) (a : Access) (port : Fin 256) (lane spare : Fin 18) (d : Dev) (lp : Nat),
    s.dev.Reaches a .LNK_SWAP_CMD port 0 →
    d = s.dev.wr .LNK_SWAP_CMD port 0 (BitVec.ofNat 32
      (2 ^ 31 + lane * 2 ^ 23 + spare * 2 ^ 18 + s.dev.get F.LNK_SWAP_CMD.RESULT port * 256)) →
    d.role port lane false < 4 → lp = 4 * port + d.role port lane false → d.role port spare false = 4 →
    d.lpState lp = 4 → (d.lp lp).txTxn = none → d.cwOk lp 5248 = true →
    exec (.lnkSwapCmdSwap a port lane spare) s = .next (s.withDev (d.openTxn lp 3 lane spare 0 true))) ∧
  (∀ (s : State) (a : Access) (port : Fin 256) (lane : Fin 18) (d : Dev) (lp : Nat),
    s.dev.Reaches a .LNK_SWAP_CMD port 0 →
    d = s.dev.wr .LNK_SWAP_CMD port 0 (BitVec.ofNat 32
      (2 ^ 31 + 2 ^ 28 + lane * 2 ^ 23 + s.dev.get F.LNK_SWAP_CMD.RESULT port * 256)) →
    d.role port lane false < 4 → lp = 4 * port + d.role port lane false →
    d.lpState lp = 4 → (d.lp lp).txTxn = none → d.cwOk lp 384 = true →
    exec (.lnkSwapCmdDrop a port lane) s = .next (s.withDev (d.openTxn lp 7 lane 0 0 true))) ∧
  (∀ (s : State) (a : Access) (port : Fin 256) (lane : Fin 18) (d : Dev),
    s.dev.Reaches a .LNK_SWAP_CMD port 0 →
    d = s.dev.wr .LNK_SWAP_CMD port 0 (BitVec.ofNat 32
      (2 ^ 31 + 2 * 2 ^ 28 + lane * 2 ^ 23 + s.dev.get F.LNK_SWAP_CMD.RESULT port * 256)) →
    4 ≤ d.role port lane false → d.lpState (4 * port) = 4 →
    d.stripes (4 * port) < d.get F.LNK_LP_STATE.NOMINAL_LANES (4 * port) →
    (d.lp (4 * port)).txTxn = none → d.cwOk (4 * port) 384 = true →
    exec (.lnkSwapCmdAdd a port lane) s = .next (s.withDev (d.openTxn (4 * port) 9 lane 0 0 true))) ∧
  (∀ (s : State) (port : Fin 256) (lane : Fin 18) (x y : Nat) (d e : Dev), s.dev.portBypassed port = false →
    x = 18 * port + lane → y = s.dev.role port lane true → y < 4 →
    d = (((s.dev.setB F.LNK_LANE_STAT.NO_LIGHT x true).setB F.LNK_LANE_STAT.MARKER_OK x false).updLane x fun l =>
      { l with good := 0, spareGood := 0 }) →
    e = (if d.ringState (ringIx port lane 1) = 4 then (d.ringHold (ringIx port lane 1)).updRing (ringIx port lane 1) fun r =>
      { r with unlit := true } else d).rxLaneOut port lane 5 5 → ∃ t,
    exec (.laneLossOfLight port lane) s = .next t ∧ t = s.withDev (
      if e.lpState (4 * port + y) ≠ 0 ∧ e.lpState (4 * port + y) ≠ 8 ∧
        (e.lpLanes (4 * port + y) true).length < e.minLanes port then
        (e.updLp (4 * port + y) fun l => { l with light := false }).linkDown (4 * port + y) 0
      else e) ∧
      t.dev.bit F.LNK_LANE_STAT.NO_LIGHT x = true ∧ t.dev.bit F.LNK_LANE_STAT.MARKER_OK x = false ∧
      t.dev.role port lane true = 5) ∧
  (∀ (s : State) (port : Fin 256) (lane : Fin 18) (y : Nat) (d : Dev), y = s.dev.role port lane true → y < 4 →
    d = ((s.dev.setB F.LNK_LANE_STAT.MARKER_OK (18 * port + lane) false).updLane (18 * port + lane) fun l =>
      { l with good := 0, spareGood := 0 }) → d.lpState (4 * port + y) = 4 →
    exec (.markerLockLoss port lane) s = .next (s.withDev (
      if d.minLanes port ≤ (d.lpLanes (4 * port + y) true).length - 1 then d.rxWrongLine port lane 3
      else d.toRetrain (4 * port + y)))) ∧
  (∀ (s : State) (port : Fin 256) (lane : Fin 18) (errors symbols : BitVec 32), errors.toNat * 1000 ≤ symbols.toNat →
    exec (.symbolErrorCheck port lane errors symbols) s = .next (s.withDev (
      s.dev.add64 .LNK_LANE_SYMERR (18 * port + lane) errors.toNat))) ∧
  (∀ (s : State) (port : Fin 256) (lane : Fin 18) (errors symbols : BitVec 32) (d : Dev),
    symbols.toNat < errors.toNat * 1000 → d = s.dev.add64 .LNK_LANE_SYMERR (18 * port + lane) errors.toNat →
    d.role port lane true < 4 → d.lpState (4 * port + d.role port lane true) = 4 →
    exec (.symbolErrorCheck port lane errors symbols) s = .next (s.withDev (
      (d.rxLaneOut port lane 6 4).afterMap (4 * port + d.role port lane true)))) ∧
  (∀ (d e : Dev) (lp op lane spare reason : Nat) (mgmt : Bool) (cw : Nat), d.lpState lp = 4 →
    (d.lp lp).txTxn = none → d.cwOk lp (cwAhead op) = true → cw = ((d.lp lp).cwNow + cwAhead op) % 2 ^ 30 →
    e = d.openTxn lp op lane spare reason mgmt →
    (e.lp lp).txTxn = some { op := op, txn := (d.lp lp).nextTxn, lane := lane, spare := spare, cw := cw, reason := reason,
                             phase := 0 } ∧
    (e.lp lp).laneOut = (d.lp lp).laneOut ++
      [{ op := op, txn := (d.lp lp).nextTxn, lane := lane, spare := spare, cw := cw, reason := reason }] ∧
    e.bit F.LNK_LP_STATE.SWAP_BUSY lp = true)

/-- The states of a ring (Table 3.3): PREHEAT done starts the sweep; a sweep with a peak enters CAPTURE at the peak's code, one
without fails; a capture time-out fails; a ring in OUT sweeps again when its timer fires; a ring whose lane delivers no two good
markers after re-acquisition fails; a first failure sweeps again at once, a second leaves the ring in OUT, and the third in the
window retires the ring (R73 to R75). -/
def Obligations.RingStates : Prop :=
  (∀ (s : State) (oe : Fin 16) (r : Fin 576), s.dev.ringState (oeRing oe r) = 1 →
    ∃ t, exec (.preheatDone oe r) s = .next t ∧ t = s.withDev (s.dev.ringSweep (oeRing oe r)) ∧
      t.dev.ringState (oeRing oe r) = 2) ∧
  (∀ (s : State) (oe : Fin 16) (r : Fin 576) (o : SweepObs), s.dev.ringState (oeRing oe r) = 2 →
    ∃ t, exec (.sweepComplete oe r o) s = .next t ∧ t = s.withDev (
      if o.peak then (((s.dev.ringGo (oeRing oe r) 3).setHeater (oeRing oe r) o.heater.toNat).set
        F.OE_RING_STAT.PEAK_WIDTH (oeRing oe r) o.width.toNat).updRing (oeRing oe r) fun x => { x with ok := 0 }
      else s.dev.ringFail (oeRing oe r)) ∧
      (o.peak = true → t.dev.ringState (oeRing oe r) = 3 ∧ t.dev.heater (oeRing oe r) = o.heater.toNat)) ∧
  (∀ (s : State) (oe : Fin 16) (r : Fin 576), s.dev.ringState (oeRing oe r) = 3 →
    exec (.captureTimeout oe r) s = .next (s.withDev (s.dev.ringFail (oeRing oe r)))) ∧
  (∀ (s : State) (oe : Fin 16) (r : Fin 576), s.dev.ringState (oeRing oe r) = 6 → s.dev.ringMode (oeRing oe r) = 1 →
    ∃ t, exec (.outRetryTimer oe r) s = .next t ∧ t = s.withDev (s.dev.ringSweep (oeRing oe r)) ∧
      t.dev.ringState (oeRing oe r) = 2) ∧
  (∀ (s : State) (port : Fin 256) (lane : Fin 18), s.dev.ringState (ringIx port lane 1) = 4 →
    (s.dev.ring (ringIx port lane 1)).reacq = true → (s.dev.lane (18 * port + lane)).good < 2 →
    (s.dev.lane (18 * port + lane)).spareGood < 2 →
    (s.dev.ringFail (ringIx port lane 1)).ringState (ringIx port lane 0) ≠ 4 →
    exec (.reacqMarkerTimeout port lane) s = .next (s.withDev (s.dev.ringFail (ringIx port lane 1)))) ∧
  (∀ (s : State) (oe : Fin 16) (r : Fin 576),
    exec (.ringFailWindowExpiry oe r) s = .next (s.withDev (
      s.dev.set F.OE_RING_STAT.FAIL_CNT (oeRing oe r) (s.dev.get F.OE_RING_STAT.FAIL_CNT (oeRing oe r) - 1)))) ∧
  (∀ (d e : Dev) (x : Nat), 2 ≤ d.get F.OE_RING_STAT.FAIL_CNT x →
    e = ((((d.count .OE_REACQ_FAIL_CNT (x / 576)).set F.OE_RING_STAT.FAIL_CNT x 3).ringGo x 7).setHeater x 0).updRing x
      (fun r => { r with reacq := false, ok := 0 }) →
    d.ringFail x = (((e.setRole (ringPort x) (ringLane x) (ringDrop x) 5).count .OE_LANE_RETIRE_CNT (x / 576)).raise
      (16 + x / 576) 3 (ringInst x))) ∧
  (∀ (d : Dev) (x : Nat),
    (d.ringFail x).ringState x = if 2 ≤ d.get F.OE_RING_STAT.FAIL_CNT x then 7
      else if d.get F.OE_RING_STAT.FAIL_CNT x = 0 ∧ d.ringMode x = 1 then 2 else 6)

/-- The loops of a ring: a lock-in update stores the error, drives the heater of a ring in CAPTURE or LOCKED, and locks a ring
in CAPTURE after ten good updates with power inside its window; a window evaluation stores the temperature and shows IN_WINDOW,
and a LOCKED commissioned ring outside its window is a wrong line; MODE 01 starts acquisition, also of a RETIRED ring; MODE 00
turns the ring off, and MODE 10 and 11 hold it with its lane out of service, 11 at the code written (R69 to R77, R92). -/
def Obligations.RingLoops : Prop :=
  (∀ (s : State) (oe : Fin 16) (r : Fin 576) (o : LockinObs) (x n : Nat) (d : Dev), x = oeRing oe r →
    s.dev.ringState x = 3 → n = (if (toSigned 16 o.error.toNat).natAbs ≤ 20 then
      min 10 (((s.dev.set F.OE_RING_STAT.ERROR x o.error.toNat).ring x).ok + 1) else 0) →
    d = ((s.dev.set F.OE_RING_STAT.ERROR x o.error.toNat).updRing x fun y => { y with ok := n }) → d.ringMode x = 1 →
    ∃ t, exec (.ringLockinUpdate oe r o) s = .next t ∧ t = s.withDev (
      if n = 10 ∧ o.power = true ∧ ((d.setHeater x o.heater.toNat).uncommissioned x = true ∨
        (d.setHeater x o.heater.toNat).inWindow x ((d.setHeater x o.heater.toNat).ring x).temp = true)
      then (if ringDrop x then (d.setHeater x o.heater.toNat).ringGo x 4
        else ((d.setHeater x o.heater.toNat).ringGo x 4).spareLocked (ringPort x) (ringLane x))
      else d.setHeater x o.heater.toNat) ∧ t.dev.heater x = o.heater.toNat) ∧
  (∀ (s : State) (oe : Fin 16) (r : Fin 576) (t : BitVec 16) (x : Nat) (d : Dev) (inw : Bool), x = oeRing oe r →
    d = (s.dev.updRing x fun y => { y with temp := toSigned 16 t.toNat }) → d.ringState x ≠ 5 →
    inw = (!d.uncommissioned x && d.inWindow x (toSigned 16 t.toNat)) →
    (d.setB F.OE_RING_STAT.IN_WINDOW x inw).ringState x ≠ 4 ∨ inw = true →
    exec (.ringWindowEval oe r t) s = .next (s.withDev (d.setB F.OE_RING_STAT.IN_WINDOW x inw))) ∧
  (∀ (s : State) (oe : Fin 16) (r : Fin 576) (t : BitVec 16) (x : Nat) (d e : Dev), x = oeRing oe r →
    d = (s.dev.updRing x fun y => { y with temp := toSigned 16 t.toNat }) → d.ringState x = 4 → d.uncommissioned x = false →
    d.inWindow x (toSigned 16 t.toNat) = false →
    e = ((d.setB F.OE_RING_STAT.IN_WINDOW x false).setB F.OE_RING_STAT.WRONG_LINE x true) →
    exec (.ringWindowEval oe r t) s = .next (s.withDev (
      if ringDrop x then e.rxWrongLine (ringPort x) (ringLane x) 2
      else (e.txWrongLine (ringPort x) (ringLane x)).ringReacquire x))) ∧
  (∀ (s : State) (a : Access) (oe : Fin 16) (r : Fin 576) (v : Word) (x : Nat), x = oeRing oe r →
    s.dev.Reaches a .OE_RING_CTL x 0 → bitsOf v.toNat 15 14 = 0 →
    ∃ t, exec (.ringModeWrite a oe r v) s = .next t ∧ t = s.withDev (
      ((s.dev.set F.OE_RING_CTL.MODE x 0).ringGo x 0).setHeater x 0) ∧
      t.dev.ringMode x = 0 ∧ t.dev.ringState x = 0 ∧ t.dev.heater x = 0) ∧
  (∀ (s : State) (a : Access) (oe : Fin 16) (r : Fin 576) (v : Word) (x : Nat), x = oeRing oe r →
    s.dev.Reaches a .OE_RING_CTL x 0 →
    (bitsOf v.toNat 15 14 = 2 → ∃ t, exec (.ringModeWrite a oe r v) s = .next t ∧ t = s.withDev (
      ((s.dev.set F.OE_RING_CTL.MODE x 2).modeOut x).ringHold x) ∧ t.dev.ringState x = 5) ∧
    (bitsOf v.toNat 15 14 = 3 → ∃ t, exec (.ringModeWrite a oe r v) s = .next t ∧ t = s.withDev (
      (((s.dev.set F.OE_RING_CTL.MODE x 3).modeOut x).ringHold x).setHeater x (v.toNat / 65536 : Nat)) ∧
      t.dev.ringState x = 5 ∧ t.dev.heater x = v.toNat / 65536)) ∧
  (∀ (s : State) (a : Access) (oe : Fin 16) (r : Fin 576) (v : Word) (x : Nat) (d : Dev), x = oeRing oe r →
    s.dev.Reaches a .OE_RING_CTL x 0 → bitsOf v.toNat 15 14 = 1 → s.dev.ringMode x ≠ 1 →
    d = (s.dev.set F.OE_RING_CTL.MODE x 1).heldBack (instLane (ringPort x) (ringLane x)) → d.ringState x ≠ 7 →
    ∃ t, exec (.ringModeWrite a oe r v) s = .next t ∧ t = s.withDev (d.ringPreheat x) ∧
      t.dev.ringMode x = 1 ∧ t.dev.ringState x = 1) ∧
  (∀ (s : State) (a : Access) (oe : Fin 16) (r : Fin 576) (v : Word) (x : Nat) (d : Dev), x = oeRing oe r →
    s.dev.Reaches a .OE_RING_CTL x 0 → bitsOf v.toNat 15 14 = 1 →
    d = (s.dev.set F.OE_RING_CTL.MODE x 1).heldBack (instLane (ringPort x) (ringLane x)) → d.ringState x = 7 →
    ∃ t, exec (.ringModeWrite a oe r v) s = .next t ∧ t = s.withDev ((d.set F.OE_RING_STAT.FAIL_CNT x 0).ringPreheat x) ∧
      t.dev.ringMode x = 1 ∧ t.dev.ringState x = 1)

/-- The feeds of a port: rejected power above the bound, or a failed primary comb, moves a port to standby where AUTO_FEED is
set and the standby controller is locked; a return needs the primary controller locked and COMB_P_OK; FEED_FORCE forces a port
onto standby; each switch is counted and raises OE_COMB_FAIL (R80, R81). A change of lock is stored, and a loss is shown,
counted and raised (R79). -/
def Obligations.CombFeeds : Prop :=
  (∀ (s : State) (oe k : Fin 16), s.dev.onStandby oe k = false → s.dev.pcLocked oe k 1 = true →
    s.dev.bit F.OE_ENG_CFG.AUTO_FEED oe = true →
    ∃ t, exec (.feedRejectTimeout oe k) s = .next t ∧ t = s.withDev (
      ((s.dev.set F.OE_ENG_STAT.FEED_STBY oe (withBit (s.dev.get F.OE_ENG_STAT.FEED_STBY oe) k true)).count
        .OE_COMB_SWITCH_CNT oe).raise (16 + oe) 5 (instDie (28 + oe))) ∧ t.dev.onStandby oe k = true) ∧
  (∀ (s : State) (oe : Fin 16) (dark : BitVec 16), 8 ≤ popBits dark.toNat 16 →
    exec (.combFailDetect oe dark) s = .next (s.withDev (
      (((s.dev.setB F.OE_ENG_STAT.COMB_P_OK oe false).setB F.OE_ENG_STAT.COMB_FAIL oe true).raise (16 + oe) 5
        (instDie (28 + oe))).each (List.range 16) fun d k => d.feedAuto oe k))) ∧
  (∀ (s : State) (a : Access) (oe : Fin 16) (v : Word), s.dev.Reaches a .OE_FEED_RET oe 0 →
    exec (.oeFeedRetWrite a oe v) s = .next (s.withDev (s.dev.each (bitList v.toNat 16) fun d k =>
      if bitAt (d.get F.OE_ENG_CFG.FEED_FORCE oe) k then d else d.feedReturn oe k))) ∧
  (∀ (s : State) (a : Access) (oe : Fin 16) (v : BitVec 16), s.dev.Reaches a .OE_ENG_CFG oe 0 →
    exec (.feedForceWrite a oe v) s = .next (s.withDev (
      (s.dev.set F.OE_ENG_CFG.FEED_FORCE oe v.toNat).each (List.range 16) fun d k =>
        if bitAt v.toNat k then (if d.onStandby oe k then d else d.feedSwitch oe k true)
        else if bitAt (s.dev.get F.OE_ENG_CFG.FEED_FORCE oe) k then d.feedReturn oe k else d))) ∧
  (∀ (s : State) (oe : Fin 16) (comb : Bool) (k : Fin 16) (locked : Bool) (rej : BitVec 16) (i : Nat) (d : Dev),
    i = 32 * oe + 2 * k + comb.toNat →
    d = (s.dev.setB F.OE_PC_STAT.LOCKED i locked).set F.OE_PC_STAT.REJECTED i rej.toNat →
    exec (.polarisationLockChange oe comb k locked rej) s = .next (s.withDev (
      ((if s.dev.bit F.OE_PC_STAT.LOCKED i && !locked then
        ((d.setB F.OE_PC_STAT.UNLOCK_SEEN i true).count .OE_PC_UNLOCK_CNT oe).raise (16 + oe) 7 (instDie (28 + oe))
      else d).showCombS oe).toRingLock oe))) ∧
  (∀ (d e : Dev) (oe k : Fin 16) (stby : Bool), e = d.feedSwitch oe k stby →
    e.onStandby oe k = stby ∧ e.rd .OE_COMB_SWITCH_CNT oe = (d.count .OE_COMB_SWITCH_CNT oe).rd .OE_COMB_SWITCH_CNT oe ∧
    e.raised = d.raised ++ [{ src := 16 * (16 + oe) + 5, inst := instDie (28 + oe), inst2 := 0 }])

/-- The power-up of an engine (R89, R90): ENABLE requests its domain, and its clearing powers the engine down; comb modules that
are ready open the shutters and lead to PHASE 3; locked modulators lead to PHASE 5; a time-out to PHASE 7 with OE_COMB_FAIL.
Domain writes in SAFE and RESUMING are refused and counted (R394). -/
def Obligations.EnginePower : Prop :=
  (∀ (s : State) (a : Access) (oe : Fin 16), s.dev.Reaches a .OE_ENG_CFG oe 0 → s.dev.domainRefused = false →
    s.dev.bit F.OE_ENG_CFG.ENABLE oe = false →
    ∃ t, exec (.engineEnable a oe) s = .next t ∧
      t = s.withDev ((s.dev.setB F.OE_ENG_CFG.ENABLE oe true).domainRequest oe) ∧
      t.dev.bit F.OE_ENG_CFG.ENABLE oe = true ∧ (t.dev.domainOn oe = true ∨ oe.val ∈ t.dev.pwr.pdq)) ∧
  (∀ (s : State) (a : Access) (oe : Fin 16), s.dev.Reaches a .OE_ENG_CFG oe 0 → s.dev.domainRefused = false →
    s.dev.bit F.OE_ENG_CFG.ENABLE oe = true →
    ∃ t, exec (.engineDisable a oe) s = .next t ∧ t = s.withDev (
      (s.dev.setB F.OE_ENG_CFG.ENABLE oe false).engineDown oe (s.dev.bit F.OE_ENG_CFG.KEEP_LASER oe)) ∧
      t.dev.bit F.OE_ENG_CFG.ENABLE oe = false ∧ t.dev.phase oe = 0 ∧ t.dev.domainOn oe = false ∧
      t.dev.bit F.OE_ENG_STAT.COMB_P_OK oe = false) ∧
  (∀ (s : State) (a : Access) (oe : Fin 16), s.dev.Reaches a .OE_ENG_CFG oe 0 → s.dev.domainRefused = true →
    exec (.engineEnable a oe) s = .next (s.withDev (s.dev.count .PWR_PD_REFUSE)) ∧
    exec (.engineDisable a oe) s = .next (s.withDev (s.dev.count .PWR_PD_REFUSE))) ∧
  (∀ (s : State) (oe : Fin 16) (d e : Dev), s.dev.phase oe ≠ 0 → s.dev.phase oe ≠ 7 →
    d = s.dev.setB F.OE_ENG_STAT.COMB_P_OK oe true →
    e = ({ d with oe := { d.oe with combS := d.oe.combS.put false oe true } }).showCombS oe →
    e.phase oe = 1 ∨ e.phase oe = 2 → ∃ t,
    exec (.combModuleReady oe true true) s = .next t ∧
      t = s.withDev (((e.moduleControl oe 1).set F.OE_ENG_STAT.PHASE oe 3).toRingLock oe) ∧
      t.dev.phase oe = if e.allLocked oe then 4 else 3) ∧
  (∀ (s : State) (oe : Fin 16), s.dev.phase oe = 4 →
    ∃ t, exec (.engineReady oe) s = .next t ∧
      t = s.withDev (((s.dev.set F.OE_ENG_STAT.PHASE oe 5).each (List.range 64) fun d n =>
        d.enableLp (64 * oe + n)).stageReady) ∧ t.dev.phase oe = 5) ∧
  (∀ (s : State) (oe : Fin 16), 1 ≤ s.dev.phase oe → s.dev.phase oe ≤ 4 →
    ∃ t, exec (.enginePowerupTimeout oe) s = .next t ∧ t = s.withDev (
      (((s.dev.set F.OE_ENG_STAT.PHASE oe 7).setB F.OE_ENG_STAT.COMB_FAIL oe true).raise (16 + oe) 5
        (instDie (28 + oe))).stageReady) ∧ t.dev.phase oe = 7 ∧ t.dev.bit F.OE_ENG_STAT.COMB_FAIL oe = true)

/-- Monitors of an engine: the first reading of a line's power is its commissioned power, and the third reading in a row that is
1.0 dB or more below it warns of a fade; a gain check that fails raises OE_MONITOR_FAULT, a dark-offset task and a window sweep
store what they measured, and a tempco task moves TEMPCO by at most 16 in an hour; a rotation opens a MIRROR of the next lane to
the first free spare; three failed polls of a module in a row are counted and raised; an I²C command completes with the module's
answer (R82, R84, R85, R87, R88). That the first free spare is taken and which hour a tempco task means are DESIGN CHOICES, log
entries 53 and 164. -/
def Obligations.EngineMonitors : Prop :=
  (∀ (s : State) (oe k : Fin 16) (lane : Fin 18) (p : BitVec 16) (i : Nat) (d : Dev), i = 18 * (16 * oe + k) + lane →
    s.dev.ringState (ringIx (16 * oe + k) lane 0) = 4 → 4 ≤ s.dev.role (16 * oe + k) lane false →
    d = s.dev.set F.OE_LINE_PWR.NOW i p.toNat → d.get F.OE_LINE_PWR.COMM i = 0x8000 →
    exec (.linePowerReading oe k lane p) s = .next (s.withDev (d.set F.OE_LINE_PWR.COMM i p.toNat))) ∧
  (∀ (s : State) (oe k : Fin 16) (lane : Fin 18) (o : CalObs), s.dev.phase oe = 5 →
    s.dev.calLane (16 * oe + k) lane .gainCheck o.drop = true → o.ok = false →
    exec (.calibrationTask oe .gainCheck k lane o) s = .next (s.withDev (
      s.dev.raise (16 + oe) 8 (instLane (16 * oe + k) lane)))) ∧
  (∀ (s : State) (oe k : Fin 16) (lane : Fin 18) (o : CalObs) (x : Nat) (h old : Nat × Int) (sum : Int),
    s.dev.phase oe = 5 → x = ringIx (16 * oe + k) lane o.drop.toNat → h = (s.dev.ring x).refine →
    old = (if h = (0, 0) ∨ 3600 * 800000000 ≤ s.dev.since h.1 then (s.dev.raw, 0) else h) →
    sum = max (-16) (min 16 (old.2 + toSigned 16 o.value.toNat)) →
    exec (.calibrationTask oe .tempco k lane o) s = .next (s.withDev (
      (s.dev.set F.OE_RING_TEMPCO.TEMPCO x (ofSigned 16 (s.dev.tempco x + (sum - old.2)))).updRing x fun r =>
        { r with refine := (old.1, sum) }))) ∧
  (∀ (s : State) (oe k : Fin 16) (lane : Fin 18) (o : CalObs) (x : Nat), s.dev.phase oe = 5 →
    x = ringIx (16 * oe + k) lane o.drop.toNat →
    (s.dev.calLane (16 * oe + k) lane .darkOffset o.drop = true →
      exec (.calibrationTask oe .darkOffset k lane o) s = .next (s.withDev (
        s.dev.updRing x fun r => { r with dark := o.value.toNat }))) ∧
    (s.dev.calLane (16 * oe + k) lane .windowSweep o.drop = true → o.ok = true →
      exec (.calibrationTask oe .windowSweep k lane o) s = .next (s.withDev (
        (s.dev.set F.OE_RING_STAT.PEAK_WIDTH x o.value.toNat).updRing x fun r => { r with peak := o.peak.toNat }))) ∧
    (s.dev.longSlot (16 * oe + k) = true →
      exec (.calibrationTask oe .bypassDark k lane o) s = .next (s.withDev (
        s.dev.updRing (ringIx (16 * oe + k) lane 1) fun r => { r with dark := o.value.toNat })))) ∧
  (∀ (s : State) (oe k : Fin 16) (lane : Fin 18) (p : BitVec 16) (i : Nat) (d : Dev) (diff : Int),
    i = 18 * (16 * oe + k) + lane →
    s.dev.ringState (ringIx (16 * oe + k) lane 0) = 4 → 4 ≤ s.dev.role (16 * oe + k) lane false →
    d = s.dev.set F.OE_LINE_PWR.NOW i p.toNat → d.get F.OE_LINE_PWR.COMM i ≠ 0x8000 →
    diff = toSigned 16 p.toNat - toSigned 16 (d.get F.OE_LINE_PWR.COMM i) → -250 < diff → diff ≤ -100 →
    (d.lane i).warn = 2 → d.bit F.LNK_LANE_STAT.FADE_WARN i = false →
    exec (.linePowerReading oe k lane p) s = .next (s.withDev (
      ((d.updLane i fun l => { l with warn := 3, act := 0, clear := 0 }).setB F.LNK_LANE_STAT.FADE_WARN i true).raise (16 + oe) 1
        (instLane (16 * oe + k) lane)))) ∧
  (∀ (s : State) (oe : Fin 16) (n p : Nat) (d : Dev), s.dev.bit F.OE_CAL_CFG.ROTATE oe = true → s.dev.phase oe = 5 →
    s.dev.rotLane oe = some n → p = 16 * oe + n / 18 →
    d = { s.dev with oe := { s.dev.oe with rot := s.dev.oe.rot.put 0 oe (n + 1),
                                           rotating := s.dev.oe.rotating.put 0 oe (n + 1) } } →
    exec (.laneRotation oe) s = .next (s.withDev (
      d.openTxn (4 * p + s.dev.role p (n % 18) false) 3 (n % 18) ((d.freeSpares p).headD 0) 0 false))) ∧
  (∀ (s : State) (oe : Fin 16) (m : Bool) (st : BitVec 16), s.dev.bit F.OE_ENG_CFG.ENABLE oe = true →
    s.dev.oe.polls.at 0 (2 * oe + m.toNat) = 2 →
    exec (.modulePoll oe m false st) s = .next (s.withDev (
      ((({ s.dev with oe := { s.dev.oe with polls := s.dev.oe.polls.put 0 (2 * oe + m.toNat) 0 } }).count
        .OE_I2C_ERR_CNT oe).setB F.OE_ENG_STAT.I2C_FAIL oe true).raise (16 + oe) 6 (instDie (28 + oe))))) ∧
  (∀ (s : State) (a : Access) (oe : Fin 16) (v : Word) (ok : Bool) (data : BitVec 16), s.dev.Reaches a .OE_I2C_CMD oe 0 →
    bitAt v.toNat 31 = true →
    exec (.oeI2cCmd a oe v ok data) s = .next (s.withDev (
      (s.dev.emit (.i2c oe (bitAt v.toNat 29).toNat (bitAt v.toNat 30) (bitsOf v.toNat 23 16) (v.toNat % 65536))).wr
        .OE_I2C_CMD oe 0 (BitVec.ofNat 32 (bitsOf v.toNat 30 29 * 2 ^ 29 + (!ok).toNat * 2 ^ 28 +
          bitsOf v.toNat 23 16 * 65536 +
          (if bitAt v.toNat 30 = true ∧ ok = true then data.toNat else v.toNat % 65536)))))) ∧
  (∀ (s : State) (a : Access) (oe : Fin 16) (v : Word) (ok : Bool) (data : BitVec 16), s.dev.Reaches a .OE_I2C_CMD oe 0 →
    bitAt v.toNat 31 = false →
    exec (.oeI2cCmd a oe v ok data) s = .next (s.withDev (s.dev.writeRw .OE_I2C_CMD oe 0 v)))

/-- The Sideboard's tables (R94, R98, R99): CHECK stores the code, slot and index of the table check and sets SHADOW_OK exactly
where the code is 0, the middle switches of its circuits being assigned; a table of no slots passes, one of more than 64 fails
with code 1, and a slot shorter than 1 µs fails with code 2; a shadow write clears SHADOW_OK; while a swap is armed CHECK is
ignored and a shadow write is discarded and counted; a write of the live table is always discarded and counted. -/
def Obligations.SideboardTables : Prop :=
  (∀ (s : State) (a : Access) (d : Dev), s.dev.Reaches a .SBD_CTL 0 0 → s.dev.bit F.SBD_STAT.ARMED 0 = false →
    d = s.dev.setB F.SBD_STAT.SHADOW_OK 0 (s.dev.sbdCheck.1 == 0) →
    exec (.sbdCheck a) s = .next (s.withDev (
      ((({ d with sbd := { d.sbd with shadowRoute := if s.dev.sbdCheck.1 = 0 then d.shadowRoutes else [] } } : Dev).set
        F.SBD_STAT.CHECK_ERR 0 s.dev.sbdCheck.1).set F.SBD_STAT.BAD_SLOT 0 s.dev.sbdCheck.2.1).set F.SBD_STAT.BAD_PORT 0
        s.dev.sbdCheck.2.2))) ∧
  (∀ (d : Dev) (n : Nat), n = d.get F.SBD_SHADOW_N.N 0 →
    (n = 0 → d.sbdCheck = (0, 0, 0)) ∧ (64 < n → d.sbdCheck = (1, 0, 0)) ∧
    (∀ k, 1 ≤ n → n ≤ 64 → k < n → (∀ j < k, 10 ≤ d.slotLen .SBD_SHADOW_SLOT j) → d.slotLen .SBD_SHADOW_SLOT k < 10 →
      d.sbdCheck = (2, k, 0))) ∧
  (∀ (s : State) (a : Access), s.dev.Reaches a .SBD_CTL 0 0 → s.dev.bit F.SBD_STAT.ARMED 0 = true →
    exec (.sbdCheck a) s = .next s) ∧
  (∀ (s : State) (a : Access) (addr : BitVec 26) (v : Word) (i w : Nat),
    decodeAddr a.deskB.toNat (addr.toNat / 4 * 4) = some (.SBD_SHADOW_SLOT, i, w) →
    s.dev.Reaches a .SBD_SHADOW_SLOT i w →
    exec (.sbdShadowWrite a addr v) s = .next (s.withDev (
      if s.dev.bit F.SBD_STAT.ARMED 0 then s.dev.count .SBD_LATE_WR_CNT
      else (s.dev.writeRw .SBD_SHADOW_SLOT i w v).setB F.SBD_STAT.SHADOW_OK 0 false))) ∧
  (∀ (s : State) (a : Access) (addr : BitVec 26) (v : Word) (i w : Nat),
    decodeAddr a.deskB.toNat (addr.toNat / 4 * 4) = some (.SBD_LIVE_SLOT, i, w) → s.dev.Reaches a .SBD_LIVE_SLOT i w →
    exec (.sbdLiveWrite a addr v) s = .next (s.withDev (s.dev.count .SBD_LATE_WR_CNT)))

/-- The Sideboard's schedule (R97, R100, R101, Table 4.6): a swap makes the shadow live with its slot 0 at the swap's time, an
empty shadow leading to IDLE with every port electrical; the ports that a coming slot by-passes are held first; a boundary goes
to the next slot, whose circuits' ports are then the ports in by-pass but for lost ones, and counts a cycle at slot 0; after
DARK the cells stand as the slot's circuits. Its failure (R105 to R107): loss of drive while IDLE or RUNNING leads to FAILED
with every port electrical, counted and raised; CLEAR leads from FAILED to IDLE once the six domains are on and every die
without drive is masked; a dark level that is too high on an output that is not lit is shown as LEAK, counted and raised. -/
def Obligations.SideboardRuns : Prop :=
  (∀ (s : State) (l n : Nat) (c d e : Dev), s.dev.sbd.swapAt = some l → n = s.dev.get F.SBD_SHADOW_N.N 0 → n ≠ 0 →
    c = (((((((s.dev.copyTable s.dev .SBD_SHADOW_SLOT .SBD_LIVE_SLOT).copyTable s.dev .SBD_LIVE_SLOT
      .SBD_SHADOW_SLOT).set F.SBD_SHADOW_N.N 0 s.dev.liveN).set F.SBD_LIVE_N.N 0 n).set F.SBD_POS.LIVE_N 0 n).set
      F.SBD_POS.LIVE_SLOT 0 0).setB F.SBD_STAT.SHADOW_OK 0 false).setB F.SBD_STAT.ARMED 0 false →
    d = { c with sbd := { c.sbd with swapAt := none, slotStart := s.dev.swapTime l, guard := c.get F.SBD_CTL.GUARD 0, lost := [],
                                     liveRoute := c.sbd.shadowRoute, shadowRoute := c.sbd.liveRoute } } →
    e = ((((if s.dev.sbdRunning then d.addWrap64 .SBD_CYCLE_CNT 0 1 else d).count .SBD_SWAP_CNT).genBump).set
      F.SBD_STAT.STATE 0 2) →
    exec .sbdSwapTakeEffect s = .next (s.withDev (e.takePositions (e.circuits .SBD_LIVE_SLOT 0)))) ∧
  (∀ s : State, exec .slotGuard s = .next (s.withDev (
    s.dev.each ((List.range 64).filter fun i => !s.dev.bypassed i && (s.dev.nextBypass.contains i || s.dev.guardOpen i))
      fun d i => d.eachLp i Dev.toHold))) ∧
  (∀ (s : State) (d : Dev), s.dev.sbdRunning = true →
    d = ({ s.dev with sbd := { s.dev.sbd with
      slotStart := s.dev.sbd.slotStart + 100 * s.dev.slotLen .SBD_LIVE_SLOT s.dev.liveSlot } } : Dev).set
        F.SBD_POS.LIVE_SLOT 0 (s.dev.nextSlot s.dev.liveSlot) →
    exec .slotBoundary s = .next (s.withDev (
      (if s.dev.nextSlot s.dev.liveSlot = 0 then d.addWrap64 .SBD_CYCLE_CNT 0 1 else d).takePositions
        ((if s.dev.nextSlot s.dev.liveSlot = 0 then d.addWrap64 .SBD_CYCLE_CNT 0 1 else d).circuits .SBD_LIVE_SLOT
          (s.dev.nextSlot s.dev.liveSlot))))) ∧
  (∀ (d e : Dev) (cs : List (Nat × Nat)) (i : Nat), e = d.takePositions cs → i < 64 →
    e.bypassed i = ((cs.any fun c => c.1 == i || c.2 == i) && !d.sbd.lost.contains i)) ∧
  (∀ (s : State) (l : Nat), s.dev.sbd.swapAt = some l → s.dev.get F.SBD_SHADOW_N.N 0 = 0 →
    ∃ t, exec .sbdSwapTakeEffect s = .next t ∧ t.dev.get F.SBD_STAT.STATE 0 = 1 ∧
      t.dev.bit F.SBD_STAT.ARMED 0 = false ∧ ∀ i < 64, t.dev.bypassed i = false) ∧
  (∀ s : State, s.dev.sbdRunning = true → exec .slotDarkEnd s = .next (s.withDev (
    s.dev.each (s.dev.liveCircuits s.dev.liveSlot) fun d c =>
      if d.sbd.lit.at 0 c.1 = c.2 + 1 then d
      else { d with sbd := { d.sbd with lit := d.sbd.lit.put 0 c.1 (c.2 + 1),
                                        gain := d.sbd.gain.put 0 c.1 (BitVec.ofNat 32 (ofSigned 8 (d.sbdGain c.1))) } }))) ∧
  (∀ (s : State) (dies : BitVec 6) (lost dark : List Nat) (d : Dev), s.dev.get F.SBD_STAT.STATE 0 = 1 ∨ s.dev.get F.SBD_STAT.STATE 0 = 2 →
    lost = ((List.range 4).filter fun n => bitAt dies.toNat n || (decide (n < 2) && bitAt dies.toNat 4) ||
      (decide (2 ≤ n) && bitAt dies.toNat 5)) → lost ≠ [] →
    dark = s.dev.sbd.noDrive ++ (lost.filter fun n => !s.dev.sbd.noDrive.contains n) →
    d = ({ s.dev with sbd := { s.dev.sbd with noDrive := dark } } : Dev).sbdFail →
    exec (.sbdDriveLost dies) s = .next (s.withDev { d with bus := { s.dev.bus with
      sideFail := s.dev.bus.sideFail ++ ((if bitAt dies.toNat 4 then [5] else []) ++ if bitAt dies.toNat 5 then [10] else []).filter
        fun x => !s.dev.bus.sideFail.contains x } })) ∧
  (∀ d : Dev, d.sbdFail = ((((d.set F.SBD_STAT.STATE 0 3).allElectrical.sbdDisarm).sbdNoLive).count .SBD_ABORT_CNT).raise
    40 2 (instDie 44)) ∧
  (∀ d : Dev, d.sbdFail.get F.SBD_STAT.STATE 0 = 3 ∧ ∀ i < 64, d.sbdFail.bypassed i = false) ∧
  (∀ (s : State) (a : Access), s.dev.Reaches a .SBD_CTL 0 0 → s.dev.get F.SBD_STAT.STATE 0 = 3 → s.dev.sbdPowered = true →
    (∀ n ∈ s.dev.sbd.noDrive, bitAt (s.dev.get F.SBD_DIE_MASK.MASK 0) n = true) →
    exec (.sbdClear a) s = .next (s.withDev (s.dev.set F.SBD_STAT.STATE 0 1))) ∧
  (∀ (s : State) (o : SbdCalObs), s.dev.bit F.SBD_CTL.AUTO_CAL 0 = true →
    s.dev.get F.SBD_STAT.STATE 0 = 1 ∨ s.dev.get F.SBD_STAT.STATE 0 = 2 → o.task = .darkLevel → o.ok = false →
    s.dev.sbd.lit.at 0 o.port = 0 →
    exec (.sbdCalibration o) s = .next (s.withDev (
      ((s.dev.setB F.SBD_OUT_STAT.LEAK o.port true).count .SBD_CAL_FAIL_CNT).raise 40 4 (instDie 44))))

/-- A frame received on a logical port (R48, R55, R112 to R118, R155, R163, R183, Table 8.1). A frame that is not there is not
taken, and one in reception that a trap or a response inbox takes waits for its last byte. A frame with a good header passes the
checks, and the credit of what no record of it holds returns; one whose bytes still arrive leaves its records to the cells to
come. The checks: a header CRC that fails, a class or kind that does not agree, a place out of range, a source that is false and
a job that may not use the class are each counted at the ingress tile and discard the frame; a frame that passes is stamped and,
in a class that is not policed, looked up in the fabric tables of the live bank, or consumed where it names this device's place.
-/
def Obligations.IngressChecks : Prop :=
  (∀ (s : State) (lp : Fin 1024) (cls : Fin 8) (b : List Byte) (d : Dev), s.dev.takeRx lp cls b = (none, d) →
    exec (.ingressFrame lp cls b) s = .next (s.withDev d)) ∧
  (∀ (s : State) (lp : Fin 1024) (cls : Fin 8) (b : List Byte) (x : RxTake) (d : Dev),
    s.dev.takeRx lp cls b = (some x, d) → x.cells < cellsOf x.bytes →
    d.ptpTrapped b = true ∨ (d.ownFrame b = true ∧ fKind b = 0x21) →
    exec (.ingressFrame lp cls b) s = .next (s.withDev d)) ∧
  (∀ (s : State) (lp : Fin 1024) (cls : Fin 8) (b : List Byte) (x : RxTake) (d e f : Dev) (l : List Nat),
    s.dev.takeRx lp cls b = (some x, d) → cellsOf x.bytes ≤ x.cells ∨
      (d.ptpTrapped b = false ∧ (d.ownFrame b = false ∨ fKind b ≠ 0x21)) →
    e = d.ingressFrame lp cls x → l = e.recordsSince d.core.nextFid →
    f = (if hcrcOk b then (e.refundRx lp cls b [] (creditsOf b - cellsOf b)).refundRx lp cls b l x.cells else e) →
    exec (.ingressFrame lp cls b) s = .next (s.withDev (
      if x.cells < cellsOf x.bytes then
        f.updLp lp fun p => { p with rx := p.rx.upd {} cls fun r => { r with taken := some l } }
      else f))) ∧
  (∀ (s : State) (lp : Fin 1024) (cls : Fin 8) (b : List Byte), s.dev.lpState lp = 4 → hcrcOk b = false →
    (s.dev.lp lp).rxq = [] → ((s.dev.lp lp).rx.at {} cls).buf = [] → ∃ t,
    exec (.ingressFrame lp cls b) s = .next t ∧
      t.dev.rd .FWD_HCRC_ERR (lp / 64) = (s.dev.count .FWD_HCRC_ERR (lp / 64)).rd .FWD_HCRC_ERR (lp / 64) ∧
      t.dev.core = s.dev.core ∧ ((t.dev.lp lp).rx.at {} cls).skip = true) ∧
  (∀ (d : Dev) (lp : Fin 1024) (cls : Fin 8) (x : RxTake), hcrcOk x.bytes = false → x.fresh = false →
    d.ingressFrame lp cls x = d.count .FWD_HCRC_ERR (lp / 64)) ∧
  (∀ (d : Dev) (lp : Fin 1024) (cls : Fin 8) (x : RxTake), hcrcOk x.bytes = true → kindOk cls x.bytes = false →
    d.ingressFrame lp cls x = d.count .FWD_KIND_ERR (lp / 64)) ∧
  (∀ (d e : Dev) (lp : Fin 1024) (cls : Fin 8) (x : RxTake) (b : List Byte), b = x.bytes →
    hcrcOk b = true → kindOk cls b = true → fFormat b = 0 →
    e = d.pulse (lp / 64) 0x001 1 (some (lp % 64)) (some cls) (some (fJob b)) →
    e.placeBad lp b = true ∨ e.srcSpoof lp b = true ∨ e.jobAllows (fJob b) cls = false →
    d.ingressFrame lp cls x =
      if e.placeBad lp b then e.count .FWD_PLACE_ERR (lp / 64)
      else if e.srcSpoof lp b then e.count .FWD_SRC_SPOOF (lp / 64)
      else e.count .FWD_JOB_DENY (lp / 64)) ∧
  (∀ (d e : Dev) (lp : Fin 1024) (cls : Fin 8) (x : RxTake) (b : List Byte) (f : Machine.Frm), b = x.bytes →
    hcrcOk b = true → kindOk cls b = true → fFormat b = 0 → fKind b ≠ 0x03 →
    e = d.pulse (lp / 64) 0x001 1 (some (lp % 64)) (some cls) (some (fJob b)) →
    e.placeBad lp b = false → e.srcSpoof lp b = false → e.jobAllows (fJob b) cls = true → 2 ≤ cls.val →
    f = { bytes := b, cls := cls, gen := e.liveBank, stamp := x.stamp, src := lp, die := lp / 64,
          acct := lp % 64, here := x.cells, part := decide (x.cells < cellsOf b) } →
    d.ingressFrame lp cls x =
      if fDstType b = 1 ∧ fDst b / 65536 = e.place ∧ e.bit F.BUR_CTL.SPARE 0 = false then e.consume f
      else e.forwardFabric f)

/-- The job table and the rank map (R119, R126, R127, R131): a request that its sender may give and that is not repeated is
executed, stored and answered, SET_CONTROLLER into word 1 of the job on every die; an unknown command is answered 2; a denied
one is counted, raised and answered 1; a write of word 0 commits the four words where the rank range fits, and a rank-map write
keeps the bits that exist. -/
def Obligations.JobTables : Prop :=
  (∀ (s : State) (r : JobCtl), s.dev.JobReaches r → exec (.jobCtlUnknownCmd r) s = .next (s.withDev (
    (s.dev.jobTaken r).jobDone r 2 []))) ∧
  (∀ (s : State) (r : JobCtl) (v : Word), s.dev.JobReaches r →
    v = BitVec.ofNat 32 (bitsOf r.arg.toNat 25 24 * 2 ^ 30 + r.arg.toNat % 2 ^ 24) →
    exec (.setController r) s = .next (s.withDev (
      ((((s.dev.jobTaken r).wr .FWD_JOB r.target 1 v).updFwd fun x => { x with job := x.job.put 0 (key2 r.target 1) v
        }).genBump).jobDone r 0 []))) ∧
  (∀ (s : State) (r : JobCtl), s.dev.JobReaches r → exec (.rankMapWrite r) s = .next (s.withDev (
    if r.payload.length % 8 ≠ 0 ∨
        ((rankPairs r.payload).any fun p => ((s.dev.jobTaken r).rankEntry r.target p.1).isNone) then
      (s.dev.jobTaken r).jobDone r 3 []
    else ((s.dev.jobTaken r).each (rankPairs r.payload) fun d p =>
      match d.rankEntry r.target p.1 with
      | some e => d.rankMapPut e (BitVec.ofNat 32 p.2)
      | none => d).jobDone r 0 []))) ∧
  (∀ (s : State) (r : JobCtl), (s.dev.jobTaken r).jobAllowed r = false →
    exec (.setController r) s = .next (s.withDev ((((s.dev.jobTaken r).count .FWD_CTL_DENY).raise
      (41 + (s.dev.jobTaken r).master) 2 (instDie (26 + (s.dev.jobTaken r).master))).jobResp r 1 []))) ∧
  (∀ (s : State) (a : Access) (j : Fin 4096) (v : Word), s.dev.Reaches a .FWD_JOB j 0 →
    bitsOf (s.dev.rd .FWD_JOB j 2).toNat 17 0 + bitsOf (s.dev.rd .FWD_JOB j 3).toNat 18 0 ≤ 262144 →
    exec (.jobEntryCommit a j v) s = .next (s.withDev ((s.dev.jobPut j [v &&& 0xF0FF0000#32, s.dev.rd .FWD_JOB j 1,
      s.dev.rd .FWD_JOB j 2, s.dev.rd .FWD_JOB j 3]).genBump))) ∧
  (∀ (s : State) (a : Access) (e : Fin 262144) (v : Word), s.dev.Reaches a .FWD_RANK_MAP e 0 →
    exec (.rankMapRegWrite a e v) s = .next (s.withDev ((s.dev.wr .FWD_RANK_MAP e 0 (v &&& 0xB0FFFFFF#32)).genBump)))

/-- Withdrawal, load levels and learning (R138, R141, R145, R146, R148): each request takes the oldest of its tile; a hit sets
HIT and clears STALE, a move retargets an entry that is not static, an insert places a key that the owner does not hold; a copy
applies the oldest change; a sweep clears HIT, sets STALE and then removes an entry; a withdraw bit that goes to 1 has the
frames that wait at its port chosen another member for: one that is not multicast and whose transmission has not begun is taken
off, and sent again to the member chosen in its own bank, or dropped and counted. -/
def Obligations.LearningAndWithdrawal : Prop :=
  (∀ (s : State) (a : Access) (lp : Fin 1024) (d : Dev), s.dev.Reaches a .FWD_LP_WITHDRAW (lp / 32) 0 →
    d = s.dev.wr .FWD_LP_WITHDRAW (lp / 32) 0 (BitVec.ofNat 32
        (withBit (s.dev.rd .FWD_LP_WITHDRAW (lp / 32)).toNat (lp % 32) true)) →
    s.dev.withdrawn lp = false →
    exec (.lpWithdraw a lp) s = .next (s.withDev (d.withdrawQueues lp))) ∧
  (∀ (d : Dev) (lp : Nat), d.withdrawQueues lp = d.each (List.range 8) fun d c =>
    d.each ((d.lpQueue lp c).frames ++ (d.lpQueue lp c).spill) fun d fid =>
      match d.frm fid with
      | some f => if f.mcast || d.begun f fid then d else (d.removeFrm fid).reenqueue (lp / 64) fid f
      | none => d) ∧
  (∀ (d e : Dev) (t old e' n : Nat) (f : Machine.Frm), fFormat f.bytes = 0 → fDstType f.bytes = 0 → e' = fDst f.bytes / 4096 →
    d.memberChoice t f.gen e' f.cls true f.bytes = (.lp n, e) →
    d.reenqueue t old f = ((e.count .FWD_REENQ t).sendLp { f with die := t, acct := 69, reenq := true } n).moveRx t old
      e.core.nextFid) ∧
  (∀ (s : State) (t : Fin 16) (r : LearnReq) (rest : List LearnReq) (i : Nat) (e : LearnEnt) (d : Dev),
    s.dev.fwd.learnQ.at [] t = r :: rest → r.kind = 0 →
    d = (s.dev.updFwd fun w => { w with learnQ := w.learnQ.put [] t rest }) → d.ownerFind r.vid r.mac = some (i, e) →
    exec (.learnHitReport t) s = .next (s.withDev (d.learnChange t i (some { e with hit := true, stale := false })))) ∧
  (∀ (s : State) (t : Fin 16) (r : LearnReq) (rest : List LearnReq) (i : Nat) (e : LearnEnt) (d : Dev),
    s.dev.fwd.learnQ.at [] t = r :: rest → r.kind = 1 →
    d = (s.dev.updFwd fun w => { w with learnQ := w.learnQ.put [] t rest }) → d.ownerFind r.vid r.mac = some (i, e) →
    e.static = false →
    exec (.learnMoveRequest t) s = .next (s.withDev ((d.learnChange t i
      (some { e with leaf := false, target := r.lp, hit := true, stale := false })).count .FWD_LEARN_MOVE t))) ∧
  (∀ (s : State) (t : Fin 16) (r : LearnReq) (rest : List LearnReq) (i : Nat) (d : Dev),
    s.dev.fwd.learnQ.at [] t = r :: rest → r.kind = 2 →
    d = (s.dev.updFwd fun w => { w with learnQ := w.learnQ.put [] t rest }) → d.ownerFind r.vid r.mac = none →
    d.learnPlace r.vid r.mac = some i →
    exec (.learnInsertRequest t) s = .next (s.withDev (
      d.learnChange t i (some ⟨r.vid, r.mac, false, true, false, false, r.lp⟩)))) ∧
  (∀ (s : State) (t : Fin 16) (i : Nat) (new : Option LearnEnt) (rest : List (Nat × Option LearnEnt)),
    s.dev.fwd.learnUpd.at [] t = (i, new) :: rest →
    exec (.learnUpdateApply t) s = .next (s.withDev (s.dev.updFwd fun w =>
      { w with
        learnUpd := w.learnUpd.put [] t rest
        learnLag := if rest.any (fun u => u.1 == i) then w.learnLag.insert (key2 t i) new
          else w.learnLag.erase (key2 t i) }))) ∧
  (∀ (s : State) (t : Fin 16), exec (.ageSweep t) s = .next (s.withDev (
    if s.dev.bit F.FWD_AGE_CFG.AGE_EN 0 then
      s.dev.each (s.dev.fwd.learn.filter fun e => !e.2.static && learnOwner e.2.vid e.2.mac == t) fun d e =>
        if e.2.hit then d.learnChange t e.1 (some { e.2 with hit := false, stale := false })
        else if e.2.stale then (d.learnChange t e.1 none).count .FWD_AGE_REMOVE t
        else d.learnChange t e.1 (some { e.2 with stale := true })
    else s.dev)))

/-- Route banks (R149 to R152): a swap makes the other bank live, counts ROUTE_GEN and starts the drain; a swap while DRAINING
is refused, counted and raised; the drain ends where no die holds a cell of the old bank, and at its time-out every die discards
the old bank's frames that have not begun transmission. -/
def Obligations.RouteBanks : Prop :=
  (∀ (s : State) (a : Access), s.dev.Reaches a .FWD_BANK_CTL 0 0 → s.dev.bit F.FWD_BANK_CTL.DRAINING 0 = false →
    ∃ t, exec (.swapNow a) s = .next t ∧ t = s.withDev (
      ((s.dev.set F.FWD_BANK_CTL.LIVE_BANK 0 (1 - s.dev.liveBank)).set F.FWD_BANK_CTL.ROUTE_GEN 0
        ((s.dev.set F.FWD_BANK_CTL.LIVE_BANK 0 (1 - s.dev.liveBank)).get F.FWD_BANK_CTL.ROUTE_GEN 0 + 1)).setB
        F.FWD_BANK_CTL.DRAINING 0 true) ∧ t.dev.liveBank = 1 - s.dev.liveBank ∧
      t.dev.get F.FWD_BANK_CTL.ROUTE_GEN 0 = (s.dev.get F.FWD_BANK_CTL.ROUTE_GEN 0 + 1) % 65536) ∧
  (∀ (s : State) (a : Access), s.dev.Reaches a .FWD_BANK_CTL 0 0 → s.dev.bit F.FWD_BANK_CTL.DRAINING 0 = true →
    exec (.swapNow a) s = .next (s.withDev ((s.dev.count .FWD_SWAP_REFUSE_CNT).raise (41 + s.dev.master) 4
      (instDie (26 + s.dev.master))))) ∧
  (∀ s : State, s.dev.bit F.FWD_BANK_CTL.DRAINING 0 = true →
    (∀ m < 24, s.dev.drainCells m (1 - s.dev.liveBank) = 0) →
    exec .drainComplete s = .next (s.withDev (s.dev.setB F.FWD_BANK_CTL.DRAINING 0 false))) ∧
  (∀ s : State, s.dev.bit F.FWD_BANK_CTL.DRAINING 0 = true → exec .drainTimeout s = .next (s.withDev (
    (s.dev.each (List.range 24) fun d m => d.dropOld (1 - s.dev.liveBank) s.dev.begunUids m).setB F.FWD_BANK_CTL.DRAINING 0 false)))

/-- The indirect block (R153): READ, WRITE, INSERT, DELETE and SEARCH end with a STATUS, and CMD_DONE at their Desk: 1 for an
index out of range, 2 for a bank that accepts no writes, which is counted, 3 for a key not found, 5 for a reserved table; 0 with
the entry read, written, placed, removed or found. -/
def Obligations.IndirectBlock : Prop :=
  (∀ (s : State) (a : Access) (table : Fin 16) (bank : Bool) (n i k : Nat), k = a.deskB.toNat →
    s.dev.Reaches a .FWD_IND_CMD k 0 → indSize table = some n → i = s.dev.get F.FWD_IND_INDEX.INDEX k → i < n →
    exec (.fwdIndRead a table bank) s = .next (s.withDev (
      (s.dev.indReadTo k table bank.toNat i).indDone k 0 table bank 0))) ∧
  (∀ (s : State) (a : Access) (table : Fin 16) (bank : Bool) (k : Nat), k = a.deskB.toNat →
    s.dev.Reaches a .FWD_IND_CMD k 0 → indSize table = none →
    exec (.fwdIndRead a table bank) s = .next (s.withDev (s.dev.indDone k 0 table bank 5))) ∧
  (∀ (s : State) (a : Access) (table : Fin 16) (bank : Bool) (n i k : Nat), k = a.deskB.toNat →
    s.dev.Reaches a .FWD_IND_CMD k 0 → indSize table = some n → i = s.dev.get F.FWD_IND_INDEX.INDEX k → i < n →
    table.val ≠ 4 → exec (.fwdIndWrite a table bank) s = .next (s.withDev (
      if s.dev.bankWritable bank.toNat then ((s.dev.indWriteTo k table bank.toNat i).genBump).indDone k 1 table bank 0
      else (s.dev.count .FWD_LATE_WR_CNT).indDone k 1 table bank 2))) ∧
  (∀ (s : State) (a : Access) (e : LearnEnt) (i k : Nat) (b : Bool), k = a.deskB.toNat → s.dev.Reaches a .FWD_IND_CMD k 0 →
    bitAt (s.dev.indData k 2) 30 = true →
    e = { learnOfWords (s.dev.indData k 0) (s.dev.indData k 1) (s.dev.indData k 2) with
          static := true, hit := true, stale := false } →
    s.dev.ownerFind e.vid e.mac = none → s.dev.learnPlace e.vid e.mac = some i → b = s.dev.indBank k →
    exec (.fwdIndInsert a 4) s = .next (s.withDev (
      (((((s.dev.learnChange (learnOwner e.vid e.mac) i (some e)).learnSync).set F.FWD_IND_INDEX.INDEX k i).setIndLearn k
        e.words)).indDone k 2 4 b 0))) ∧
  (∀ (s : State) (a : Access) (e : LearnEnt) (k : Nat), k = a.deskB.toNat → s.dev.Reaches a .FWD_IND_CMD k 0 →
    e = learnOfWords (s.dev.indData k 0) (s.dev.indData k 1) 0 →
    exec (.fwdIndDelete a 4) s = .next (s.withDev (
      match s.dev.ownerFind e.vid e.mac with
      | some x => ((s.dev.learnChange (learnOwner e.vid e.mac) x.1 none).learnSync).indDone k 3 4 (s.dev.indBank k) 0
      | none => s.dev.indDone k 3 4 (s.dev.indBank k) 3))) ∧
  (∀ (s : State) (a : Access) (e : LearnEnt) (k : Nat), k = a.deskB.toNat → s.dev.Reaches a .FWD_IND_CMD k 0 →
    e = learnOfWords (s.dev.indData k 0) (s.dev.indData k 1) 0 →
    exec (.fwdIndSearch a 4) s = .next (s.withDev (
      match s.dev.ownerFind e.vid e.mac with
      | some x => ((s.dev.set F.FWD_IND_INDEX.INDEX k x.1).setIndLearn k x.2.words).indDone k 4 4 (s.dev.indBank k) 0
      | none => s.dev.indDone k 4 4 (s.dev.indBank k) 3))) ∧
  (∀ (d e : Dev) (k op table status : Nat) (bank : Bool), k < 2 → op < 8 → table < 16 → status < 8 →
    e = d.indDone k op table bank status →
    e.rd .FWD_IND_CMD k = BitVec.ofNat 32 (op * 2 ^ 28 + table * 2 ^ 24 + bank.toNat * 2 ^ 23 + status * 2 ^ 20) ∧
    bitAt (e.rd .DESK_IRQ_STAT k).toNat 4 = true)

/-- Frames on a mesh link (R18, R171, R172): a link direction in service sends one frame with its number, its cells and its
credits, and keeps the last 64 for replay; a frame whose CRC fails is counted and asked for, one taken already is discarded, one
beyond a missing frame is discarded and the missing one asked for once, and the one expected gives its credits, its requests and
its cells; a replay sends every stored frame from the one asked for. -/
def Obligations.MeshFrames : Prop :=
  (∀ (s : State) (die : Fin 24) (dir : Fin 4) (c r : Nat) (cells : List WireCell) (d : Dev) (e : MeshEnd) (m : MeshFrame),
    meshNbr die dir = some c → r = meshReg c (meshOpp dir) → s.dev.get F.XBAR_MESH_STAT.STATE r = 2 →
    (cells, d) = s.dev.meshFill die dir [] (meshCap (s.dev.get F.XBAR_MESH_STAT.GROUPS r)) → e = d.meshEnd die dir →
    m = { num := e.txNum, cells := cells, credits := e.credOut, replay := e.req, repair := e.repairOut } →
    exec (.meshFrameSend die dir) s = .next (s.withDev (
      (d.updEnd die dir fun e => { e with txNum := (e.txNum + 1) % 65536, req := none, repairOut := none,
                                          store := (e.store ++ [m]).drop ((e.store.length + 1) - 64) }).updCore fun k =>
        { k with wire := k.wire.upd [] (key2 die dir) (· ++ [m]) }))) ∧
  (∀ (s : State) (die : Fin 24) (dir : Fin 4) (par : List (Fin 1408)) (c : Nat) (m : MeshFrame) (rest : List MeshFrame)
    (d : Dev), meshNbr die dir = some c → s.dev.core.wire.at [] (key2 c (meshOpp dir)) = m :: rest →
    d = (s.dev.updCore fun x => { x with wire := x.wire.put [] (key2 c (meshOpp dir)) rest }).meshParity die dir
      (par.map Fin.val) → d.bur.nextMesh.contains (key2 die dir) = false →
    exec (.meshFrameReceived die dir true par) s = .next (s.withDev (
      (d.count .XBAR_MESH_CRC_ERR (meshReg die dir)).updEnd die dir fun e =>
        { e with rxDisc := true, req := some e.rxNum })) ∧
    exec (.meshFrameReceived die dir false par) s = .next (s.withDev (
      if m.num ≠ (d.meshEnd die dir).rxNum then
        if (d.meshEnd die dir).rxDisc ∨ ((d.meshEnd die dir).rxNum + 65536 - m.num) % 65536 < 32768 then d
        else d.updEnd die dir fun e => { e with rxDisc := true, req := some e.rxNum }
      else (d.updEnd die dir fun e =>
          { e with rxNum := (e.rxNum + 1) % 65536, rxDisc := false, req := none, returned := m.credits,
                   replayAsked := (match m.replay with | some r => some r | none => e.replayAsked),
                   repairAsked := (match m.repair with | some r => some r | none => e.repairAsked) }).each m.cells
        fun d w => d.meshCell die dir w))) ∧
  (∀ (s : State) (die : Fin 24) (dir : Fin 4) (c n r : Nat) (d : Dev), meshNbr die dir = some c →
    (s.dev.meshEnd die dir).replayAsked = some n → r = meshReg c (meshOpp dir) →
    d = (s.dev.count .XBAR_MESH_REPLAY r).pulse c 0x00B 1 (some (meshOpp dir)) none none →
    (s.dev.meshEnd die dir).lastReq ≠ some n →
    exec (.meshReplayRequest die dir) s = .next (s.withDev (
      (d.updEnd die dir fun e => { e with replayAsked := none, lastReq := some n, noProg := 1 }).updCore fun x =>
        { x with wire := x.wire.upd [] (key2 die dir) fun w =>
          w ++ (s.dev.meshEnd die dir).store.dropWhile fun m => m.num != n })))

/-- Retraining and repair of a mesh link (R16, R19, R172 to R174): a retrain that ends well returns the direction to UP with the
groups that are not retired, sends again from the frame last asked for, and finds the lanes named as failing; one that fails is
retried and counted, and the third within 1 s fails the link, STATE 4, which discards its cells, loses a Cabinet die that it
attached, and is raised; a lane in use that is found failing is named with a free spare and the frame 16 ahead; a repair agreed
steers a spare in the place of the lane, or retires the group of 64 lanes that holds the place, is counted and raised. -/
def Obligations.MeshRepairs : Prop :=
  (∀ (s : State) (die : Fin 24) (dir : Fin 4) (bad : List (Fin 1408)) (r c left : Nat) (d : Dev), r = meshReg die dir →
    s.dev.get F.XBAR_MESH_STAT.STATE r = 3 → left = 21 - (s.dev.meshEnd die dir).retired.length → left ≠ 0 →
    meshNbr die dir = some c →
    d = (((s.dev.set F.XBAR_MESH_STAT.STATE r 2).set F.XBAR_MESH_STAT.GROUPS r left).updEnd die dir fun e =>
      { e with retraining := false }) → ∃ t,
    exec (.meshRetrainDone die dir true bad) s = .next t ∧ t = s.withDev (
      (match (d.meshEnd c (meshOpp dir)).lastReq with
       | some n => d.updCore fun x => { x with
           wire := x.wire.upd [] (key2 c (meshOpp dir)) fun w =>
             w ++ (d.meshEnd c (meshOpp dir)).store.dropWhile fun (m : MeshFrame) => m.num != n }
       | none => d).each (bad.map Fin.val) fun d l => d.laneFails die dir l) ∧
      t.dev.get F.XBAR_MESH_STAT.STATE r = 2 ∧ t.dev.get F.XBAR_MESH_STAT.GROUPS r = left) ∧
  (∀ (s : State) (die : Fin 24) (dir : Fin 4) (bad : List (Fin 1408)) (r : Nat) (ts : List Nat) (d : Dev),
    r = meshReg die dir → s.dev.get F.XBAR_MESH_STAT.STATE r = 3 →
    ts = ((s.dev.meshEnd die dir).failTimes.filter fun t => decide (s.dev.since t ≤ 800000000)) ++ [s.dev.raw] →
    d = (s.dev.updEnd die dir fun e => { e with failTimes := ts }) → ∃ t,
    exec (.meshRetrainDone die dir false bad) s = .next t ∧ t = s.withDev (
      if 3 ≤ ts.length then (d.forceExpel 3 0 (instMesh die dir)).meshFail die dir
      else d.count .XBAR_MESH_RETRAIN r) ∧
      t.dev.get F.XBAR_MESH_STAT.STATE r = if 3 ≤ ts.length then 4 else 3) ∧
  (∀ (d e : Dev) (die dir l : Nat), d.laneIsBad (meshReg die dir) l = false → l < 1344 →
    (d.meshEnd die dir).failing = [] → (d.meshEnd die dir).repairOut = none → (d.meshEnd die dir).repair = none →
    e = d.laneFails die dir l →
    (e.meshEnd die dir).failing = [] ∧ (e.meshEnd die dir).repairOut =
      some { lane := l, spare := d.freeSpare die dir, at' := ((d.meshEnd die dir).rxNum + 16) % 65536 }) ∧
  (∀ (s : State) (die : Fin 24) (dir : Fin 4) (c : Nat) (m : MeshRepair) (ok : Bool) (d : Dev), meshNbr die dir = some c →
    (s.dev.meshEnd die dir).repairAsked = some m →
    (ok, d) = (s.dev.updEnd die dir fun e => { e with repairAsked := none }).tryExpel 2 (meshReg c (meshOpp dir))
      (instMesh c (meshOpp dir)) →
    exec (.meshRepairRequest die dir) s = .next (s.withDev (
      if ok then (d.updEnd die dir fun e => { e with repair := some m }).updEnd c (meshOpp dir) fun e =>
        { e with repair := some m }
      else d))) ∧
  (∀ (s : State) (die : Fin 24) (dir : Fin 4) (c r p : Nat) (m : MeshRepair) (d : Dev), meshNbr die dir = some c →
    (s.dev.meshEnd die dir).repair = some m → r = meshReg die dir → p = (s.dev.meshEnd die dir).placeOf m.lane →
    d = (((((s.dev.updEnd die dir fun e => { e with repair := none, steer := e.steer.erase m.lane }).updEnd c (meshOpp dir)
      fun e => { e with repair := none }).count .XBAR_MESH_REPAIR r).raise (meshUnit die) 5 (instMesh die dir)).laneBad r
      m.lane 1) →
    (∀ x, m.spare = some x → exec (.meshLaneSwitch die dir) s = .next (s.withDev (
      ((d.updEnd die dir fun e => { e with steer := e.steer.insert x (p + 1) }).set F.XBAR_MESH_STAT.SPARES r
        (d.get F.XBAR_MESH_STAT.SPARES r - 1)).nameLane die dir))) ∧
    (m.spare = none → (s.dev.meshEnd die dir).retired.contains (p / 64) = false →
      1 < ((d.laneBad r (p / 64 * 64) 64).updEnd die dir fun e => { e with retired := e.retired ++ [p / 64] }).get
        F.XBAR_MESH_STAT.GROUPS r →
      exec (.meshLaneSwitch die dir) s = .next (s.withDev (
        (((d.laneBad r (p / 64 * 64) 64).updEnd die dir fun e => { e with retired := e.retired ++ [p / 64] }).set
          F.XBAR_MESH_STAT.GROUPS r (((d.laneBad r (p / 64 * 64) 64).updEnd die dir fun e =>
            { e with retired := e.retired ++ [p / 64] }).get F.XBAR_MESH_STAT.GROUPS r - 1)).nameLane die dir))))

/-- Cells inside a die (R157 to R160, R163, R167, R168, R425): in a cycle the input lanes feed different intermediates, and a
lane sends a staged cell only where the intermediate holds fewer than 128 and the FIFO of its group is below the cap; the
resequencer releases the cell next in order, for which the cycles pass that bring it, and declares one lost that has not come in
RESEQ_TO while a later one waits, counted and raised; the oldest reserve cell is promoted, which returns one credit; an
uncorrectable error poisons a cell, raised: a frame begun at a port is marked, counted once, one not begun is discarded and
counted; the oldest spilled frame is read back into the queue, lost with an error, or discarded at a port that is down. -/
def Obligations.CellBuffers : Prop :=
  (∀ n i j : Nat, i < 112 → j < 112 → stageOne n i = stageOne n j → i = j) ∧
  (∀ (c : CoreSt) (t lane m : Nat) (x : Staged), c.pick t lane m = some x → c.midFill t m < 128 ∧
    (c.fifo t m x.grp).length < groupCap x.grp ∧ x ∈ (c.lanes.at [] (key2 t lane)).take 64) ∧
  (∀ (s : State) (t : Fin 16) (lane : Fin 112) (grp : Fin 22) (cls : Fin 8) (n : Nat) (d : Dev),
    d = s.dev.xbarTo t lane grp cls →
    (∀ x, (d.triple t lane grp cls).cellAt (d.triple t lane grp cls).relSeq = some x →
      exec (.reseqRelease t lane grp cls (n + 1)) s = .next (s.withDev (
        ((d.updTriple t lane grp cls fun t => { t.take t.relSeq with relSeq := (t.relSeq + 1) % 65536 }).land
          x.1).reseqRelease t lane grp cls n))) ∧
    ((d.triple t lane grp cls).cellAt (d.triple t lane grp cls).relSeq = none →
      exec (.reseqRelease t lane grp cls (n + 1)) s = .next (s.withDev d))) ∧
  (∀ (s : State) (t : Fin 16) (lane : Fin 112) (grp : Fin 22) (cls : Fin 8) (fid idx : Nat) (d : Dev),
    d = s.dev.xbarRun (max 1 (s.dev.get F.XBAR_CFG.RESEQ_TO t)) →
    (d.triple t lane grp cls).cells.any (fun x => x.1 != (d.triple t lane grp cls).relSeq) = true →
    d.awaited t lane grp cls = some (fid, idx) →
    exec (.reseqTimeout t lane grp cls) s = .next (s.withDev (
      ((((d.loseAwaited t lane grp cls).markLost fid idx).count .XBAR_RESEQ_TO t).raise (meshUnit t) 2
        (instDie t)).reseqRelease t lane grp cls (d.triple t lane grp cls).cells.length))) ∧
  (∀ (d : Dev) (t lane grp cls : Nat), ((d.loseAwaited t lane grp cls).triple t lane grp cls).relSeq =
    ((d.triple t lane grp cls).relSeq + 1) % 65536) ∧
  (∀ (s : State) (die : Fin 24) (src : Fin 70) (ci : Fin 9) (fid : Nat) (rest : List Nat) (f : Machine.Frm) (d : Dev),
    (s.dev.acct die src ci).order = fid :: rest → s.dev.frm fid = some f → f.prom < f.here →
    (16 ≤ die.val → ci.val = 2 → s.dev.bufFull die = false) →
    (s.dev.acct die src ci).shared < s.dev.limit die (if ci.val = 8 then 4 else ci.val) →
    s.dev.sharedUsed die < s.dev.sharedSize die →
    d = ((s.dev.putFrm fid { f with prom := f.prom + 1 }).updAcct die src ci fun a =>
      { a with resv := a.resv - 1, shared := a.shared + 1,
               order := if f.prom + 1 = f.cells then a.order.drop 1 else a.order }) →
    exec (.cellPromotion die src ci) s = .next (s.withDev (
      if f.copy then d.set F.XBAR_SHARED_USED.CELLS die (d.sharedUsed die + 1)
      else (d.set F.XBAR_SHARED_USED.CELLS die (d.sharedUsed die + 1)).returnCredit die src ci 1))) ∧
  (∀ (s : State) (fid idx : Nat) (f : Machine.Frm) (d : Dev), s.dev.frm fid = some f → f.sent ≤ idx → f.lost = false →
    d = s.dev.raise (meshUnit f.die) (if f.die < 16 then 1 else 12) (instDie f.die) →
    (f.outq < 64 → d.begun f fid = true → exec (.poisonMark fid idx) s = .next (s.withDev (
      if f.poisoned = [] then (d.putFrm fid { f with poisoned := f.poisoned ++ [idx] }).count .XBAR_POISON f.die
      else d.putFrm fid { f with poisoned := f.poisoned ++ [idx] }))) ∧
    (d.begun f fid = false → idx = 0 ∨ f.dest.kind = 0 ∨ f.mcast = true →
      exec (.poisonMark fid idx) s = .next (s.withDev ((d.removeFrm fid).count .XBAR_POISON f.die))) ∧
    (64 ≤ f.outq → 0 < f.sent →
      exec (.poisonMark fid idx) s = .next (s.withDev (d.putFrm fid { f with poisoned := f.poisoned ++ [idx] })))) ∧
  (∀ (s : State) (lp : Fin 1024) (cls : Fin 8) (fid : Nat) (rest : List Nat) (f : Machine.Frm),
    (s.dev.lpQueue lp cls).spill = fid :: rest → s.dev.frm fid = some f → f.released ≠ 0 →
    s.dev.earlierComing fid f = false →
    exec (.spillReadback lp cls true) s = .next (s.withDev (
      ((s.dev.removeFrm fid).count .XBAR_SPILL_ERR (lp / 64)).raise (lp / 64) 1 (instDie (lp / 64)))) ∧
    (s.dev.lpUp lp = false →
      exec (.spillReadback lp cls false) s = .next (s.withDev ((s.dev.removeFrm fid).count .LNK_DOWN_DROP lp))) ∧
    (s.dev.lpUp lp = true → (s.dev.lpQueue lp cls).depth + f.cells ≤ 256 ∨ (s.dev.lpQueue lp cls).depth = 0 →
      exec (.spillReadback lp cls false) s = .next (s.withDev (
        (s.dev.putFrm fid { f with spilled := false, deep := true }).updQueue (lp / 64) (lp % 64) cls fun q =>
          ({ q with slots := q.slots - (f.cells + 1), spill := rest, frames := q.frames ++ [fid] }.grow f.cells).settle
            (s.dev.spillOff (lp / 64))))))

/-- Policers, shapers, load levels and samples (R139, R181 to R183, R190, R194, Table 8.2): a policer entry is pending where its
rules hold, else raised and left; a frame is red beyond the peak bucket and yellow beyond the committed one, and takes its
tokens; a refill adds 256 × CIR and 256 × PIR up to the caps, and both buckets are full when the policer is enabled; the load
level of a queue is min(15, the bits of its depth); a sample writes a record for each entry of the set. -/
def Obligations.TrafficManagement : Prop :=
  (∀ (s : State) (a : Access) (t : Fin 16) (n : Fin 1024) (v : Word) (i : Nat) (ws : List Word), i = 1024 * t.val + n.val →
    s.dev.Reaches a .TM_POL i 0 →
    ws = [v &&& 0x80000000#32, s.dev.rd .TM_POL i 1, s.dev.rd .TM_POL i 2, s.dev.rd .TM_POL i 3] →
    exec (.policerWord0Write a t n v) s = .next (s.withDev (
      if polRulesOk (s.dev.rd .TM_POL i 1).toNat (s.dev.rd .TM_POL i 2).toNat (s.dev.rd .TM_POL i 3).toNat then
        (s.dev.wr .TM_POL i 0 (v &&& 0x80000000#32)).updTm fun m => { m with polPend := m.polPend.put [] (key2 t n) ws }
      else s.dev.raise (41 + a.deskB.toNat) 3 (instDie t)))) ∧
  (∀ (k : Buckets) (b : Int) (y : Bool), mark k b y =
    if k.p < b then (2, k) else if y = true ∨ k.c < b then (1, { c := k.c, p := k.p - b })
    else (0, { c := k.c - b, p := k.p - b })) ∧
  (∀ (d : Dev) (t n : Nat) (k : Buckets), d.tm.polPend.at [] (key2 t n) = [] →
    k.c = min (8000 * (256 * bitsOf (d.polWord t n 3) 15 0 : Nat) : Int)
      ((d.polBuckets t n).c + (256 * bitsOf (d.polWord t n 1) 25 0 : Nat)) →
    k.p = min (8000 * (256 * bitsOf (d.polWord t n 3) 31 16 : Nat) : Int)
      ((d.polBuckets t n).p + (256 * bitsOf (d.polWord t n 2) 25 0 : Nat)) →
    d.refillPol t n = d.updTm fun m => { m with pol := m.pol.put {} (key2 t n) k }) ∧
  (∀ (s : State) (t : Fin 16), exec (.refillInstant t) s = .next (s.withDev (s.dev.refill t))) ∧
  (∀ (s : State) (t : Fin 16), keysOf s.dev.tm.polPend t = [] → keysOf s.dev.tm.polCfg t = [] →
    keysOf s.dev.tm.shpPend t = [] → keysOf s.dev.tm.shpCfg t = [] → keysOf s.dev.core.queues t = [] →
    exec (.refillInstant t) s = .next (s.withDev (s.dev.each (List.range 64) fun d l =>
      d.updTm fun m => { m with ovh := m.ovh.put 0 (key2 t l) (d.rd .TM_LP_OVH (64 * t + l)) }))) ∧
  (∀ (s : State) (t : Fin 16), exec (.loadLevelPublish t) s = .next (s.withDev (
    (s.dev.updFwd fun w => { w with level :=
      (w.level.keys.filter fun k => (Nat.unpair k).1 / 64 == t.val).foldl (fun l k => Tbl.erase l k) w.level }).each
      ((keysOf s.dev.core.queues t).filter fun k => (Nat.unpair k).1 < 64) fun d k =>
        d.updFwd fun w => { w with
          level := w.level.put 0 (key2 (64 * t + (Nat.unpair k).1) (Nat.unpair k).2)
            (levelOf (d.queue t (Nat.unpair k).1 (Nat.unpair k).2).whole) }))) ∧
  (∀ n : Nat, levelOf n = min 15 (Nat.size n)) ∧
  (∀ (s : State) (t : Fin 16), exec (.sampleInstant t) s = .next (s.withDev (
    if s.dev.bit F.TM_SMP_CFG.EN t then s.dev.each (List.range 64) fun d n => d.sampleOne t n else s.dev)))

/-- A contribution at a Cabinet die (Table 10.6, R243, R244, R254): a bad FCS and an old frame are counted, a frame without a
context is counted, then one of another epoch, one of another job, member or format, and one whose ATTEMPT lies below the
filter; a data frame of an open chunk inside the window is accumulated, copied to the shadow and to the fed spine, restarts the
straggler timer of the lowest open chunk, and completes the chunk where every part has arrived. A frame of another TAG for an
IDLE Drawer is a claim, which the arbiter grants where it fits, with the state, rank and TAG of a new operation, or refuses with
BACKOFF, counted (R25, R233 to R236). -/
def Obligations.Contributions : Prop :=
  (∀ (s : State) (die : Fin 8) (c : Contrib) (d : Dev), d = (s.dev.takeInbox (16 + die) 1 fun f => contribOf f == c).2 →
    d.cabUp die = true → d.namesOpen die c = false → c.fcsOk = false →
    exec (.contribReceived die c) s = .next (s.withDev (d.count .CAB_FCS_DROP die))) ∧
  (∀ (s : State) (die : Fin 8) (c : Contrib) (d : Dev), d = (s.dev.takeInbox (16 + die) 1 fun f => contribOf f == c).2 →
    d.cabUp die = true → d.namesOpen die c = false → c.fcsOk = true → d.tooOld c.stamp.toNat = true →
    exec (.contribReceived die c) s = .next (s.withDev (d.count .CAB_AGE_DROP die))) ∧
  (∀ (s : State) (die : Fin 8) (c : Contrib) (d : Dev), d = (s.dev.takeInbox (16 + die) 1 fun f => contribOf f == c).2 →
    d.cabUp die = true → c.fcsOk = true → d.tooOld c.stamp.toNat = false → c.poisoned = false →
    d.ctx die c.drawer = none → d.get F.DRW_CFG.STATE c.drawer ≠ 5 →
    exec (.contribReceived die c) s = .next (s.withDev (d.count .CAB_DRW_NOCTX die))) ∧
  (∀ (s : State) (die : Fin 8) (c : Contrib) (d : Dev) (x : DrwCtx),
    d = (s.dev.takeInbox (16 + die) 1 fun f => contribOf f == c).2 → d.cabUp die = true → c.fcsOk = true →
    d.tooOld c.stamp.toNat = false → c.poisoned = false → d.ctx die c.drawer = some x → x.shadow = false →
    x.state = 4 ∨ x.epoch ≠ c.epoch.toNat →
    exec (.contribReceived die c) s = .next (s.withDev (d.count .CAB_EPOCH_DROP die))) ∧
  (∀ (s : State) (die : Fin 8) (c : Contrib) (d : Dev) (x : DrwCtx),
    d = (s.dev.takeInbox (16 + die) 1 fun f => contribOf f == c).2 → d.cabUp die = true → c.fcsOk = true →
    d.tooOld c.stamp.toNat = false → c.poisoned = false → d.ctx die c.drawer = some x → x.shadow = false →
    x.state = 3 → x.epoch = c.epoch.toNat → d.get F.DRW_CFG.JOB c.drawer = c.job → x.members.contains c.contrib.val = true →
    c.count = false → d.formatOk c.drawer x c = true → x.tag = c.tag.toNat →
    exec (.contribReceived die c) s = .next (s.withDev (d.contribRest die c.drawer c
      (match (s.dev.takeInbox (16 + die) 1 fun f => contribOf f == c).1 with
       | some f => f.bytes
       | none => contribBytes d.place c)))) ∧
  (∀ (d : Dev) (die h : Nat) (c : Contrib) (b : List Byte) (x : DrwCtx), d.ctx die h = some x →
    c.attempt.val < x.actMin.at 0 c.contrib.val →
    d.contribRest die h c b = d.count .CAB_ATTEMPT_DROP die) ∧
  (∀ (d e f : Dev) (die h n : Nat) (c : Contrib) (b : List Byte) (x : DrwCtx) (ch ch' : Chunk), d.ctx die h = some x →
    x.actMin.at 0 c.contrib.val ≤ c.attempt.val → c.count = false → x.phase = 0 → n = c.chunk.toNat →
    x.start ≤ n ∧ n < x.limit ∧ n < d.opChunks h x → x.chunks.find n = some ch → ch.retry = false →
    (d.desc h).op ≠ 10 → ch.cnt.at 0 c.contrib.val + c.payload.length ≤
      (d.partOf h x n c.contrib).2 - (d.partOf h x n c.contrib).1 →
    d.bur.nextShelf.contains h = false → d.bur.nextUe.contains die = false → e = (d.feedShadow die h (.frame c)).spineFeed die c b →
    (ch', f) = e.accumulate die h ch c →
    d.contribRest die h c b = ((f.updCtx die h fun x => { x with
      chunks := x.chunks.insert n ch',
      strag := if n = x.w ∧ x.strag = none then some f.raw else x.strag }).tryComplete die h n).wantAlloc die h) ∧
  (∀ (s : State) (die : Fin 8) (c : Contrib) (d : Dev) (x : DrwCtx),
    d = (s.dev.takeInbox (16 + die) 1 fun f => contribOf f == c).2 → d.cabUp die = true → c.fcsOk = true →
    d.tooOld c.stamp.toNat = false → c.poisoned = false → d.ctx die c.drawer = some x → x.shadow = false →
    x.epoch = c.epoch.toNat → d.get F.DRW_CFG.JOB c.drawer = c.job → x.members.contains c.contrib.val = true →
    (if c.count then countFormatOk (d.kind c.drawer) c else d.formatOk c.drawer x c) = true →
    (x.state = 2 → x.lastTag = some c.tag.toNat →
      exec (.contribReceived die c) s = .next (s.withDev (d.count .CAB_ATTEMPT_DROP die))) ∧
    (x.state = 2 → x.lastTag ≠ some c.tag.toNat → (d.claim die c).grantedTag die c = false →
      exec (.contribReceived die c) s = .next (s.withDev (d.claim die c))) ∧
    (x.state = 3 → x.tag ≠ c.tag.toNat → exec (.contribReceived die c) s = .next (s.withDev (
      d.refuseClaim die c.drawer (d.claimRank c.drawer) c)))) ∧
  (∀ (d e : Dev) (die : Nat) (c : Contrib), d.waitingClaims die = [] → e = d.arbiter die [c] →
    d.claim die c = if e.grantedTag die c then e else e.refuseClaim die c.drawer (e.claimRank c.drawer) c) ∧
  (∀ (d e : Dev) (die r : Nat) (c : Contrib) (x : DrwCtx), d.ctx die c.drawer = some x → x.state = 2 →
    (d.claimFits die c.drawer r x = false → d.grantClaim die r c = d) ∧
    (d.claimFits die c.drawer r x = true →
      e = ((((d.putCtx die c.drawer (d.claimed c.drawer r c.tag.toNat x)).count .CAB_CLAIM_GRANT die).pulse (16 + die) 0x021 1
        none none (some c.job)).updCab fun k => { k with rr := k.rr.put 0 (key2 die r) ((x.slot + 1) % 512) }) →
      d.grantClaim die r c = (((e.feedShadow die c.drawer (.grant c.tag.toNat
        (match e.ctx die c.drawer with | some y => y.start | none => 0))).settle die c.drawer).wantAlloc die c.drawer))) ∧
  (∀ (d : Dev) (h r tag : Nat) (c y : DrwCtx), y = d.claimed h r tag c → y.state = 3 ∧ y.rank = r ∧ y.tag = tag ∧
    y.limit - y.start ≤ d.claimChunks h ∧
    (c.tag ≠ tag → y.start = 0 ∧ y.w = 0 ∧ y.limit = d.claimChunks h ∧ y.released = c.relNext)) ∧
  (∀ (d e : Dev) (die h r i a : Nat) (c : Contrib) (x : DrwCtx), d.ctx die h = some x → x.pendTag = some c.tag.toNat →
    i = c.contrib.val → a = c.attempt.val → x.pendMin.at 0 i ≤ a →
    e = (d.updCtx die h fun y => if y.pendTag = some c.tag.toNat then y
      else { y with pendTag := some c.tag.toNat, pendMin := [] }) →
    e.ctx die h = some x ∧ d.refuseClaim die h r c = ((((e.collStatus die (replyType c.srcType) c.src.toNat c.job h x.epoch i
      c.tag.toNat c.chunk.toNat a 1 (min a 9) 0).updCtx die h fun x =>
        { x with pendMin := x.pendMin.put 0 i (min (a + 1) 15) }).count .CAB_CLAIM_REFUSE (8 * die + r)).pulse (16 + die)
          0x022 1 none none (some c.job)))

/-- Commands on a Drawer (R205, R228, R230, R240, R247, Table 10.14): each runs, stores its OP, status and handle in DRW_CMD and
its argument in DRW_CMD_ARG, and raises CMD_DONE; OPEN seats the handle in IDLE and steers it, CLOSE of an IDLE handle frees it
and takes its context off the die, ABORT advances the epoch, SHADOW_OPEN marks the handle and seats a shadow, which an ACTIVE
Drawer feeds from its next operation on; configuration is written in FREE and a later write is counted; a weight that an open
Drawer holds is not written. -/
def Obligations.DrawerCommands : Prop :=
  (∀ (s : State) (a : Access) (h : Fin 4096), s.dev.Reaches a .DRW_CMD 0 0 →
    exec (.drwOpen a h) s = .next (s.withDev ((((s.dev.openDrawer h).2.wr .DRW_CMD 0 0 (BitVec.ofNat 32
      (0 * 2 ^ 28 + (s.dev.openDrawer h).1.1 * 2 ^ 16 + h))).wr .DRW_CMD_ARG 0 0 (BitVec.ofNat 32
        (s.dev.openDrawer h).1.2)).irq a.deskB.toNat 4)) ∧
    exec (.drwClose a h) s = .next (s.withDev ((((s.dev.closeDrawer h).2.wr .DRW_CMD 0 0 (BitVec.ofNat 32
      (1 * 2 ^ 28 + (s.dev.closeDrawer h).1.1 * 2 ^ 16 + h))).wr .DRW_CMD_ARG 0 0 (BitVec.ofNat 32
        (s.dev.closeDrawer h).1.2)).irq a.deskB.toNat 4)) ∧
    exec (.drwAbort a h) s = .next (s.withDev ((((s.dev.abortDrawer h).2.wr .DRW_CMD 0 0 (BitVec.ofNat 32
      (2 * 2 ^ 28 + (s.dev.abortDrawer h).1.1 * 2 ^ 16 + h))).wr .DRW_CMD_ARG 0 0 (BitVec.ofNat 32
        (s.dev.abortDrawer h).1.2)).irq a.deskB.toNat 4)) ∧
    exec (.drwShadowOpen a h) s = .next (s.withDev ((((s.dev.shadowOpen h).2.wr .DRW_CMD 0 0 (BitVec.ofNat 32
      (3 * 2 ^ 28 + (s.dev.shadowOpen h).1.1 * 2 ^ 16 + h))).wr .DRW_CMD_ARG 0 0 (BitVec.ofNat 32
        (s.dev.shadowOpen h).1.2)).irq a.deskB.toNat 4)) ∧
    exec (.drwShadowClose a h) s = .next (s.withDev ((((s.dev.shadowClose h).2.wr .DRW_CMD 0 0 (BitVec.ofNat 32
      (4 * 2 ^ 28 + (s.dev.shadowClose h).1.1 * 2 ^ 16 + h))).wr .DRW_CMD_ARG 0 0 (BitVec.ofNat 32
        (s.dev.shadowClose h).1.2)).irq a.deskB.toNat 4))) ∧
  (∀ (d : Dev) (h slot : Nat), d.drwState h = 0 → d.deskChecks h = none → d.dieChecks (d.drwDie h) h = none →
    d.freeSlot (d.drwDie h) = some slot →
    d.openDrawer h = ((0, 0), ((((((((d.set F.DRW_CFG.TAG h 0).set F.DRW_CFG.START h 0).set F.DRW_CFG.W h 0).set
      F.DRW_CFG.EPOCH h 0).set F.DRW_CFG.STATE h 2).seat (d.drwDie h) h slot 0 0 0 none).steer h
        (some (d.drwDie h))))) ∧ (d.openDrawer h).2.drwState h = 2 ∧
    ∃ c, (d.openDrawer h).2.ctx (d.drwDie h) h = some c ∧ c.slot = slot ∧ c.state = 2 ∧ c.epoch = 0 ∧ c.shadow = false) ∧
  (∀ (d : Dev) (h : Nat), d.drwState h = 2 → (d.closeDrawer h).1 = (0, 0) ∧ (d.closeDrawer h).2.drwState h = 0 ∧
    (d.closeDrawer h).2.ctx (d.drwDie h) h = none) ∧
  (∀ (d : Dev) (h : Nat), d.drwState h ≠ 2 → d.drwState h ≠ 6 → d.closeDrawer h = ((3, d.drwState h), d)) ∧
  (∀ (d e : Dev) (h k slot : Nat) (c : DrwCtx), d.drwState h = 2 ∨ d.drwState h = 3 → d.bit F.DRW_CFG.SHADOWED h = false →
    k = d.get F.DRW_CFG.SHADOW_DIE h → k ≠ d.drwDie h → d.cabReach k = true → d.tooLarge k h = false →
    d.window h * d.chunkShelves h ≤ d.shelfFree k (d.desc h).exact → d.freeSlot k = some slot →
    d.ctx (d.drwDie h) h = some c → e = (d.shadowOpen h).2 →
    (d.shadowOpen h).1 = (0, 0) ∧ e.bit F.DRW_CFG.SHADOWED h = true ∧
    (∃ x, e.ctx k h = some x ∧ x.shadow = true ∧ x.slot = slot ∧ x.epoch = c.epoch ∧ x.tag = c.tag ∧ x.members = c.members) ∧
    ∃ x, e.ctx (d.drwDie h) h = some x ∧ x.feeds = decide (d.drwState h = 2)) ∧
  (∀ (d : Dev) (h : Nat), d.drwState h ≠ 0 → d.openDrawer h = ((3, d.drwState h), d)) ∧
  (∀ (d : Dev) (h : Nat) (c : DrwCtx), d.drwState h ≠ 0 → d.drwState h ≠ 1 → d.drwState h ≠ 5 → d.drwState h ≠ 6 →
    d.ctx (d.drwDie h) h = some c → d.epochFree c = true →
    d.abortDrawer h = ((0, (c.epoch + 1) % 256), d.abortCtx (d.drwDie h) h)) ∧
  (∀ (s : State) (a : Access) (addr : BitVec 26) (v : Word) (h w : Nat),
    decodeAddr a.deskB.toNat addr.toNat = some (.DRW_CFG, h, w) → decodeAddr 0 addr.toNat = some (.DRW_CFG, h, w) →
    s.dev.Reaches a .DRW_CFG h w → s.dev.drwState h ≠ 6 →
    exec (.drwCfgWrite a addr v) s = .next (s.withDev (
      if s.dev.drwState h = 0 then s.dev.writeRw .DRW_CFG h w v else s.dev.count .DRW_LATE_WR))) ∧
  (∀ (s : State) (a : Access) (die : Fin 8) (e : Fin 65536) (v : Word), s.dev.Reaches a .CAB_WEIGHT (65536 * die + e) 0 →
    exec (.weightWrite a die e v) s = .next (s.withDev (
      if s.dev.weightHeld die e then s.dev.count .CAB_WEIGHT_LATE_WR die
      else (s.dev.wr .CAB_WEIGHT (65536 * die + e) 0 v).genBump)))

/-- Failure and recovery of a Drawer (R229, R242, R244, R246, R248): an open chunk of an ACTIVE Drawer that fails is counted,
raised and retried on its first failure; on a later one, or in an epoch that a replay began, the Drawer waits for a replay and
the chunk is lost; a replay advances the epoch, clears the open chunks and restarts at W in IDLE; the Desks take the oldest
record of a die, with its epoch and its released state; every handle of a lost die whose epoch may advance is placed again in
ascending order, at the epoch after the Desks' copy, or FAILED where no die takes it; a shadow takes its oldest item, whose
cells of credit return to the die that sent it. -/
def Obligations.DrawerRecovery : Prop :=
  (∀ (s : State) (die : Fin 8) (h : Fin 4096) (n : BitVec 24) (c : DrwCtx) (ch f : Chunk) (d : Dev), s.dev.ctx die h = some c →
    c.shadow = false → (s.dev.outChunks die h).find? (fun o => o.chunk == n.toNat) = none →
    c.chunks.find n.toNat = some ch → f = { rx := ch.rx, spilled := ch.spilled, retry := true, failed := true, got := ch.got } →
    d = (s.dev.count .CAB_CHUNK_FAIL die).raise (32 + die) 1 (instDrawer h) n.toNat →
    (ch.failed = false → c.begun ≠ 1 → c.state = 3 → exec (.shelfUncorrectedError die h n) s = .next (s.withDev (
      ((d.putCtx die h { c with chunks := c.chunks.insert n.toNat f }).feedShadow die h
          (.retry n.toNat)).statusAll die h n.toNat 4 n.toNat))) ∧
    (ch.failed = true ∨ c.begun = 1 ∨ c.state ≠ 3 → exec (.shelfUncorrectedError die h n) s = .next (s.withDev (
      d.putCtx die h { c with replayWait := true, chunks := c.chunks.insert n.toNat { f with dead := true } })))) ∧
  (∀ (s : State) (die : Fin 8) (h : Fin 4096) (c c' : DrwCtx), s.dev.ctx die h = some c → c.replayWait = true →
    s.dev.epochFree c = true → c.state = 3 → c.phase = 0 →
    c' = { c.advance s.dev.raw 1 with state := 2, start := c.w, limit := 0, chunks := [], done := [], actMin := [],
                                      strag := none, counts := [], entries := 0, phase := 0 } →
    exec (.drawerLevelReplay die h) s = .next (s.withDev (
      ((((s.dev.feedShadow die h (.replay c'.epoch c'.start)).putCtx die h c').wantAlloc die h).statusAll die h c'.w 3
        c'.w).count .CAB_DRW_REPLAY die))) ∧
  (∀ c : DrwCtx, ∀ now b : Nat, (c.advance now b).epoch = (c.epoch + 1) % 256 ∧ (c.advance now b).epochAt = some now ∧
    (c.advance now b).replayWait = false ∧ (c.advance now b).w = c.w) ∧
  (∀ (s : State) (die : Fin 8) (m : MirRec) (rest : List MirRec), s.dev.cab.mir.at [] die = m :: rest →
    exec (.drawerMirrorRecord die) s = .next (s.withDev (
      (s.dev.updCab fun k => { k with mir := k.mir.upd [] die (·.drop 1) }).takeRecord die m))) ∧
  (∀ (d : Dev) (die : Nat) (m : MirRec), d.get F.DRW_CFG.STATE m.handle = 2 ∨ d.get F.DRW_CFG.STATE m.handle = 3 →
    d.drwDie m.handle = die →
    d.takeRecord die m = (((((d.set F.DRW_CFG.STATE m.handle m.state).set F.DRW_CFG.START m.handle m.start).set
      F.DRW_CFG.TAG m.handle m.tag).set F.DRW_CFG.W m.handle m.w).set F.DRW_CFG.EPOCH m.handle m.epoch).updCab
        (fun k => { k with released := k.released.put (false, false) m.handle (m.released, m.relNext) }) ∧
    (d.takeRecord die m).get F.DRW_CFG.EPOCH m.handle = m.epoch % 256 ∧
    (d.takeRecord die m).cab.released.at (false, false) m.handle = (m.released, m.relNext)) ∧
  (∀ (s : State) (die : Fin 8), exec (.failoverReplace die) s = .next (s.withDev (
    s.dev.each ((List.range 4096).filter fun h => s.dev.get F.DRW_CFG.STATE h == 5 && s.dev.drwDie h == die.val &&
      s.dev.advFree h) fun d h => d.replaceAt h (d.target h)))) ∧
  (∀ (d : Dev) (h k : Nat) (own : Bool) (e : Dev), e = d.steer h none →
    d.replaceAt h none = (((e.dropShadow h).set F.DRW_CFG.STATE h 6).statusFailed h).reformReplaced h 4 [] ∧
    d.replaceAt h (some (k, own)) = e.replaceOn h k (e.replaceSlot k h own) ((e.get F.DRW_CFG.EPOCH h + 1) % 256)
      (e.get F.DRW_CFG.W h) (e.cab.released.at (false, false) h)) ∧
  (∀ (s : State) (die : Fin 8) (m : ShMsg) (rest : List ShMsg), s.dev.cab.stream.at [] die = m :: rest →
    exec (.shadowStreamReceived die) s = .next (s.withDev (
      ((s.dev.updCab fun k => { k with stream := k.stream.upd [] die (·.drop 1) }).creditShadow m.from' die
        m.item.cells).shadowItem die m)))

/-- The arbiter, the output stage and the notices of a Cabinet die (R234, R235, R239, R241, R255, R257, R263, R268, R292): the
first allocation in rank order that fits is granted; an idle chunk is spilled for a request that only free shelves hold back,
and returns where there is room; the oldest output leaves; a release marks the operation under way, or the next one of an IDLE
Drawer, and settles the handle on every die that holds it; a straggler is raised, counted and named to a coordinator that a
COLL_STATUS reaches; a notice is numbered and carries the LIMIT and W of the time it is sent; it is sent again, and after 100
transmissions it is dropped, counted and raised. -/
def Obligations.CabinetEngine : Prop :=
  (∀ (s : State) (die : Fin 8) (h : Nat) (c : DrwCtx) (d : Dev),
    (s.dev.allocOrder die).find? (fun h => s.dev.allocFits die h) = some h → s.dev.ctx die h = some c →
    d = (s.dev.updCab fun k => { k with allocQ := k.allocQ.upd [] die (·.filter (· != h)) }) →
    exec (.allocationGrant die) s = .next (s.withDev (((d.updCtx die h fun c =>
      { c with chunks := c.chunks.insert c.limit { rx := s.dev.raw }, limit := c.limit + 1 }).tryComplete die h
        c.limit).wantAlloc die h))) ∧
  (∀ (s : State) (die : Fin 8) (h g n t u : Nat), s.dev.bit F.CAB_SPILL_CFG.SPILL_EN die = true →
    s.dev.spillFor die = some h →
    longestIdle (s.dev.spillCands die (s.dev.ctxRank die h) (s.dev.desc h).exact) = some (t, u, g, n) →
    s.dev.spillUsed die + s.dev.chunkShelves g ≤ s.dev.spillRegion →
    exec (.chunkSpill die) s = .next (s.withDev ((s.dev.updCtx die g fun c =>
      { c with chunks := c.chunks.modify n fun ch => { ch with spilled := true } }).count .CAB_SPILL_OUT die))) ∧
  (∀ (s : State) (die : Fin 8) (h n : Nat), s.dev.spillBack die = some (h, n) →
    exec (.chunkSpillReturn die) s = .next (s.withDev ((s.dev.updCtx die h fun c =>
      { c with chunks := c.chunks.modify n fun ch => { ch with spilled := false } }).count .CAB_SPILL_IN die))) ∧
  (∀ (s : State) (die : Fin 8) (o : OutItem) (rest : List OutItem) (c : DrwCtx) (d : Dev),
    s.dev.cab.outQ.at [] die = o :: rest → d = (s.dev.updCab fun k => { k with outQ := k.outQ.upd [] die (·.drop 1) }) →
    d.ctx die o.handle = some c →
    exec (.outputStageDone die) s = .next (s.withDev (
      if o.kind = 0 then d.chunkLeaves die o.handle c o else d.countLeaves die o.handle c o))) ∧
  (∀ (d e f : Dev) (die h crc : Nat) (c : DrwCtx) (o : OutItem) (p : Packed), c.shadow = false → o.status = 0 →
    p = d.chunkOut h (d.chunkLen h c o.chunk) o → crc = crc64 p.bytes →
    e = ((d.add .CAB_OUT_OVF die p.ovf).add .CAB_OUT_NAN die p.nan) →
    f = ((e.digestAdd die (e.get F.DRW_CFG.JOB h) o.tag o.chunk o.epoch crc).shareD die h c o crc) →
    d.chunkLeaves die h c o =
      ((f.sendResults die h c o p.bytes).sendNotices die h c o p.bytes.length crc).closeIfDone die h) ∧
  (∀ (s : State) (a : Access) (h : Fin 4096), s.dev.Reaches a .DRW_RELEASE 0 0 →
    exec (.drwRelease a h) s = .next (s.withDev (s.dev.each (List.range 8) fun d die =>
      (d.updCtx die h (d.releaseCtx h)).settleAll die h))) ∧
  (∀ (d : Dev) (h : Nat) (c : DrwCtx), c.shadow = false →
    d.releaseCtx h c = if c.state = 2 then { c with relNext := true } else { c with released := true }) ∧
  (∀ (s : State) (die : Fin 8) (h : Fin 4096) (c : DrwCtx) (j ty : Nat) (ms : List Nat) (d e : Dev), s.dev.ctx die h = some c →
    c.state = 3 → c.shadow = false → c.strag ≠ none → s.dev.get F.DRW_COLL.STRAG_TO h ≠ 0 → c.phase = 0 →
    d = (s.dev.raise (32 + die) 3 (instDrawer h) c.w).count .CAB_STRAGGLER die → j = d.get F.DRW_CFG.JOB h →
    ty = bitsOf (d.jobWord j 1) 31 30 →
    ms = ((s.dev.memberSet h c c.w).filter fun i =>
      !(s.dev.chunkFull h { c with members := [i] } c.w ((c.chunks.find c.w).getD {}))) →
    e = (if ty ≤ 1 then d.each (ms.take 64) fun d i =>
        d.collStatus die (replyType ty) (d.jobWord j 1 % 2 ^ 24) j h c.epoch i c.tag c.w 0 5 0 ms.length
      else d) →
    exec (.stragglerTimeout die h) s = .next (s.withDev (e.updCtx die h fun c => { c with strag := some e.raw }))) ∧
  (∀ (d e : Dev) (die dst : Nat) (n m : Notice), 
    m = { n with seq := (d.nstream die dst).next, tries := 1, payload := d.noticeNow die n } →
    (false, e) = d.originateFenced die 3 (d.noticeFrame die dst opFWrite m) →
    d.pushNotice die dst n = e.updNotes die dst fun s =>
      { s with next := (s.next + 1) % 2 ^ 32, held := s.held ++ [m], job := m.job }) ∧
  (∀ (d : Dev) (die : Nat) (n : Notice) (c : DrwCtx), d.ctx die n.drawer = some c → 20 ≤ n.payload.length →
    ((d.noticeNow die n).drop 12).take 8 = beBytes 4 (c.limit % 2 ^ 24 * 256) ++ beBytes 4 (c.w % 2 ^ 24 * 256) ∧
    (d.noticeNow die n).take 12 = n.payload.take 12 ∧ (d.noticeNow die n).drop 20 = n.payload.drop 20) ∧
  (∀ (s : State) (die : Fin 8) (m : BitVec 24) (q : BitVec 32) (x : NStream) (n : Notice), x = s.dev.nstream die m.toNat →
    x.sync = false → x.held.find? (fun n => n.seq == q.toNat) = some n → n.tries < 100 →
    exec (.noticeResendTimeout die m q) s = .next (s.withDev (
      (s.dev.updNotes die m.toNat fun s =>
        { s with held := s.held.map fun m => if m.seq = q.toNat then { m with tries := m.tries + 1 } else m }).originate
          (16 + die) 3 (s.dev.noticeFrame die m.toNat opFWrite n)))) ∧
  (∀ (s : State) (die : Fin 8) (m : BitVec 24) (q : BitVec 32) (x : NStream) (n : Notice) (d : Dev),
    x = s.dev.nstream die m.toNat → x.sync = false → x.held.find? (fun n => n.seq == q.toNat) = some n → 100 ≤ n.tries →
    d = ((s.dev.updNotes die m.toNat fun s => { s with held := s.held.filter fun n => n.seq != q.toNat }).count
      .POOL_SRC_GIVEUP (attachTile die)).raise (32 + die) 8 (instDie (16 + die)) →
    exec (.noticeResendTimeout die m q) s = .next (s.withDev (
      d.drainNotices die m.toNat (d.nstream die m.toNat).wait.length)))

/-- Job control of Drawers (R127, R240, R264 to R266): DRAWER_ABORT aborts a Drawer of the job and answers its new epoch, 5 for
a handle that is not one; REFORM clears VALID of the members it removes and waits; on its application they leave the context,
their counts in a count round become 0, and it enters REFORMING with the epoch advanced; when its chunks are cleared every
member is told the epoch and the issuer is answered. -/
def Obligations.DrawerJobControl : Prop :=
  (∀ (s : State) (r : JobCtl) (d : Dev), d = s.dev.jobTaken r → s.dev.JobReaches r → d.jobHandle r = none →
    exec (.drawerAbort r) s = .next (s.withDev (d.jobDone r 5 [])) ∧
    exec (.reform r) s = .next (s.withDev (d.jobDone r 5 []))) ∧
  (∀ (s : State) (r : JobCtl) (d e : Dev) (h ep : Nat), d = s.dev.jobTaken r → s.dev.JobReaches r → d.jobHandle r = some h →
    d.abortDrawer h = ((0, ep), e) →
    exec (.drawerAbort r) s = .next (s.withDev (e.jobDone r 0 (beBytes 1 ep)))) ∧
  (∀ (s : State) (r : JobCtl) (d : Dev) (h : Nat) (c : DrwCtx) (l : List Nat), d = s.dev.jobTaken r → s.dev.JobReaches r →
    d.jobHandle r = some h → d.drwState h = 2 ∨ d.drwState h = 3 → d.ctx (d.drwDie h) h = some c → d.epochFree c = true →
    d.cab.reforms.find h = none → reformList r.payload = some l → l.all (d.deskMembers h).contains = true →
    (d.deskMembers h).all l.contains = false →
    exec (.reform r) s = .next (s.withDev ((d.each l fun d i => d.setB F.DRW_MEMBER.VALID (memberIx h i) false).updCab
      fun k => { k with reforms := k.reforms.insert h { req := r, removed := l, applied := false, prev := d.drwState h } }))) ∧
  (∀ (s : State) (h : Fin 4096) (q : ReformReq) (c c' : DrwCtx), s.dev.cab.reforms.find h = some q →
    s.dev.ctx (s.dev.drwDie h) h = some c → q.applied = false → s.dev.epochFree c = true → c.state = 2 ∨ c.state = 3 →
    c' = { (s.dev.dropMembers h q.removed c).advance s.dev.raw 0 with state := 4, strag := none } →
    exec (.reformApply h) s = .next (s.withDev (
      (((s.dev.feedShadow (s.dev.drwDie h) h (.reform q.removed c'.epoch)).putCtx (s.dev.drwDie h) h c').wantAlloc
        (s.dev.drwDie h) h).updCab fun k =>
          { k with reforms := k.reforms.insert h { q with applied := true, prev := c.state } }))) ∧
  (∀ (d : Dev) (h : Nat) (l : List Nat) (c e : DrwCtx), e = d.dropMembers h l c →
    (∀ i, e.members.contains i = (c.members.contains i && !l.contains i)) ∧ e.chunks = c.chunks ∧ e.done = c.done ∧
    (c.phase = 2 → e.counts = c.counts ∧ ∀ t i, l.contains i = true → e.layout.at 0 (key2 t i) = 0) ∧
    (c.phase = 1 → ∀ t i, l.contains i = true → e.counts.at 0 (key2 t i) = 0)) ∧
  (∀ (s : State) (h : Fin 4096) (q : ReformReq) (c : DrwCtx) (k : Nat) (d : Dev), s.dev.cab.reforms.find h = some q →
    k = s.dev.drwDie h → s.dev.ctx k h = some c → q.applied = true → c.state = 4 →
    d = (((s.dev.putCtx k h { (c.clearChunks s.dev.raw) with state := q.prev }).statusAll k h c.w 6 c.epoch).count
      .CAB_REFORM k).reformEnd h q 0 (beBytes 1 c.epoch) →
    exec (.reformClearDone h) s = .next (s.withDev (
      (((d.settle k h).countsDone k h).wantAlloc k h).closeIfDone k h)))

/-- Gnoari requests at their ordering tile (R278 to R282, R285, R287, R295): a read goes to its line home, by the mesh, and is
the last request of its source; a SYNC sets the watermark of a tracker not yet in step and is answered; a sequenced write of a
source out of step is answered 9, a duplicate 0, one beyond 1,024 after the watermark 11, and the others go to the line home, a
flagged one once it is next; an atomic whose receipt is held is answered from it, else it goes to the line home. -/
def Obligations.PoolArrivals : Prop :=
  (∀ (s : State) (r : GnReq), s.dev.GnReaches r →
    exec (.gnRead r) s = .next (s.withDev (((s.dev.gnTaken r).touchTrk r).toHome { r := r })) ∧
    exec (.gnMread r) s = .next (s.withDev (((s.dev.gnTaken r).touchTrk r).toHome { r := r }))) ∧
  (∀ (d : Dev) (q : HomeReq) (t : Tracker), (d.unreachable q.r.tile (d.homeTile q.r) = false →
      (d.toHome q).pool.home.at [] (d.homeTile q.r) = d.pool.home.at [] (d.homeTile q.r) ++ [q]) ∧
    (d.unreachable q.r.tile (d.homeTile q.r) = true → d.toHome q = d.poolCut q.r.tile (d.homeTile q.r) q.r) ∧
    (d.trk q.r.key = some t →
      (d.touchTrk q.r).trk q.r.key = some { t with job := q.r.job.val, last := d.raw })) ∧
  (∀ (s : State) (r : GnReq) (t : Tracker) (d : Dev), d = s.dev.gnTaken r → s.dev.GnReaches r →
    GnOp.sync.formOk r = true → d.needTrk r = some t →
    exec (.gnSync r) s = .next (s.withDev ((d.putTrk r.key
      { t with job := r.job.val, last := d.raw, synced := true,
               w := if t.synced then t.w else r.seq.toNat }).respondBare r 0))) ∧
  (∀ (s : State) (r : GnReq) (d : Dev), d = s.dev.gnTaken r → s.dev.GnReaches r → d.trk r.key = none →
    exec (.gnWrite r) s = .next (s.withDev (d.respondBare r 9)) ∧
    exec (.gnWritePart r) s = .next (s.withDev (d.respondBare r 9)) ∧
    exec (.gnFwrite r) s = .next (s.withDev (d.respondBare r 9))) ∧
  (∀ (s : State) (r : GnReq) (t : Tracker) (d : Dev), d = s.dev.gnTaken r → s.dev.GnReaches r → d.trk r.key = some t →
    t.synced = true → t.covers r.seq.toNat = true →
    exec (.gnWrite r) s = .next (s.withDev (
      ((d.putTrk r.key { t with job := r.job.val, last := d.raw }).count .POOL_DUP r.tile).respondBare r 0))) ∧
  (∀ (s : State) (r : GnReq) (t : Tracker) (d : Dev), d = s.dev.gnTaken r → s.dev.GnReaches r → d.trk r.key = some t →
    t.synced = true → t.covers r.seq.toNat = false → t.marks.contains r.seq.toNat = false →
    (∀ h ∈ t.held, h.r.seq ≠ r.seq) →
    (1024 < (r.seq.toNat + 2 ^ 32 - t.w) % 2 ^ 32 →
      exec (.gnWrite r) s = .next (s.withDev ((d.putTrk r.key { t with job := r.job.val, last := d.raw }).respondBare r 11))) ∧
    ((r.seq.toNat + 2 ^ 32 - t.w) % 2 ^ 32 ≤ 1024 → r.seq.toNat ≠ (t.w + 1) % 2 ^ 32 →
      exec (.gnFwrite r) s = .next (s.withDev ((d.putTrk r.key { t with job := r.job.val, last := d.raw }).putTrk r.key
        (Tracker.timer { t with job := r.job.val, last := d.raw, held := t.held ++ [HomeReq.mk r none] } false d.raw))))) ∧
  (∀ (s : State) (r : GnReq) (t u : Tracker) (d : Dev) (v : State), d = s.dev.gnTaken r → s.dev.GnReaches r →
    d.trk r.key = some t → t.synced = true → t.covers r.seq.toNat = false → t.marks.contains r.seq.toNat = false →
    (∀ h ∈ t.held, h.r.seq ≠ r.seq) → (r.seq.toNat + 2 ^ 32 - t.w) % 2 ^ 32 ≤ 1024 →
    u = { t with job := r.job.val, last := d.raw, flight := t.flight ++ [r.seq.toNat] } →
    v = s.withDev (((d.putTrk r.key { t with job := r.job.val, last := d.raw }).putTrk r.key
      (u.timer false d.raw)).toHome { r := r }) →
    exec (.gnWrite r) s = .next v ∧ exec (.gnWritePart r) s = .next v ∧
    (r.seq.toNat = (t.w + 1) % 2 ^ 32 → exec (.gnFwrite r) s = .next v) ∧
    (r.seq.toNat = (t.w + 1) % 2 ^ 32 → ((d.trkHolders r.tile).filter (·.isMirror)).length < d.mirrorRsv →
      exec (.gnMwrite r) s = .next v)) ∧
  (∀ (s : State) (r : GnReq) (t : Tracker) (d : Dev), ∀ c ∈ ([.gnAtomicAdd, .gnAtomicSwap, .gnAtomicCas, .gnAtomicAnd,
      .gnAtomicOr, .gnAtomicXor, .gnAtomicSmin, .gnAtomicSmax, .gnAtomicUmin, .gnAtomicUmax] : List (GnReq → Instr)),
    s.dev.GnReaches r → (s.dev.gnTaken r).needTrk r = some t →
    d = (s.dev.gnTaken r).putTrk r.key { t with job := r.job.val, last := (s.dev.gnTaken r).raw } →
    (∀ p j a, d.pool.rc.find (rcKey r.srcType r.src.toNat r.tag.toNat) = some { result := some p, job := j, at' := a } →
      exec (c r) s = .next (s.withDev ((d.count .POOL_RC_HIT r.tile).respond r p.1 p.2))) ∧
    (d.pool.rc.find (rcKey r.srcType r.src.toNat r.tag.toNat) = none → t.evictHi = none → r.retry = false →
      d.rcOfSrc r.srcType r.src.toNat < d.rcPerSrc → d.rcUsed r.tile < 8192 → d.atomicInFlight r = false →
      exec (c r) s = .next (s.withDev (d.toHome { r := r }))))

/-- Completion and the ends of what an ordering tile holds (R279, R281 to R285): the oldest completion is taken, a retiring
write raises the watermark and answers what it covers; an atomic's result is kept and answered; the gap timer answers the held
writes 7 and is counted and raised; a result of 10 ms is freed into EVICT_HI and counted; a tombstone is freed, and a tracker
with nothing held once no request has come for SRC_IDLE, and not before. -/
def Obligations.PoolCompletion : Prop :=
  (∀ (s : State) (tile : Fin 16) (c : GnDone) (rest : List GnDone), s.dev.pool.comp.at [] tile = c :: rest →
    exec (.lineHomeCompletion tile) s = .next (s.withDev (
      (s.dev.updPool fun p => { p with comp := p.comp.upd [] tile (·.drop 1) }).takeDone c))) ∧
  (∀ (d : Dev) (c : GnDone) (o : GnOp), gnOp c.r.opcode.toNat = some o → o.sequenced = true → retires c.status = true →
    d.takeDone c = d.retire c) ∧
  (∀ (d : Dev) (c : GnDone) (k : Nat) (wide : Bool), gnOp c.r.opcode.toNat = some (.atomic k wide) → c.status ≠ 5 →
    d.takeDone c = (d.updPool fun p =>
      { p with
        rc := p.rc.insert (rcKey c.r.srcType c.r.src.toNat c.r.tag.toNat)
          { result := some (c.status, c.payload), job := c.r.job, at' := d.raw } }).respond c.r c.status c.payload) ∧
  (∀ (d : Dev) (c : GnDone) (t u : Tracker), d.trk c.r.key = some t → t.covers c.r.seq.toNat = false →
    t.marks.contains c.r.seq.toNat = false → u = { t with
      flight := t.flight.filter (· != c.r.seq.toNat)
      marks := t.marks ++ [c.r.seq.toNat]
      answers := t.answers ++ [c] } →
    d.retire c = (d.putTrk c.r.key ((u.rise u.marks.length).timer ((u.rise u.marks.length).w != t.w) d.raw)).afterW
      c.r.key) ∧
  (∀ (s : State) (ty : Fin 4) (src : BitVec 24) (t : Tracker) (k : Nat) (d : Dev), k = srcKey ty src.toNat →
    s.dev.trk k = some t → t.gap ≠ none →
    d = (s.dev.putTrk k { t with held := [], gap := none }).each t.held (fun d h => d.respondBare h.r 7) →
    exec (.gapTimeout ty src) s = .next (s.withDev (
      (d.count .POOL_GAP (keyTile k)).raise (keyTile k) 8 (instDie (keyTile k)) t.job))) ∧
  (∀ (s : State) (ty : Fin 4) (src : BitVec 24) (tag : BitVec 16) (e : RcEnt) (k : Nat),
    k = rcKey ty src.toNat tag.toNat → s.dev.pool.rc.find k = some e → e.result ≠ none →
    exec (.rcEntryExpire ty src tag) s = .next (s.withDev (
      ((s.dev.updPool fun p => { p with rc := p.rc.erase k }).updTrk (srcKey ty src.toNat) fun t =>
        { t with evictHi := match t.evictHi with
          | some h => if 1 ≤ (tag.toNat + 65536 - h) % 65536 ∧ (tag.toNat + 65536 - h) % 65536 < 32768 then some tag.toNat
              else some h
          | none => some tag.toNat }).count .POOL_RC_EXPIRE (orderTile ty src.toNat)))) ∧
  (∀ (s : State) (ty : Fin 4) (src : BitVec 24) (tag : BitVec 16) (e : RcEnt) (k : Nat),
    k = rcKey ty src.toNat tag.toNat → s.dev.pool.rc.find k = some e → e.result = none →
    exec (.tombstoneFree ty src tag) s = .next (s.withDev (s.dev.updPool fun p => { p with rc := p.rc.erase k }))) ∧
  (∀ (s : State) (ty : Fin 4) (src : BitVec 24) (t : Tracker) (k : Nat), k = srcKey ty src.toNat → s.dev.trk k = some t →
    t.held = [] → t.flight = [] → s.dev.rcOfSrc ty src.toNat = 0 →
    (s.dev.srcIdle ≤ s.dev.since t.last →
    exec (.sourceTrackerFree ty src) s = .next (s.withDev (s.dev.updPool fun p => { p with trk := p.trk.erase k }))) ∧
    (s.dev.since t.last < s.dev.srcIdle → exec (.sourceTrackerFree ty src) s = .next (s.withDev s.dev)))

/-- A request at its line home (R276 to R278, Tables 12.1, 12.5): the check that fails answers its status; a read answers the
line's 128 bytes and is counted; a write stores its payload; an atomic answers the value that was there and stores the new one;
an uncorrectable error is a data error, counted and raised with the stack. The request leaves the queue. -/
def Obligations.LineHome : Prop :=
  (∀ (s : State) (tile : Fin 16) (n : Nat) (ue : Bool) (q : HomeReq) (d : Dev), (s.dev.pool.home.at [] tile)[n]? = some q →
    atomicWaits (s.dev.pool.home.at [] tile) n = false → s.dev.homeRun tile q ue = (true, d) →
    exec (.lineHomeExecute tile n ue) s = .next (s.withDev (d.updPool fun p =>
      { p with home := p.home.put [] tile ((s.dev.pool.home.at [] tile).eraseIdx n) }))) ∧
  (∀ (d : Dev) (home st : Nat) (r : GnReq) (ue : Bool), d.gnCheck r = some st →
    d.homeRun home { r := r } ue = (true, d.refuseGn home r st)) ∧
  (∀ (d : Dev) (home : Nat) (r : GnReq) (o : GnOp) (ue : Bool), d.gnCheck r = none → gnOp r.opcode.toNat = some o →
    d.heldByCopy r = false → d.homeRun home { r := r } ue = (true, d.runGn home r o ue)) ∧
  (∀ (d : Dev) (home a : Nat) (r : GnReq), a = d.winPos r.win r.off → d.bur.nextRead.contains (stackOf a) = false →
    d.runGn home r .read true = d.dataError home r ∧
    (r.poisoned = false → d.pool.bad.at false (a / 128) = false →
      d.runGn home r .read false = ((d.add64 .POOL_RD_CNT home 1).pulse home 0x00D 1 none none none).toOrder
        { r := r, status := 0, payload := Memory.readN d.pool.mem a 128 })) ∧
  (∀ (d : Dev) (home a : Nat) (r : GnReq) (ue : Bool), a = d.winPos r.win r.off → r.poisoned = false →
    d.runGn home r .write ue = ((((d.poolWrite a r.payload).setBad (a / 128) false).add64 .POOL_WR_CNT home 1).pulse home
      0x00E 1 none none none).afterWrite home r { r := r, status := 0, payload := [] }) ∧
  (∀ (d : Dev) (r : GnReq) (k : Nat), (d.runAtomic r k true).1 =
      beBytes 8 (leNat (Memory.readN d.pool.mem (d.winPos r.win r.off) 8)) ∧
    (d.runAtomic r k true).2 = d.poolWrite (d.winPos r.win r.off) (leBytes 8 (atomicValue k 64
      (leNat (Memory.readN d.pool.mem (d.winPos r.win r.off) 8)) (beAt r.payload 0 8) (beAt r.payload 8 8)))) ∧
  (∀ old x y : Nat, atomicValue 0 64 old x y = (old + x) % 2 ^ 64 ∧ atomicValue 1 64 old x y = x ∧
    atomicValue 2 64 old x y = (if old = x then y else old) ∧ atomicValue 8 64 old x y = min old x ∧
    atomicValue 9 64 old x y = max old x) ∧
  (∀ (d : Dev) (home : Nat) (r : GnReq), d.dataError home r = ((d.count .POOL_DATA_ERR home).raise home 4
    (instStack (stackOf (d.winPos r.win r.off)))).toOrder
      { r := r, status := 1, payload := zeroPayload r.opcode.toNat })

/-- The bytes of the pool (R276, R277): a request at its line home leaves every byte of the pool partition as it was outside the
bytes that it stores to, from the linear position of its offset on, as many as its payload, or 8 or 4 for an atomic; a read, and
a request that a check refuses, leave every byte. -/
def Obligations.PoolBytesKept : Prop :=
  (∀ (s t : State) (tile : Fin 16) (n : Nat) (ue : Bool) (q : HomeReq) (a : Nat),
    exec (.lineHomeExecute tile n ue) s = .next t → (s.dev.pool.home.at [] tile)[n]? = some q →
    (∀ o, q.force = none → s.dev.gnCheck q.r = none → gnOp q.r.opcode.toNat = some o → o.writes = true →
      a < s.dev.winPos q.r.win q.r.off ∨ s.dev.winPos q.r.win q.r.off + (match o with
        | .atomic _ wide => if wide then 8 else 4
        | _ => q.r.payload.length) ≤ a) →
    Memory.read t.dev.pool.mem a = Memory.read s.dev.pool.mem a) ∧
  (∀ (m : Memory) (a b : Nat) (l : List Byte), Memory.wf m →
    Memory.read (Memory.writeN m a l) b = if h : a ≤ b ∧ b < a + l.length then l[b - a]'(by omega) else Memory.read m b)

/-- Mirror streams (R280, R281, R286 to R291, R293): a response goes to the unit that its destination names, or its TAG; a line
home takes each, with the ACK_SEQ of a response to a write whether or not the write is still outstanding, and starts a SYNC on
NO_SESSION; one that no unit takes is counted; an unanswered request is sent again, or its SYNC; 10 µs after BUSY the request is
sent again and counted, a write not while a SYNC is unanswered; a partner that does not answer is lost, counted, and a PRIMARY
or RESILVER_PUSH window becomes DEGRADED, raised, a RESILVER_PULL window LOST with its held requests. -/
def Obligations.MirrorStreams : Prop :=
  (∀ (s : State) (tile : Fin 16) (r : GnResp) (d : Dev), d = (s.dev.takeInbox tile 4 fun f => gnRespOf f == r).2 →
    (r.dst.toNat ≠ 0 → r.dst.toNat < 16 →
      exec (.gnRespConsumed tile r) s = .next (s.withDev (d.mirrorResp r.dst.toNat r))) ∧
    (r.dst = 0#16 → r.opcode = 5#8 ∨ r.opcode = 6#8 ∨ r.opcode = 7#8 →
      exec (.gnRespConsumed tile r) s = .next (s.withDev (d.mirrorResp (r.tag.toNat / 4096) r))) ∧
    (4096 ≤ r.dst.toNat → r.dst.toNat < 4104 → (d.noticeResp (r.dst.toNat % 4096) r).1 = false →
      exec (.gnRespConsumed tile r) s = .next (s.withDev (d.count .POOL_RESP_UNMATCHED tile))) ∧
    (16 ≤ r.dst.toNat → r.dst.toNat / 4096 ≠ 1 →
      exec (.gnRespConsumed tile r) s = .next (s.withDev (d.count .POOL_RESP_UNMATCHED tile)))) ∧
  (∀ (d : Dev) (t p : Nat) (r : GnResp) (m : MItem), p = r.src.toNat / 2 ^ 16 → r.srcType = 1 → r.opcode = 6#8 →
    (d.pool.mst.find (key2 t p)).isSome = true →
    (r.status = 0#8 → (d.mstream t p).out.find? (fun m => !m.read && m.seq == r.seq.toNat && m.addr == r.addr.toNat) = some m →
      d.mirrorResp t r = d.ackMst t p r.ackSeq.toNat) ∧
    ((d.mstream t p).out.find? (fun m => !m.read && m.seq == r.seq.toNat && m.addr == r.addr.toNat) = none →
      d.mirrorResp t r = d.ackMst t p r.ackSeq.toNat) ∧
    (r.status = 9#8 → (d.mstream t p).sync = false →
      (d.mstream t p).out.find? (fun m => !m.read && m.seq == r.seq.toNat && m.addr == r.addr.toNat) = some m →
      d.mirrorResp t r = (d.syncMst t p).ackMst t p r.ackSeq.toNat)) ∧
  (∀ (s : State) (t : Fin 16) (p : BitVec 8) (q : BitVec 32) (x : MStream), x = s.dev.mstream t p.toNat → x.sync = true →
    exec (.mirrorResend t p q) s = .next (s.withDev (s.dev.sendGnReq t p.toNat 5 (mtag t x.acked) x.acked
      (p.toNat * 2 ^ 56) []))) ∧
  (∀ (s : State) (t : Fin 16) (p : BitVec 8) (q : BitVec 32) (x : MStream) (m : MItem), x = s.dev.mstream t p.toNat →
    x.sync = false → x.out.find? (fun m => m.seq == q.toNat && !m.busy) = some m →
    exec (.mirrorResend t p q) s = .next (s.withDev (s.dev.sendItem t p.toNat m))) ∧
  (∀ (s : State) (t : Fin 16) (p : BitVec 8) (q : BitVec 32) (m : MItem),
    (s.dev.mstream t p.toNat).out.find? (fun m => m.seq == q.toNat && m.busy) = some m →
    ((s.dev.mstream t p.toNat).sync = true → m.read = false → exec (.mirrorBusyRetry t p q) s = .next (s.withDev s.dev)) ∧
    ((s.dev.mstream t p.toNat).sync = false ∨ m.read = true → exec (.mirrorBusyRetry t p q) s = .next (s.withDev (((s.dev.updMst t p.toNat fun s =>
      { s with out := s.out.map fun x => if x = m then { x with busy := false } else x }).count .POOL_MIRROR_RETRY
        t).sendItem t p.toNat m)))) ∧
  (∀ (s : State) (w : Fin 4096) (t : Nat) (rest : List Nat) (d : Dev), s.dev.unanswered w = t :: rest →
    d = (((s.dev.count .POOL_SRC_GIVEUP (rest.foldl min t)).orphanItems w fun _ => true).updPool fun p =>
      { p with resil := p.resil.erase w }) → d.winState w = 3 ∨ d.winState w = 6 →
    exec (.mirrorTimeout w) s = .next (s.withDev (
      ((d.set F.POOL_WIN.STATE w 5).raise (rest.foldl min t) 9 (instWin w)).closeEnds))) ∧
  (∀ (d : Dev) (w t : Nat) (e : Dev), e = (((d.count .POOL_SRC_GIVEUP t).orphanItems w fun _ => true).updPool fun p =>
      { p with resil := p.resil.erase w }) → e.winState w = 7 →
    d.partnerLost t w = (((e.forceHeld w 8).set F.POOL_WIN.STATE w 8).raise t 10 (instWin w)).closeEnds)

/-- Windows of the pool (R272 to R274, R289 to R291): a command ends with its STATUS in POOL_WIN_CMD and CMD_DONE, one given
while GO is 1 is discarded; an OPEN of a FREE window with a legal range enters OPENING with COPY_PTR 0; CLOSE enters FREE, after
the changes that wait for the partner, with GO 1 until then; MARK_LOST enters LOST; a window whose zeroing is done reads as zero
and enters its target; a granule done advances COPY_PTR; a late write is counted. -/
def Obligations.WindowCommands : Prop :=
  (∀ (s : State) (a : Access) (w : Fin 4096), s.dev.Reaches a .POOL_WIN_CMD 0 0 →
    exec (.poolWinOpen a w) s = .next (s.withDev (s.dev.winCmd a.deskB.toNat 0 w)) ∧
    exec (.poolWinOpenMirror a w) s = .next (s.withDev (s.dev.winCmd a.deskB.toNat 1 w)) ∧
    exec (.poolWinClose a w) s = .next (s.withDev (s.dev.winCmd a.deskB.toNat 2 w)) ∧
    exec (.poolWinResilverPush a w) s = .next (s.withDev (s.dev.winCmd a.deskB.toNat 3 w)) ∧
    exec (.poolWinResilverPull a w) s = .next (s.withDev (s.dev.winCmd a.deskB.toNat 4 w)) ∧
    exec (.poolWinMarkLost a w) s = .next (s.withDev (s.dev.winCmd a.deskB.toNat 5 w))) ∧
  (∀ (d e : Dev) (k op w st : Nat), (st, e) = d.winRun k op w → op < 8 → w < 4096 → st < 16 →
    (d.bit F.POOL_WIN_CMD.GO 0 = true → d.winCmd k op w = d) ∧
    (d.bit F.POOL_WIN_CMD.GO 0 = false → op ≠ 2 ∨ st ≠ 0 ∨ e.pool.closing.find w = none →
      d.winCmd k op w = ((if st = 0 then e.genBump else e).wr .POOL_WIN_CMD 0 0
        (BitVec.ofNat 32 (op * 2 ^ 28 + st * 2 ^ 16 + w))).irq k 4 ∧
      (d.winCmd k op w).get F.POOL_WIN_CMD.STATUS 0 = st ∧ (d.winCmd k op w).bit F.POOL_WIN_CMD.GO 0 = false) ∧
    (d.bit F.POOL_WIN_CMD.GO 0 = false → op = 2 → st = 0 → (e.pool.closing.find w).isSome = true →
      d.winCmd k op w = e.wr .POOL_WIN_CMD 0 0 (BitVec.ofNat 32 (2 ^ 31 + op * 2 ^ 28 + st * 2 ^ 16 + w)) ∧
      (d.winCmd k op w).bit F.POOL_WIN_CMD.GO 0 = true)) ∧
  (∀ (d : Dev) (k w : Nat), d.winState w = 0 → d.bit F.POOL_WIN.MIRROR_V w = false → d.rangeOk w = true →
    d.winRun k 0 w = (0, ((d.updPool fun p => { p with target := p.target.insert w 2 }).set F.POOL_WIN.COPY_PTR w 0).set
      F.POOL_WIN.STATE w 1)) ∧
  (∀ (d : Dev) (k w : Nat), d.winState w = 0 → d.mirrorOk w = true → d.rangeOk w = true →
    d.winRun k 1 w = (0, ((d.updPool fun p => { p with target := p.target.insert w 4 }).set F.POOL_WIN.COPY_PTR w 0).set
      F.POOL_WIN.STATE w 1) ∧ d.winRun k 4 w = (0, d.resilver w 7)) ∧
  (∀ (d : Dev) (k w : Nat), d.winState w ≠ 0 →
    d.winRun k 0 w = (1, d) ∧ d.winRun k 1 w = (1, d) ∧ d.winRun k 4 w = (1, d) ∧ d.winRun k 5 w = (0, d.winLost w) ∧
    (d.winLost w).winState w = 8 ∧
    (d.winState w ≠ 1 → d.pool.closing.find w = none → d.winRun k 2 w = (0, d.closeWin w (some k))) ∧
    (d.winState w = 5 → d.mirrorOk w = true → d.winRun k 3 w = (0, d.resilver w 6))) ∧
  (∀ (d e : Dev) (w k : Nat), e = ((d.forceHeld w 3).orphanItems w fun m => m.copy.isSome) →
    (e.mirrorOpen w = false → (d.closeWin w (some k)).winState w = 0) ∧
    (e.mirrorOpen w = true → (d.closeWin w (some k)).pool.closing.find w = some (k + 1))) ∧
  (∀ (s : State) (w : Fin 4096) (a n : Nat), s.dev.winState w = 1 → a = s.dev.winPos w 0 → n = s.dev.winSize w →
    exec (.windowZeroDone w) s = .next (s.withDev ((s.dev.updPool fun p =>
      { p with mem := Memory.clear p.mem a n, target := p.target.erase w,
               bad := p.bad.filter fun e => decide (e.1 < a / 128 ∨ (a + n) / 128 ≤ e.1) }).set F.POOL_WIN.STATE w
        ((s.dev.pool.target.find w).getD 2)))) ∧
  (∀ (s : State) (w : Fin 4096) (x : Resil) (g : Nat), x = s.dev.resilOf w → x.cur = some g → 32 ≤ x.lines.length →
    s.dev.get F.POOL_WIN.SIZE_GIB w * 2 ^ 18 ≤ s.dev.get F.POOL_WIN.COPY_PTR w + 1 →
    (s.dev.set F.POOL_WIN.COPY_PTR w (s.dev.get F.POOL_WIN.COPY_PTR w + 1)).get F.POOL_WIN.SIZE_GIB w =
      s.dev.get F.POOL_WIN.SIZE_GIB w →
    exec (.resilverGranuleDone w) s = .next (s.withDev (
      ((s.dev.set F.POOL_WIN.COPY_PTR w (s.dev.get F.POOL_WIN.COPY_PTR w + 1)).updPool fun p =>
        { p with resil := p.resil.erase w }).set F.POOL_WIN.STATE w 3))) ∧
  (∀ (s : State) (a : Access) (w : Fin 4096) (i : Fin 8) (v : Word), s.dev.Reaches a .POOL_WIN w i →
    exec (.poolWinWrite a w i v) s = .next (s.withDev (
      if s.dev.winState w = 0 ∨ (s.dev.winState w = 5 ∧ i = 2) then
        if (Reg.POOL_WIN.masks i).rw = 0 then s.dev else (s.dev.writeRw .POOL_WIN w i v).genBump
      else s.dev.count .POOL_LATE_WR)))

/-- Time (R297 to R303): a tick raises the raw counter by one modulo 2⁶⁴; a rate write outside a pending update is stored, ends
HOLDOVER and is scheduled 1,600 ticks ahead; during one it is discarded and counted. STEP_ARM arms one step and is raised; the
step takes the two words written; one that is not armed is refused and counted. At c_u the new parameters take over from the
time that they find. SNAP stores raw count and time; SERVO_TO without a rate write enters HOLDOVER, raised; a die that differs
is raised. -/
def Obligations.MantelTime : Prop :=
  (∀ d : Dev, d.tick.time.raw = (d.time.raw + 1) % 2 ^ 64) ∧
  (∀ (s : State) (a : Access) (v : Word) (d : Dev), s.dev.Reaches a .MNT_RATE 0 0 → s.dev.time.upd = none →
    d = (s.dev.wr .MNT_RATE 0 0 v).setB F.MNT_CTL.HOLDOVER 0 false →
    exec (.rateWrite a v) s = .next (s.withDev (((d.updTime fun t => { t with watch := some t.raw }).updTime fun t =>
      { t with upd := some { at' := t.raw + 1600, rate := some v.toInt, step := 0 } }).setB F.MNT_CTL.UPD_PEND 0 true))) ∧
  (∀ (s : State) (a : Access) (v : Word), s.dev.Reaches a .MNT_RATE 0 0 → s.dev.time.upd ≠ none →
    exec (.rateWrite a v) s = .next (s.withDev (s.dev.count .MNT_LATE_WR))) ∧
  (∀ (s : State) (a : Access) (v lo : Word) (d : Dev), s.dev.Reaches a .MNT_STEP 0 1 →
    d = ((s.dev.takeStaged .MNT_STEP 0 0).2.wr .MNT_STEP 0 0 lo).wr .MNT_STEP 0 1 v → lo = (s.dev.takeStaged .MNT_STEP 0 0).1 →
    (d.time.upd = none → exec (.stepCommit a v) s = .next (s.withDev (
      if d.bit F.MNT_CTL.STEP_ARMED 0 then ((d.setB F.MNT_CTL.STEP_ARMED 0 false).updTime fun t =>
        { t with upd := some { at' := t.raw + 1600, rate := none, step := BitVec.toInt (v ++ lo) } }).setB
          F.MNT_CTL.UPD_PEND 0 true
      else d.count .MNT_STEP_REFUSED))) ∧
    (d.time.upd ≠ none → exec (.stepCommit a v) s = .next (s.withDev (d.count .MNT_LATE_WR))) ∧
    d.rd .MNT_STEP 0 0 = lo ∧ d.rd .MNT_STEP 0 1 = v) ∧
  (∀ (s : State) (a : Access), s.dev.Reaches a .MNT_CTL 0 0 → exec (.stepArm a) s = .next (s.withDev (
    (s.dev.setB F.MNT_CTL.STEP_ARMED 0 true).raise (41 + a.deskB.toNat) 6 (instDie (26 + a.deskB.toNat))))) ∧
  (∀ (s : State) (u : TimeUpd) (d : Dev), s.dev.time.upd = some u →
    d = (s.dev.updTime fun t => t.apply u).setB F.MNT_CTL.UPD_PEND 0 false →
    exec .paramUpdate s = .next (s.withDev (d.updTime fun t => { t with launch := t.launch.map fun e =>
      (e.1, if u.rate.isNone && !s.dev.launchDue e.2.time && d.launchDue e.2.time then { e.2 with early := true }
            else e.2) }))) ∧
  (∀ (t : TimeSt) (u : TimeUpd), (∀ r, u.rate = some r → (t.apply u).at u.at' = t.at u.at' ∧ (t.apply u).rate = r) ∧
    (u.rate = none → (t.apply u).at u.at' = (((t.at u.at' : Int) + u.step * 2 ^ 48) % (2 ^ 112 : Int)).toNat)) ∧
  (∀ (s : State) (a : Access), s.dev.Reaches a .MNT_CTL 0 0 → exec (.timeSnap a) s = .next (s.withDev (
    (s.dev.wrWide .MNT_SNAP_RAW 0 0 s.dev.time.raw 2).wrWide .MNT_SNAP_TIME 0 0 s.dev.time.ext 2))) ∧
  (∀ s : State, s.dev.time.watch ≠ none → s.dev.get F.MNT_CTL.SERVO_TO 0 ≠ 0 → s.dev.bit F.MNT_CTL.HOLDOVER 0 = false →
    exec .holdoverTimeout s = .next (s.withDev ((s.dev.setB F.MNT_CTL.HOLDOVER 0 true).raise (41 + s.dev.master) 5
      (instDie (26 + s.dev.master))))) ∧
  (∀ (s : State) (die : Fin 28) (diff : Int), exec (.mantelSyncRecord die diff) s = .next (s.withDev (
    if diff = 0 then s.dev
    else (if die.val < 16 then s.dev.count .MNT_ALIGN_ERR die else s.dev).raise (timeUnit die) 13 (instDie die))))

/-- R308, pulse input: an edge stores the extended time and is counted; an edge within 1 ms of the accepted one is ignored. -/
def Obligations.PulseInput : Prop :=
  (∀ s : State, (∀ r, s.dev.time.ppsIn = some r → 800000 ≤ s.dev.since r) →
    exec .ppsInEdge s = .next (s.withDev (((s.dev.wrWide .MNT_PPS_IN_TS 0 0 s.dev.time.ext 2).count
      .MNT_PPS_IN_CNT).updTime fun t => { t with ppsIn := some t.raw }))) ∧
  (∀ (s : State) (r : Nat), s.dev.time.ppsIn = some r → s.dev.since r < 800000 → exec .ppsInEdge s = .next s)

/-- Stamps, PTP frames and the pulse output (R305 to R307, R309): a Coat Rack keeps 64 entries, more are counted; a read of its
low word takes the oldest entry off, its high word latched, and zero where it is empty; a PTP frame of the management port
enters its Desk's receive ring; GO sends the frame of the transmit buffer and stamps it where asked; PPS_OUT rises once where
the time crosses a second boundary while it is enabled. -/
def Obligations.StampsAndPulses : Prop :=
  (∀ (d : Dev) (rack : Nat) (e : CoatEnt), rack < 16 → 64 ≤ (d.time.coat.at [] rack).length →
    d.coatPut rack e = d.count .MNT_CR_OVF rack) ∧
  (∀ (s : State) (a : Access) (t : Fin 16) (e : CoatEnt) (r : List CoatEnt) (d : Dev), s.dev.Reaches a .MNT_CR_POP t 0 →
    s.dev.time.coat.at [] t = e :: r →
    d = ((s.dev.updTime fun x => { x with coat := x.coat.put [] t r }).set F.MNT_CR_STAT.HELD t r.length).latch a
      (rkey .MNT_CR_POP t 0) (BitVec.ofNat 32 e.high) →
    exec (.coatRackPop a (.tile t)) s = .next (s.withDev (
      d.emit (.read a.deskB a.eth (regAddr .MNT_CR_POP t 0) (BitVec.ofNat 32 e.time))))) ∧
  (∀ (s : State) (a : Access) (t : Fin 16), s.dev.Reaches a .MNT_CR_POP t 0 → s.dev.time.coat.at [] t = [] →
    exec (.coatRackPop a (.tile t)) s = .next (s.withDev ((s.dev.latch a (rkey .MNT_CR_POP t 0) 0).emit
      (.read a.deskB a.eth (regAddr .MNT_CR_POP t 0) 0)))) ∧
  (∀ (s : State) (b : Bool) (f : List Byte), s.dev.deskUp b.toNat = true → beAt f 12 2 = 0x88F7 →
    exec (.mgmtPtpRx b f) s = .next (s.withDev (s.dev.ptpRx b.toNat s.dev.now 0x400 f))) ∧
  (∀ (s : State) (a : Access) (v : Word) (d : Dev) (n k : Nat), k = a.deskB.toNat → s.dev.Reaches a .MNT_PTP_TX k 0 →
    d = s.dev.writeRw .MNT_PTP_TX k 0 v → n = d.get F.MNT_PTP_TX_LEN.LEN k → bitAt v.toNat 31 = true → 64 ≤ n → n ≤ 1522 →
    bitsOf v.toNat 26 16 = 0x400 →
    exec (.ptpTx a v) s = .next (s.withDev (
      if bitAt v.toNat 30 then (d.emit (.mgmt k (d.txBuffer k n))).coatPut (16 + k)
        { port := 0x400, tsId := bitsOf v.toNat 15 0, time := d.now }
      else d.emit (.mgmt k (d.txBuffer k n))))) ∧
  (∀ s : State, exec .ppsOutPulse s = .next (s.withDev (
    if s.dev.bit F.MNT_CTL.PPS_OUT_EN 0 && decide (s.dev.time.ppsSec < s.dev.ppsBoundary) then
      (s.dev.updTime fun t => { t with ppsAt := some t.raw, ppsSec := s.dev.ppsBoundary }).emit (.pin "PPS_OUT" true)
    else s.dev)))

/-- The launch table (R310 to R314): word 1 schedules an arming or a cancel 1,600 ticks ahead, and one that is not legal is
counted; at its time the entry is armed, marked where its time has passed, or disarmed; an armed entry whose time has come
leaves the table with its OUTCOME and FIRED_AT, interrupts where it asks and acts; in a safe stop none fires. -/
def Obligations.LaunchTable : Prop :=
  (∀ (s : State) (a : Access) (e : Fin 256) (v : Word) (d : Dev) (u : LaunchUpd), s.dev.Reaches a .MNT_LAUNCH e 1 →
    bitAt v.toNat 31 = false ∨ (s.dev.launchValid e = false ∧ bitsOf v.toNat 27 24 ≤ 5) →
    d = (s.dev.writeRw .MNT_LAUNCH e 1 v).genBump →
    u = { at' := d.raw + 1600, entry := e, arm := bitAt v.toNat 31, time := (d.rd .MNT_LAUNCH e 0).toNat,
          irq := bitAt v.toNat 28, action := bitsOf v.toNat 27 24, arg := bitsOf v.toNat 15 0 } →
    exec (.launchWord1Write a e v) s = .next (s.withDev (d.updTime fun t => { t with launchUpd := t.launchUpd ++ [u] }))) ∧
  (∀ (s : State) (a : Access) (e : Fin 256) (v : Word), s.dev.Reaches a .MNT_LAUNCH e 1 → bitAt v.toNat 31 = true →
    s.dev.launchValid e = true ∨ 5 < bitsOf v.toNat 27 24 →
    exec (.launchWord1Write a e v) s = .next (s.withDev (s.dev.count .MNT_LATE_WR))) ∧
  (∀ (s : State) (e : Fin 256) (u : LaunchUpd) (l : Launch) (d : Dev),
    s.dev.time.launchUpd.find? (fun u => u.entry == e.val) = some u → u.arm = true →
    d = (s.dev.updTime fun t => { t with launchUpd := t.launchUpd.erase u }) →
    l = { time := u.time, irq := u.irq, action := u.action, arg := u.arg, past := d.launchDue u.time } →
    exec (.launchArm e) s = .next (s.withDev ((d.set F.MNT_LAUNCH.OUTCOME e 0).updTime fun t =>
      { t with launch := t.launch.insert e l }))) ∧
  (∀ (s : State) (e : Fin 256) (u : LaunchUpd), s.dev.time.launchUpd.find? (fun u => u.entry == e.val) = some u →
    u.arm = false → exec (.launchCancel e) s = .next (s.withDev (
      (s.dev.updTime fun t => { t with launchUpd := t.launchUpd.erase u }).updTime fun t =>
        { t with launch := t.launch.erase e }))) ∧
  (∀ (s : State) (e : Fin 256) (l : Launch) (c d : Dev), s.dev.time.launch.find e = some l → s.dev.launchDue l.time = true →
    s.dev.get F.PWR_STAT.STATE 0 ≠ 2 →
    c = (if l.early then s.dev.count .MNT_LAUNCH_EARLY else if l.past then s.dev.count .MNT_LAUNCH_PAST else s.dev) →
    d = c.launchEnd e (if l.past || l.early then 2 else 1) →
    exec (.launchFire e) s = .next (s.withDev ((if l.irq && d.someDesk then d.irqBoth 1 else d).launchAction l.action l.arg
      l.time))) ∧
  (∀ (d : Dev) (e o : Nat), d.launchEnd e o = (((d.updTime fun t => { t with launch := t.launch.erase e }).setB
    F.MNT_LAUNCH.VALID e false).set F.MNT_LAUNCH.OUTCOME e o).set F.MNT_LAUNCH.FIRED_AT e d.now) ∧
  (∀ (s : State) (e : Fin 256) (l : Launch), s.dev.time.launch.find e = some l →
    s.dev.launchDue l.time = false ∨ s.dev.get F.PWR_STAT.STATE 0 = 2 → exec (.launchFire e) s = .next s)

/-- Counter windows and counters (R330, R332 to R335, Table 14.11): OPEN of a window that may open makes it PENDING, one whose
bank is in use is refused and counted; at its time it records its values and is OPEN; CLOSE marks it, and at its time the values
become differences and it is DONE; SNAP is pending, with GO at 1, until its instant, which copies every general counter and ends
it. Each command ends with its STATUS and CMD_DONE. -/
def Obligations.CounterWindows : Prop :=
  (∀ (s : State) (a : Access) (n : Fin 256) (k : Nat), k = a.deskB.toNat → s.dev.Reaches a .DESK_PMC_CMD 0 0 →
    s.dev.pmc.snap = none →
    exec (.pmcOpen a n) s = .next (s.withDev (match s.dev.cwinRefused n with
      | none => ((s.dev.set F.DESK_CWIN_STAT.STATE n 1).wr .DESK_PMC_CMD 0 0 (BitVec.ofNat 32 (0 * 2 ^ 28 + 0 * 2 ^ 16 + n))).irq
          k 4
      | some 3 => (s.dev.wr .DESK_PMC_CMD 0 0 (BitVec.ofNat 32 (0 * 2 ^ 28 + 3 * 2 ^ 16 + n))).irq k 4
      | some st => ((s.dev.count .DESK_PMC_REFUSE).wr .DESK_PMC_CMD 0 0
          (BitVec.ofNat 32 (0 * 2 ^ 28 + st * 2 ^ 16 + n))).irq k 4))) ∧
  (∀ (s : State) (a : Access) (n : Fin 256) (k : Nat), k = a.deskB.toNat → s.dev.Reaches a .DESK_PMC_CMD 0 0 →
    s.dev.pmc.snap = none →
    s.dev.bit F.DESK_CWIN.VALID n = true → s.dev.cwin n = 2 →
    exec (.pmcClose a n) s = .next (s.withDev (((s.dev.updPmc fun p =>
      { p with closing := p.closing.filter (· != n.val) ++ [n.val] }).wr .DESK_PMC_CMD 0 0
        (BitVec.ofNat 32 (1 * 2 ^ 28 + 0 * 2 ^ 16 + n))).irq k 4))) ∧
  (∀ (s : State) (a : Access), s.dev.Reaches a .DESK_PMC_CMD 0 0 →
    ∃ t, exec (.pmcSnap a) s = .next t ∧ t = s.withDev ((s.dev.updPmc fun p => { p with snap := some a.deskB.toNat }).wr
        .DESK_PMC_CMD 0 0 (BitVec.ofNat 32 (2 ^ 31 + 2 * 2 ^ 28))) ∧
      t.dev.bit F.DESK_PMC_CMD.GO 0 = true) ∧
  (∀ (s : State) (k : Nat) (d : Dev), s.dev.pmc.snap = some k →
    d = (s.dev.each (List.range 256) fun d i => d.wrWide .XBAR_PMC_SNAP i 0 (d.rdWide .XBAR_PMC_VAL i 0 2) 2).each
      (List.range 128) (fun d i => d.wrWide .CAB_PMC_SNAP i 0 (d.rdWide .CAB_PMC_VAL i 0 2) 2) →
    ∃ t, exec .pmcSnapCapture s = .next t ∧ t = s.withDev ((((d.wr .DESK_PMC_SNAP_TIME 0 0 (BitVec.ofNat 32 d.now)).updPmc
        fun p => { p with snap := none }).setB F.DESK_PMC_CMD.GO 0 false).irq k 4) ∧
      t.dev.bit F.DESK_PMC_CMD.GO 0 = false ∧
      ∀ i < 256, t.dev.rdWide .XBAR_PMC_SNAP i 0 2 = s.dev.rdWide .XBAR_PMC_VAL i 0 2) ∧
  (∀ (s : State) (n : Fin 256), exec (.counterWindowOpen n) s = .next (s.withDev (
    if s.dev.cwin n = 1 then s.dev.cwinOpen n else s.dev))) ∧
  (∀ (s : State) (n : Fin 256) (d e : Dev), s.dev.cwin n = 2 →
    d = (s.dev.each ((s.dev.cwinDies n).filter fun die => !(s.dev.pmc.missing.at [] n).contains die) fun d die =>
      d.cwinMap n die fun w v => v + 2 ^ 64 - w) →
    e = (d.set F.DESK_CWIN_STAT.STATE n 3).setB F.DESK_CWIN_STAT.CUT n (s.dev.pmc.closing.contains n.val) →
    exec (.counterWindowClose n) s = .next (s.withDev ((e.set F.DESK_CWIN_STAT.CLOSE_AT n e.now).updPmc fun p =>
      { p with closing := p.closing.filter (· != n.val) }))) ∧
  (∀ (d : Dev) (n k m : Nat), d.pmcAdd n k m = d.addWrap64 (if n < 16 then .XBAR_PMC_VAL else .CAB_PMC_VAL)
    (16 * (n % 16) + k) m)

/-- Job control reads and the alignment check (R323, R325, R326, R335): COUNTER_READ answers a DONE window's values to
infrastructure or to the job it permits, and 1, 3, 4 or 5 otherwise; DIGEST_READ answers the digests of the job's tag or 5;
CHECK starts a check, and at its time every die that answers writes its result, ALIGNED where none found a difference. -/
def Obligations.ReadsAndAlignment : Prop :=
  (∀ (s : State) (r : JobCtl) (d : Dev) (n : Nat), d = s.dev.jobTaken r → s.dev.JobReaches r → n = r.arg.toNat → n < 256 →
    d.infra r = true → d.bit F.DESK_CWIN.VALID n = true → d.get F.DESK_CWIN.FIRST n < d.cwinLen n →
    exec (.counterRead r) s = .next (s.withDev (
      if d.cwin n = 3 then d.jobDone r 0 (d.cwinPayload n) else if d.cwin n = 0 then d.jobDone r 5 []
      else d.jobDone r 4 []))) ∧
  (∀ (s : State) (r : JobCtl) (d : Dev), d = s.dev.jobTaken r → s.dev.JobReaches r → 256 ≤ r.arg.toNat →
    exec (.counterRead r) s = .next (s.withDev (d.jobDone r 3 []))) ∧
  (∀ (s : State) (r : JobCtl) (d : Dev) (p : List Byte) (found lost : Bool), d = s.dev.jobTaken r → s.dev.JobReaches r →
    (p, found, lost) = d.digestPayload r.target (r.arg.toNat % 2 ^ 32) →
    exec (.digestRead r) s = .next (s.withDev (
      if found || lost then d.jobDone r 0 p else d.jobDone r 5 (List.replicate 16 0)))) ∧
  (∀ (s : State) (a : Access), s.dev.Reaches a .CLK_ALIGN_CTL 0 0 →
    exec (.alignCheck a) s = .next (s.withDev (s.dev.setB F.CLK_ALIGN_CTL.CHECK 0 true))) ∧
  (∀ (s : State) (bad : List (Fin 28 × BitVec 8)), exec (.alignCheckSample bad) s = .next (s.withDev (
    if s.dev.bit F.CLK_ALIGN_CTL.CHECK 0 then s.dev.alignResult bad else s.dev)))

/-- Sources (R338, R339, R341 to R343): an event at a source that does not exist or is not enabled is dropped; one below N is
counted; the N-th trips the source, whose counter starts again. A trip acts at LEVEL, or one above the highest level of the
pending sources of its unit and class, up to CEIL, and starts the grace timer; with both Desks out of service a unit reacts by
itself. A window that ends clears the counter; a missed heartbeat raises SILENCE. A grace timer that ends acts at the next
level; an acknowledged source is not pending and has level 0. -/
def Obligations.BureauSources : Prop :=
  (∀ (s : State) (src : Fin 1024) (i j : BitVec 32) (inj : Bool) (d : Dev),
    d = { s.dev with raised := s.dev.raised.erase { src := src, inst := i.toNat, inst2 := j.toNat, injected := inj } } →
    exec (.bureauEvent src i j inj) s = .next (s.withDev (
      if !srcValid src ∨ !d.bit F.BUR_SRC.EN src then d
      else if d.get F.BUR_SRC.COUNT src + 1 < max 1 (d.get F.BUR_SRC.N src) then
        d.set F.BUR_SRC.COUNT src (d.get F.BUR_SRC.COUNT src + 1)
      else (d.set F.BUR_SRC.COUNT src 0).trip src i.toNat j.toNat inj))) ∧
  (∀ (d e : Dev) (src i j level : Nat) (inj : Bool) (held : List Nat), e = d.set F.BUR_SRC.LAST src d.now →
    held = e.pendingOf (src / 16) (e.srcClass src) →
    level = (if held = [] then e.srcLevel src
      else max (e.srcLevel src) (min ((held.map fun x => e.get F.BUR_SRC.LEVEL_NOW x).foldl max 0 + 1) (e.srcCeil src))) →
    (e.someDesk = false → d.trip src i j inj = e.reactAlone src level i) ∧
    (e.someDesk = true → ∀ (l : Nat) (g : Dev), (l, g) = e.react src level i j 0 inj →
      d.trip src i j inj = if l = 0 ∨ l = 4 then g else g.graceSet src l)) ∧
  (∀ (s : State) (src : Fin 1024), exec (.sourceWindowExpire src) s = .next (s.withDev (s.dev.set F.BUR_SRC.COUNT src 0))) ∧
  (∀ (s : State) (u : Fin 43) (n : Nat), unitDie u = some n → exec (.heartbeatMiss u) s = .next (s.withDev (
    if s.dev.someDesk then s.dev.raise u 15 (instDie n) else s.dev))) ∧
  (∀ (s : State) (u : Fin 44) (c : Fin 16), s.dev.bur.grace.at 0 (graceKey u c) = 0 → exec (.graceExpire u c) s = .next s) ∧
  (∀ (s : State) (u : Fin 44) (c : Fin 16) (n level i j l : Nat) (d g : Dev), s.dev.bur.grace.at 0 (graceKey u c) = n + 1 →
    d = s.dev.updBur (fun b => { b with grace := b.grace.erase (graceKey u c) }) →
    level = d.get F.BUR_SRC.LEVEL_NOW n + 1 → d.pending n = true → level ≤ d.srcCeil n → d.someDesk = true →
    (i, j) = d.bur.tripped.at (0, 0) n → (l, g) = d.react n level i j 1 false →
    exec (.graceExpire u c) s = .next (s.withDev (if l = 4 ∨ l < level then g else g.graceSet n l))) ∧
  (∀ (s : State) (a : Access) (src : Fin 1024), s.dev.Reaches a .BUR_SRC src 1 →
    exec (.pendingAck a src) s = .next (s.withDev (s.dev.acknowledge src))) ∧
  (∀ (d : Dev) (n : Nat), d.Canon → (d.acknowledge n).pending n = false ∧ (d.acknowledge n).get F.BUR_SRC.LEVEL_NOW n = 0)

/-- Actions and return to service (R324, R344, R346, R348, R426, Tables 14.3, 15.12): BUR_ACT acts on an instance at a level, or
sets STATUS 2 or 1; a quiet instance whose bring-up passes returns and is counted, another is HELD; management may write STATE
0x0 in HELD alone; a die that rejoins is cleared, aligned and, from RESETTING, quiet or held; a lost Desk gives the other the
mastery; reset alignment starts the raw counters and the crossbars' cycle count at 0; an expulsion leaves its budget at the end
of its window. -/
def Obligations.BureauActions : Prop :=
  (∀ (s : State) (a : Access) (v : Word) (d : Dev), s.dev.Reaches a .BUR_ACT 0 0 → d = s.dev.writeRw .BUR_ACT 0 0 v →
    bitAt v.toNat 31 = true → instOf (d.get F.BUR_ACT_INST.INST 0) = none →
    exec (.burAct a v) s = .next (s.withDev ((d.set F.BUR_ACT.STATUS 0 2).irq (deskNo a.deskB) 4))) ∧
  (∀ (s : State) (a : Access) (v : Word) (d : Dev) (n : Nat), s.dev.Reaches a .BUR_ACT 0 0 →
    d = s.dev.writeRw .BUR_ACT 0 0 v → bitAt v.toNat 31 = true → instOf (d.get F.BUR_ACT_INST.INST 0) = some (.die n) →
    exec (.burAct a v) s = .next (s.withDev (
      if 4 < d.get F.BUR_ACT.LEVEL 0 then (d.set F.BUR_ACT.STATUS 0 1).irq (deskNo a.deskB) 4
      else
        ((let e := d.log { src := d.get F.BUR_ACT.SOURCE 0, level := d.get F.BUR_ACT.LEVEL 0, kind := 6,
                           inst := d.get F.BUR_ACT_INST.INST 0 }
          if d.get F.BUR_ACT.LEVEL 0 = 4 then e.actStop
          else if d.get F.BUR_ACT.LEVEL 0 < 2 then e
          else e.actDie n (d.get F.BUR_ACT.LEVEL 0) (d.get F.BUR_ACT.SOURCE 0) false).set F.BUR_ACT.STATUS 0 0).irq
          (deskNo a.deskB) 4))) ∧
  (∀ (s : State) (inst : BitVec 32) (ok : Bool), (∀ o, s.dev.bur.outs.find inst.toNat = some o → o.state ≠ 3) →
    exec (.quietExpire inst ok) s = .next s) ∧
  (∀ (s : State) (inst : BitVec 32) (i : Inst) (o : OutInst), instOf inst.toNat = some i →
    s.dev.bur.outs.find inst.toNat = some o → o.state = 3 → s.dev.someDesk = true →
    exec (.quietExpire inst true) s = .next (s.withDev (((s.dev.instBack i).bumpSat F.BUR_SRC.RECOV o.src).log
      { src := o.src, level := 0, kind := 2, inst := inst.toNat }))) ∧
  (∀ (s : State) (inst : BitVec 32) (n : Nat) (o : OutInst), instOf inst.toNat = some (.die n) →
    s.dev.bur.outs.find inst.toNat = some o → o.state = 3 → s.dev.someDesk = true →
    exec (.quietExpire inst false) s = .next (s.withDev (((s.dev.updBur fun b => { b with
        outs := b.outs.insert inst.toNat { o with state := 5 } }).set F.BUR_UNIT.STATE n 5).log
      { src := o.src, level := 1, kind := 3, inst := inst.toNat }))) ∧
  (∀ (s : State) (a : Access) (n : Fin 45) (v : Word), s.dev.Reaches a .BUR_UNIT n 0 →
    exec (.unitStateWrite a n v) s = .next (s.withDev (
      if s.dev.unitState n = 5 ∧ v.toNat / 2 ^ 29 = 0 then s.dev.dieBack n else s.dev))) ∧
  (∀ (s : State) (n : Fin 45) (delay : BitVec 16), s.dev.Canon → ∃ t, exec (.dieRejoin n delay) s = .next t ∧
    (n.val < 28 → t.dev.get F.CLK_ALIGN_DIE.PATH_DELAY n = delay.toNat ∧ t.dev.bit F.CLK_ALIGN_DIE.OK n = true) ∧
    t.dev.unitState n ≠ 2) ∧
  (∀ (s : State) (b : Bool), exec (.deskTakeover b) s = .next (s.withDev (
    if s.dev.deskUp b.toNat then (s.dev.deskLeave b.toNat 5).updBur fun r => { r with
        outs := r.outs.insert (instDie (26 + b.toNat)) { state := 5, src := 16 * (41 + b.toNat) + 15, auto := false } }
    else s.dev))) ∧
  (∀ (s : State) (l : List (BitVec 16)), s.dev.Canon → ∃ t, exec (.resetAlignment l) s = .next t ∧ t.dev.time.raw = 0 ∧
    t.dev.core.cyc = 0 ∧
    t.dev.time.baseC = 0 ∧ t.dev.bit F.CLK_ALIGN_CTL.ALIGNED 0 = true ∧ t.dev.bit F.CLK_STAT.ROOT_LOCK 0 = true ∧
    (∀ n, n < 28 → t.dev.get F.CLK_ALIGN_DIE.PATH_DELAY n = (l.map BitVec.toNat).getD n 0)) ∧
  (∀ (s : State) (n : Fin 6) (scope : BitVec 32), exec (.budgetWindowExpiry n scope) s = .next (s.withDev (
    (s.dev.bur.expel.find? (fun e => e.1 == n.val && e.2.1 == scope.toNat)).elim s.dev fun e =>
      s.dev.updBur fun b => { b with expel := b.expel.erase e })))

/-- Shadowing, standing in and injection (R351 to R356): a shadow's digest is compared with the primary's of the same chunk:
equal, it is counted and qualifies the spare; different, it is raised and the shadow ends; FAST sums are compared only with
FAST_CMP. After the lock a write of BUR_CTL clears SPINE_SHADOW. A spare takes a PLACE of its group; STATUS is 1 where it is not
a spare, 2 where no VALID entry names the place. An injection is refused and counted without INJ_EN, VALID or an instance its
type acts on; else it is logged and applied, and its repetitions follow; an uncorrected error of a Cabinet die that meets a
digest entry marks it with FAULT, and the entry does not advance (R224). -/
def Obligations.BureauShadowing : Prop :=
  (∀ (s : State) (n : Fin 8), s.dev.cab.shadowD.at [] n = [] → exec (.shadowDigestReceived n) s = .next s) ∧
  (∀ (s : State) (n : Fin 8) (x y : ChunkD) (r : List ChunkD) (d e : Dev), s.dev.cab.shadowD.at [] n = x :: r →
    d = s.dev.updCab (fun k => { k with shadowD := k.shadowD.upd [] n (·.drop 1) }) →
    (d.cab.primD.at [] n).find? (fun z => z.handle == x.handle && z.epoch == x.epoch && z.chunk == x.chunk) = some y →
    e = d.updCab (fun k => { k with primD := k.primD.upd [] n fun l => l.erase y }) →
    (summing (e.desc x.handle).op && !(e.desc x.handle).exact && !e.bit F.BUR_SHADOW_CFG.FAST_CMP 0) = false →
    exec (.shadowDigestReceived n) s = .next (s.withDev (
      if x.d = y.d then
        let m := min (e.get F.BUR_SHADOW_PASS.MATCHES x.die + 1) (2 ^ 24 - 1)
        let f := e.set F.BUR_SHADOW_PASS.MATCHES x.die m
        if f.get F.BUR_SHADOW_CFG.PASS_TARGET 0 ≤ m ∧ !f.bit F.BUR_SHADOW_PASS.MISMATCH x.die then
          f.setB F.BUR_UNIT.QUALIFIED (16 + x.die) true
        else f
      else ((e.setB F.BUR_SHADOW_PASS.MISMATCH x.die true).raise (32 + x.die) 5 (instDrawer x.handle) x.chunk).dropShadow
        x.handle))) ∧
  (∀ (s : State) (a : Access), s.dev.Reaches a .BUR_CTL 0 0 →
    exec (.spineShadowClear a) s = .next (s.withDev (s.dev.setB F.BUR_CTL.SPINE_SHADOW 0 false))) ∧
  (∀ (s : State) (a : Access) (v : Word) (d : Dev) (p : Nat), s.dev.Reaches a .BUR_STANDIN 0 0 →
    d = s.dev.writeRw .BUR_STANDIN 0 0 v → bitAt v.toNat 31 = true → p = d.get F.BUR_STANDIN.PLACE 0 →
    exec (.standin a v) s = .next (s.withDev (
      (if d.bit F.BUR_CTL.SPARE 0 = false then d.set F.BUR_STANDIN.STATUS 0 1
       else if (List.range 16).any (fun n => d.bit F.BUR_GROUP.VALID n && d.get F.BUR_GROUP.PLACE n == p) then
         ((d.set F.FWD_PLACE.PLACE 0 p).setB F.BUR_CTL.SPARE 0 false).set F.BUR_STANDIN.STATUS 0 0
       else d.set F.BUR_STANDIN.STATUS 0 2).irq (deskNo a.deskB) 4))) ∧
  (∀ (s : State) (a : Access) (v : Word) (d : Dev) (e type inst : Nat) (r : InjRun), s.dev.Reaches a .BUR_INJ_CMD 0 0 →
    d = s.dev.writeRw .BUR_INJ_CMD 0 0 v → bitAt v.toNat 31 = true → e = d.get F.BUR_INJ_CMD.ENTRY 0 →
    type = d.get F.BUR_INJ.TYPE e → inst = d.get F.BUR_INJ.INST e →
    r = { type := type, src := d.get F.BUR_INJ.SOURCE e, inst := inst, param := d.get F.BUR_INJ.PARAM e,
          dry := d.bit F.BUR_INJ.DRY e, left := max 1 (d.get F.BUR_INJ.REPEAT e) - 1 } →
    exec (.injectionCmd a v) s = .next (s.withDev (
      if d.bit F.BUR_CTL.INJ_EN 0 && d.bit F.BUR_INJ.VALID e && d.injectable type inst then
        ((d.log { src := r.src, level := 0, kind := 5, inst := inst, injected := true }).updBur fun b => { b with
          inj := if r.left = 0 then b.inj.erase e else b.inj.insert e r }).applyFault r
      else d.count .BUR_INJ_REFUSED))) ∧
  (∀ (s : State) (e : Fin 1024), s.dev.bur.inj.find e = none → exec (.injectionRepeat e) s = .next s) ∧
  (∀ (s : State) (e : Fin 1024) (r q : InjRun), s.dev.bur.inj.find e = some r → q = { r with left := r.left - 1 } →
    exec (.injectionRepeat e) s = .next (s.withDev ((s.dev.updBur fun b => { b with
      inj := if q.left = 0 then b.inj.erase e else b.inj.insert e q }).applyFault q))) ∧
  (∀ (d : Dev) (r : InjRun) (k : Nat), r.type = 2 → instOf r.inst = some (.die (16 + k)) → k < 8 → r.dry = false →
    (d.applyFault r).bur.nextUe = d.bur.nextUe ++ [k]) ∧
  (∀ (d : Dev) (die job tag chunk epoch crc i : Nat), d.digestEntry die job tag = some i →
    d.bur.nextUe.contains die = true →
    (d.digestAdd die job tag chunk epoch crc).bit F.CAB_DIGEST.FAULT (4096 * die + i) = true ∧
    (d.digestAdd die job tag chunk epoch crc).get F.CAB_DIGEST.DIGEST (4096 * die + i) =
      d.get F.CAB_DIGEST.DIGEST (4096 * die + i) ∧
    (d.digestAdd die job tag chunk epoch crc).bur.nextUe = d.bur.nextUe.erase die)

/-- A Desk's own registers (R373, R374, R376): a doorbell value reaches the other Desk with vector 5 while it is in service;
unmasking sends the vectors that are set. A request on a management port is answered only in its conditions, a repeated one from
the store, a WRITE without ETH_MGMT_WR with status 1, a wrong COUNT with 2. Job 0 cannot be torn down and an invalid job is
refused. -/
def Obligations.DeskRegisters : Prop :=
  (∀ (s : State) (a : Access) (v : Word), s.dev.Reaches a .DESK_DOORBELL a.deskB.toNat 0 →
    exec (.doorbellWrite a v) s = .next (s.withDev (
      if s.dev.deskUp (1 - a.deskB.toNat) then (s.dev.wr .DESK_DOORBELL_IN (1 - a.deskB.toNat) 0 v).irq (1 - a.deskB.toNat) 5
      else s.dev))) ∧
  (∀ (s : State) (a : Access) (v : Word), s.dev.Canon →
    s.dev.Reaches a .DESK_IRQ_MASK a.deskB.toNat 0 → ∃ t,
    exec (.irqMaskWrite a v) s = .next t ∧ t.dev.rd .DESK_IRQ_MASK a.deskB.toNat = v ∧
    t.dev.out = s.dev.out ++ ((List.range 32).filter fun n => bitAt (s.dev.rd .DESK_IRQ_MASK a.deskB.toNat).toNat n &&
      !bitAt v.toNat n && bitAt (s.dev.rd .DESK_IRQ_STAT a.deskB.toNat).toNat n).map fun n => .irq a.deskB.toNat n) ∧
  (∀ (s : State) (b : Bool) (q : EthReq), s.dev.deskUp b.toNat = false ∨ s.dev.bit F.DESK_PROT_LOCK.LOCKED 0 = false ∨
      s.dev.bit F.DESK_PROT_POLICY.ETH_MGMT_EN 0 = false ∨ q.dst.toNat ≠ s.dev.deskMac b.toNat →
    exec (.ethMgmtRead b q) s = .next s ∧ exec (.ethMgmtWrite b q) s = .next s) ∧
  (∀ (s : State) (b : Bool) (q : EthReq), s.dev.deskUp b.toNat = true → s.dev.bit F.DESK_PROT_LOCK.LOCKED 0 = true →
    s.dev.bit F.DESK_PROT_POLICY.ETH_MGMT_EN 0 = true → q.dst.toNat = s.dev.deskMac b.toNat → q.version = 1 →
    (∀ e, (s.dev.boot.eth.at [] b.toNat).find? (fun e => e.mac == q.mac.toNat && e.seq == q.seq.toNat) = some e →
      exec (.ethMgmtRead b q) s = .next (s.withDev (s.dev.emit (.mgmt b.toNat e.resp))) ∧
      exec (.ethMgmtWrite b q) s = .next (s.withDev (s.dev.emit (.mgmt b.toNat e.resp)))) ∧
    ((s.dev.boot.eth.at [] b.toNat).find? (fun e => e.mac == q.mac.toNat && e.seq == q.seq.toNat) = none →
      (∀ (l : List Nat) (d : Dev), (l, d) = s.dev.readWords { deskB := b, eth := true } (q.addr.toNat / 4 * 4)
          q.count.toNat →
        exec (.ethMgmtRead b q) s = .next (s.withDev (
          if 1 ≤ q.count.toNat ∧ q.count.toNat ≤ 256 then d.ethReply b.toNat q 0 l
          else s.dev.ethReply b.toNat q 2 []))) ∧
      (∀ d : Dev, d = s.dev.writeWords { deskB := b, eth := true } (q.addr.toNat / 4 * 4) q.data →
        exec (.ethMgmtWrite b q) s = .next (s.withDev (
          if s.dev.bit F.DESK_PROT_POLICY.ETH_MGMT_WR 0 = false then s.dev.ethReply b.toNat q 1 []
          else if 1 ≤ q.count.toNat ∧ q.count.toNat ≤ 256 ∧ q.data.length = q.count.toNat then
            (if d.deskUp b.toNat && d.bit F.DESK_PROT_LOCK.LOCKED 0 then d.ethReply b.toNat q 0 [] else d)
          else s.dev.ethReply b.toNat q 2 []))))) ∧
  (∀ (s : State) (r : JobCtl) (d : Dev), s.dev.JobReaches r → d = s.dev.jobTaken r → r.target.val = 0 →
    exec (.jobTeardown r) s = .next (s.withDev (d.jobDone r 3 []))) ∧
  (∀ (s : State) (r : JobCtl) (d : Dev), s.dev.JobReaches r → d = s.dev.jobTaken r → r.target.val ≠ 0 →
    d.jobValid r.target.val = false → exec (.jobTeardown r) s = .next (s.withDev (d.jobDone r 5 []))) ∧
  (∀ (s : State) (r : JobCtl) (d : Dev), s.dev.JobReaches r → d = s.dev.jobTaken r → r.target.val ≠ 0 →
    d.jobValid r.target.val = true → exec (.jobTeardown r) s = .next (s.withDev (d.teardown r)))

/-- Flash, fuses and firmware (R361, R368, R370, R377 to R379): a flash command at a block boundary reads the block into the
window, erases or programs it, STATUS 1 where the block is protected and 3 at another address, then vector 7; SVN_COMMIT in
READY with the supply in tolerance raises F to the running image's SVN, at most 64; FW_VERIFY reports the check of a slot; PIN
writes the pin record and UNPIN erases it; HITLESS needs the policy, a good image of the same configuration and the other Desk;
REBOOT resets the device; ATTEST without ATTEST_EN sets STATUS 1. -/
def Obligations.FlashAndFirmware : Prop :=
  (∀ (s : State) (a : Access) (d : Dev) (k addr : Nat), k = a.deskB.toNat → s.dev.Reaches a .DESK_FLASH_CMD k 0 →
    d = s.dev.set F.DESK_FLASH_CMD.OP k 0 → addr = d.get F.DESK_FLASH_ADDR.ADDR k →
    exec (.flashRead a) s = .next (s.withDev (
      if addr % 65536 ≠ 0 then flashEnd k (3, d)
      else flashEnd k (0, d.each (List.range 16384) fun e n =>
        e.wr .DESK_FLASH_WIN (16384 * k + n) 0 (BitVec.ofNat 32 (leNat (d.flashBytes k (addr + 4 * n) 4))))))) ∧
  (∀ (s : State) (a : Access) (d : Dev) (k addr : Nat), k = a.deskB.toNat → s.dev.Reaches a .DESK_FLASH_CMD k 0 →
    d = s.dev.set F.DESK_FLASH_CMD.OP k 1 → addr = d.get F.DESK_FLASH_ADDR.ADDR k →
    exec (.flashErase a) s = .next (s.withDev (flashEnd k (
      if addr % 65536 ≠ 0 then (3, d)
      else if d.flashProtected k addr then (1, d) else (0, d.flashPut k addr erasedBlock))))) ∧
  (∀ (s : State) (a : Access) (d : Dev) (k addr : Nat), k = a.deskB.toNat → s.dev.Reaches a .DESK_FLASH_CMD k 0 →
    d = s.dev.set F.DESK_FLASH_CMD.OP k 2 → addr = d.get F.DESK_FLASH_ADDR.ADDR k →
    exec (.flashProgram a) s = .next (s.withDev (flashEnd k (
      if addr % 65536 ≠ 0 then (3, d)
      else if d.flashProtected k addr then (1, d) else (0, d.flashPut k addr (d.windowBytes k)))))) ∧
  (∀ (d : Dev) (k j addr at' : Nat) (bs : List Byte), (j ≠ k ∨ at' < addr ∨ addr + bs.length ≤ at') →
    (d.flashPut k addr bs).flashByte j at' = d.flashByte j at') ∧
  (∀ (d : Dev) (k addr n : Nat) (bs : List Byte), d.Canon → n < bs.length →
    (d.flashPut k addr bs).flashByte k (addr + n) = bs.getD n 0) ∧
  (∀ (s : State) (a : Access), s.dev.Reaches a .DESK_SVN 0 0 → exec (.svnCommit a) s = .next (s.withDev (
    if s.dev.stage = 8 ∧ s.dev.supply = 0 ∧ s.dev.fused < (s.dev.runOf s.dev.master).svn then
      s.dev.set F.DESK_SVN.F 0 (min 64 (s.dev.runOf s.dev.master).svn)
    else s.dev))) ∧
  (∀ d : Dev, d.Canon → d.fused ≤ 64 → d.fused ≤ d.svnCommit.fused ∧ d.svnCommit.fused ≤ 64) ∧
  (∀ (s : State) (a : Access) (slot b : Bool) (d : Dev) (k : Nat), k = a.deskB.toNat → s.dev.Reaches a .DESK_FW_CMD k 0 →
    d = s.dev.fwSet k 0 slot.toNat b.toNat →
    exec (.fwVerify a slot b) s = .next (s.withDev (
      let c := (d.slotCheck { desk := k, slot := slot.toNat }).1
      d.fwEnd k (if c = 0 then 0 else 1) c))) ∧
  (∀ (s : State) (a : Access) (slot b : Bool) (d : Dev) (k : Nat), k = a.deskB.toNat → s.dev.Reaches a .DESK_FW_CMD k 0 →
    d = s.dev.fwSet k 1 slot.toNat b.toNat →
    exec (.fwPin a slot b) s = .next (s.withDev (
      (d.flashPut k pinBase [BitVec.ofNat 8 slot.toNat]).fwEnd k 0 0))) ∧
  (∀ (s : State) (a : Access) (b : Bool) (d : Dev) (k : Nat), k = a.deskB.toNat → s.dev.Reaches a .DESK_FW_CMD k 0 →
    d = s.dev.fwSet k 2 0 b.toNat →
    exec (.fwUnpin a b) s = .next (s.withDev (
      (d.flashPut k pinBase erasedPin).fwEnd k 0 0))) ∧
  (∀ (s : State) (a : Access) (slot b : Bool) (d : Dev) (k t c : Nat) (r : RunImg), k = a.deskB.toNat → t = b.toNat →
    s.dev.Reaches a .DESK_FW_CMD k 0 →
    d = s.dev.fwSet k 3 slot.toNat t →
    c = (d.slotCheck { desk := t, slot := slot.toNat }).1 → r = d.imageOf { desk := t, slot := slot.toNat } →
    exec (.fwHitless a slot b) s = .next (s.withDev (
      if d.bit F.DESK_PROT_POLICY.HITLESS_EN 0 = false then d.fwEnd k 2 0
      else if c ≠ 0 ∧ c ≠ 4 then d.fwEnd k 1 0
      else if r.cfg ≠ (d.runOf t).cfg ∨ r.agent ≠ (d.runOf t).agent ∨ r.svn < d.fused then d.fwEnd k 3 0
      else if d.deskUp (1 - t) = false then d.fwEnd k 4 0
      else ((((((d.deskLeave t 2).deskReset t).setRun t r).deskReturn t).showMismatch).certify t).fwEnd k 0 0))) ∧
  (∀ (s : State) (a : Access) (k : Nat), k = a.deskB.toNat → s.dev.Reaches a .DESK_FW_CMD k 0 →
    exec (.fwReboot a) s = .next (s.withDev ((s.dev.fwSet k 4 0 0).deviceReset false))) ∧
  (∀ (s : State), exec .enrolSelfReset s = .next (s.withDev (
    if s.dev.boot.selfReset then s.dev.deviceReset false else s.dev))) ∧
  (∀ (s : State) (a : Access) (k : Nat) (body : List Byte) (x : Nat) (d : Dev), k = a.deskB.toNat →
    s.dev.Reaches a .DESK_ATTEST_CMD k 0 → body = s.dev.reportBody k → (x, d) = s.dev.draw →
    exec (.attest a) s = .next (s.withDev (
      if s.dev.bit F.DESK_PROT_POLICY.ATTEST_EN 0 = false then s.dev.set F.DESK_ATTEST_CMD.STATUS k 1
      else (d.attestPut k certLen (body ++ fixLen 2420 (Config.mlDsaSign d.akSeed body x))).set
        F.DESK_ATTEST_CMD.STATUS k 0)))

/-- The boot order (R359 to R371): it runs once, from STAGE 0. Where no slot of either Desk is valid it ends in FAILED with the
code of slot 0; an unenrolled part takes an agreed enrolment image and fuses its key, and without one waits; an image whose
place or partition fails ends in FAILED with codes 6 and 7; one whose configuration fails ends with that code and section; else
the lock is set, policy and certificates are in place, and the engines are enabled. -/
def Obligations.BootOrder : Prop :=
  (∀ s : State, s.dev.stage ≠ 0 → exec .boot s = .next s) ∧
  (∀ (s : State) (d : Dev), s.dev.stage = 0 → d = s.dev.bootStart → exec .boot s = .next (s.withDev (
    match d.agree with
    | none => if d.unenrolled then d.stageGo 0xE
        else d.bootFail (d.slotCheck { desk := 0, slot := 0 }).1 (d.slotCheck { desk := 0, slot := 0 }).2
    | some (p, q, m) => if d.unenrolled then d.enrol p else d.bootImage p q m))) ∧
  (∀ (d e : Dev) (p q : Machine.Place) (m : Bool),
    e = (((d.setRun 0 (d.imageOf p)).setRun 1 (d.imageOf q)).setB F.DESK_BOOT_STAT.FLASH_MISMATCH 0 m).stageGo 3 →
    (e.placeOk p = false → d.bootImage p q m = e.bootFail 6 (e.sectionNo p 5)) ∧
    (e.placeOk p = true → e.partitionOk p = false → d.bootImage p q m = e.bootFail 7 (e.sectionNo p 4)) ∧
    (e.placeOk p = true → e.partitionOk p = true → ∀ (f : Dev) (r : (Nat × Nat) × Dev),
      f = ((e.setPartition p).stageGo 4).setPlace p → r = f.bootConfig (f.failing 0 []) (f.configList p) →
      d.bootImage p q m = if r.1.1 = 0 then ((r.2.calSection).stageGo 5).bootLock p else r.2.bootFail r.1.1 r.1.2)) ∧
  (∀ (d : Dev) (code sec : Nat), d.Canon → code < 256 → (d.bootFail code sec).stage = 0xF ∧
    (d.bootFail code sec).get F.DESK_BOOT_STAT.CHECK_ERR 0 = code ∧ (d.bootFail code sec).pwr.faultLow = true) ∧
  (∀ (d : Dev) (p : Machine.Place), d.Canon → (d.enrol p).stage = 0xE ∧ (d.enrol p).boot.selfReset = true ∧
    (d.enrol p).bit F.DESK_IDENT.KEY_ENROLLED 0 = true) ∧
  (∀ (d : Dev) (p : Machine.Place), d.Canon → (d.bootLock p).bit F.DESK_PROT_LOCK.LOCKED 0 = true)

/-- The supply (R387, R389 to R392, Tables 17.3 to 17.5): a warning takes NORMAL to WARN, its end WARN to NORMAL, counted and
raised; a safe stop in SAFE records its cause alone, any other enters SAFE with its cause and FAULT_N low, ends links and work
and turns every domain off; a resume is possible only in SAFE with no cause left, by itself only after a supply's stop with
AUTO_RESUME; it ends in NORMAL, counted. A loss of VIN_MAIN is a safe stop and a reset that keeps the heater code latches. -/
def Obligations.SupplyAndSafeStop : Prop :=
  (∀ (s : State) (mv : BitVec 16) (d : Dev), d = s.dev.vinMain mv.toNat → exec (.supplyWarn mv) s = .next (s.withDev (
    if d.supply = 0 then d.set F.PWR_STAT.STATE 0 1 else d))) ∧
  (∀ (s : State) (mv : BitVec 16) (d : Dev), d = s.dev.vinMain mv.toNat → exec (.supplyWarnClear mv) s = .next (s.withDev (
    if d.supply = 1 then (((d.set F.PWR_STAT.STATE 0 0).count .PWR_DIP_CNT).raise 43 0 0).bootEngines else d))) ∧
  (∀ (d : Dev) (mv : Nat), d.Canon → mv < 2 ^ 16 → (d.vinMain mv).get F.PWR_VIN_MAIN.NOW 0 = mv ∧
    ((d.vinMain mv).get F.PWR_VIN_MAIN.LOW 0 = if d.get F.PWR_VIN_MAIN.LOW 0 = 0 then mv
      else min (d.get F.PWR_VIN_MAIN.LOW 0) mv) ∧ (5300 ≤ mv → 1 ∉ (d.vinMain mv).pwr.causes)) ∧
  (∀ s : State, exec (.safeStop 0) s = .next s) ∧
  (∀ (s : State) (c : Fin 5), c ≠ 0 → s.dev.supply = 2 → exec (.safeStop c) s = .next (s.withDev (s.dev.updPwr fun p =>
    { p with causes := if c.val = 4 ∨ p.causes.contains c.val then p.causes else p.causes ++ [c.val] }))) ∧
  (∀ (s : State) (c : Fin 5) (d : Dev), s.dev.Canon → c ≠ 0 → s.dev.supply ≠ 2 → d = ((((s.dev.updPwr fun p => { p with
      causes := if c.val = 4 ∨ p.causes.contains c.val then p.causes else p.causes ++ [c.val] }).set F.PWR_STAT.STATE 0 2).set
        F.PWR_STAT.SAFE_CAUSE 0 c.val).faultPin true) →
    exec (.safeStop c) s = .next (s.withDev (
      let e := (d.set F.PWR_SAFE_REC.CAUSE 0 c.val).set F.PWR_SAFE_REC.STOPS 0 (d.get F.PWR_SAFE_REC.STOPS 0 + 1)
      (if c.val = 1 then e.raise 43 1 0 else e).cwinCutAll.allDown.sbdOff.safeDiscard.domainsOff)) ∧
    d.supply = 2 ∧ d.get F.PWR_STAT.SAFE_CAUSE 0 = c.val ∧ d.pwr.faultLow = true) ∧
  (∀ d : Dev, d.Canon → d.domainsOff.get F.PWR_PD_STAT.ON 0 = 0 ∧ d.domainsOff.pwr.pdq = []) ∧
  (∀ (s : State) (a : Access), s.dev.Reaches a .PWR_CTL 0 0 → exec (.resumeWrite a) s = .next (s.withDev (
    if s.dev.supply = 2 ∧ s.dev.pwr.causes = [] then s.dev.resumeBegin else s.dev))) ∧
  (∀ (s : State) (d : Dev), d = s.dev.updPwr (fun p => { p with causes := p.causes.filter fun c => decide (2 < c) }) →
    exec .autoResume s = .next (s.withDev (
      if d.supply = 2 ∧ (d.get F.PWR_STAT.SAFE_CAUSE 0 = 1 ∨ d.get F.PWR_STAT.SAFE_CAUSE 0 = 2) ∧
        d.bit F.PWR_CTL.AUTO_RESUME 0 ∧ d.pwr.causes = [] then d.resumeBegin else d))) ∧
  (∀ s : State, exec .resumeComplete s = .next (s.withDev (
    if s.dev.supply = 3 then
      (((s.dev.set F.PWR_STAT.STATE 0 0).drainClear).resumeDrawers.resumeWindows).count .PWR_SAFE_CNT
    else s.dev))) ∧
  (∀ s : State, exec .powerLoss s = .next (s.withDev (((s.dev.safeStop 1).afterReset false true).faultPin true)))

/-- Resets and switched domains (R383, R384, R393, R394, Tables 17.2, 17.6A, 18.8): a device reset leaves the fuses, the flash
and what has left the block, starts at STAGE 0 with FAULT_N low, and keeps the straps and the retained record unless VIN_AON was
lost; the release of the power-on reset samples the straps and releases FAULT_N; VIN_AON in tolerance drives it low; PERST
clears the MSI-X table and the latch of its Desk. A domain write while refused is counted; else it requests the domains that go
on in order and switches off those that go off. The domain turning on is on, and the next follows. -/
def Obligations.ResetsAndDomains : Prop :=
  (∀ (d : Dev) (aon htr : Bool), (d.afterReset aon htr).stage = 0 ∧ (d.afterReset aon htr).boot.flash = d.boot.flash ∧
    (d.afterReset aon htr).fused = d.fused ∧ (d.afterReset aon htr).keyHash = d.keyHash ∧ (d.afterReset aon htr).out = d.out) ∧
  (∀ (s : State) (aon : Bool), ∃ t, exec (.deviceReset aon) s = .next t ∧ t.dev.pwr.faultLow = true ∧ t.dev.stage = 0 ∧
    t.dev.boot.flash = s.dev.boot.flash ∧ t.dev.fused = s.dev.fused ∧ t.dev.keyHash = s.dev.keyHash ∧ s.dev.out <+: t.dev.out ∧
    t.dev.boot.run = [] ∧ t.dev.pool.mem = [] ∧ t.dev.bit F.DESK_PROT_LOCK.LOCKED 0 = false ∧
    (aon = false → t.dev.rd .DESK_STRAP 0 = s.dev.rd .DESK_STRAP 0 ∧ t.dev.rd .PWR_SAFE_REC 0 = s.dev.rd .PWR_SAFE_REC 0)) ∧
  (∀ (s : State) (straps : BitVec 6), ∃ t, exec (.powerOnResetRelease straps) s = .next t ∧ t.dev.pwr.faultLow = false ∧
    t.dev.get F.DESK_STRAP.DEVICE_ID 0 = straps.toNat ∧ t.dev.stage = 0 ∧ t.dev.fused = s.dev.fused) ∧
  (∀ (s : State) (mv : BitVec 16), s.dev.Canon → ∃ t, exec (.vinAonInTolerance mv) s = .next t ∧ t.dev.pwr.faultLow = true ∧
    t.dev.get F.PWR_VIN_AUX.AON 0 = mv.toNat) ∧
  (∀ (s : State) (b : Bool), ∃ t, exec (.perst b) s = .next t ∧ t.dev.bus.latch = s.dev.bus.latch.erase (2 * b.toNat) ∧
    (s.dev.Canon → ∀ (r : Reg) (i w : Nat), r ≠ .DESK_MSIX → r ≠ .DESK_MSIX_PBA → t.dev.rd r i w = s.dev.rd r i w)) ∧
  (∀ (s : State) (a : Access) (v : Word), s.dev.Reaches a .PWR_PD_CTL 0 0 → s.dev.domainRefused = true →
    exec (.domainSwitchWrite a v) s = .next (s.withDev (s.dev.count .PWR_PD_REFUSE))) ∧
  (∀ (s : State) (a : Access) (v : Word), s.dev.Reaches a .PWR_PD_CTL 0 0 → s.dev.domainRefused = false →
    exec (.domainSwitchWrite a v) s = .next (s.withDev (
      (s.dev.set F.PWR_PD_CTL.PD 0 (bitsOf v.toNat 29 16)).each (List.range 14) fun d n =>
        if bitAt (bitsOf v.toNat 29 16) n = bitAt (s.dev.get F.PWR_PD_CTL.PD 0) n then d
        else if bitAt (bitsOf v.toNat 29 16) n then d.domainRequest (16 + n)
        else if n < 8 then d.cabOff n
        else d.sbdPdOff (16 + n)))) ∧
  (∀ s : State, s.dev.pwr.pdq = [] → exec .domainOnComplete s = .next s) ∧
  (∀ (s : State) (pd : Nat) (r : List Nat) (d : Dev), s.dev.pwr.pdq = pd :: r →
    d = ((s.dev.updPwr fun p => { p with pdq := r }).setB F.PWR_PD_STAT.BUSY 0 (r != [])) →
    exec .domainOnComplete s = .next (s.withDev (
      let e := d.set F.PWR_PD_STAT.ON 0 (withBit (d.get F.PWR_PD_STAT.ON 0) pd true)
      if pd < 16 then e.engineStart pd else if 24 ≤ pd then e.sbdDomainOn pd else e)))

/-- Limiter, temperatures and references (R395 to R397, R399): the limiter enters step 1 above SHORT_A or LONG_A, step 2 from
step 1, and releases below 95 % of LONG_A; VR_HOT imposes both steps while it is asserted; entering step 1 is counted. A sensor
throttles from its throttle value up to its release value, raises THERMAL once, and at THERMTRIP stops the device. A reference
that is lost is counted and raised; the selected one gives holdover, or the other with AUTO; a switch needs the other present; a
returning one ends the holdover. -/
def Obligations.LimiterThermalClocks : Prop :=
  (∀ (s : State) (x y : BitVec 16) (d : Dev), d = (s.dev.set F.PWR_I_MAIN.AVG1 0 x.toNat).set F.PWR_I_MAIN.AVG100 0 y.toNat →
    exec (.limiterStep1 x y) s = .next (s.withDev (
      if d.pwr.limStep = 0 ∧ (10 * d.shortA < x.toNat ∨ 10 * d.longA < x.toNat) then
        (d.updPwr fun p => { p with limStep := 1 }).showLimit d.limStep
      else d))) ∧
  (∀ s : State, exec .limiterStep2 s = .next (s.withDev (
    if s.dev.pwr.limStep = 1 then (s.dev.updPwr fun p => { p with limStep := 2 }).showLimit s.dev.limStep else s.dev))) ∧
  (∀ (s : State) (y : BitVec 16) (d : Dev), d = s.dev.set F.PWR_I_MAIN.AVG100 0 y.toNat →
    exec (.limiterRelease y) s = .next (s.withDev (
      if 100 * y.toNat < 950 * d.longA then (d.updPwr fun p => { p with limStep := 0 }).showLimit d.limStep else d))) ∧
  (∀ s : State, exec .vrHotAssert s = .next (s.withDev ((s.dev.setB F.PWR_STAT.VR_HOT 0 true).showLimit s.dev.limStep))) ∧
  (∀ s : State, exec .vrHotDeassert s = .next (s.withDev ((s.dev.setB F.PWR_STAT.VR_HOT 0 false).showLimit s.dev.limStep))) ∧
  (∀ (d : Dev) (was : Nat), d.Canon → (d.showLimit was).rd .PWR_THROTTLE_CNT 0 =
    if was = 0 ∧ d.limStep ≠ 0 then (d.count .PWR_THROTTLE_CNT).rd .PWR_THROTTLE_CNT 0 else d.rd .PWR_THROTTLE_CNT 0) ∧
  (∀ (s : State) (n : Fin 45) (x : Fin 20) (v : BitVec 16), sensorsOf n ≤ x → exec (.thermalSensorUpdate n x v) s = .next s) ∧
  (∀ (s : State) (n : Fin 45) (x : Fin 20) (v : BitVec 16), s.dev.Canon → x.val < sensorsOf n → ∃ d : Dev,
    exec (.thermalSensorUpdate n x v) s = .next (s.withDev (
      if 8 * ((thermal n x).2.2.2 : Int) ≤ v.toInt then (d.tripPin true).safeStop 3
      else if d.pwr.tripLow ∧ d.tripHeld = false then
        (d.tripPin false).updPwr fun p => { p with causes := p.causes.filter (· != 3) }
      else d)) ∧
    d.bit F.PWR_TEMP.VALID (20 * n + x) = true ∧ d.get F.PWR_TEMP.TEMP (20 * n + x) = ofSigned 16 v.toInt ∧
    ((d.bit F.PWR_TEMP.THROTTLE (20 * n + x) = true) ↔ (thermal n x).1 ≠ 0 ∧
      (if s.dev.throttled n x then 8 * ((thermal n x).2.1 : Int) < v.toInt else 8 * ((thermal n x).1 : Int) ≤ v.toInt)) ∧
    ((d.bit F.PWR_TEMP.TRIP (20 * n + x) = true) ↔ 8 * ((thermal n x).2.2.1 : Int) ≤ v.toInt)) ∧
  (∀ (s : State) (b : Bool), s.dev.refOk b = false → exec (.refClockLoss b) s = .next s) ∧
  (∀ (s : State) (b : Bool) (d : Dev), s.dev.refOk b = true →
    d = ((s.dev.setRef b false).count .CLK_REF_LOSS_CNT).raise 43 2 0 → exec (.refClockLoss b) s = .next (s.withDev (
      if d.bit F.CLK_STAT.SEL 0 ≠ b then d
      else if d.bit F.CLK_REF_CTL.AUTO 0 ∧ d.refOk (!b) then d.refMove (!b)
      else d.setB F.CLK_STAT.HOLDOVER 0 true))) ∧
  (∀ (s : State) (a : Access), s.dev.Reaches a .CLK_REF_CTL 0 0 → exec (.refSwitch a) s = .next (s.withDev (
    if s.dev.refOk (!s.dev.bit F.CLK_STAT.SEL 0) then s.dev.refMove (!s.dev.bit F.CLK_STAT.SEL 0) else s.dev))) ∧
  (∀ (s : State) (b : Bool) (d : Dev), d = s.dev.setRef b true → exec (.refClockReturn b) s = .next (s.withDev (
    if d.bit F.CLK_STAT.HOLDOVER 0 = false then d
    else if d.bit F.CLK_STAT.SEL 0 = b then d.setB F.CLK_STAT.HOLDOVER 0 false
    else if d.bit F.CLK_REF_CTL.AUTO 0 then d.refMove b
    else d)))

/-- R375, the semaphores: a write with ACQ = 1 takes a free semaphore and stores the writer's Desk in OWNER and the written
TOKEN, and is discarded by a held one; a write with ACQ = 0 releases it only through the owning Desk with a matching TOKEN, and
otherwise changes nothing; commands run in their order, so the first of two takers wins; a Desk that leaves service releases
every semaphore that it owns. Software reads OWNER and TOKEN back as they stand. -/
def Obligations.Semaphores : Prop :=
  (∀ (s : State) (a : Access) (n : Fin 32) (token : BitVec 16), s.dev.Canon → s.dev.Reaches a .DESK_SEM n 0 →
    s.dev.bit F.DESK_SEM.HELD n = false → ∃ t, exec (.semAcquire a n token) s = .next t ∧
      t.dev.bit F.DESK_SEM.HELD n = true ∧ t.dev.get F.DESK_SEM.OWNER n = a.deskB.toNat + 1 ∧
      t.dev.get F.DESK_SEM.TOKEN n = token.toNat ∧
      ∀ (r : Reg) (i w : Nat), ¬(r = .DESK_SEM ∧ i = n ∧ w = 0) → t.dev.rd r i w = s.dev.rd r i w) ∧
  (∀ (s : State) (a : Access) (n : Fin 32) (token : BitVec 16), s.dev.Reaches a .DESK_SEM n 0 →
    s.dev.bit F.DESK_SEM.HELD n = true → exec (.semAcquire a n token) s = .next s) ∧
  (∀ (s : State) (a : Access) (n : Fin 32) (token : BitVec 16), s.dev.Canon → s.dev.Reaches a .DESK_SEM n 0 →
    s.dev.bit F.DESK_SEM.HELD n = true → s.dev.get F.DESK_SEM.OWNER n = a.deskB.toNat + 1 →
    s.dev.get F.DESK_SEM.TOKEN n = token.toNat → ∃ t, exec (.semRelease a n token) s = .next t ∧
      t.dev.bit F.DESK_SEM.HELD n = false ∧ t.dev.get F.DESK_SEM.OWNER n = 0) ∧
  (∀ (s : State) (a : Access) (n : Fin 32) (token : BitVec 16), s.dev.Reaches a .DESK_SEM n 0 →
    s.dev.bit F.DESK_SEM.HELD n = false ∨ s.dev.get F.DESK_SEM.OWNER n ≠ a.deskB.toNat + 1 ∨
      s.dev.get F.DESK_SEM.TOKEN n ≠ token.toNat → exec (.semRelease a n token) s = .next s) ∧
  (∀ (s t : State) (a b : Access) (n : Fin 32) (x y : BitVec 16) (r : List Instr), s.dev.Canon →
    s.pending = .semAcquire a n x :: .semAcquire b n y :: r → s.dev.Reaches a .DESK_SEM n 0 → s.dev.Reaches b .DESK_SEM n 0 →
    s.dev.bit F.DESK_SEM.HELD n = false → step s = .next t → step t = .next { t with pending := r } ∧
      t.dev.get F.DESK_SEM.OWNER n = a.deskB.toNat + 1 ∧ t.dev.get F.DESK_SEM.TOKEN n = x.toNat) ∧
  (∀ (d : Dev) (k st n : Nat), d.Canon → n < 32 → d.get F.DESK_SEM.OWNER n = k + 1 →
    (d.deskLeave k st).bit F.DESK_SEM.HELD n = false ∧ (d.deskLeave k st).get F.DESK_SEM.OWNER n = 0)

/-- R10, event counters: counting adds one, and saturates at all ones, where the counter holds; so do the counters of 64 bits
and the 16-bit counts within a register. No other register word changes. -/
def Obligations.CounterSaturation : Prop :=
  (∀ (d : Dev) (r : Reg) (i : Nat), d.Canon → (d.count r i).rd r i =
    if d.rd r i = 0xFFFFFFFF#32 then 0xFFFFFFFF#32 else d.rd r i + 1) ∧
  (∀ (d : Dev) (r : Reg) (i n : Nat), d.Canon → (d.add64 r i n).rdWide r i 0 2 = min (d.rdWide r i 0 2 + n) (2 ^ 64 - 1)) ∧
  (∀ (d : Dev) (f : Fld) (i : Nat), d.Canon → f.lo ≤ f.hi → f.hi / 32 = f.lo / 32 →
    (d.bumpSat f i).get f i = if d.get f i = 2 ^ (f.hi + 1 - f.lo) - 1 then d.get f i else d.get f i + 1) ∧
  (∀ (d : Dev) (r q : Reg) (i j w n : Nat), ¬(q = r ∧ j = i ∧ w < 2) →
    (d.count r i).rd q j w = d.rd q j w ∧ (d.add64 r i n).rd q j w = d.rd q j w)

/-- One step (the block's queue): the command at the front runs with the rest of the queue, and the queue is otherwise left
alone; every command answers a next state. On an empty queue a tick of CLK_TIME passes (a DESIGN CHOICE of the model, log entry
1), which raises the raw counter (R297) and holds two cycles of CLK_CORE (R157, R400). -/
def Obligations.StepRunsFront : Prop :=
  (∀ (s : State) (c : Instr) (r : List Instr), s.pending = c :: r → step s = exec c { s with pending := r }) ∧
  (∀ s : State, s.pending = [] → step s = .next (s.withDev s.dev.tickAll) ∧
    s.dev.tickAll.time.raw = (s.dev.pmcTick.time.raw + 1) % 2 ^ 64 ∧
    (s.dev.core.crossing = false → s.dev.tickAll.core.cyc = (s.dev.core.cyc + 2) % 112)) ∧
  (∀ (c : Instr) (s : State), ∃ t, exec c s = .next t ∧ t.pending = s.pending) ∧
  (∀ (c : Instr) (s t : State) (q : List Instr), exec c s = .next t → exec c { s with pending := q } =
    .next { t with pending := q })

/-- Reset (R424): the queue is empty, every register word reads its Reset column value, the pool memory, the flash and the
output are empty, the raw counter is 0, every link is DOWN, boot is at STAGE 0 with the lock open, and the supply is NORMAL; the
state is canonical. -/
def Obligations.ResetState : Prop :=
  Machine.State.reset.pending = [] ∧ Machine.State.reset.dev.Canon ∧
  (∀ (r : Reg) (i w : Nat), Machine.State.reset.dev.rd r i w = r.reset i w) ∧
  Machine.State.reset.dev.pool.mem = [] ∧ Machine.State.reset.dev.boot.flash = [] ∧ Machine.State.reset.dev.out = [] ∧
  Machine.State.reset.dev.time.raw = 0 ∧ (∀ lp : Nat, Machine.State.reset.dev.lpState lp = 0) ∧
  Machine.State.reset.dev.stage = 0 ∧ Machine.State.reset.dev.bit F.DESK_PROT_LOCK.LOCKED 0 = false ∧
  Machine.State.reset.dev.supply = 0

/-- Every step keeps the canonical form: the register words, the pool's bytes and the flash's bytes each have one form, no entry
equal to what an unlisted one reads as, and the raw counter stays a 64-bit number. -/
def Obligations.EveryStepKeepsCanon : Prop :=
  ∀ s t : State, s.dev.Canon → step s = .next t → t.dev.Canon

/-- A run of any length from a canonical state never stops: it takes the commands from the front of the queue one by one, ends
canonical, keeps in its place all that had left the block, and never uses an index of a free value again. -/
def Obligations.RunsAreSafe : Prop :=
  ∀ (k : Nat) (s : State), s.dev.Canon → SafeRun k s ∧
    ∀ t, runSteps k s = some t → t.pending = s.pending.drop k ∧ s.dev.out <+: t.dev.out ∧ s.dev.fresh ≤ t.dev.fresh
end

