-- ==== Sys2Proof/Laws/Exec.lean ====
section
/-! SUPPORT. What each command does, once per constructor: exec answers the state with the device that the command's own
operation gives, and with its queue. -/
namespace Sys2Proof.Machine

theorem exec_registerWrite (a : Access) (addr : BitVec 26) (be : BitVec 4) (v : Word) (s : State) :
    exec (.registerWrite a addr be v) s = .next (s.withDev (s.dev.writeBytes a addr.toNat be.toNat v)) := rfl

theorem exec_lowWordRead (a : Access) (addr : BitVec 26) (s : State) :
    exec (.lowWordRead a addr) s = .next (s.withDev (s.dev.answer a addr.toNat)) := rfl

theorem exec_highWordRead (a : Access) (addr : BitVec 26) (s : State) :
    exec (.highWordRead a addr) s = .next (s.withDev (s.dev.answer a addr.toNat)) := rfl

theorem exec_lowWordWrite (a : Access) (addr : BitVec 26) (v : Word) (s : State) :
    exec (.lowWordWrite a addr v) s = .next (s.withDev (s.dev.writeTo a addr.toNat v)) := rfl

theorem exec_highWordWrite (a : Access) (addr : BitVec 26) (v : Word) (s : State) :
    exec (.highWordWrite a addr v) s = .next (s.withDev (s.dev.writeTo a addr.toNat v)) := rfl

theorem exec_rcRead (a : Access) (addr : BitVec 26) (s : State) :
    exec (.rcRead a addr) s = .next (s.withDev (s.dev.answer a addr.toNat)) := rfl

theorem exec_adminUpWrite (a : Access) (lp : Fin 1024) (up : Bool) (s : State) :
    exec (.adminUpWrite a lp up) s =
      .next (s.withDev (s.dev.onWrite a .LNK_PORT_CFG (lp / 4) 0 fun d => d.adminWrite lp up)) := rfl

theorem exec_laneCfgWrite (a : Access) (port : Fin 256) (lane : Fin 18) (v : Word) (s : State) :
    exec (.laneCfgWrite a port lane v) s =
      .next (s.withDev (s.dev.onWrite a .LNK_LANE_CFG (18 * port + lane) 0 fun d => d.laneCfgWrite port lane v)) := rfl

theorem exec_lightPresent (lp : Fin 1024) (s : State) :
    exec (.lightPresent lp) s = .next (s.withDev (s.dev.lightPresent lp)) := rfl

theorem exec_ringsLockedAlign (lp : Fin 1024) (s : State) :
    exec (.ringsLockedAlign lp) s = .next (s.withDev (s.dev.ringsLocked lp)) := rfl

theorem exec_fecLock (lp : Fin 1024) (s : State) :
    exec (.fecLock lp) s = .next (s.withDev (s.dev.fecLock lp)) := rfl

theorem exec_laneMarkerReceived (port : Fin 256) (lane : Fin 18) (m : BitVec 160) (prbsOk : Bool) (s : State) :
    exec (.laneMarkerReceived port lane m prbsOk) s = .next (s.withDev (s.dev.laneMarker port lane m.toNat prbsOk)) := rfl

theorem exec_linkControlReceived (lp : Fin 1024) (flit : List Byte) (badCodeword : Bool) (corrected : List (Fin 16)) (s : State) :
    exec (.linkControlReceived lp flit badCodeword corrected) s =
      .next (s.withDev (s.dev.withCodeword lp badCodeword corrected fun d => d.linkControl lp flit)) := rfl

theorem exec_trainTimeout (lp : Fin 1024) (s : State) :
    exec (.trainTimeout lp) s = .next (s.withDev (s.dev.trainTimeout lp)) := rfl

theorem exec_retrainTimeout (lp : Fin 1024) (s : State) :
    exec (.retrainTimeout lp) s = .next (s.withDev (s.dev.retrainTimeout lp)) := rfl

theorem exec_markerLockLoss (port : Fin 256) (lane : Fin 18) (s : State) :
    exec (.markerLockLoss port lane) s = .next (s.withDev (s.dev.markerLoss port lane)) := rfl

theorem exec_lmapGenMismatchTimeout (lp : Fin 1024) (s : State) :
    exec (.lmapGenMismatchTimeout lp) s = .next (s.withDev (s.dev.lmapMismatch lp)) := rfl

theorem exec_dataFlitReceived (lp : Fin 1024) (flit : List Byte) (badCodeword : Bool) (corrected : List (Fin 16)) (s : State) :
    exec (.dataFlitReceived lp flit badCodeword corrected) s =
      .next (s.withDev (s.dev.withCodeword lp badCodeword corrected fun d => d.dataFlit lp flit)) := rfl

theorem exec_replayReqReceived (lp : Fin 1024) (ack : BitVec 16) (s : State) :
    exec (.replayReqReceived lp ack) s = .next (s.withDev (s.dev.replayReq lp ack.toNat)) := rfl

theorem exec_senderReplayTimeout (lp : Fin 1024) (s : State) :
    exec (.senderReplayTimeout lp) s = .next (s.withDev (s.dev.startReplay lp)) := rfl

theorem exec_receiverReplayTimeout (lp : Fin 1024) (s : State) :
    exec (.receiverReplayTimeout lp) s = .next (s.withDev (s.dev.receiverTimeout lp)) := rfl

theorem exec_egressFlitSlot (lp : Fin 1024) (s : State) :
    exec (.egressFlitSlot lp) s = .next (s.withDev (s.dev.egressSlot lp)) := rfl

theorem exec_fastReacquire (lp : Fin 1024) (within1us : Bool) (s : State) :
    exec (.fastReacquire lp within1us) s = .next (s.withDev (s.dev.fastReacquire lp within1us)) := rfl

theorem exec_fastReacqTimeout (lp : Fin 1024) (s : State) :
    exec (.fastReacqTimeout lp) s = .next (s.withDev (s.dev.fastReacqTimeout lp)) := rfl

theorem exec_spareLight (lp : Fin 1024) (m : LaneMsg) (s : State) :
    exec (.spareLight lp m) s = .next (s.withDev (s.dev.msgSpareLight lp m)) := rfl

theorem exec_spareReady (lp : Fin 1024) (m : LaneMsg) (s : State) :
    exec (.spareReady lp m) s = .next (s.withDev (s.dev.msgSpareReady lp m)) := rfl

theorem exec_mirror (lp : Fin 1024) (m : LaneMsg) (s : State) :
    exec (.mirror lp m) s = .next (s.withDev (s.dev.msgMirror lp m)) := rfl

theorem exec_mirrorAck (lp : Fin 1024) (m : LaneMsg) (s : State) :
    exec (.mirrorAck lp m) s = .next (s.withDev (s.dev.msgAck lp 3 m)) := rfl

theorem exec_switchDone (lp : Fin 1024) (m : LaneMsg) (s : State) :
    exec (.switchDone lp m) s = .next (s.withDev (s.dev.msgSwitchDone lp m)) := rfl

theorem exec_laneFault (lp : Fin 1024) (m : LaneMsg) (s : State) :
    exec (.laneFault lp m) s = .next (s.withDev (s.dev.msgLaneFault lp m)) := rfl

theorem exec_drop (lp : Fin 1024) (m : LaneMsg) (s : State) :
    exec (.drop lp m) s = .next (s.withDev (s.dev.msgDrop lp m)) := rfl

theorem exec_dropAck (lp : Fin 1024) (m : LaneMsg) (s : State) :
    exec (.dropAck lp m) s = .next (s.withDev (s.dev.msgAck lp 7 m)) := rfl

theorem exec_add (lp : Fin 1024) (m : LaneMsg) (s : State) :
    exec (.add lp m) s = .next (s.withDev (s.dev.msgAdd lp m)) := rfl

theorem exec_addAck (lp : Fin 1024) (m : LaneMsg) (s : State) :
    exec (.addAck lp m) s = .next (s.withDev (s.dev.msgAck lp 9 m)) := rfl

theorem exec_nak (lp : Fin 1024) (m : LaneMsg) (s : State) :
    exec (.nak lp m) s = .next (s.withDev (s.dev.msgNak lp m)) := rfl

theorem exec_lanectlTimeout (lp : Fin 1024) (s : State) :
    exec (.lanectlTimeout lp) s = .next (s.withDev (s.dev.lanectlTimeout lp)) := rfl

theorem exec_mirrorBegin (lp : Fin 1024) (s : State) :
    exec (.mirrorBegin lp) s = .next (s.withDev (s.dev.mirrorBegin lp)) := rfl

theorem exec_mirrorSwitch (lp : Fin 1024) (s : State) :
    exec (.mirrorSwitch lp) s = .next (s.withDev (s.dev.mirrorSwitch lp)) := rfl

theorem exec_dropApply (lp : Fin 1024) (s : State) :
    exec (.dropApply lp) s = .next (s.withDev (s.dev.dropApply lp)) := rfl

theorem exec_addApply (lp : Fin 1024) (s : State) :
    exec (.addApply lp) s = .next (s.withDev (s.dev.addApply lp)) := rfl

theorem exec_lnkSwapCmdSwap (a : Access) (port : Fin 256) (lane : Fin 18) (spare : Fin 18) (s : State) :
    exec (.lnkSwapCmdSwap a port lane spare) s =
      .next (s.withDev (s.dev.onWrite a .LNK_SWAP_CMD port 0 fun d => d.swapCmd port 0 lane spare)) := rfl

theorem exec_lnkSwapCmdDrop (a : Access) (port : Fin 256) (lane : Fin 18) (s : State) :
    exec (.lnkSwapCmdDrop a port lane) s =
      .next (s.withDev (s.dev.onWrite a .LNK_SWAP_CMD port 0 fun d => d.swapCmd port 1 lane 0)) := rfl

theorem exec_lnkSwapCmdAdd (a : Access) (port : Fin 256) (lane : Fin 18) (s : State) :
    exec (.lnkSwapCmdAdd a port lane) s =
      .next (s.withDev (s.dev.onWrite a .LNK_SWAP_CMD port 0 fun d => d.swapCmd port 2 lane 0)) := rfl

theorem exec_laneLossOfLight (port : Fin 256) (lane : Fin 18) (s : State) :
    exec (.laneLossOfLight port lane) s = .next (s.withDev (s.dev.lossOfLight port lane)) := rfl

theorem exec_ringLockinUpdate (oe : Fin 16) (ring : Fin 576) (o : LockinObs) (s : State) :
    exec (.ringLockinUpdate oe ring o) s = .next (s.withDev (s.dev.lockin (oeRing oe ring) o)) := rfl

theorem exec_ringWindowEval (oe : Fin 16) (ring : Fin 576) (temp : BitVec 16) (s : State) :
    exec (.ringWindowEval oe ring temp) s = .next (s.withDev (s.dev.windowEval (oeRing oe ring) temp.toNat)) := rfl

theorem exec_preheatDone (oe : Fin 16) (ring : Fin 576) (s : State) :
    exec (.preheatDone oe ring) s = .next (s.withDev (s.dev.preheatDone (oeRing oe ring))) := rfl

theorem exec_sweepComplete (oe : Fin 16) (ring : Fin 576) (o : SweepObs) (s : State) :
    exec (.sweepComplete oe ring o) s = .next (s.withDev (s.dev.sweepDone (oeRing oe ring) o)) := rfl

theorem exec_captureTimeout (oe : Fin 16) (ring : Fin 576) (s : State) :
    exec (.captureTimeout oe ring) s = .next (s.withDev (s.dev.captureTimeout (oeRing oe ring))) := rfl

theorem exec_outRetryTimer (oe : Fin 16) (ring : Fin 576) (s : State) :
    exec (.outRetryTimer oe ring) s = .next (s.withDev (s.dev.outRetry (oeRing oe ring))) := rfl

theorem exec_reacqMarkerTimeout (port : Fin 256) (lane : Fin 18) (s : State) :
    exec (.reacqMarkerTimeout port lane) s = .next (s.withDev (s.dev.reacqTimeout port lane)) := rfl

theorem exec_symbolErrorCheck (port : Fin 256) (lane : Fin 18) (errors symbols : BitVec 32) (s : State) :
    exec (.symbolErrorCheck port lane errors symbols) s =
      .next (s.withDev (s.dev.symbolCheck port lane errors.toNat symbols.toNat)) := rfl

theorem exec_feedRejectTimeout (oe : Fin 16) (k : Fin 16) (s : State) :
    exec (.feedRejectTimeout oe k) s = .next (s.withDev (s.dev.feedAuto oe k)) := rfl

theorem exec_combFailDetect (oe : Fin 16) (dark : BitVec 16) (s : State) :
    exec (.combFailDetect oe dark) s = .next (s.withDev (s.dev.combFail oe dark.toNat)) := rfl

theorem exec_oeFeedRetWrite (a : Access) (oe : Fin 16) (v : Word) (s : State) :
    exec (.oeFeedRetWrite a oe v) s =
      .next (s.withDev (s.dev.onWrite a .OE_FEED_RET oe 0 fun d => d.feedRet oe v.toNat)) := rfl

theorem exec_feedForceWrite (a : Access) (oe : Fin 16) (v : BitVec 16) (s : State) :
    exec (.feedForceWrite a oe v) s =
      .next (s.withDev (s.dev.onWrite a .OE_ENG_CFG oe 0 fun d => d.feedForce oe v.toNat)) := rfl

theorem exec_engineEnable (a : Access) (oe : Fin 16) (s : State) :
    exec (.engineEnable a oe) s = .next (s.withDev (s.dev.onWrite a .OE_ENG_CFG oe 0 fun d => d.engineEnable oe)) := rfl

theorem exec_engineDisable (a : Access) (oe : Fin 16) (s : State) :
    exec (.engineDisable a oe) s = .next (s.withDev (s.dev.onWrite a .OE_ENG_CFG oe 0 fun d => d.engineDisable oe)) := rfl

theorem exec_combModuleReady (oe : Fin 16) (prim stby : Bool) (s : State) :
    exec (.combModuleReady oe prim stby) s = .next (s.withDev (s.dev.combReady oe prim stby)) := rfl

theorem exec_engineReady (oe : Fin 16) (s : State) :
    exec (.engineReady oe) s = .next (s.withDev (s.dev.engineReadyNow oe)) := rfl

theorem exec_enginePowerupTimeout (oe : Fin 16) (s : State) :
    exec (.enginePowerupTimeout oe) s = .next (s.withDev (s.dev.powerupTimeout oe)) := rfl

theorem exec_linePowerReading (oe : Fin 16) (k : Fin 16) (lane : Fin 18) (power : BitVec 16) (s : State) :
    exec (.linePowerReading oe k lane power) s = .next (s.withDev (s.dev.lineReading oe k lane power.toNat)) := rfl

theorem exec_calibrationTask (oe : Fin 16) (task : CalTask) (k : Fin 16) (lane : Fin 18) (o : CalObs) (s : State) :
    exec (.calibrationTask oe task k lane o) s = .next (s.withDev (s.dev.calibrate oe task k lane o)) := rfl

theorem exec_laneRotation (oe : Fin 16) (s : State) :
    exec (.laneRotation oe) s = .next (s.withDev (s.dev.rotate oe)) := rfl

theorem exec_modulePoll (oe : Fin 16) (modul : Bool) (ok : Bool) (status : BitVec 16) (s : State) :
    exec (.modulePoll oe modul ok status) s = .next (s.withDev (s.dev.modulePoll oe modul ok status.toNat)) := rfl

theorem exec_oeI2cCmd (a : Access) (oe : Fin 16) (v : Word) (ok : Bool) (data : BitVec 16) (s : State) :
    exec (.oeI2cCmd a oe v ok data) s =
      .next (s.withDev (s.dev.onWrite a .OE_I2C_CMD oe 0
        fun d => if bitAt v.toNat 31 then d.i2cCmd oe v.toNat ok data.toNat else d.writeRw .OE_I2C_CMD oe 0 v)) := rfl

theorem exec_ringModeWrite (a : Access) (oe : Fin 16) (ring : Fin 576) (v : Word) (s : State) :
    exec (.ringModeWrite a oe ring v) s =
      .next (s.withDev (s.dev.onWrite a .OE_RING_CTL (oeRing oe ring) 0 fun d => d.ringModeWrite (oeRing oe ring) v.toNat)) := rfl

theorem exec_sbdShadowWrite (a : Access) (addr : BitVec 26) (v : Word) (s : State) :
    exec (.sbdShadowWrite a addr v) s =
      .next (s.withDev ((fun d => match decodeAddr a.deskB.toNat (addr.toNat / 4 * 4) with | some (.SBD_SHADOW_SLOT, i, w) => d.onWrite a .SBD_SHADOW_SLOT i w fun d => d.shadowWrite .SBD_SHADOW_SLOT i w v | some (.SBD_SHADOW_N, i, w) => d.onWrite a .SBD_SHADOW_N i w fun d => d.shadowWrite .SBD_SHADOW_N i w v | _ => d) s.dev)) := rfl

theorem exec_sbdLiveWrite (a : Access) (addr : BitVec 26) (_v : Word) (s : State) :
    exec (.sbdLiveWrite a addr _v) s =
      .next (s.withDev ((fun d => match decodeAddr a.deskB.toNat (addr.toNat / 4 * 4) with | some (.SBD_LIVE_SLOT, i, w) => d.onWrite a .SBD_LIVE_SLOT i w fun d => d.count .SBD_LATE_WR_CNT | some (.SBD_LIVE_N, i, w) => d.onWrite a .SBD_LIVE_N i w fun d => d.count .SBD_LATE_WR_CNT | _ => d) s.dev)) := rfl

theorem exec_sbdCheck (a : Access) (s : State) :
    exec (.sbdCheck a) s = .next (s.withDev (s.dev.onWrite a .SBD_CTL 0 0 Dev.sbdCheckCmd)) := rfl

theorem exec_sbdClear (a : Access) (s : State) :
    exec (.sbdClear a) s = .next (s.withDev (s.dev.onWrite a .SBD_CTL 0 0 Dev.sbdClear)) := rfl

theorem exec_sbdSwapTakeEffect (s : State) :
    exec (.sbdSwapTakeEffect) s = .next (s.withDev (Dev.sbdSwap s.dev)) := rfl

theorem exec_slotGuard (s : State) :
    exec (.slotGuard) s = .next (s.withDev (Dev.slotGuard s.dev)) := rfl

theorem exec_slotBoundary (s : State) :
    exec (.slotBoundary) s = .next (s.withDev (Dev.slotBoundary s.dev)) := rfl

theorem exec_slotDarkEnd (s : State) :
    exec (.slotDarkEnd) s = .next (s.withDev (Dev.darkEnd s.dev)) := rfl

theorem exec_sbdDriveLost (dies : BitVec 6) (s : State) :
    exec (.sbdDriveLost dies) s = .next (s.withDev (s.dev.driveLost dies.toNat)) := rfl

theorem exec_sbdCalibration (o : SbdCalObs) (s : State) :
    exec (.sbdCalibration o) s = .next (s.withDev (s.dev.sbdCal o)) := rfl

theorem exec_ingressFrame (lp : Fin 1024) (cls : Fin 8) (bytes : List Byte) (s : State) :
    exec (.ingressFrame lp cls bytes) s = .next (s.withDev (s.dev.ingress lp cls bytes)) := rfl

theorem exec_jobCtlUnknownCmd (r : JobCtl) (s : State) :
    exec (.jobCtlUnknownCmd r) s = .next (s.withDev (s.dev.onJob r fun d => d.jobDone r 2 [])) := rfl

theorem exec_setController (r : JobCtl) (s : State) :
    exec (.setController r) s = .next (s.withDev (s.dev.onJob r fun d => d.setController r)) := rfl

theorem exec_rankMapWrite (r : JobCtl) (s : State) :
    exec (.rankMapWrite r) s = .next (s.withDev (s.dev.onJob r fun d => d.rankMapWrite r)) := rfl

theorem exec_rankMapRegWrite (a : Access) (e : Fin 262144) (v : Word) (s : State) :
    exec (.rankMapRegWrite a e v) s = .next (s.withDev (s.dev.onWrite a .FWD_RANK_MAP e 0 fun d => d.rankMapPut e v)) := rfl

theorem exec_jobEntryCommit (a : Access) (j : Fin 4096) (v : Word) (s : State) :
    exec (.jobEntryCommit a j v) s =
      .next (s.withDev (s.dev.onWrite a .FWD_JOB j 0 fun d => d.jobCommit a.deskB.toNat j v)) := rfl

theorem exec_loadLevelPublish (tile : Fin 16) (s : State) :
    exec (.loadLevelPublish tile) s = .next (s.withDev (s.dev.publishLevels tile)) := rfl

theorem exec_lpWithdraw (a : Access) (lp : Fin 1024) (s : State) :
    exec (.lpWithdraw a lp) s = .next (s.withDev (s.dev.onWrite a .FWD_LP_WITHDRAW (lp / 32) 0 fun d => d.withdraw lp)) := rfl

theorem exec_learnHitReport (tile : Fin 16) (s : State) :
    exec (.learnHitReport tile) s = .next (s.withDev (s.dev.learnHit tile)) := rfl

theorem exec_learnMoveRequest (tile : Fin 16) (s : State) :
    exec (.learnMoveRequest tile) s = .next (s.withDev (s.dev.learnMove tile)) := rfl

theorem exec_learnInsertRequest (tile : Fin 16) (s : State) :
    exec (.learnInsertRequest tile) s = .next (s.withDev (s.dev.learnInsert tile)) := rfl

theorem exec_learnUpdateApply (tile : Fin 16) (s : State) :
    exec (.learnUpdateApply tile) s = .next (s.withDev (s.dev.learnApply tile)) := rfl

theorem exec_ageSweep (tile : Fin 16) (s : State) :
    exec (.ageSweep tile) s = .next (s.withDev (s.dev.ageSweep tile)) := rfl

theorem exec_swapNow (a : Access) (s : State) :
    exec (.swapNow a) s = .next (s.withDev (s.dev.onWrite a .FWD_BANK_CTL 0 0 Dev.routeSwap)) := rfl

theorem exec_drainComplete (s : State) :
    exec (.drainComplete) s = .next (s.withDev (Dev.drainComplete s.dev)) := rfl

theorem exec_drainTimeout (s : State) :
    exec (.drainTimeout) s = .next (s.withDev (Dev.drainTimeout s.dev)) := rfl

theorem exec_fwdIndRead (a : Access) (table : Fin 16) (bank : Bool) (s : State) :
    exec (.fwdIndRead a table bank) s =
      .next (s.withDev (s.dev.onWrite a .FWD_IND_CMD a.deskB.toNat 0 fun d => d.indRead a.deskB.toNat table bank)) := rfl

theorem exec_fwdIndWrite (a : Access) (table : Fin 16) (bank : Bool) (s : State) :
    exec (.fwdIndWrite a table bank) s =
      .next (s.withDev (s.dev.onWrite a .FWD_IND_CMD a.deskB.toNat 0 fun d => d.indWrite a.deskB.toNat table bank)) := rfl

theorem exec_fwdIndInsert (a : Access) (table : Fin 16) (s : State) :
    exec (.fwdIndInsert a table) s =
      .next (s.withDev (s.dev.onWrite a .FWD_IND_CMD a.deskB.toNat 0
        fun d => d.indInsert a.deskB.toNat table (d.indBank a.deskB.toNat))) := rfl

theorem exec_fwdIndDelete (a : Access) (table : Fin 16) (s : State) :
    exec (.fwdIndDelete a table) s =
      .next (s.withDev (s.dev.onWrite a .FWD_IND_CMD a.deskB.toNat 0
        fun d => d.indDelete a.deskB.toNat table (d.indBank a.deskB.toNat))) := rfl

theorem exec_fwdIndSearch (a : Access) (table : Fin 16) (s : State) :
    exec (.fwdIndSearch a table) s =
      .next (s.withDev (s.dev.onWrite a .FWD_IND_CMD a.deskB.toNat 0
        fun d => d.indSearch a.deskB.toNat table (d.indBank a.deskB.toNat))) := rfl

theorem exec_meshFrameReceived (die : Fin 24) (dir : Fin 4) (crcBad : Bool) (parity : List (Fin 1408)) (s : State) :
    exec (.meshFrameReceived die dir crcBad parity) s =
      .next (s.withDev (s.dev.meshRecv die dir crcBad (parity.map Fin.val))) := rfl

theorem exec_meshReplayRequest (die : Fin 24) (dir : Fin 4) (s : State) :
    exec (.meshReplayRequest die dir) s = .next (s.withDev (s.dev.meshReplay die dir)) := rfl

theorem exec_meshRetrainDone (die : Fin 24) (dir : Fin 4) (ok : Bool) (bad : List (Fin 1408)) (s : State) :
    exec (.meshRetrainDone die dir ok bad) s = .next (s.withDev (s.dev.meshRetrained die dir ok (bad.map Fin.val))) := rfl

theorem exec_meshRepairRequest (die : Fin 24) (dir : Fin 4) (s : State) :
    exec (.meshRepairRequest die dir) s = .next (s.withDev (s.dev.meshRepair die dir)) := rfl

theorem exec_meshLaneSwitch (die : Fin 24) (dir : Fin 4) (s : State) :
    exec (.meshLaneSwitch die dir) s = .next (s.withDev (s.dev.meshSwitch die dir)) := rfl

theorem exec_cellPromotion (die : Fin 24) (src : Fin 70) (ci : Fin 9) (s : State) :
    exec (.cellPromotion die src ci) s = .next (s.withDev (s.dev.promote die src ci)) := rfl

theorem exec_reseqRelease (tile : Fin 16) (lane : Fin 112) (group : Fin 22) (cls : Fin 8) (n : Nat) (s : State) :
    exec (.reseqRelease tile lane group cls n) s = .next (s.withDev (s.dev.reseqRelease tile lane group cls n)) := rfl

theorem exec_reseqTimeout (tile : Fin 16) (lane : Fin 112) (group : Fin 22) (cls : Fin 8) (s : State) :
    exec (.reseqTimeout tile lane group cls) s = .next (s.withDev (s.dev.reseqTimeout tile lane group cls)) := rfl

theorem exec_poisonMark (frame cell : Nat) (s : State) :
    exec (.poisonMark frame cell) s = .next (s.withDev (s.dev.poison frame cell)) := rfl

theorem exec_spillReadback (lp : Fin 1024) (cls : Fin 8) (uncorrectable : Bool) (s : State) :
    exec (.spillReadback lp cls uncorrectable) s = .next (s.withDev (s.dev.spillRead lp cls uncorrectable)) := rfl

theorem exec_refillInstant (tile : Fin 16) (s : State) :
    exec (.refillInstant tile) s = .next (s.withDev (s.dev.refill tile)) := rfl

theorem exec_policerWord0Write (a : Access) (tile : Fin 16) (n : Fin 1024) (v : Word) (s : State) :
    exec (.policerWord0Write a tile n v) s =
      .next (s.withDev (s.dev.onWrite a .TM_POL (1024 * tile + n) 0 fun d => d.policerWord0 a.deskB.toNat tile n v)) := rfl

theorem exec_sampleInstant (tile : Fin 16) (s : State) :
    exec (.sampleInstant tile) s = .next (s.withDev (s.dev.sample tile)) := rfl

theorem exec_contribReceived (die : Fin 8) (c : Contrib) (s : State) :
    exec (.contribReceived die c) s = .next (s.withDev (s.dev.contribReceived die c)) := rfl

theorem exec_outputStageDone (die : Fin 8) (s : State) :
    exec (.outputStageDone die) s = .next (s.withDev (s.dev.outputDone die)) := rfl

theorem exec_allocationGrant (die : Fin 8) (s : State) :
    exec (.allocationGrant die) s = .next (s.withDev (s.dev.allocGrant die)) := rfl

theorem exec_chunkSpill (die : Fin 8) (s : State) :
    exec (.chunkSpill die) s = .next (s.withDev (s.dev.chunkSpill die)) := rfl

theorem exec_chunkSpillReturn (die : Fin 8) (s : State) :
    exec (.chunkSpillReturn die) s = .next (s.withDev (s.dev.chunkReturn die)) := rfl

theorem exec_shelfUncorrectedError (die : Fin 8) (handle : Fin 4096) (chunk : BitVec 24) (s : State) :
    exec (.shelfUncorrectedError die handle chunk) s = .next (s.withDev (s.dev.shelfError die handle chunk.toNat)) := rfl

theorem exec_drawerLevelReplay (die : Fin 8) (handle : Fin 4096) (s : State) :
    exec (.drawerLevelReplay die handle) s = .next (s.withDev (s.dev.drawerReplay die handle)) := rfl

theorem exec_drwOpen (a : Access) (handle : Fin 4096) (s : State) :
    exec (.drwOpen a handle) s = .next (s.withDev (s.dev.onWrite a .DRW_CMD 0 0 (·.drwCmd a.deskB.toNat 0 handle))) := rfl

theorem exec_drwClose (a : Access) (handle : Fin 4096) (s : State) :
    exec (.drwClose a handle) s = .next (s.withDev (s.dev.onWrite a .DRW_CMD 0 0 (·.drwCmd a.deskB.toNat 1 handle))) := rfl

theorem exec_drwAbort (a : Access) (handle : Fin 4096) (s : State) :
    exec (.drwAbort a handle) s = .next (s.withDev (s.dev.onWrite a .DRW_CMD 0 0 (·.drwCmd a.deskB.toNat 2 handle))) := rfl

theorem exec_drwShadowOpen (a : Access) (handle : Fin 4096) (s : State) :
    exec (.drwShadowOpen a handle) s =
      .next (s.withDev (s.dev.onWrite a .DRW_CMD 0 0 (·.drwCmd a.deskB.toNat 3 handle))) := rfl

theorem exec_drwShadowClose (a : Access) (handle : Fin 4096) (s : State) :
    exec (.drwShadowClose a handle) s =
      .next (s.withDev (s.dev.onWrite a .DRW_CMD 0 0 (·.drwCmd a.deskB.toNat 4 handle))) := rfl

theorem exec_drawerAbort (r : JobCtl) (s : State) :
    exec (.drawerAbort r) s = .next (s.withDev (s.dev.onJob r fun d => d.jobAbort r)) := rfl

theorem exec_drwCfgWrite (a : Access) (addr : BitVec 26) (v : Word) (s : State) :
    exec (.drwCfgWrite a addr v) s =
      .next (s.withDev ((fun d => match decodeAddr a.deskB.toNat addr.toNat with | some (r, i, w) => d.onWrite a r i w fun d => d.drwCfgWrite addr.toNat v | none => d) s.dev)) := rfl

theorem exec_weightWrite (a : Access) (die : Fin 8) (e : Fin 65536) (v : Word) (s : State) :
    exec (.weightWrite a die e v) s =
      .next (s.withDev (s.dev.onWrite a .CAB_WEIGHT (65536 * die + e) 0 fun d => d.weightWrite die e v)) := rfl

theorem exec_drawerMirrorRecord (die : Fin 8) (s : State) :
    exec (.drawerMirrorRecord die) s = .next (s.withDev (s.dev.mirrorRecord die)) := rfl

theorem exec_failoverReplace (die : Fin 8) (s : State) :
    exec (.failoverReplace die) s = .next (s.withDev (s.dev.failover die)) := rfl

theorem exec_shadowStreamReceived (die : Fin 8) (s : State) :
    exec (.shadowStreamReceived die) s = .next (s.withDev (s.dev.shadowStream die)) := rfl

theorem exec_stragglerTimeout (die : Fin 8) (handle : Fin 4096) (s : State) :
    exec (.stragglerTimeout die handle) s = .next (s.withDev (s.dev.straggler die handle)) := rfl

theorem exec_reform (r : JobCtl) (s : State) :
    exec (.reform r) s = .next (s.withDev (s.dev.onJob r fun d => d.reform r)) := rfl

theorem exec_reformApply (handle : Fin 4096) (s : State) :
    exec (.reformApply handle) s = .next (s.withDev (s.dev.reformApply handle)) := rfl

theorem exec_reformClearDone (handle : Fin 4096) (s : State) :
    exec (.reformClearDone handle) s = .next (s.withDev (s.dev.reformClear handle)) := rfl

theorem exec_drwRelease (a : Access) (handle : Fin 4096) (s : State) :
    exec (.drwRelease a handle) s = .next (s.withDev (s.dev.onWrite a .DRW_RELEASE 0 0 (·.releaseDrawer handle))) := rfl

theorem exec_noticeResendTimeout (die : Fin 8) (member : BitVec 24) (seq : BitVec 32) (s : State) :
    exec (.noticeResendTimeout die member seq) s = .next (s.withDev (s.dev.resendNotice die member.toNat seq.toNat)) := rfl

theorem exec_gnRead (r : GnReq) (s : State) :
    exec (.gnRead r) s = .next (s.withDev (s.dev.onGn r fun d => (d.touchTrk r).toHome { r := r })) := rfl

theorem exec_gnWrite (r : GnReq) (s : State) :
    exec (.gnWrite r) s = .next (s.withDev (s.dev.onGn r fun d => d.writeArrive r false)) := rfl

theorem exec_gnWritePart (r : GnReq) (s : State) :
    exec (.gnWritePart r) s = .next (s.withDev (s.dev.onGn r fun d => d.writeArrive r false)) := rfl

theorem exec_gnFwrite (r : GnReq) (s : State) :
    exec (.gnFwrite r) s = .next (s.withDev (s.dev.onGn r fun d => d.writeArrive r true)) := rfl

theorem exec_gnSync (r : GnReq) (s : State) :
    exec (.gnSync r) s = .next (s.withDev (s.dev.onGn r fun d => d.syncArrive r)) := rfl

theorem exec_gnMwrite (r : GnReq) (s : State) :
    exec (.gnMwrite r) s = .next (s.withDev (s.dev.onGn r fun d => d.mwriteArrive r)) := rfl

theorem exec_gnMread (r : GnReq) (s : State) :
    exec (.gnMread r) s = .next (s.withDev (s.dev.onGn r fun d => (d.touchTrk r).toHome { r := r })) := rfl

theorem exec_gnAtomicAdd (r : GnReq) (s : State) :
    exec (.gnAtomicAdd r) s = .next (s.withDev (s.dev.onGn r fun d => d.atomicArrive r)) := rfl

theorem exec_gnAtomicSwap (r : GnReq) (s : State) :
    exec (.gnAtomicSwap r) s = .next (s.withDev (s.dev.onGn r fun d => d.atomicArrive r)) := rfl

theorem exec_gnAtomicCas (r : GnReq) (s : State) :
    exec (.gnAtomicCas r) s = .next (s.withDev (s.dev.onGn r fun d => d.atomicArrive r)) := rfl

theorem exec_gnAtomicAnd (r : GnReq) (s : State) :
    exec (.gnAtomicAnd r) s = .next (s.withDev (s.dev.onGn r fun d => d.atomicArrive r)) := rfl

theorem exec_gnAtomicOr (r : GnReq) (s : State) :
    exec (.gnAtomicOr r) s = .next (s.withDev (s.dev.onGn r fun d => d.atomicArrive r)) := rfl

theorem exec_gnAtomicXor (r : GnReq) (s : State) :
    exec (.gnAtomicXor r) s = .next (s.withDev (s.dev.onGn r fun d => d.atomicArrive r)) := rfl

theorem exec_gnAtomicSmin (r : GnReq) (s : State) :
    exec (.gnAtomicSmin r) s = .next (s.withDev (s.dev.onGn r fun d => d.atomicArrive r)) := rfl

theorem exec_gnAtomicSmax (r : GnReq) (s : State) :
    exec (.gnAtomicSmax r) s = .next (s.withDev (s.dev.onGn r fun d => d.atomicArrive r)) := rfl

theorem exec_gnAtomicUmin (r : GnReq) (s : State) :
    exec (.gnAtomicUmin r) s = .next (s.withDev (s.dev.onGn r fun d => d.atomicArrive r)) := rfl

theorem exec_gnAtomicUmax (r : GnReq) (s : State) :
    exec (.gnAtomicUmax r) s = .next (s.withDev (s.dev.onGn r fun d => d.atomicArrive r)) := rfl

theorem exec_lineHomeExecute (tile : Fin 16) (n : Nat) (ue : Bool) (s : State) :
    exec (.lineHomeExecute tile n ue) s = .next (s.withDev (s.dev.homeExecute tile n ue)) := rfl

theorem exec_lineHomeCompletion (tile : Fin 16) (s : State) :
    exec (.lineHomeCompletion tile) s = .next (s.withDev (s.dev.homeCompletion tile)) := rfl

theorem exec_gnRespConsumed (tile : Fin 16) (r : GnResp) (s : State) :
    exec (.gnRespConsumed tile r) s = .next (s.withDev (s.dev.respConsumed tile r)) := rfl

theorem exec_gapTimeout (srcType : Fin 4) (src : BitVec 24) (s : State) :
    exec (.gapTimeout srcType src) s = .next (s.withDev (s.dev.gapExpire (srcKey srcType src.toNat))) := rfl

theorem exec_rcEntryExpire (srcType : Fin 4) (src : BitVec 24) (tag : BitVec 16) (s : State) :
    exec (.rcEntryExpire srcType src tag) s = .next (s.withDev (s.dev.rcExpire srcType src.toNat tag.toNat)) := rfl

theorem exec_tombstoneFree (srcType : Fin 4) (src : BitVec 24) (tag : BitVec 16) (s : State) :
    exec (.tombstoneFree srcType src tag) s = .next (s.withDev (s.dev.tombFree srcType src.toNat tag.toNat)) := rfl

theorem exec_sourceTrackerFree (srcType : Fin 4) (src : BitVec 24) (s : State) :
    exec (.sourceTrackerFree srcType src) s = .next (s.withDev (s.dev.trkFreeIdle srcType src.toNat)) := rfl

theorem exec_mirrorResend (tile : Fin 16) (place : BitVec 8) (seq : BitVec 32) (s : State) :
    exec (.mirrorResend tile place seq) s = .next (s.withDev (s.dev.mirrorResend tile place.toNat seq.toNat)) := rfl

theorem exec_mirrorBusyRetry (tile : Fin 16) (place : BitVec 8) (seq : BitVec 32) (s : State) :
    exec (.mirrorBusyRetry tile place seq) s = .next (s.withDev (s.dev.mirrorBusyRetry tile place.toNat seq.toNat)) := rfl

theorem exec_mirrorTimeout (window : Fin 4096) (s : State) :
    exec (.mirrorTimeout window) s = .next (s.withDev (s.dev.mirrorTimeout window)) := rfl

theorem exec_poolWinOpen (a : Access) (window : Fin 4096) (s : State) :
    exec (.poolWinOpen a window) s =
      .next (s.withDev (s.dev.onWrite a .POOL_WIN_CMD 0 0 (·.winCmd a.deskB.toNat 0 window))) := rfl

theorem exec_poolWinOpenMirror (a : Access) (window : Fin 4096) (s : State) :
    exec (.poolWinOpenMirror a window) s =
      .next (s.withDev (s.dev.onWrite a .POOL_WIN_CMD 0 0 (·.winCmd a.deskB.toNat 1 window))) := rfl

theorem exec_poolWinClose (a : Access) (window : Fin 4096) (s : State) :
    exec (.poolWinClose a window) s =
      .next (s.withDev (s.dev.onWrite a .POOL_WIN_CMD 0 0 (·.winCmd a.deskB.toNat 2 window))) := rfl

theorem exec_poolWinResilverPush (a : Access) (window : Fin 4096) (s : State) :
    exec (.poolWinResilverPush a window) s =
      .next (s.withDev (s.dev.onWrite a .POOL_WIN_CMD 0 0 (·.winCmd a.deskB.toNat 3 window))) := rfl

theorem exec_poolWinResilverPull (a : Access) (window : Fin 4096) (s : State) :
    exec (.poolWinResilverPull a window) s =
      .next (s.withDev (s.dev.onWrite a .POOL_WIN_CMD 0 0 (·.winCmd a.deskB.toNat 4 window))) := rfl

theorem exec_poolWinMarkLost (a : Access) (window : Fin 4096) (s : State) :
    exec (.poolWinMarkLost a window) s =
      .next (s.withDev (s.dev.onWrite a .POOL_WIN_CMD 0 0 (·.winCmd a.deskB.toNat 5 window))) := rfl

theorem exec_windowZeroDone (window : Fin 4096) (s : State) :
    exec (.windowZeroDone window) s = .next (s.withDev (s.dev.zeroDone window)) := rfl

theorem exec_resilverGranuleDone (window : Fin 4096) (s : State) :
    exec (.resilverGranuleDone window) s = .next (s.withDev (s.dev.granuleDone window)) := rfl

theorem exec_poolWinWrite (a : Access) (window : Fin 4096) (word : Fin 8) (v : Word) (s : State) :
    exec (.poolWinWrite a window word v) s =
      .next (s.withDev (s.dev.onWrite a .POOL_WIN window word (·.winWrite window word v))) := rfl

theorem exec_mantelSyncRecord (die : Fin 28) (diff : Int) (s : State) :
    exec (.mantelSyncRecord die diff) s = .next (s.withDev (s.dev.syncRecord die diff)) := rfl

theorem exec_rateWrite (a : Access) (v : Word) (s : State) :
    exec (.rateWrite a v) s = .next (s.withDev (s.dev.onWrite a .MNT_RATE 0 0 (·.rateWrite v))) := rfl

theorem exec_paramUpdate (s : State) :
    exec (.paramUpdate) s = .next (s.withDev (s.dev.paramUpdate)) := rfl

theorem exec_stepCommit (a : Access) (v : Word) (s : State) :
    exec (.stepCommit a v) s = .next (s.withDev (s.dev.onWrite a .MNT_STEP 0 1 (·.stepCommit v))) := rfl

theorem exec_stepArm (a : Access) (s : State) :
    exec (.stepArm a) s = .next (s.withDev (s.dev.onWrite a .MNT_CTL 0 0 (·.stepArm a.deskB.toNat))) := rfl

theorem exec_timeSnap (a : Access) (s : State) :
    exec (.timeSnap a) s = .next (s.withDev (s.dev.onWrite a .MNT_CTL 0 0 (·.timeSnap))) := rfl

theorem exec_holdoverTimeout (s : State) :
    exec (.holdoverTimeout) s = .next (s.withDev (s.dev.holdover)) := rfl

theorem exec_coatRackPop (a : Access) (which : CoatSel) (s : State) :
    exec (.coatRackPop a which) s = .next (s.withDev (s.dev.coatRead a which)) := rfl

theorem exec_mgmtPtpRx (deskB : Bool) (frame : List Byte) (s : State) :
    exec (.mgmtPtpRx deskB frame) s = .next (s.withDev (s.dev.mgmtPtp deskB.toNat frame)) := rfl

theorem exec_ptpTx (a : Access) (v : Word) (s : State) :
    exec (.ptpTx a v) s = .next (s.withDev (s.dev.onWrite a .MNT_PTP_TX a.deskB.toNat 0 (·.ptpSend a.deskB.toNat v))) := rfl

theorem exec_ppsInEdge (s : State) :
    exec (.ppsInEdge) s = .next (s.withDev (s.dev.ppsEdge)) := rfl

theorem exec_ppsOutPulse (s : State) :
    exec (.ppsOutPulse) s = .next (s.withDev (s.dev.ppsPulse)) := rfl

theorem exec_launchWord1Write (a : Access) (e : Fin 256) (v : Word) (s : State) :
    exec (.launchWord1Write a e v) s = .next (s.withDev (s.dev.onWrite a .MNT_LAUNCH e 1 (·.launchWord1 e v))) := rfl

theorem exec_launchArm (e : Fin 256) (s : State) :
    exec (.launchArm e) s = .next (s.withDev (s.dev.launchArm e)) := rfl

theorem exec_launchCancel (e : Fin 256) (s : State) :
    exec (.launchCancel e) s = .next (s.withDev (s.dev.launchCancel e)) := rfl

theorem exec_launchFire (e : Fin 256) (s : State) :
    exec (.launchFire e) s = .next (s.withDev (s.dev.launchFire e)) := rfl

theorem exec_resetAlignment (delays : List (BitVec 16)) (s : State) :
    exec (.resetAlignment delays) s = .next (s.withDev (s.dev.resetAlign (delays.map BitVec.toNat))) := rfl

theorem exec_dieRejoin (die : Fin 45) (delay : BitVec 16) (s : State) :
    exec (.dieRejoin die delay) s = .next (s.withDev (s.dev.rejoin die delay.toNat)) := rfl

theorem exec_alignCheck (a : Access) (s : State) :
    exec (.alignCheck a) s = .next (s.withDev (s.dev.onWrite a .CLK_ALIGN_CTL 0 0 (·.alignCheck))) := rfl

theorem exec_alignCheckSample (bad : List (Fin 28 × BitVec 8)) (s : State) :
    exec (.alignCheckSample bad) s =
      .next (s.withDev ((fun d => if d.bit F.CLK_ALIGN_CTL.CHECK 0 then d.alignResult bad else d) s.dev)) := rfl

theorem exec_pmcOpen (a : Access) (window : Fin 256) (s : State) :
    exec (.pmcOpen a window) s = .next (s.withDev (s.dev.onWrite a .DESK_PMC_CMD 0 0 (·.pmcCmd a.deskB.toNat 0 window))) := rfl

theorem exec_pmcClose (a : Access) (window : Fin 256) (s : State) :
    exec (.pmcClose a window) s =
      .next (s.withDev (s.dev.onWrite a .DESK_PMC_CMD 0 0 (·.pmcCmd a.deskB.toNat 1 window))) := rfl

theorem exec_pmcSnap (a : Access) (s : State) :
    exec (.pmcSnap a) s = .next (s.withDev (s.dev.onWrite a .DESK_PMC_CMD 0 0 (·.pmcCmd a.deskB.toNat 2 0))) := rfl

theorem exec_pmcSnapCapture (s : State) :
    exec (.pmcSnapCapture) s = .next (s.withDev (s.dev.snapCapture)) := rfl

theorem exec_counterWindowOpen (window : Fin 256) (s : State) :
    exec (.counterWindowOpen window) s =
      .next (s.withDev ((fun d => if d.cwin window = 1 then d.cwinOpen window else d) s.dev)) := rfl

theorem exec_counterWindowClose (window : Fin 256) (s : State) :
    exec (.counterWindowClose window) s =
      .next (s.withDev (s.dev.cwinClose window (s.dev.pmc.closing.contains window.val))) := rfl

theorem exec_counterRead (r : JobCtl) (s : State) :
    exec (.counterRead r) s = .next (s.withDev (s.dev.onJob r fun d => d.counterRead r)) := rfl

theorem exec_digestRead (r : JobCtl) (s : State) :
    exec (.digestRead r) s = .next (s.withDev (s.dev.onJob r fun d => d.digestRead r)) := rfl

theorem exec_bureauEvent (source : Fin 1024) (inst inst2 : BitVec 32) (injected : Bool) (s : State) :
    exec (.bureauEvent source inst inst2 injected) s =
      .next (s.withDev (s.dev.bureauEvent source inst.toNat inst2.toNat injected)) := rfl

theorem exec_sourceWindowExpire (source : Fin 1024) (s : State) :
    exec (.sourceWindowExpire source) s = .next (s.withDev (s.dev.set F.BUR_SRC.COUNT source 0)) := rfl

theorem exec_heartbeatMiss (u : Fin 43) (s : State) :
    exec (.heartbeatMiss u) s = .next (s.withDev (s.dev.silence u)) := rfl

theorem exec_graceExpire (u : Fin 44) (cls : Fin 16) (s : State) :
    exec (.graceExpire u cls) s = .next (s.withDev (s.dev.graceExpire u cls)) := rfl

theorem exec_pendingAck (a : Access) (source : Fin 1024) (s : State) :
    exec (.pendingAck a source) s = .next (s.withDev (s.dev.onWrite a .BUR_SRC source 1 (·.acknowledge source))) := rfl

theorem exec_burAct (a : Access) (v : Word) (s : State) :
    exec (.burAct a v) s = .next (s.withDev (s.dev.onWrite a .BUR_ACT 0 0 (·.burAct (deskNo a.deskB) v))) := rfl

theorem exec_quietExpire (inst : BitVec 32) (ok : Bool) (s : State) :
    exec (.quietExpire inst ok) s = .next (s.withDev (s.dev.quietExpire inst.toNat ok)) := rfl

theorem exec_unitStateWrite (a : Access) (die : Fin 45) (v : Word) (s : State) :
    exec (.unitStateWrite a die v) s = .next (s.withDev (s.dev.onWrite a .BUR_UNIT die 0 (·.unitWrite die v))) := rfl

theorem exec_shadowDigestReceived (die : Fin 8) (s : State) :
    exec (.shadowDigestReceived die) s = .next (s.withDev (s.dev.shadowDigest die)) := rfl

theorem exec_spineShadowClear (a : Access) (s : State) :
    exec (.spineShadowClear a) s = .next (s.withDev (s.dev.onWrite a .BUR_CTL 0 0 (·.spineClear))) := rfl

theorem exec_standin (a : Access) (v : Word) (s : State) :
    exec (.standin a v) s = .next (s.withDev (s.dev.onWrite a .BUR_STANDIN 0 0 (·.standin (deskNo a.deskB) v))) := rfl

theorem exec_injectionCmd (a : Access) (v : Word) (s : State) :
    exec (.injectionCmd a v) s = .next (s.withDev (s.dev.onWrite a .BUR_INJ_CMD 0 0 (·.injCmd v))) := rfl

theorem exec_injectionRepeat (e : Fin 1024) (s : State) :
    exec (.injectionRepeat e) s = .next (s.withDev (s.dev.injectNext e)) := rfl

theorem exec_deskTakeover (lostB : Bool) (s : State) :
    exec (.deskTakeover lostB) s = .next (s.withDev (s.dev.takeover (deskNo lostB))) := rfl

theorem exec_boot (s : State) :
    exec (.boot) s = .next (s.withDev (s.dev.bootRun)) := rfl

theorem exec_enrolSelfReset (s : State) :
    exec (.enrolSelfReset) s = .next (s.withDev ((fun d => if d.boot.selfReset then d.deviceReset false else d) s.dev)) := rfl

theorem exec_flashRead (a : Access) (s : State) :
    exec (.flashRead a) s =
      .next (s.withDev (s.dev.onWrite a .DESK_FLASH_CMD a.deskB.toNat 0 (·.flashCmd a.deskB.toNat 0))) := rfl

theorem exec_flashErase (a : Access) (s : State) :
    exec (.flashErase a) s =
      .next (s.withDev (s.dev.onWrite a .DESK_FLASH_CMD a.deskB.toNat 0 (·.flashCmd a.deskB.toNat 1))) := rfl

theorem exec_flashProgram (a : Access) (s : State) :
    exec (.flashProgram a) s =
      .next (s.withDev (s.dev.onWrite a .DESK_FLASH_CMD a.deskB.toNat 0 (·.flashCmd a.deskB.toNat 2))) := rfl

theorem exec_fwVerify (a : Access) (slot : Bool) (deskB : Bool) (s : State) :
    exec (.fwVerify a slot deskB) s =
      .next (s.withDev (s.dev.onWrite a .DESK_FW_CMD a.deskB.toNat 0
        fun d => (d.fwSet a.deskB.toNat 0 slot.toNat deskB.toNat).fwVerify a.deskB.toNat slot.toNat)) := rfl

theorem exec_fwPin (a : Access) (slot : Bool) (deskB : Bool) (s : State) :
    exec (.fwPin a slot deskB) s =
      .next (s.withDev (s.dev.onWrite a .DESK_FW_CMD a.deskB.toNat 0
        fun d => (d.fwSet a.deskB.toNat 1 slot.toNat deskB.toNat).fwPin a.deskB.toNat slot.toNat)) := rfl

theorem exec_fwUnpin (a : Access) (deskB : Bool) (s : State) :
    exec (.fwUnpin a deskB) s =
      .next (s.withDev (s.dev.onWrite a .DESK_FW_CMD a.deskB.toNat 0
        fun d => (d.fwSet a.deskB.toNat 2 0 deskB.toNat).fwUnpin a.deskB.toNat)) := rfl

theorem exec_fwHitless (a : Access) (slot : Bool) (deskB : Bool) (s : State) :
    exec (.fwHitless a slot deskB) s =
      .next (s.withDev (s.dev.onWrite a .DESK_FW_CMD a.deskB.toNat 0
        fun d => (d.fwSet a.deskB.toNat 3 slot.toNat deskB.toNat).fwHitless a.deskB.toNat slot.toNat deskB.toNat)) := rfl

theorem exec_fwReboot (a : Access) (s : State) :
    exec (.fwReboot a) s =
      .next (s.withDev (s.dev.onWrite a .DESK_FW_CMD a.deskB.toNat 0
        fun d => (d.fwSet a.deskB.toNat 4 0 0).deviceReset false)) := rfl

theorem exec_svnCommit (a : Access) (s : State) :
    exec (.svnCommit a) s = .next (s.withDev (s.dev.onWrite a .DESK_SVN 0 0 Dev.svnCommit)) := rfl

theorem exec_attest (a : Access) (s : State) :
    exec (.attest a) s = .next (s.withDev (s.dev.onWrite a .DESK_ATTEST_CMD a.deskB.toNat 0 (·.attest a.deskB.toNat))) := rfl

theorem exec_doorbellWrite (a : Access) (v : Word) (s : State) :
    exec (.doorbellWrite a v) s =
      .next (s.withDev (s.dev.onWrite a .DESK_DOORBELL a.deskB.toNat 0 (·.doorbell a.deskB.toNat v))) := rfl

theorem exec_semAcquire (a : Access) (n : Fin 32) (token : BitVec 16) (s : State) :
    exec (.semAcquire a n token) s =
      .next (s.withDev (s.dev.onWrite a .DESK_SEM n 0 (·.semTake a.deskB.toNat n token.toNat))) := rfl

theorem exec_semRelease (a : Access) (n : Fin 32) (token : BitVec 16) (s : State) :
    exec (.semRelease a n token) s =
      .next (s.withDev (s.dev.onWrite a .DESK_SEM n 0 (·.semFree a.deskB.toNat n token.toNat))) := rfl

theorem exec_irqMaskWrite (a : Access) (v : Word) (s : State) :
    exec (.irqMaskWrite a v) s =
      .next (s.withDev (s.dev.onWrite a .DESK_IRQ_MASK a.deskB.toNat 0 (·.irqMaskWrite a.deskB.toNat v))) := rfl

theorem exec_ethMgmtRead (deskB : Bool) (q : EthReq) (s : State) :
    exec (.ethMgmtRead deskB q) s = .next (s.withDev (s.dev.ethServe deskB.toNat q (·.ethRead deskB.toNat q))) := rfl

theorem exec_ethMgmtWrite (deskB : Bool) (q : EthReq) (s : State) :
    exec (.ethMgmtWrite deskB q) s = .next (s.withDev (s.dev.ethServe deskB.toNat q (·.ethWrite deskB.toNat q))) := rfl

theorem exec_jobTeardown (r : JobCtl) (s : State) :
    exec (.jobTeardown r) s = .next (s.withDev (s.dev.onJob r fun d => d.teardown r)) := rfl

theorem exec_powerOnResetRelease (straps : BitVec 6) (s : State) :
    exec (.powerOnResetRelease straps) s =
      .next (s.withDev (((s.dev.afterReset false true).set F.DESK_STRAP.DEVICE_ID 0 straps.toNat).faultPin false)) := rfl

theorem exec_deviceReset (aon : Bool) (s : State) :
    exec (.deviceReset aon) s = .next (s.withDev (s.dev.deviceReset aon)) := rfl

theorem exec_perst (deskB : Bool) (s : State) :
    exec (.perst deskB) s = .next (s.withDev (s.dev.pcieReset (deskNo deskB))) := rfl

theorem exec_supplyWarn (mv : BitVec 16) (s : State) :
    exec (.supplyWarn mv) s = .next (s.withDev (s.dev.supplyWarn mv.toNat)) := rfl

theorem exec_supplyWarnClear (mv : BitVec 16) (s : State) :
    exec (.supplyWarnClear mv) s = .next (s.withDev (s.dev.supplyClear mv.toNat)) := rfl

theorem exec_safeStop (cause : Fin 5) (s : State) :
    exec (.safeStop cause) s = .next (s.withDev (s.dev.safeStop cause)) := rfl

theorem exec_powerLoss (s : State) :
    exec (.powerLoss) s = .next (s.withDev (((s.dev.safeStop 1).afterReset false true).faultPin true)) := rfl

theorem exec_resumeWrite (a : Access) (s : State) :
    exec (.resumeWrite a) s = .next (s.withDev (s.dev.onWrite a .PWR_CTL 0 0 (·.resumeWrite))) := rfl

theorem exec_autoResume (s : State) :
    exec (.autoResume) s = .next (s.withDev (s.dev.autoResume)) := rfl

theorem exec_resumeComplete (s : State) :
    exec (.resumeComplete) s = .next (s.withDev (s.dev.resumeComplete)) := rfl

theorem exec_domainSwitchWrite (a : Access) (v : Word) (s : State) :
    exec (.domainSwitchWrite a v) s = .next (s.withDev (s.dev.onWrite a .PWR_PD_CTL 0 0 (·.pdWrite v))) := rfl

theorem exec_domainOnComplete (s : State) :
    exec (.domainOnComplete) s = .next (s.withDev (s.dev.pdOn)) := rfl

theorem exec_limiterStep1 (avg1 avg100 : BitVec 16) (s : State) :
    exec (.limiterStep1 avg1 avg100) s = .next (s.withDev (s.dev.limit1 avg1.toNat avg100.toNat)) := rfl

theorem exec_limiterStep2 (s : State) :
    exec (.limiterStep2) s = .next (s.withDev (s.dev.limit2)) := rfl

theorem exec_limiterRelease (avg100 : BitVec 16) (s : State) :
    exec (.limiterRelease avg100) s = .next (s.withDev (s.dev.limitEnd avg100.toNat)) := rfl

theorem exec_vrHotAssert (s : State) :
    exec (.vrHotAssert) s = .next (s.withDev (s.dev.vrHot true)) := rfl

theorem exec_vrHotDeassert (s : State) :
    exec (.vrHotDeassert) s = .next (s.withDev (s.dev.vrHot false)) := rfl

theorem exec_thermalSensorUpdate (die : Fin 45) (sensor : Fin 20) (temp : BitVec 16) (s : State) :
    exec (.thermalSensorUpdate die sensor temp) s = .next (s.withDev (s.dev.sensor die sensor temp.toInt)) := rfl

theorem exec_refClockLoss (b : Bool) (s : State) :
    exec (.refClockLoss b) s = .next (s.withDev (s.dev.refLoss b)) := rfl

theorem exec_refSwitch (a : Access) (s : State) :
    exec (.refSwitch a) s = .next (s.withDev (s.dev.onWrite a .CLK_REF_CTL 0 0 (·.refSwitch))) := rfl

theorem exec_meshFrameSend (die : Fin 24) (dir : Fin 4) (s : State) :
    exec (.meshFrameSend die dir) s = .next (s.withDev (s.dev.meshSend die dir)) := rfl

theorem exec_refClockReturn (b : Bool) (s : State) :
    exec (.refClockReturn b) s = .next (s.withDev (s.dev.refReturn b)) := rfl

theorem exec_budgetWindowExpiry (budget : Fin 6) (scope : BitVec 32) (s : State) :
    exec (.budgetWindowExpiry budget scope) s = .next (s.withDev (s.dev.budgetExpire budget scope.toNat)) := rfl

theorem exec_ringFailWindowExpiry (oe : Fin 16) (ring : Fin 576) (s : State) :
    exec (.ringFailWindowExpiry oe ring) s = .next (s.withDev (s.dev.failExpire (oeRing oe ring))) := rfl

theorem exec_polarisationLockChange (oe : Fin 16) (comb : Bool) (k : Fin 16) (locked : Bool) (rejected : BitVec 16) (s : State) :
    exec (.polarisationLockChange oe comb k locked rejected) s =
      .next (s.withDev (s.dev.polLock oe comb k locked rejected.toNat)) := rfl

theorem exec_vinAonInTolerance (mv : BitVec 16) (s : State) :
    exec (.vinAonInTolerance mv) s = .next (s.withDev ((s.dev.set F.PWR_VIN_AUX.AON 0 mv.toNat).faultPin true)) := rfl

end Sys2Proof.Machine
end

