-- ==== Sys2Proof/Laws/Table.lean ====
section
/-! SUPPORT. Laws of sparse tables: reading over writing, and the canonical form that every operation keeps. -/
namespace Sys2Proof.Tbl

variable {α : Type}

/-- Keys strictly rising. -/
abbrev Rising (t : Tbl α) : Prop := t.Pairwise fun a b => a.1 < b.1

theorem mem_insert {t : Tbl α} {k : Nat} {v : α} {e : Nat × α} (h : e ∈ t.insert k v) : e = (k, v) ∨ e ∈ t := by
  induction t with
  | nil => simpa [Tbl.insert] using h
  | cons a r ih =>
    obtain ⟨k', v'⟩ := a
    simp only [Tbl.insert] at h
    split at h
    · simpa using h
    · split at h
      · rcases List.mem_cons.1 h with h | h
        · exact .inl h
        · exact .inr (List.mem_cons_of_mem _ h)
      · rcases List.mem_cons.1 h with h | h
        · exact .inr (h ▸ List.mem_cons_self)
        · exact (ih h).imp_right (List.mem_cons_of_mem _)

theorem erase_sublist (t : Tbl α) (k : Nat) : (t.erase k).Sublist t := by
  induction t with
  | nil => exact .slnil
  | cons a r ih =>
    obtain ⟨k', v'⟩ := a
    simp only [Tbl.erase]
    split
    · exact ih.cons _
    · exact ih.cons_cons _

theorem mem_erase {t : Tbl α} {k : Nat} {e : Nat × α} (h : e ∈ t.erase k) : e ∈ t := (erase_sublist t k).subset h

theorem erase_rising {t : Tbl α} (h : Rising t) (k : Nat) : Rising (t.erase k) := h.sublist (erase_sublist t k)

theorem insert_rising {t : Tbl α} (h : Rising t) (k : Nat) (v : α) : Rising (t.insert k v) := by
  induction t with
  | nil => simp [Tbl.insert, Rising]
  | cons a r ih =>
    obtain ⟨k', v'⟩ := a
    obtain ⟨h1, h2⟩ := List.pairwise_cons.1 h
    simp only [Tbl.insert]
    split
    · rename_i hk
      refine List.pairwise_cons.2 ⟨fun e he => ?_, h⟩
      rcases List.mem_cons.1 he with rfl | he
      · exact hk
      · exact hk.trans (h1 e he)
    · split
      · rename_i hk; subst hk; exact List.pairwise_cons.2 ⟨h1, h2⟩
      · refine List.pairwise_cons.2 ⟨fun e he => ?_, ih h2⟩
        rcases mem_insert he with rfl | he
        · simp only; omega
        · exact h1 e he

theorem find_erase_same (t : Tbl α) (k : Nat) : (t.erase k).find k = none := by
  induction t with
  | nil => rfl
  | cons a r ih =>
    obtain ⟨k', v'⟩ := a
    simp only [Tbl.erase]
    split
    · exact ih
    · rename_i hk; simpa [Tbl.find, hk] using ih

theorem find_erase_ne (t : Tbl α) {k j : Nat} (h : j ≠ k) : (t.erase k).find j = t.find j := by
  induction t with
  | nil => rfl
  | cons a r ih =>
    obtain ⟨k', v'⟩ := a
    simp only [Tbl.erase]
    split
    · rename_i hk; subst hk; simp [Tbl.find, h, ih]
    · simp only [Tbl.find, ih]

@[simp] theorem find_insert_same (t : Tbl α) (k : Nat) (v : α) : (t.insert k v).find k = some v := by
  induction t with
  | nil => simp [Tbl.insert, Tbl.find]
  | cons a r ih =>
    obtain ⟨k', v'⟩ := a
    simp only [Tbl.insert]
    split
    · simp [Tbl.find]
    · split
      · simp [Tbl.find]
      · rename_i _ hk; simp [Tbl.find, hk, ih]

theorem find_insert_ne (t : Tbl α) {k j : Nat} (v : α) (h : j ≠ k) : (t.insert k v).find j = t.find j := by
  induction t with
  | nil => simp [Tbl.insert, Tbl.find, h]
  | cons a r ih =>
    obtain ⟨k', v'⟩ := a
    simp only [Tbl.insert]
    split
    · simp [Tbl.find, h]
    · split
      · rename_i hk; subst hk; simp [Tbl.find, h]
      · simp only [Tbl.find, ih]

variable [DecidableEq α]

@[simp] theorem at_put_same (t : Tbl α) (d : α) (k : Nat) (v : α) : (t.put d k v).at d k = v := by
  unfold Tbl.put Tbl.at
  split
  · rename_i hv; rw [find_erase_same]; exact hv.symm
  · simp

theorem at_put_ne (t : Tbl α) (d e : α) {k j : Nat} (v : α) (h : j ≠ k) : (t.put d k v).at e j = t.at e j := by
  unfold Tbl.put Tbl.at
  split
  · rw [find_erase_ne t h]
  · rw [find_insert_ne t v h]

theorem put_rising {t : Tbl α} (h : Rising t) (d : α) (k : Nat) (v : α) : Rising (t.put d k v) := by
  unfold Tbl.put
  split
  · exact erase_rising h k
  · exact insert_rising h k v

/-- Writing an entry keeps the canonical form. -/
theorem put_wf {t : Tbl α} {d : α} (h : Tbl.wf t d) (k : Nat) (v : α) : Tbl.wf (t.put d k v) d := by
  refine ⟨put_rising h.1 d k v, fun e he => ?_⟩
  unfold Tbl.put at he
  split at he
  · exact h.2 e (mem_erase he)
  · rename_i hv
    rcases mem_insert he with rfl | he
    · exact hv
    · exact h.2 e he

omit [DecidableEq α] in
/-- Keeping some of the entries keeps the canonical form. -/
theorem filter_wf {t : Tbl α} {d : α} (h : Tbl.wf t d) (p : Nat × α → Bool) : Tbl.wf (t.filter p) d :=
  ⟨h.1.sublist List.filter_sublist, fun e he => h.2 e (List.mem_of_mem_filter he)⟩

end Sys2Proof.Tbl
end

