-- ==== Sys2Proof/Laws/Regs.lean ====
section
/-! SUPPORT. Laws of the register words and of the pool's and the flash's bytes: reading over writing, and the canonical
form. -/
namespace Sys2Proof.Machine

/-! ## Keys -/

theorem Reg.num_inj {r q : Reg} (h : r.num = q.num) : r = q := by
  rw [← Reg.ofNat_ctorIdx r, ← Reg.ofNat_ctorIdx q]; exact congrArg Reg.ofNat h

theorem key2_inj {a b c d : Nat} : key2 a b = key2 c d ↔ a = c ∧ b = d := Nat.pair_eq_pair

theorem key3_inj {a b c d e f : Nat} : key3 a b c = key3 d e f ↔ a = d ∧ b = e ∧ c = f := by
  simp [key3, Nat.pair_eq_pair]

theorem rkey_inj {r q : Reg} {i j w v : Nat} : rkey r i w = rkey q j v ↔ r = q ∧ i = j ∧ w = v := by
  unfold rkey
  rw [key3_inj]
  exact ⟨fun h => ⟨Reg.num_inj h.1, h.2⟩, fun h => ⟨h.1 ▸ rfl, h.2⟩⟩

/-! ## Register words -/

theorem RegsOk.rising {t : Tbl Word} (h : RegsOk t) : Tbl.Rising t := h.1

@[simp] theorem Dev.rd_wr_same (d : Dev) (r : Reg) (i w : Nat) (v : Word) : (d.wr r i w v).rd r i w = v :=
  Tbl.at_put_same _ _ _ _

theorem Dev.rd_wr_ne (d : Dev) {r q : Reg} {i j w u : Nat} (v : Word) (h : ¬(q = r ∧ j = i ∧ u = w)) :
    (d.wr r i w v).rd q j u = d.rd q j u :=
  Tbl.at_put_ne _ _ _ _ fun e => h (rkey_inj.1 e)

theorem RegsOk.put {t : Tbl Word} (h : RegsOk t) (r : Reg) (i w : Nat) (v : Word) :
    RegsOk (t.put (r.reset i w) (rkey r i w) v) := by
  refine ⟨Tbl.put_rising h.1 _ _ _, fun e he => ?_⟩
  unfold Tbl.put at he
  split at he
  · exact h.2 e (Tbl.mem_erase he)
  · rename_i hv
    rcases Tbl.mem_insert he with rfl | he
    · exact ⟨r, i, w, rfl, hv⟩
    · exact h.2 e he

theorem RegsOk.filter {t : Tbl Word} (h : RegsOk t) (p : Nat × Word → Bool) : RegsOk (t.filter p) :=
  ⟨h.1.sublist List.filter_sublist, fun e he => h.2 e (List.mem_of_mem_filter he)⟩

/-! ## The pool's bytes -/

theorem Memory.read_write_same (m : Memory) (a : Nat) (v : Byte) : (m.write a v).read a = v :=
  Tbl.at_put_same _ _ _ _

theorem Memory.read_write_ne (m : Memory) {a b : Nat} (v : Byte) (h : b ≠ a) : (m.write a v).read b = m.read b :=
  Tbl.at_put_ne _ _ _ _ h

theorem Memory.write_wf {m : Memory} (h : Memory.wf m) (a : Nat) (v : Byte) : Memory.wf (m.write a v) := Tbl.put_wf h a v

theorem Memory.writeN_wf {m : Memory} (h : Memory.wf m) (a : Nat) (l : List Byte) : Memory.wf (m.writeN a l) := by
  induction l generalizing m a with
  | nil => exact h
  | cons b r ih => exact ih (write_wf h a b) (a + 1)

/-- A byte outside the bytes written stays. -/
theorem Memory.read_writeN_out (m : Memory) {a b : Nat} (l : List Byte) (h : b < a ∨ a + l.length ≤ b) :
    (m.writeN a l).read b = m.read b := by
  induction l generalizing m a with
  | nil => rfl
  | cons x r ih =>
    simp only [List.length_cons] at h
    rw [Memory.writeN, ih _ (by omega), Memory.read_write_ne _ _ (by omega)]

/-- A byte inside the bytes written reads as the byte stored there. -/
theorem Memory.read_writeN_in {m : Memory} (h : Memory.wf m) (a i : Nat) (l : List Byte) (hi : i < l.length) :
    (m.writeN a l).read (a + i) = l[i] := by
  induction l generalizing m a i with
  | nil => exact absurd hi (Nat.not_lt_zero _)
  | cons x r ih =>
    rw [Memory.writeN]
    cases i with
    | zero => rw [Memory.read_writeN_out _ _ (by omega), Nat.add_zero, Memory.read_write_same]; rfl
    | succ i =>
      have := ih (write_wf h a x) (a + 1) i (by simpa using hi)
      rwa [show a + 1 + i = a + (i + 1) by omega] at this

theorem Memory.clear_wf {m : Memory} (h : Memory.wf m) (a n : Nat) : Memory.wf (m.clear a n) := Tbl.filter_wf h _

/-! ## The flash's bytes -/

theorem flashPut_wf {t : Tbl Byte} (h : Tbl.wf t 0xFF) (k addr : Nat) (l : List (Byte × Nat)) :
    Tbl.wf (l.foldl (fun (t : Tbl Byte) e => t.put 0xFF (key2 k (addr + e.2)) e.1) t) 0xFF := by
  induction l generalizing t with
  | nil => exact h
  | cons e r ih => exact ih (Tbl.put_wf h _ _)

/-! ## The invariant and the parts of the device it does not speak of -/

variable {p : List Out} {n : Nat} {d : Dev}

/-- The invariant speaks of the register words, the pool's and the flash's bytes, the raw counter, what has left the
block and the counter of free values, and of nothing else. -/
theorem Dev.Sound.congr {e : Dev} (h : d.Sound p n) (hr : e.regs = d.regs) (hm : e.pool.mem = d.pool.mem)
    (hf : e.boot.flash = d.boot.flash) (ht : e.time.raw = d.time.raw) (ho : e.out = d.out) (hd : e.fresh = d.fresh) :
    e.Sound p n := by
  obtain ⟨⟨h1, h2, h3, h4⟩, h5, h6⟩ := h
  exact ⟨⟨hr ▸ h1, hm ▸ h2, hf ▸ h3, ht ▸ h4⟩, ho ▸ h5, hd ▸ h6⟩

variable {p₀ : List Out} {n₀ : Nat}

theorem Dev.sound_ite {c : Prop} [Decidable c] {a b : Dev} (ha : c → a.Sound p₀ n₀) (hb : ¬c → b.Sound p₀ n₀) :
    (if c then a else b).Sound p₀ n₀ := by
  split
  · exact ha ‹_›
  · exact hb ‹_›

theorem Dev.sound_mk {time fwd core tm lps lanes oe sbd cab pool pwr bus pmc boot bur raised} (h : d.Sound p₀ n₀)
    (hm : pool.mem = d.pool.mem) (hf : boot.flash = d.boot.flash) (ht : time.raw = d.time.raw) :
    Dev.Sound p₀ n₀ ⟨d.regs, time, fwd, core, tm, lps, lanes, oe, sbd, cab, pool, pwr, bus, pmc, boot, bur, raised, d.out, d.fresh⟩ :=
  h.congr rfl hm hf ht rfl rfl

theorem Dev.sound_regsFilter (q : Nat × Word → Bool) (h : d.Sound p₀ n₀) :
    Dev.Sound p₀ n₀ { d with regs := d.regs.filter q } := ⟨⟨h.1.1.filter q, h.1.2⟩, h.2⟩

theorem Dev.sound_snd {α : Type} {x : α × Dev} {a : α} {e : Dev} (hx : x = (a, e)) (h : x.2.Sound p₀ n₀) :
    e.Sound p₀ n₀ := by
  subst hx; exact h

theorem Dev.sound_foldl {α : Type} (l : List α) (f : Dev → α → Dev) (h : d.Sound p₀ n₀)
    (hf : ∀ e a, Dev.Sound p₀ n₀ e → (f e a).Sound p₀ n₀) : (l.foldl f d).Sound p₀ n₀ := by
  induction l generalizing d with
  | nil => exact h
  | cons y r ih => exact ih (hf d y h)

theorem Dev.sound_foldl_snd {α β : Type} {x : β × Dev} (l : List α) (f : β × Dev → α → β × Dev) (h : x.2.Sound p₀ n₀)
    (hf : ∀ e a, Dev.Sound p₀ n₀ e.2 → (f e a).2.Sound p₀ n₀) : (l.foldl f x).2.Sound p₀ n₀ := by
  induction l generalizing x with
  | nil => exact h
  | cons y r ih => exact ih (hf x y h)

theorem Dev.sound_ite_snd {α : Type} {c : Prop} [Decidable c] {a b : α × Dev} (ha : c → a.2.Sound p₀ n₀) (hb : ¬c → b.2.Sound p₀ n₀) :
    (if c then a else b).2.Sound p₀ n₀ := by
  split
  · exact ha ‹_›
  · exact hb ‹_›

end Sys2Proof.Machine
end

