-- ==== Sys2Proof/Laws/State.lean ====
section
/-! SUPPORT. The fields of the device under each update: one lemma per field that the update leaves, and the
contents of the one that it changes. -/
namespace Sys2Proof.Machine

variable (d : Dev)

/-! ### wr -/

@[simp] theorem Dev.wr_regs (r : Reg) (i w : Nat) (v : Word) : (d.wr r i w v).regs = d.regs.put (r.reset i w) (rkey r i w) v := rfl
@[simp] theorem Dev.wr_time (r : Reg) (i w : Nat) (v : Word) : (d.wr r i w v).time = d.time := rfl
@[simp] theorem Dev.wr_fwd (r : Reg) (i w : Nat) (v : Word) : (d.wr r i w v).fwd = d.fwd := rfl
@[simp] theorem Dev.wr_core (r : Reg) (i w : Nat) (v : Word) : (d.wr r i w v).core = d.core := rfl
@[simp] theorem Dev.wr_tm (r : Reg) (i w : Nat) (v : Word) : (d.wr r i w v).tm = d.tm := rfl
@[simp] theorem Dev.wr_lps (r : Reg) (i w : Nat) (v : Word) : (d.wr r i w v).lps = d.lps := rfl
@[simp] theorem Dev.wr_lanes (r : Reg) (i w : Nat) (v : Word) : (d.wr r i w v).lanes = d.lanes := rfl
@[simp] theorem Dev.wr_oe (r : Reg) (i w : Nat) (v : Word) : (d.wr r i w v).oe = d.oe := rfl
@[simp] theorem Dev.wr_sbd (r : Reg) (i w : Nat) (v : Word) : (d.wr r i w v).sbd = d.sbd := rfl
@[simp] theorem Dev.wr_cab (r : Reg) (i w : Nat) (v : Word) : (d.wr r i w v).cab = d.cab := rfl
@[simp] theorem Dev.wr_pool (r : Reg) (i w : Nat) (v : Word) : (d.wr r i w v).pool = d.pool := rfl
@[simp] theorem Dev.wr_pwr (r : Reg) (i w : Nat) (v : Word) : (d.wr r i w v).pwr = d.pwr := rfl
@[simp] theorem Dev.wr_bus (r : Reg) (i w : Nat) (v : Word) : (d.wr r i w v).bus = d.bus := rfl
@[simp] theorem Dev.wr_pmc (r : Reg) (i w : Nat) (v : Word) : (d.wr r i w v).pmc = d.pmc := rfl
@[simp] theorem Dev.wr_boot (r : Reg) (i w : Nat) (v : Word) : (d.wr r i w v).boot = d.boot := rfl
@[simp] theorem Dev.wr_bur (r : Reg) (i w : Nat) (v : Word) : (d.wr r i w v).bur = d.bur := rfl
@[simp] theorem Dev.wr_raised (r : Reg) (i w : Nat) (v : Word) : (d.wr r i w v).raised = d.raised := rfl
@[simp] theorem Dev.wr_out (r : Reg) (i w : Nat) (v : Word) : (d.wr r i w v).out = d.out := rfl
@[simp] theorem Dev.wr_fresh (r : Reg) (i w : Nat) (v : Word) : (d.wr r i w v).fresh = d.fresh := rfl

/-! ### emit -/

@[simp] theorem Dev.emit_regs (o : Out) : (d.emit o).regs = d.regs := rfl
@[simp] theorem Dev.emit_time (o : Out) : (d.emit o).time = d.time := rfl
@[simp] theorem Dev.emit_fwd (o : Out) : (d.emit o).fwd = d.fwd := rfl
@[simp] theorem Dev.emit_core (o : Out) : (d.emit o).core = d.core := rfl
@[simp] theorem Dev.emit_tm (o : Out) : (d.emit o).tm = d.tm := rfl
@[simp] theorem Dev.emit_lps (o : Out) : (d.emit o).lps = d.lps := rfl
@[simp] theorem Dev.emit_lanes (o : Out) : (d.emit o).lanes = d.lanes := rfl
@[simp] theorem Dev.emit_oe (o : Out) : (d.emit o).oe = d.oe := rfl
@[simp] theorem Dev.emit_sbd (o : Out) : (d.emit o).sbd = d.sbd := rfl
@[simp] theorem Dev.emit_cab (o : Out) : (d.emit o).cab = d.cab := rfl
@[simp] theorem Dev.emit_pool (o : Out) : (d.emit o).pool = d.pool := rfl
@[simp] theorem Dev.emit_pwr (o : Out) : (d.emit o).pwr = d.pwr := rfl
@[simp] theorem Dev.emit_bus (o : Out) : (d.emit o).bus = d.bus := rfl
@[simp] theorem Dev.emit_pmc (o : Out) : (d.emit o).pmc = d.pmc := rfl
@[simp] theorem Dev.emit_boot (o : Out) : (d.emit o).boot = d.boot := rfl
@[simp] theorem Dev.emit_bur (o : Out) : (d.emit o).bur = d.bur := rfl
@[simp] theorem Dev.emit_raised (o : Out) : (d.emit o).raised = d.raised := rfl
@[simp] theorem Dev.emit_out (o : Out) : (d.emit o).out = d.out ++ [o] := rfl
@[simp] theorem Dev.emit_fresh (o : Out) : (d.emit o).fresh = d.fresh := rfl
@[simp] theorem Dev.emit_rd (o : Out) (x : Reg) (e y : Nat) : (d.emit o).rd x e y = d.rd x e y := rfl

/-! ### raise -/

@[simp] theorem Dev.raise_regs (u k i j : Nat) : (d.raise u k i j).regs = d.regs := rfl
@[simp] theorem Dev.raise_time (u k i j : Nat) : (d.raise u k i j).time = d.time := rfl
@[simp] theorem Dev.raise_fwd (u k i j : Nat) : (d.raise u k i j).fwd = d.fwd := rfl
@[simp] theorem Dev.raise_core (u k i j : Nat) : (d.raise u k i j).core = d.core := rfl
@[simp] theorem Dev.raise_tm (u k i j : Nat) : (d.raise u k i j).tm = d.tm := rfl
@[simp] theorem Dev.raise_lps (u k i j : Nat) : (d.raise u k i j).lps = d.lps := rfl
@[simp] theorem Dev.raise_lanes (u k i j : Nat) : (d.raise u k i j).lanes = d.lanes := rfl
@[simp] theorem Dev.raise_oe (u k i j : Nat) : (d.raise u k i j).oe = d.oe := rfl
@[simp] theorem Dev.raise_sbd (u k i j : Nat) : (d.raise u k i j).sbd = d.sbd := rfl
@[simp] theorem Dev.raise_cab (u k i j : Nat) : (d.raise u k i j).cab = d.cab := rfl
@[simp] theorem Dev.raise_pool (u k i j : Nat) : (d.raise u k i j).pool = d.pool := rfl
@[simp] theorem Dev.raise_pwr (u k i j : Nat) : (d.raise u k i j).pwr = d.pwr := rfl
@[simp] theorem Dev.raise_bus (u k i j : Nat) : (d.raise u k i j).bus = d.bus := rfl
@[simp] theorem Dev.raise_pmc (u k i j : Nat) : (d.raise u k i j).pmc = d.pmc := rfl
@[simp] theorem Dev.raise_boot (u k i j : Nat) : (d.raise u k i j).boot = d.boot := rfl
@[simp] theorem Dev.raise_bur (u k i j : Nat) : (d.raise u k i j).bur = d.bur := rfl
@[simp] theorem Dev.raise_raised (u k i j : Nat) : (d.raise u k i j).raised = d.raised ++ [{ src := 16 * u + k, inst := i, inst2 := j }] := rfl
@[simp] theorem Dev.raise_out (u k i j : Nat) : (d.raise u k i j).out = d.out := rfl
@[simp] theorem Dev.raise_fresh (u k i j : Nat) : (d.raise u k i j).fresh = d.fresh := rfl
@[simp] theorem Dev.raise_rd (u k i j : Nat) (x : Reg) (e y : Nat) : (d.raise u k i j).rd x e y = d.rd x e y := rfl

/-! ### flagFrom -/

@[simp] theorem Dev.flagFrom_regs (n : Nat) : (d.flagFrom n).regs = d.regs := rfl
@[simp] theorem Dev.flagFrom_time (n : Nat) : (d.flagFrom n).time = d.time := rfl
@[simp] theorem Dev.flagFrom_fwd (n : Nat) : (d.flagFrom n).fwd = d.fwd := rfl
@[simp] theorem Dev.flagFrom_core (n : Nat) : (d.flagFrom n).core = d.core := rfl
@[simp] theorem Dev.flagFrom_tm (n : Nat) : (d.flagFrom n).tm = d.tm := rfl
@[simp] theorem Dev.flagFrom_lps (n : Nat) : (d.flagFrom n).lps = d.lps := rfl
@[simp] theorem Dev.flagFrom_lanes (n : Nat) : (d.flagFrom n).lanes = d.lanes := rfl
@[simp] theorem Dev.flagFrom_oe (n : Nat) : (d.flagFrom n).oe = d.oe := rfl
@[simp] theorem Dev.flagFrom_sbd (n : Nat) : (d.flagFrom n).sbd = d.sbd := rfl
@[simp] theorem Dev.flagFrom_cab (n : Nat) : (d.flagFrom n).cab = d.cab := rfl
@[simp] theorem Dev.flagFrom_pool (n : Nat) : (d.flagFrom n).pool = d.pool := rfl
@[simp] theorem Dev.flagFrom_pwr (n : Nat) : (d.flagFrom n).pwr = d.pwr := rfl
@[simp] theorem Dev.flagFrom_bus (n : Nat) : (d.flagFrom n).bus = d.bus := rfl
@[simp] theorem Dev.flagFrom_pmc (n : Nat) : (d.flagFrom n).pmc = d.pmc := rfl
@[simp] theorem Dev.flagFrom_boot (n : Nat) : (d.flagFrom n).boot = d.boot := rfl
@[simp] theorem Dev.flagFrom_bur (n : Nat) : (d.flagFrom n).bur = d.bur := rfl
@[simp] theorem Dev.flagFrom_out (n : Nat) : (d.flagFrom n).out = d.out := rfl
@[simp] theorem Dev.flagFrom_fresh (n : Nat) : (d.flagFrom n).fresh = d.fresh := rfl
@[simp] theorem Dev.flagFrom_rd (n : Nat) (x : Reg) (e y : Nat) : (d.flagFrom n).rd x e y = d.rd x e y := rfl

/-! ### tick -/

@[simp] theorem Dev.tick_regs  : (d.tick).regs = d.regs := rfl
@[simp] theorem Dev.tick_fwd  : (d.tick).fwd = d.fwd := rfl
@[simp] theorem Dev.tick_core  : (d.tick).core = d.core := rfl
@[simp] theorem Dev.tick_tm  : (d.tick).tm = d.tm := rfl
@[simp] theorem Dev.tick_lps  : (d.tick).lps = d.lps := rfl
@[simp] theorem Dev.tick_lanes  : (d.tick).lanes = d.lanes := rfl
@[simp] theorem Dev.tick_oe  : (d.tick).oe = d.oe := rfl
@[simp] theorem Dev.tick_sbd  : (d.tick).sbd = d.sbd := rfl
@[simp] theorem Dev.tick_cab  : (d.tick).cab = d.cab := rfl
@[simp] theorem Dev.tick_pool  : (d.tick).pool = d.pool := rfl
@[simp] theorem Dev.tick_pwr  : (d.tick).pwr = d.pwr := rfl
@[simp] theorem Dev.tick_bus  : (d.tick).bus = d.bus := rfl
@[simp] theorem Dev.tick_pmc  : (d.tick).pmc = d.pmc := rfl
@[simp] theorem Dev.tick_boot  : (d.tick).boot = d.boot := rfl
@[simp] theorem Dev.tick_bur  : (d.tick).bur = d.bur := rfl
@[simp] theorem Dev.tick_raised  : (d.tick).raised = d.raised := rfl
@[simp] theorem Dev.tick_out  : (d.tick).out = d.out := rfl
@[simp] theorem Dev.tick_fresh  : (d.tick).fresh = d.fresh := rfl
@[simp] theorem Dev.tick_rd  (x : Reg) (e y : Nat) : (d.tick).rd x e y = d.rd x e y := rfl

/-! ### updLp -/

@[simp] theorem Dev.updLp_regs (n : Nat) (f : Lp → Lp) : (d.updLp n f).regs = d.regs := rfl
@[simp] theorem Dev.updLp_time (n : Nat) (f : Lp → Lp) : (d.updLp n f).time = d.time := rfl
@[simp] theorem Dev.updLp_fwd (n : Nat) (f : Lp → Lp) : (d.updLp n f).fwd = d.fwd := rfl
@[simp] theorem Dev.updLp_core (n : Nat) (f : Lp → Lp) : (d.updLp n f).core = d.core := rfl
@[simp] theorem Dev.updLp_tm (n : Nat) (f : Lp → Lp) : (d.updLp n f).tm = d.tm := rfl
@[simp] theorem Dev.updLp_lps (n : Nat) (f : Lp → Lp) : (d.updLp n f).lps = d.lps.upd {} n f := rfl
@[simp] theorem Dev.updLp_lanes (n : Nat) (f : Lp → Lp) : (d.updLp n f).lanes = d.lanes := rfl
@[simp] theorem Dev.updLp_oe (n : Nat) (f : Lp → Lp) : (d.updLp n f).oe = d.oe := rfl
@[simp] theorem Dev.updLp_sbd (n : Nat) (f : Lp → Lp) : (d.updLp n f).sbd = d.sbd := rfl
@[simp] theorem Dev.updLp_cab (n : Nat) (f : Lp → Lp) : (d.updLp n f).cab = d.cab := rfl
@[simp] theorem Dev.updLp_pool (n : Nat) (f : Lp → Lp) : (d.updLp n f).pool = d.pool := rfl
@[simp] theorem Dev.updLp_pwr (n : Nat) (f : Lp → Lp) : (d.updLp n f).pwr = d.pwr := rfl
@[simp] theorem Dev.updLp_bus (n : Nat) (f : Lp → Lp) : (d.updLp n f).bus = d.bus := rfl
@[simp] theorem Dev.updLp_pmc (n : Nat) (f : Lp → Lp) : (d.updLp n f).pmc = d.pmc := rfl
@[simp] theorem Dev.updLp_boot (n : Nat) (f : Lp → Lp) : (d.updLp n f).boot = d.boot := rfl
@[simp] theorem Dev.updLp_bur (n : Nat) (f : Lp → Lp) : (d.updLp n f).bur = d.bur := rfl
@[simp] theorem Dev.updLp_raised (n : Nat) (f : Lp → Lp) : (d.updLp n f).raised = d.raised := rfl
@[simp] theorem Dev.updLp_out (n : Nat) (f : Lp → Lp) : (d.updLp n f).out = d.out := rfl
@[simp] theorem Dev.updLp_fresh (n : Nat) (f : Lp → Lp) : (d.updLp n f).fresh = d.fresh := rfl
@[simp] theorem Dev.updLp_rd (n : Nat) (f : Lp → Lp) (x : Reg) (e y : Nat) : (d.updLp n f).rd x e y = d.rd x e y := rfl

/-! ### updLane -/

@[simp] theorem Dev.updLane_regs (n : Nat) (f : LaneSt → LaneSt) : (d.updLane n f).regs = d.regs := rfl
@[simp] theorem Dev.updLane_time (n : Nat) (f : LaneSt → LaneSt) : (d.updLane n f).time = d.time := rfl
@[simp] theorem Dev.updLane_fwd (n : Nat) (f : LaneSt → LaneSt) : (d.updLane n f).fwd = d.fwd := rfl
@[simp] theorem Dev.updLane_core (n : Nat) (f : LaneSt → LaneSt) : (d.updLane n f).core = d.core := rfl
@[simp] theorem Dev.updLane_tm (n : Nat) (f : LaneSt → LaneSt) : (d.updLane n f).tm = d.tm := rfl
@[simp] theorem Dev.updLane_lps (n : Nat) (f : LaneSt → LaneSt) : (d.updLane n f).lps = d.lps := rfl
@[simp] theorem Dev.updLane_lanes (n : Nat) (f : LaneSt → LaneSt) : (d.updLane n f).lanes = d.lanes.upd {} n f := rfl
@[simp] theorem Dev.updLane_oe (n : Nat) (f : LaneSt → LaneSt) : (d.updLane n f).oe = d.oe := rfl
@[simp] theorem Dev.updLane_sbd (n : Nat) (f : LaneSt → LaneSt) : (d.updLane n f).sbd = d.sbd := rfl
@[simp] theorem Dev.updLane_cab (n : Nat) (f : LaneSt → LaneSt) : (d.updLane n f).cab = d.cab := rfl
@[simp] theorem Dev.updLane_pool (n : Nat) (f : LaneSt → LaneSt) : (d.updLane n f).pool = d.pool := rfl
@[simp] theorem Dev.updLane_pwr (n : Nat) (f : LaneSt → LaneSt) : (d.updLane n f).pwr = d.pwr := rfl
@[simp] theorem Dev.updLane_bus (n : Nat) (f : LaneSt → LaneSt) : (d.updLane n f).bus = d.bus := rfl
@[simp] theorem Dev.updLane_pmc (n : Nat) (f : LaneSt → LaneSt) : (d.updLane n f).pmc = d.pmc := rfl
@[simp] theorem Dev.updLane_boot (n : Nat) (f : LaneSt → LaneSt) : (d.updLane n f).boot = d.boot := rfl
@[simp] theorem Dev.updLane_bur (n : Nat) (f : LaneSt → LaneSt) : (d.updLane n f).bur = d.bur := rfl
@[simp] theorem Dev.updLane_raised (n : Nat) (f : LaneSt → LaneSt) : (d.updLane n f).raised = d.raised := rfl
@[simp] theorem Dev.updLane_out (n : Nat) (f : LaneSt → LaneSt) : (d.updLane n f).out = d.out := rfl
@[simp] theorem Dev.updLane_fresh (n : Nat) (f : LaneSt → LaneSt) : (d.updLane n f).fresh = d.fresh := rfl
@[simp] theorem Dev.updLane_rd (n : Nat) (f : LaneSt → LaneSt) (x : Reg) (e y : Nat) : (d.updLane n f).rd x e y = d.rd x e y := rfl

/-! ### updCore -/

@[simp] theorem Dev.updCore_regs (f : CoreSt → CoreSt) : (d.updCore f).regs = d.regs := rfl
@[simp] theorem Dev.updCore_time (f : CoreSt → CoreSt) : (d.updCore f).time = d.time := rfl
@[simp] theorem Dev.updCore_fwd (f : CoreSt → CoreSt) : (d.updCore f).fwd = d.fwd := rfl
@[simp] theorem Dev.updCore_core (f : CoreSt → CoreSt) : (d.updCore f).core = f d.core := rfl
@[simp] theorem Dev.updCore_tm (f : CoreSt → CoreSt) : (d.updCore f).tm = d.tm := rfl
@[simp] theorem Dev.updCore_lps (f : CoreSt → CoreSt) : (d.updCore f).lps = d.lps := rfl
@[simp] theorem Dev.updCore_lanes (f : CoreSt → CoreSt) : (d.updCore f).lanes = d.lanes := rfl
@[simp] theorem Dev.updCore_oe (f : CoreSt → CoreSt) : (d.updCore f).oe = d.oe := rfl
@[simp] theorem Dev.updCore_sbd (f : CoreSt → CoreSt) : (d.updCore f).sbd = d.sbd := rfl
@[simp] theorem Dev.updCore_cab (f : CoreSt → CoreSt) : (d.updCore f).cab = d.cab := rfl
@[simp] theorem Dev.updCore_pool (f : CoreSt → CoreSt) : (d.updCore f).pool = d.pool := rfl
@[simp] theorem Dev.updCore_pwr (f : CoreSt → CoreSt) : (d.updCore f).pwr = d.pwr := rfl
@[simp] theorem Dev.updCore_bus (f : CoreSt → CoreSt) : (d.updCore f).bus = d.bus := rfl
@[simp] theorem Dev.updCore_pmc (f : CoreSt → CoreSt) : (d.updCore f).pmc = d.pmc := rfl
@[simp] theorem Dev.updCore_boot (f : CoreSt → CoreSt) : (d.updCore f).boot = d.boot := rfl
@[simp] theorem Dev.updCore_bur (f : CoreSt → CoreSt) : (d.updCore f).bur = d.bur := rfl
@[simp] theorem Dev.updCore_raised (f : CoreSt → CoreSt) : (d.updCore f).raised = d.raised := rfl
@[simp] theorem Dev.updCore_out (f : CoreSt → CoreSt) : (d.updCore f).out = d.out := rfl
@[simp] theorem Dev.updCore_fresh (f : CoreSt → CoreSt) : (d.updCore f).fresh = d.fresh := rfl
@[simp] theorem Dev.updCore_rd (f : CoreSt → CoreSt) (x : Reg) (e y : Nat) : (d.updCore f).rd x e y = d.rd x e y := rfl

/-! ### updFwd -/

@[simp] theorem Dev.updFwd_regs (f : FwdSt → FwdSt) : (d.updFwd f).regs = d.regs := rfl
@[simp] theorem Dev.updFwd_time (f : FwdSt → FwdSt) : (d.updFwd f).time = d.time := rfl
@[simp] theorem Dev.updFwd_fwd (f : FwdSt → FwdSt) : (d.updFwd f).fwd = f d.fwd := rfl
@[simp] theorem Dev.updFwd_core (f : FwdSt → FwdSt) : (d.updFwd f).core = d.core := rfl
@[simp] theorem Dev.updFwd_tm (f : FwdSt → FwdSt) : (d.updFwd f).tm = d.tm := rfl
@[simp] theorem Dev.updFwd_lps (f : FwdSt → FwdSt) : (d.updFwd f).lps = d.lps := rfl
@[simp] theorem Dev.updFwd_lanes (f : FwdSt → FwdSt) : (d.updFwd f).lanes = d.lanes := rfl
@[simp] theorem Dev.updFwd_oe (f : FwdSt → FwdSt) : (d.updFwd f).oe = d.oe := rfl
@[simp] theorem Dev.updFwd_sbd (f : FwdSt → FwdSt) : (d.updFwd f).sbd = d.sbd := rfl
@[simp] theorem Dev.updFwd_cab (f : FwdSt → FwdSt) : (d.updFwd f).cab = d.cab := rfl
@[simp] theorem Dev.updFwd_pool (f : FwdSt → FwdSt) : (d.updFwd f).pool = d.pool := rfl
@[simp] theorem Dev.updFwd_pwr (f : FwdSt → FwdSt) : (d.updFwd f).pwr = d.pwr := rfl
@[simp] theorem Dev.updFwd_bus (f : FwdSt → FwdSt) : (d.updFwd f).bus = d.bus := rfl
@[simp] theorem Dev.updFwd_pmc (f : FwdSt → FwdSt) : (d.updFwd f).pmc = d.pmc := rfl
@[simp] theorem Dev.updFwd_boot (f : FwdSt → FwdSt) : (d.updFwd f).boot = d.boot := rfl
@[simp] theorem Dev.updFwd_bur (f : FwdSt → FwdSt) : (d.updFwd f).bur = d.bur := rfl
@[simp] theorem Dev.updFwd_raised (f : FwdSt → FwdSt) : (d.updFwd f).raised = d.raised := rfl
@[simp] theorem Dev.updFwd_out (f : FwdSt → FwdSt) : (d.updFwd f).out = d.out := rfl
@[simp] theorem Dev.updFwd_fresh (f : FwdSt → FwdSt) : (d.updFwd f).fresh = d.fresh := rfl
@[simp] theorem Dev.updFwd_rd (f : FwdSt → FwdSt) (x : Reg) (e y : Nat) : (d.updFwd f).rd x e y = d.rd x e y := rfl

/-! ### updTm -/

@[simp] theorem Dev.updTm_regs (f : TmSt → TmSt) : (d.updTm f).regs = d.regs := rfl
@[simp] theorem Dev.updTm_time (f : TmSt → TmSt) : (d.updTm f).time = d.time := rfl
@[simp] theorem Dev.updTm_fwd (f : TmSt → TmSt) : (d.updTm f).fwd = d.fwd := rfl
@[simp] theorem Dev.updTm_core (f : TmSt → TmSt) : (d.updTm f).core = d.core := rfl
@[simp] theorem Dev.updTm_tm (f : TmSt → TmSt) : (d.updTm f).tm = f d.tm := rfl
@[simp] theorem Dev.updTm_lps (f : TmSt → TmSt) : (d.updTm f).lps = d.lps := rfl
@[simp] theorem Dev.updTm_lanes (f : TmSt → TmSt) : (d.updTm f).lanes = d.lanes := rfl
@[simp] theorem Dev.updTm_oe (f : TmSt → TmSt) : (d.updTm f).oe = d.oe := rfl
@[simp] theorem Dev.updTm_sbd (f : TmSt → TmSt) : (d.updTm f).sbd = d.sbd := rfl
@[simp] theorem Dev.updTm_cab (f : TmSt → TmSt) : (d.updTm f).cab = d.cab := rfl
@[simp] theorem Dev.updTm_pool (f : TmSt → TmSt) : (d.updTm f).pool = d.pool := rfl
@[simp] theorem Dev.updTm_pwr (f : TmSt → TmSt) : (d.updTm f).pwr = d.pwr := rfl
@[simp] theorem Dev.updTm_bus (f : TmSt → TmSt) : (d.updTm f).bus = d.bus := rfl
@[simp] theorem Dev.updTm_pmc (f : TmSt → TmSt) : (d.updTm f).pmc = d.pmc := rfl
@[simp] theorem Dev.updTm_boot (f : TmSt → TmSt) : (d.updTm f).boot = d.boot := rfl
@[simp] theorem Dev.updTm_bur (f : TmSt → TmSt) : (d.updTm f).bur = d.bur := rfl
@[simp] theorem Dev.updTm_raised (f : TmSt → TmSt) : (d.updTm f).raised = d.raised := rfl
@[simp] theorem Dev.updTm_out (f : TmSt → TmSt) : (d.updTm f).out = d.out := rfl
@[simp] theorem Dev.updTm_fresh (f : TmSt → TmSt) : (d.updTm f).fresh = d.fresh := rfl
@[simp] theorem Dev.updTm_rd (f : TmSt → TmSt) (x : Reg) (e y : Nat) : (d.updTm f).rd x e y = d.rd x e y := rfl

/-! ### updBur -/

@[simp] theorem Dev.updBur_regs (f : BurSt → BurSt) : (d.updBur f).regs = d.regs := rfl
@[simp] theorem Dev.updBur_time (f : BurSt → BurSt) : (d.updBur f).time = d.time := rfl
@[simp] theorem Dev.updBur_fwd (f : BurSt → BurSt) : (d.updBur f).fwd = d.fwd := rfl
@[simp] theorem Dev.updBur_core (f : BurSt → BurSt) : (d.updBur f).core = d.core := rfl
@[simp] theorem Dev.updBur_tm (f : BurSt → BurSt) : (d.updBur f).tm = d.tm := rfl
@[simp] theorem Dev.updBur_lps (f : BurSt → BurSt) : (d.updBur f).lps = d.lps := rfl
@[simp] theorem Dev.updBur_lanes (f : BurSt → BurSt) : (d.updBur f).lanes = d.lanes := rfl
@[simp] theorem Dev.updBur_oe (f : BurSt → BurSt) : (d.updBur f).oe = d.oe := rfl
@[simp] theorem Dev.updBur_sbd (f : BurSt → BurSt) : (d.updBur f).sbd = d.sbd := rfl
@[simp] theorem Dev.updBur_cab (f : BurSt → BurSt) : (d.updBur f).cab = d.cab := rfl
@[simp] theorem Dev.updBur_pool (f : BurSt → BurSt) : (d.updBur f).pool = d.pool := rfl
@[simp] theorem Dev.updBur_pwr (f : BurSt → BurSt) : (d.updBur f).pwr = d.pwr := rfl
@[simp] theorem Dev.updBur_bus (f : BurSt → BurSt) : (d.updBur f).bus = d.bus := rfl
@[simp] theorem Dev.updBur_pmc (f : BurSt → BurSt) : (d.updBur f).pmc = d.pmc := rfl
@[simp] theorem Dev.updBur_boot (f : BurSt → BurSt) : (d.updBur f).boot = d.boot := rfl
@[simp] theorem Dev.updBur_bur (f : BurSt → BurSt) : (d.updBur f).bur = f d.bur := rfl
@[simp] theorem Dev.updBur_raised (f : BurSt → BurSt) : (d.updBur f).raised = d.raised := rfl
@[simp] theorem Dev.updBur_out (f : BurSt → BurSt) : (d.updBur f).out = d.out := rfl
@[simp] theorem Dev.updBur_fresh (f : BurSt → BurSt) : (d.updBur f).fresh = d.fresh := rfl
@[simp] theorem Dev.updBur_rd (f : BurSt → BurSt) (x : Reg) (e y : Nat) : (d.updBur f).rd x e y = d.rd x e y := rfl

/-! ### updCab -/

@[simp] theorem Dev.updCab_regs (f : CabSt → CabSt) : (d.updCab f).regs = d.regs := rfl
@[simp] theorem Dev.updCab_time (f : CabSt → CabSt) : (d.updCab f).time = d.time := rfl
@[simp] theorem Dev.updCab_fwd (f : CabSt → CabSt) : (d.updCab f).fwd = d.fwd := rfl
@[simp] theorem Dev.updCab_core (f : CabSt → CabSt) : (d.updCab f).core = d.core := rfl
@[simp] theorem Dev.updCab_tm (f : CabSt → CabSt) : (d.updCab f).tm = d.tm := rfl
@[simp] theorem Dev.updCab_lps (f : CabSt → CabSt) : (d.updCab f).lps = d.lps := rfl
@[simp] theorem Dev.updCab_lanes (f : CabSt → CabSt) : (d.updCab f).lanes = d.lanes := rfl
@[simp] theorem Dev.updCab_oe (f : CabSt → CabSt) : (d.updCab f).oe = d.oe := rfl
@[simp] theorem Dev.updCab_sbd (f : CabSt → CabSt) : (d.updCab f).sbd = d.sbd := rfl
@[simp] theorem Dev.updCab_cab (f : CabSt → CabSt) : (d.updCab f).cab = f d.cab := rfl
@[simp] theorem Dev.updCab_pool (f : CabSt → CabSt) : (d.updCab f).pool = d.pool := rfl
@[simp] theorem Dev.updCab_pwr (f : CabSt → CabSt) : (d.updCab f).pwr = d.pwr := rfl
@[simp] theorem Dev.updCab_bus (f : CabSt → CabSt) : (d.updCab f).bus = d.bus := rfl
@[simp] theorem Dev.updCab_pmc (f : CabSt → CabSt) : (d.updCab f).pmc = d.pmc := rfl
@[simp] theorem Dev.updCab_boot (f : CabSt → CabSt) : (d.updCab f).boot = d.boot := rfl
@[simp] theorem Dev.updCab_bur (f : CabSt → CabSt) : (d.updCab f).bur = d.bur := rfl
@[simp] theorem Dev.updCab_raised (f : CabSt → CabSt) : (d.updCab f).raised = d.raised := rfl
@[simp] theorem Dev.updCab_out (f : CabSt → CabSt) : (d.updCab f).out = d.out := rfl
@[simp] theorem Dev.updCab_fresh (f : CabSt → CabSt) : (d.updCab f).fresh = d.fresh := rfl
@[simp] theorem Dev.updCab_rd (f : CabSt → CabSt) (x : Reg) (e y : Nat) : (d.updCab f).rd x e y = d.rd x e y := rfl

/-! ### updPool -/

@[simp] theorem Dev.updPool_regs (f : PoolSt → PoolSt) : (d.updPool f).regs = d.regs := rfl
@[simp] theorem Dev.updPool_time (f : PoolSt → PoolSt) : (d.updPool f).time = d.time := rfl
@[simp] theorem Dev.updPool_fwd (f : PoolSt → PoolSt) : (d.updPool f).fwd = d.fwd := rfl
@[simp] theorem Dev.updPool_core (f : PoolSt → PoolSt) : (d.updPool f).core = d.core := rfl
@[simp] theorem Dev.updPool_tm (f : PoolSt → PoolSt) : (d.updPool f).tm = d.tm := rfl
@[simp] theorem Dev.updPool_lps (f : PoolSt → PoolSt) : (d.updPool f).lps = d.lps := rfl
@[simp] theorem Dev.updPool_lanes (f : PoolSt → PoolSt) : (d.updPool f).lanes = d.lanes := rfl
@[simp] theorem Dev.updPool_oe (f : PoolSt → PoolSt) : (d.updPool f).oe = d.oe := rfl
@[simp] theorem Dev.updPool_sbd (f : PoolSt → PoolSt) : (d.updPool f).sbd = d.sbd := rfl
@[simp] theorem Dev.updPool_cab (f : PoolSt → PoolSt) : (d.updPool f).cab = d.cab := rfl
@[simp] theorem Dev.updPool_pool (f : PoolSt → PoolSt) : (d.updPool f).pool = f d.pool := rfl
@[simp] theorem Dev.updPool_pwr (f : PoolSt → PoolSt) : (d.updPool f).pwr = d.pwr := rfl
@[simp] theorem Dev.updPool_bus (f : PoolSt → PoolSt) : (d.updPool f).bus = d.bus := rfl
@[simp] theorem Dev.updPool_pmc (f : PoolSt → PoolSt) : (d.updPool f).pmc = d.pmc := rfl
@[simp] theorem Dev.updPool_boot (f : PoolSt → PoolSt) : (d.updPool f).boot = d.boot := rfl
@[simp] theorem Dev.updPool_bur (f : PoolSt → PoolSt) : (d.updPool f).bur = d.bur := rfl
@[simp] theorem Dev.updPool_raised (f : PoolSt → PoolSt) : (d.updPool f).raised = d.raised := rfl
@[simp] theorem Dev.updPool_out (f : PoolSt → PoolSt) : (d.updPool f).out = d.out := rfl
@[simp] theorem Dev.updPool_fresh (f : PoolSt → PoolSt) : (d.updPool f).fresh = d.fresh := rfl
@[simp] theorem Dev.updPool_rd (f : PoolSt → PoolSt) (x : Reg) (e y : Nat) : (d.updPool f).rd x e y = d.rd x e y := rfl

/-! ### updTime -/

@[simp] theorem Dev.updTime_regs (f : TimeSt → TimeSt) : (d.updTime f).regs = d.regs := rfl
@[simp] theorem Dev.updTime_time (f : TimeSt → TimeSt) : (d.updTime f).time = f d.time := rfl
@[simp] theorem Dev.updTime_fwd (f : TimeSt → TimeSt) : (d.updTime f).fwd = d.fwd := rfl
@[simp] theorem Dev.updTime_core (f : TimeSt → TimeSt) : (d.updTime f).core = d.core := rfl
@[simp] theorem Dev.updTime_tm (f : TimeSt → TimeSt) : (d.updTime f).tm = d.tm := rfl
@[simp] theorem Dev.updTime_lps (f : TimeSt → TimeSt) : (d.updTime f).lps = d.lps := rfl
@[simp] theorem Dev.updTime_lanes (f : TimeSt → TimeSt) : (d.updTime f).lanes = d.lanes := rfl
@[simp] theorem Dev.updTime_oe (f : TimeSt → TimeSt) : (d.updTime f).oe = d.oe := rfl
@[simp] theorem Dev.updTime_sbd (f : TimeSt → TimeSt) : (d.updTime f).sbd = d.sbd := rfl
@[simp] theorem Dev.updTime_cab (f : TimeSt → TimeSt) : (d.updTime f).cab = d.cab := rfl
@[simp] theorem Dev.updTime_pool (f : TimeSt → TimeSt) : (d.updTime f).pool = d.pool := rfl
@[simp] theorem Dev.updTime_pwr (f : TimeSt → TimeSt) : (d.updTime f).pwr = d.pwr := rfl
@[simp] theorem Dev.updTime_bus (f : TimeSt → TimeSt) : (d.updTime f).bus = d.bus := rfl
@[simp] theorem Dev.updTime_pmc (f : TimeSt → TimeSt) : (d.updTime f).pmc = d.pmc := rfl
@[simp] theorem Dev.updTime_boot (f : TimeSt → TimeSt) : (d.updTime f).boot = d.boot := rfl
@[simp] theorem Dev.updTime_bur (f : TimeSt → TimeSt) : (d.updTime f).bur = d.bur := rfl
@[simp] theorem Dev.updTime_raised (f : TimeSt → TimeSt) : (d.updTime f).raised = d.raised := rfl
@[simp] theorem Dev.updTime_out (f : TimeSt → TimeSt) : (d.updTime f).out = d.out := rfl
@[simp] theorem Dev.updTime_fresh (f : TimeSt → TimeSt) : (d.updTime f).fresh = d.fresh := rfl
@[simp] theorem Dev.updTime_rd (f : TimeSt → TimeSt) (x : Reg) (e y : Nat) : (d.updTime f).rd x e y = d.rd x e y := rfl

/-! ### updPmc -/

@[simp] theorem Dev.updPmc_regs (f : PmcSt → PmcSt) : (d.updPmc f).regs = d.regs := rfl
@[simp] theorem Dev.updPmc_time (f : PmcSt → PmcSt) : (d.updPmc f).time = d.time := rfl
@[simp] theorem Dev.updPmc_fwd (f : PmcSt → PmcSt) : (d.updPmc f).fwd = d.fwd := rfl
@[simp] theorem Dev.updPmc_core (f : PmcSt → PmcSt) : (d.updPmc f).core = d.core := rfl
@[simp] theorem Dev.updPmc_tm (f : PmcSt → PmcSt) : (d.updPmc f).tm = d.tm := rfl
@[simp] theorem Dev.updPmc_lps (f : PmcSt → PmcSt) : (d.updPmc f).lps = d.lps := rfl
@[simp] theorem Dev.updPmc_lanes (f : PmcSt → PmcSt) : (d.updPmc f).lanes = d.lanes := rfl
@[simp] theorem Dev.updPmc_oe (f : PmcSt → PmcSt) : (d.updPmc f).oe = d.oe := rfl
@[simp] theorem Dev.updPmc_sbd (f : PmcSt → PmcSt) : (d.updPmc f).sbd = d.sbd := rfl
@[simp] theorem Dev.updPmc_cab (f : PmcSt → PmcSt) : (d.updPmc f).cab = d.cab := rfl
@[simp] theorem Dev.updPmc_pool (f : PmcSt → PmcSt) : (d.updPmc f).pool = d.pool := rfl
@[simp] theorem Dev.updPmc_pwr (f : PmcSt → PmcSt) : (d.updPmc f).pwr = d.pwr := rfl
@[simp] theorem Dev.updPmc_bus (f : PmcSt → PmcSt) : (d.updPmc f).bus = d.bus := rfl
@[simp] theorem Dev.updPmc_pmc (f : PmcSt → PmcSt) : (d.updPmc f).pmc = f d.pmc := rfl
@[simp] theorem Dev.updPmc_boot (f : PmcSt → PmcSt) : (d.updPmc f).boot = d.boot := rfl
@[simp] theorem Dev.updPmc_bur (f : PmcSt → PmcSt) : (d.updPmc f).bur = d.bur := rfl
@[simp] theorem Dev.updPmc_raised (f : PmcSt → PmcSt) : (d.updPmc f).raised = d.raised := rfl
@[simp] theorem Dev.updPmc_out (f : PmcSt → PmcSt) : (d.updPmc f).out = d.out := rfl
@[simp] theorem Dev.updPmc_fresh (f : PmcSt → PmcSt) : (d.updPmc f).fresh = d.fresh := rfl
@[simp] theorem Dev.updPmc_rd (f : PmcSt → PmcSt) (x : Reg) (e y : Nat) : (d.updPmc f).rd x e y = d.rd x e y := rfl

/-! ### updPwr -/

@[simp] theorem Dev.updPwr_regs (f : PwrSt → PwrSt) : (d.updPwr f).regs = d.regs := rfl
@[simp] theorem Dev.updPwr_time (f : PwrSt → PwrSt) : (d.updPwr f).time = d.time := rfl
@[simp] theorem Dev.updPwr_fwd (f : PwrSt → PwrSt) : (d.updPwr f).fwd = d.fwd := rfl
@[simp] theorem Dev.updPwr_core (f : PwrSt → PwrSt) : (d.updPwr f).core = d.core := rfl
@[simp] theorem Dev.updPwr_tm (f : PwrSt → PwrSt) : (d.updPwr f).tm = d.tm := rfl
@[simp] theorem Dev.updPwr_lps (f : PwrSt → PwrSt) : (d.updPwr f).lps = d.lps := rfl
@[simp] theorem Dev.updPwr_lanes (f : PwrSt → PwrSt) : (d.updPwr f).lanes = d.lanes := rfl
@[simp] theorem Dev.updPwr_oe (f : PwrSt → PwrSt) : (d.updPwr f).oe = d.oe := rfl
@[simp] theorem Dev.updPwr_sbd (f : PwrSt → PwrSt) : (d.updPwr f).sbd = d.sbd := rfl
@[simp] theorem Dev.updPwr_cab (f : PwrSt → PwrSt) : (d.updPwr f).cab = d.cab := rfl
@[simp] theorem Dev.updPwr_pool (f : PwrSt → PwrSt) : (d.updPwr f).pool = d.pool := rfl
@[simp] theorem Dev.updPwr_pwr (f : PwrSt → PwrSt) : (d.updPwr f).pwr = f d.pwr := rfl
@[simp] theorem Dev.updPwr_bus (f : PwrSt → PwrSt) : (d.updPwr f).bus = d.bus := rfl
@[simp] theorem Dev.updPwr_pmc (f : PwrSt → PwrSt) : (d.updPwr f).pmc = d.pmc := rfl
@[simp] theorem Dev.updPwr_boot (f : PwrSt → PwrSt) : (d.updPwr f).boot = d.boot := rfl
@[simp] theorem Dev.updPwr_bur (f : PwrSt → PwrSt) : (d.updPwr f).bur = d.bur := rfl
@[simp] theorem Dev.updPwr_raised (f : PwrSt → PwrSt) : (d.updPwr f).raised = d.raised := rfl
@[simp] theorem Dev.updPwr_out (f : PwrSt → PwrSt) : (d.updPwr f).out = d.out := rfl
@[simp] theorem Dev.updPwr_fresh (f : PwrSt → PwrSt) : (d.updPwr f).fresh = d.fresh := rfl
@[simp] theorem Dev.updPwr_rd (f : PwrSt → PwrSt) (x : Reg) (e y : Nat) : (d.updPwr f).rd x e y = d.rd x e y := rfl

/-! ### add -/

@[simp] theorem Dev.add_time (r : Reg) (i n : Nat) : (d.add r i n).time = d.time := rfl
@[simp] theorem Dev.add_fwd (r : Reg) (i n : Nat) : (d.add r i n).fwd = d.fwd := rfl
@[simp] theorem Dev.add_core (r : Reg) (i n : Nat) : (d.add r i n).core = d.core := rfl
@[simp] theorem Dev.add_tm (r : Reg) (i n : Nat) : (d.add r i n).tm = d.tm := rfl
@[simp] theorem Dev.add_lps (r : Reg) (i n : Nat) : (d.add r i n).lps = d.lps := rfl
@[simp] theorem Dev.add_lanes (r : Reg) (i n : Nat) : (d.add r i n).lanes = d.lanes := rfl
@[simp] theorem Dev.add_oe (r : Reg) (i n : Nat) : (d.add r i n).oe = d.oe := rfl
@[simp] theorem Dev.add_sbd (r : Reg) (i n : Nat) : (d.add r i n).sbd = d.sbd := rfl
@[simp] theorem Dev.add_cab (r : Reg) (i n : Nat) : (d.add r i n).cab = d.cab := rfl
@[simp] theorem Dev.add_pool (r : Reg) (i n : Nat) : (d.add r i n).pool = d.pool := rfl
@[simp] theorem Dev.add_pwr (r : Reg) (i n : Nat) : (d.add r i n).pwr = d.pwr := rfl
@[simp] theorem Dev.add_bus (r : Reg) (i n : Nat) : (d.add r i n).bus = d.bus := rfl
@[simp] theorem Dev.add_pmc (r : Reg) (i n : Nat) : (d.add r i n).pmc = d.pmc := rfl
@[simp] theorem Dev.add_boot (r : Reg) (i n : Nat) : (d.add r i n).boot = d.boot := rfl
@[simp] theorem Dev.add_bur (r : Reg) (i n : Nat) : (d.add r i n).bur = d.bur := rfl
@[simp] theorem Dev.add_raised (r : Reg) (i n : Nat) : (d.add r i n).raised = d.raised := rfl
@[simp] theorem Dev.add_out (r : Reg) (i n : Nat) : (d.add r i n).out = d.out := rfl
@[simp] theorem Dev.add_fresh (r : Reg) (i n : Nat) : (d.add r i n).fresh = d.fresh := rfl

/-! ### count -/

@[simp] theorem Dev.count_time (r : Reg) (i : Nat) : (d.count r i).time = d.time := rfl
@[simp] theorem Dev.count_fwd (r : Reg) (i : Nat) : (d.count r i).fwd = d.fwd := rfl
@[simp] theorem Dev.count_core (r : Reg) (i : Nat) : (d.count r i).core = d.core := rfl
@[simp] theorem Dev.count_tm (r : Reg) (i : Nat) : (d.count r i).tm = d.tm := rfl
@[simp] theorem Dev.count_lps (r : Reg) (i : Nat) : (d.count r i).lps = d.lps := rfl
@[simp] theorem Dev.count_lanes (r : Reg) (i : Nat) : (d.count r i).lanes = d.lanes := rfl
@[simp] theorem Dev.count_oe (r : Reg) (i : Nat) : (d.count r i).oe = d.oe := rfl
@[simp] theorem Dev.count_sbd (r : Reg) (i : Nat) : (d.count r i).sbd = d.sbd := rfl
@[simp] theorem Dev.count_cab (r : Reg) (i : Nat) : (d.count r i).cab = d.cab := rfl
@[simp] theorem Dev.count_pool (r : Reg) (i : Nat) : (d.count r i).pool = d.pool := rfl
@[simp] theorem Dev.count_pwr (r : Reg) (i : Nat) : (d.count r i).pwr = d.pwr := rfl
@[simp] theorem Dev.count_bus (r : Reg) (i : Nat) : (d.count r i).bus = d.bus := rfl
@[simp] theorem Dev.count_pmc (r : Reg) (i : Nat) : (d.count r i).pmc = d.pmc := rfl
@[simp] theorem Dev.count_boot (r : Reg) (i : Nat) : (d.count r i).boot = d.boot := rfl
@[simp] theorem Dev.count_bur (r : Reg) (i : Nat) : (d.count r i).bur = d.bur := rfl
@[simp] theorem Dev.count_raised (r : Reg) (i : Nat) : (d.count r i).raised = d.raised := rfl
@[simp] theorem Dev.count_out (r : Reg) (i : Nat) : (d.count r i).out = d.out := rfl
@[simp] theorem Dev.count_fresh (r : Reg) (i : Nat) : (d.count r i).fresh = d.fresh := rfl

/-! ### set and setB, through wrWide -/

@[simp] theorem Dev.wrWide_time (r : Reg) (i a v n : Nat) : (d.wrWide r i a v n).time = d.time := by
  induction n generalizing d a v with
  | zero => rfl
  | succ n ih => exact ih (d.wr r i a (BitVec.ofNat 32 v)) (a + 1) (v / 2 ^ 32)
@[simp] theorem Dev.set_time (x : Fld) (i v : Nat) : (d.set x i v).time = d.time := d.wrWide_time ..
@[simp] theorem Dev.setB_time (x : Fld) (i : Nat) (b : Bool) : (d.setB x i b).time = d.time := d.wrWide_time ..
@[simp] theorem Dev.wrWide_fwd (r : Reg) (i a v n : Nat) : (d.wrWide r i a v n).fwd = d.fwd := by
  induction n generalizing d a v with
  | zero => rfl
  | succ n ih => exact ih (d.wr r i a (BitVec.ofNat 32 v)) (a + 1) (v / 2 ^ 32)
@[simp] theorem Dev.set_fwd (x : Fld) (i v : Nat) : (d.set x i v).fwd = d.fwd := d.wrWide_fwd ..
@[simp] theorem Dev.setB_fwd (x : Fld) (i : Nat) (b : Bool) : (d.setB x i b).fwd = d.fwd := d.wrWide_fwd ..
@[simp] theorem Dev.wrWide_core (r : Reg) (i a v n : Nat) : (d.wrWide r i a v n).core = d.core := by
  induction n generalizing d a v with
  | zero => rfl
  | succ n ih => exact ih (d.wr r i a (BitVec.ofNat 32 v)) (a + 1) (v / 2 ^ 32)
@[simp] theorem Dev.set_core (x : Fld) (i v : Nat) : (d.set x i v).core = d.core := d.wrWide_core ..
@[simp] theorem Dev.setB_core (x : Fld) (i : Nat) (b : Bool) : (d.setB x i b).core = d.core := d.wrWide_core ..
@[simp] theorem Dev.wrWide_tm (r : Reg) (i a v n : Nat) : (d.wrWide r i a v n).tm = d.tm := by
  induction n generalizing d a v with
  | zero => rfl
  | succ n ih => exact ih (d.wr r i a (BitVec.ofNat 32 v)) (a + 1) (v / 2 ^ 32)
@[simp] theorem Dev.set_tm (x : Fld) (i v : Nat) : (d.set x i v).tm = d.tm := d.wrWide_tm ..
@[simp] theorem Dev.setB_tm (x : Fld) (i : Nat) (b : Bool) : (d.setB x i b).tm = d.tm := d.wrWide_tm ..
@[simp] theorem Dev.wrWide_lps (r : Reg) (i a v n : Nat) : (d.wrWide r i a v n).lps = d.lps := by
  induction n generalizing d a v with
  | zero => rfl
  | succ n ih => exact ih (d.wr r i a (BitVec.ofNat 32 v)) (a + 1) (v / 2 ^ 32)
@[simp] theorem Dev.set_lps (x : Fld) (i v : Nat) : (d.set x i v).lps = d.lps := d.wrWide_lps ..
@[simp] theorem Dev.setB_lps (x : Fld) (i : Nat) (b : Bool) : (d.setB x i b).lps = d.lps := d.wrWide_lps ..
@[simp] theorem Dev.wrWide_lanes (r : Reg) (i a v n : Nat) : (d.wrWide r i a v n).lanes = d.lanes := by
  induction n generalizing d a v with
  | zero => rfl
  | succ n ih => exact ih (d.wr r i a (BitVec.ofNat 32 v)) (a + 1) (v / 2 ^ 32)
@[simp] theorem Dev.set_lanes (x : Fld) (i v : Nat) : (d.set x i v).lanes = d.lanes := d.wrWide_lanes ..
@[simp] theorem Dev.setB_lanes (x : Fld) (i : Nat) (b : Bool) : (d.setB x i b).lanes = d.lanes := d.wrWide_lanes ..
@[simp] theorem Dev.wrWide_oe (r : Reg) (i a v n : Nat) : (d.wrWide r i a v n).oe = d.oe := by
  induction n generalizing d a v with
  | zero => rfl
  | succ n ih => exact ih (d.wr r i a (BitVec.ofNat 32 v)) (a + 1) (v / 2 ^ 32)
@[simp] theorem Dev.set_oe (x : Fld) (i v : Nat) : (d.set x i v).oe = d.oe := d.wrWide_oe ..
@[simp] theorem Dev.setB_oe (x : Fld) (i : Nat) (b : Bool) : (d.setB x i b).oe = d.oe := d.wrWide_oe ..
@[simp] theorem Dev.wrWide_sbd (r : Reg) (i a v n : Nat) : (d.wrWide r i a v n).sbd = d.sbd := by
  induction n generalizing d a v with
  | zero => rfl
  | succ n ih => exact ih (d.wr r i a (BitVec.ofNat 32 v)) (a + 1) (v / 2 ^ 32)
@[simp] theorem Dev.set_sbd (x : Fld) (i v : Nat) : (d.set x i v).sbd = d.sbd := d.wrWide_sbd ..
@[simp] theorem Dev.setB_sbd (x : Fld) (i : Nat) (b : Bool) : (d.setB x i b).sbd = d.sbd := d.wrWide_sbd ..
@[simp] theorem Dev.wrWide_cab (r : Reg) (i a v n : Nat) : (d.wrWide r i a v n).cab = d.cab := by
  induction n generalizing d a v with
  | zero => rfl
  | succ n ih => exact ih (d.wr r i a (BitVec.ofNat 32 v)) (a + 1) (v / 2 ^ 32)
@[simp] theorem Dev.set_cab (x : Fld) (i v : Nat) : (d.set x i v).cab = d.cab := d.wrWide_cab ..
@[simp] theorem Dev.setB_cab (x : Fld) (i : Nat) (b : Bool) : (d.setB x i b).cab = d.cab := d.wrWide_cab ..
@[simp] theorem Dev.wrWide_pool (r : Reg) (i a v n : Nat) : (d.wrWide r i a v n).pool = d.pool := by
  induction n generalizing d a v with
  | zero => rfl
  | succ n ih => exact ih (d.wr r i a (BitVec.ofNat 32 v)) (a + 1) (v / 2 ^ 32)
@[simp] theorem Dev.set_pool (x : Fld) (i v : Nat) : (d.set x i v).pool = d.pool := d.wrWide_pool ..
@[simp] theorem Dev.setB_pool (x : Fld) (i : Nat) (b : Bool) : (d.setB x i b).pool = d.pool := d.wrWide_pool ..
@[simp] theorem Dev.wrWide_pwr (r : Reg) (i a v n : Nat) : (d.wrWide r i a v n).pwr = d.pwr := by
  induction n generalizing d a v with
  | zero => rfl
  | succ n ih => exact ih (d.wr r i a (BitVec.ofNat 32 v)) (a + 1) (v / 2 ^ 32)
@[simp] theorem Dev.set_pwr (x : Fld) (i v : Nat) : (d.set x i v).pwr = d.pwr := d.wrWide_pwr ..
@[simp] theorem Dev.setB_pwr (x : Fld) (i : Nat) (b : Bool) : (d.setB x i b).pwr = d.pwr := d.wrWide_pwr ..
@[simp] theorem Dev.wrWide_bus (r : Reg) (i a v n : Nat) : (d.wrWide r i a v n).bus = d.bus := by
  induction n generalizing d a v with
  | zero => rfl
  | succ n ih => exact ih (d.wr r i a (BitVec.ofNat 32 v)) (a + 1) (v / 2 ^ 32)
@[simp] theorem Dev.set_bus (x : Fld) (i v : Nat) : (d.set x i v).bus = d.bus := d.wrWide_bus ..
@[simp] theorem Dev.setB_bus (x : Fld) (i : Nat) (b : Bool) : (d.setB x i b).bus = d.bus := d.wrWide_bus ..
@[simp] theorem Dev.wrWide_pmc (r : Reg) (i a v n : Nat) : (d.wrWide r i a v n).pmc = d.pmc := by
  induction n generalizing d a v with
  | zero => rfl
  | succ n ih => exact ih (d.wr r i a (BitVec.ofNat 32 v)) (a + 1) (v / 2 ^ 32)
@[simp] theorem Dev.set_pmc (x : Fld) (i v : Nat) : (d.set x i v).pmc = d.pmc := d.wrWide_pmc ..
@[simp] theorem Dev.setB_pmc (x : Fld) (i : Nat) (b : Bool) : (d.setB x i b).pmc = d.pmc := d.wrWide_pmc ..
@[simp] theorem Dev.wrWide_boot (r : Reg) (i a v n : Nat) : (d.wrWide r i a v n).boot = d.boot := by
  induction n generalizing d a v with
  | zero => rfl
  | succ n ih => exact ih (d.wr r i a (BitVec.ofNat 32 v)) (a + 1) (v / 2 ^ 32)
@[simp] theorem Dev.set_boot (x : Fld) (i v : Nat) : (d.set x i v).boot = d.boot := d.wrWide_boot ..
@[simp] theorem Dev.setB_boot (x : Fld) (i : Nat) (b : Bool) : (d.setB x i b).boot = d.boot := d.wrWide_boot ..
@[simp] theorem Dev.wrWide_bur (r : Reg) (i a v n : Nat) : (d.wrWide r i a v n).bur = d.bur := by
  induction n generalizing d a v with
  | zero => rfl
  | succ n ih => exact ih (d.wr r i a (BitVec.ofNat 32 v)) (a + 1) (v / 2 ^ 32)
@[simp] theorem Dev.set_bur (x : Fld) (i v : Nat) : (d.set x i v).bur = d.bur := d.wrWide_bur ..
@[simp] theorem Dev.setB_bur (x : Fld) (i : Nat) (b : Bool) : (d.setB x i b).bur = d.bur := d.wrWide_bur ..
@[simp] theorem Dev.wrWide_raised (r : Reg) (i a v n : Nat) : (d.wrWide r i a v n).raised = d.raised := by
  induction n generalizing d a v with
  | zero => rfl
  | succ n ih => exact ih (d.wr r i a (BitVec.ofNat 32 v)) (a + 1) (v / 2 ^ 32)
@[simp] theorem Dev.set_raised (x : Fld) (i v : Nat) : (d.set x i v).raised = d.raised := d.wrWide_raised ..
@[simp] theorem Dev.setB_raised (x : Fld) (i : Nat) (b : Bool) : (d.setB x i b).raised = d.raised := d.wrWide_raised ..
@[simp] theorem Dev.wrWide_out (r : Reg) (i a v n : Nat) : (d.wrWide r i a v n).out = d.out := by
  induction n generalizing d a v with
  | zero => rfl
  | succ n ih => exact ih (d.wr r i a (BitVec.ofNat 32 v)) (a + 1) (v / 2 ^ 32)
@[simp] theorem Dev.set_out (x : Fld) (i v : Nat) : (d.set x i v).out = d.out := d.wrWide_out ..
@[simp] theorem Dev.setB_out (x : Fld) (i : Nat) (b : Bool) : (d.setB x i b).out = d.out := d.wrWide_out ..
@[simp] theorem Dev.wrWide_fresh (r : Reg) (i a v n : Nat) : (d.wrWide r i a v n).fresh = d.fresh := by
  induction n generalizing d a v with
  | zero => rfl
  | succ n ih => exact ih (d.wr r i a (BitVec.ofNat 32 v)) (a + 1) (v / 2 ^ 32)
@[simp] theorem Dev.set_fresh (x : Fld) (i v : Nat) : (d.set x i v).fresh = d.fresh := d.wrWide_fresh ..
@[simp] theorem Dev.setB_fresh (x : Fld) (i : Nat) (b : Bool) : (d.setB x i b).fresh = d.fresh := d.wrWide_fresh ..

/-! ### fields of registers see the register words alone -/

/-- Two devices with the same register words have the same fields. -/
theorem Dev.rdWide_congr {d e : Dev} (h : e.regs = d.regs) (r : Reg) (i a n : Nat) :
    e.rdWide r i a n = d.rdWide r i a n := by
  induction n generalizing a with
  | zero => rfl
  | succ n ih => simp only [Dev.rdWide, Dev.rd, h, ih]

theorem Dev.get_congr (d e : Dev) (h : e.regs = d.regs) (x : Fld) (i : Nat) : e.get x i = d.get x i := by
  simp only [Dev.get, Dev.rdWide_congr h]

theorem Dev.bit_congr (d e : Dev) (h : e.regs = d.regs) (x : Fld) (i : Nat) : e.bit x i = d.bit x i := by
  simp only [Dev.bit, Dev.get_congr d e h]

@[simp] theorem Dev.emit_get (o : Out) (x : Fld) (e : Nat) : (d.emit o).get x e = d.get x e := Dev.get_congr d _ (d.emit_regs ..) x e
@[simp] theorem Dev.emit_bit (o : Out) (x : Fld) (e : Nat) : (d.emit o).bit x e = d.bit x e := Dev.bit_congr d _ (d.emit_regs ..) x e
@[simp] theorem Dev.raise_get (u k i j : Nat) (x : Fld) (e : Nat) : (d.raise u k i j).get x e = d.get x e := Dev.get_congr d _ (d.raise_regs ..) x e
@[simp] theorem Dev.raise_bit (u k i j : Nat) (x : Fld) (e : Nat) : (d.raise u k i j).bit x e = d.bit x e := Dev.bit_congr d _ (d.raise_regs ..) x e
@[simp] theorem Dev.flagFrom_get (n : Nat) (x : Fld) (e : Nat) : (d.flagFrom n).get x e = d.get x e := Dev.get_congr d _ (d.flagFrom_regs ..) x e
@[simp] theorem Dev.flagFrom_bit (n : Nat) (x : Fld) (e : Nat) : (d.flagFrom n).bit x e = d.bit x e := Dev.bit_congr d _ (d.flagFrom_regs ..) x e
@[simp] theorem Dev.tick_get  (x : Fld) (e : Nat) : (d.tick).get x e = d.get x e := Dev.get_congr d _ (d.tick_regs ..) x e
@[simp] theorem Dev.tick_bit  (x : Fld) (e : Nat) : (d.tick).bit x e = d.bit x e := Dev.bit_congr d _ (d.tick_regs ..) x e
@[simp] theorem Dev.updLp_get (n : Nat) (f : Lp → Lp) (x : Fld) (e : Nat) : (d.updLp n f).get x e = d.get x e := Dev.get_congr d _ (d.updLp_regs ..) x e
@[simp] theorem Dev.updLp_bit (n : Nat) (f : Lp → Lp) (x : Fld) (e : Nat) : (d.updLp n f).bit x e = d.bit x e := Dev.bit_congr d _ (d.updLp_regs ..) x e
@[simp] theorem Dev.updLane_get (n : Nat) (f : LaneSt → LaneSt) (x : Fld) (e : Nat) : (d.updLane n f).get x e = d.get x e := Dev.get_congr d _ (d.updLane_regs ..) x e
@[simp] theorem Dev.updLane_bit (n : Nat) (f : LaneSt → LaneSt) (x : Fld) (e : Nat) : (d.updLane n f).bit x e = d.bit x e := Dev.bit_congr d _ (d.updLane_regs ..) x e
@[simp] theorem Dev.updCore_get (f : CoreSt → CoreSt) (x : Fld) (e : Nat) : (d.updCore f).get x e = d.get x e := Dev.get_congr d _ (d.updCore_regs ..) x e
@[simp] theorem Dev.updCore_bit (f : CoreSt → CoreSt) (x : Fld) (e : Nat) : (d.updCore f).bit x e = d.bit x e := Dev.bit_congr d _ (d.updCore_regs ..) x e
@[simp] theorem Dev.updFwd_get (f : FwdSt → FwdSt) (x : Fld) (e : Nat) : (d.updFwd f).get x e = d.get x e := Dev.get_congr d _ (d.updFwd_regs ..) x e
@[simp] theorem Dev.updFwd_bit (f : FwdSt → FwdSt) (x : Fld) (e : Nat) : (d.updFwd f).bit x e = d.bit x e := Dev.bit_congr d _ (d.updFwd_regs ..) x e
@[simp] theorem Dev.updTm_get (f : TmSt → TmSt) (x : Fld) (e : Nat) : (d.updTm f).get x e = d.get x e := Dev.get_congr d _ (d.updTm_regs ..) x e
@[simp] theorem Dev.updTm_bit (f : TmSt → TmSt) (x : Fld) (e : Nat) : (d.updTm f).bit x e = d.bit x e := Dev.bit_congr d _ (d.updTm_regs ..) x e
@[simp] theorem Dev.updBur_get (f : BurSt → BurSt) (x : Fld) (e : Nat) : (d.updBur f).get x e = d.get x e := Dev.get_congr d _ (d.updBur_regs ..) x e
@[simp] theorem Dev.updBur_bit (f : BurSt → BurSt) (x : Fld) (e : Nat) : (d.updBur f).bit x e = d.bit x e := Dev.bit_congr d _ (d.updBur_regs ..) x e
@[simp] theorem Dev.updCab_get (f : CabSt → CabSt) (x : Fld) (e : Nat) : (d.updCab f).get x e = d.get x e := Dev.get_congr d _ (d.updCab_regs ..) x e
@[simp] theorem Dev.updCab_bit (f : CabSt → CabSt) (x : Fld) (e : Nat) : (d.updCab f).bit x e = d.bit x e := Dev.bit_congr d _ (d.updCab_regs ..) x e
@[simp] theorem Dev.updPool_get (f : PoolSt → PoolSt) (x : Fld) (e : Nat) : (d.updPool f).get x e = d.get x e := Dev.get_congr d _ (d.updPool_regs ..) x e
@[simp] theorem Dev.updPool_bit (f : PoolSt → PoolSt) (x : Fld) (e : Nat) : (d.updPool f).bit x e = d.bit x e := Dev.bit_congr d _ (d.updPool_regs ..) x e
@[simp] theorem Dev.updTime_get (f : TimeSt → TimeSt) (x : Fld) (e : Nat) : (d.updTime f).get x e = d.get x e := Dev.get_congr d _ (d.updTime_regs ..) x e
@[simp] theorem Dev.updTime_bit (f : TimeSt → TimeSt) (x : Fld) (e : Nat) : (d.updTime f).bit x e = d.bit x e := Dev.bit_congr d _ (d.updTime_regs ..) x e
@[simp] theorem Dev.updPmc_get (f : PmcSt → PmcSt) (x : Fld) (e : Nat) : (d.updPmc f).get x e = d.get x e := Dev.get_congr d _ (d.updPmc_regs ..) x e
@[simp] theorem Dev.updPmc_bit (f : PmcSt → PmcSt) (x : Fld) (e : Nat) : (d.updPmc f).bit x e = d.bit x e := Dev.bit_congr d _ (d.updPmc_regs ..) x e
@[simp] theorem Dev.updPwr_get (f : PwrSt → PwrSt) (x : Fld) (e : Nat) : (d.updPwr f).get x e = d.get x e := Dev.get_congr d _ (d.updPwr_regs ..) x e
@[simp] theorem Dev.updPwr_bit (f : PwrSt → PwrSt) (x : Fld) (e : Nat) : (d.updPwr f).bit x e = d.bit x e := Dev.bit_congr d _ (d.updPwr_regs ..) x e

/-! ### commands -/

/-- A command runs on the device and leaves the queue. -/
@[simp] theorem run_eq (f : Dev → Dev) (s : State) : run f s = .next (s.withDev (f s.dev)) := rfl

/-- A write that reaches its register has its effect. -/
@[simp] theorem Dev.onWrite_reaches {d : Dev} {a : Access} {r : Reg} {i w : Nat} (h : d.Reaches a r i w)
    (f : Dev → Dev) : d.onWrite a r i w f = f d := by
  simp [Dev.onWrite, h.1, h.2]

/-- What onWrite can do: nothing but a record or an event, or the effect. -/
theorem Dev.onWrite_cases (d : Dev) (a : Access) (r : Reg) (i w : Nat) (f : Dev → Dev) :
    d.onWrite a r i w f = d ∨ d.onWrite a r i w f = d.lockedWrite a ∨
    (∃ n x, d.onWrite a r i w f = d.accErr a n x true) ∨ d.onWrite a r i w f = f d := by
  unfold Dev.onWrite
  dsimp only
  split
  · split
    · exact .inr (.inl rfl)
    · exact .inl rfl
  · exact .inr (.inr (.inl ⟨_, _, rfl⟩))
  · split
    · exact .inr (.inr (.inl ⟨_, _, rfl⟩))
    · exact .inr (.inr (.inr rfl))

end Sys2Proof.Machine
end

