-- ==== Sys2Proof/Laws/Fields.lean ====
section
/-! SUPPORT. Laws of bit fields and of register fields: a field reads as it was written, and every other field as before. -/
namespace Sys2Proof.Machine

/-! ## Bit fields of a number -/

theorem withBits_lt {v hi lo x n : Nat} (hv : v < 2 ^ n) (h : hi < n) (hl : lo ≤ hi) : withBits v hi lo x < 2 ^ n := by
  unfold withBits
  obtain ⟨k, rfl⟩ := Nat.exists_eq_add_of_lt h
  obtain ⟨m, rfl⟩ := Nat.exists_eq_add_of_le hl
  have e1 : lo + m + 1 - lo = m + 1 := by omega
  rw [e1]
  have h1 : x % 2 ^ (m + 1) < 2 ^ (m + 1) := Nat.mod_lt _ (by positivity)
  have h2 : v % 2 ^ lo < 2 ^ lo := Nat.mod_lt _ (by positivity)
  have h3 : v / 2 ^ (lo + m + 1) < 2 ^ k := by
    rw [Nat.div_lt_iff_lt_mul (by positivity), ← pow_add]
    exact lt_of_lt_of_eq hv (by congr 1; omega)
  have h4 : x % 2 ^ (m + 1) * 2 ^ lo + v % 2 ^ lo < 2 ^ (lo + m + 1) := by
    have : (x % 2 ^ (m + 1) + 1) * 2 ^ lo ≤ 2 ^ (m + 1) * 2 ^ lo := Nat.mul_le_mul_right _ h1
    have e : 2 ^ (m + 1) * 2 ^ lo = 2 ^ (lo + m + 1) := by rw [← pow_add]; congr 1; omega
    linarith
  have h5 : (v / 2 ^ (lo + m + 1) + 1) * 2 ^ (lo + m + 1) ≤ 2 ^ k * 2 ^ (lo + m + 1) := Nat.mul_le_mul_right _ h3
  have e : 2 ^ k * 2 ^ (lo + m + 1) = 2 ^ (lo + m + k + 1) := by rw [← pow_add]; congr 1; omega
  linarith

/-- A field reads as it was written. -/
theorem bitsOf_withBits_same {v hi lo x : Nat} (h : lo ≤ hi) :
    bitsOf (withBits v hi lo x) hi lo = x % 2 ^ (hi + 1 - lo) := by
  unfold bitsOf withBits
  obtain ⟨m, rfl⟩ := Nat.exists_eq_add_of_le h
  have e1 : lo + m + 1 - lo = m + 1 := by omega
  rw [e1]
  have h2 : v % 2 ^ lo < 2 ^ lo := Nat.mod_lt _ (by positivity)
  have e2 : v / 2 ^ (lo + m + 1) * 2 ^ (lo + m + 1) + x % 2 ^ (m + 1) * 2 ^ lo + v % 2 ^ lo =
      v % 2 ^ lo + 2 ^ lo * (x % 2 ^ (m + 1) + 2 ^ (m + 1) * (v / 2 ^ (lo + m + 1))) := by
    have : 2 ^ (lo + m + 1) = 2 ^ lo * 2 ^ (m + 1) := by rw [← pow_add]; congr 1
    rw [this]; ring
  rw [e2, Nat.add_mul_div_left _ _ (by positivity), Nat.div_eq_of_lt h2, Nat.zero_add, Nat.add_mul_mod_self_left, Nat.mod_mod]

/-- A field above the one written reads as before. -/
theorem bitsOf_withBits_above {v hi lo x hi' lo' : Nat} (h : lo ≤ hi) (hl : hi < lo') :
    bitsOf (withBits v hi lo x) hi' lo' = bitsOf v hi' lo' := by
  unfold bitsOf withBits
  obtain ⟨m, rfl⟩ := Nat.exists_eq_add_of_le h
  obtain ⟨k, rfl⟩ := Nat.exists_eq_add_of_lt hl
  have e1 : lo + m + 1 - lo = m + 1 := by omega
  rw [e1]
  have h1 : x % 2 ^ (m + 1) < 2 ^ (m + 1) := Nat.mod_lt _ (by positivity)
  have h2 : v % 2 ^ lo < 2 ^ lo := Nat.mod_lt _ (by positivity)
  have h4 : x % 2 ^ (m + 1) * 2 ^ lo + v % 2 ^ lo < 2 ^ (lo + m + 1) := by
    have : (x % 2 ^ (m + 1) + 1) * 2 ^ lo ≤ 2 ^ (m + 1) * 2 ^ lo := Nat.mul_le_mul_right _ h1
    have e : 2 ^ (m + 1) * 2 ^ lo = 2 ^ (lo + m + 1) := by rw [← pow_add]; congr 1; omega
    linarith
  have e3 : 2 ^ (lo + m + k + 1) = 2 ^ (lo + m + 1) * 2 ^ k := by rw [← pow_add]; congr 1; omega
  congr 1
  rw [e3, ← Nat.div_div_eq_div_mul, ← Nat.div_div_eq_div_mul]
  congr 1
  rw [Nat.add_assoc, Nat.mul_comm (v / _), Nat.mul_add_div (by positivity), Nat.div_eq_of_lt h4, Nat.add_zero]

/-- A field below the one written reads as before. -/
theorem bitsOf_withBits_below {v hi lo x hi' lo' : Nat} (h : lo ≤ hi) (hl : hi' < lo) (h' : lo' ≤ hi') :
    bitsOf (withBits v hi lo x) hi' lo' = bitsOf v hi' lo' := by
  unfold bitsOf withBits
  obtain ⟨j, rfl⟩ := Nat.exists_eq_add_of_le h'
  obtain ⟨m, rfl⟩ := Nat.exists_eq_add_of_le h
  obtain ⟨k, rfl⟩ := Nat.exists_eq_add_of_lt hl
  generalize hn : lo' + j + 1 - lo' = n
  have hn' : n = j + 1 := by omega
  subst hn'
  have e : v / 2 ^ (lo' + j + k + 1 + m + 1) * 2 ^ (lo' + j + k + 1 + m + 1) +
      x % 2 ^ (lo' + j + k + 1 + m + 1 - (lo' + j + k + 1)) * 2 ^ (lo' + j + k + 1) + v % 2 ^ (lo' + j + k + 1) =
      v % 2 ^ (lo' + j + k + 1) + 2 ^ (lo' + j + k + 1) * (v / 2 ^ (lo' + j + k + 1 + m + 1) * 2 ^ (m + 1) +
        x % 2 ^ (lo' + j + k + 1 + m + 1 - (lo' + j + k + 1))) := by
    have : 2 ^ (lo' + j + k + 1 + m + 1) = 2 ^ (lo' + j + k + 1) * 2 ^ (m + 1) := by rw [← pow_add]; congr 1
    rw [this]; ring
  rw [e]
  have e2 : 2 ^ (lo' + j + k + 1) = 2 ^ lo' * (2 ^ (j + 1) * 2 ^ k) := by
    rw [← pow_add, ← pow_add]; congr 1; omega
  have key : ∀ y z : Nat, (y + 2 ^ (lo' + j + k + 1) * z) / 2 ^ lo' % 2 ^ (j + 1) = y / 2 ^ lo' % 2 ^ (j + 1) := by
    intro y z
    rw [e2, Nat.mul_assoc, Nat.add_mul_div_left _ _ (by positivity), Nat.mul_assoc, Nat.add_mul_mod_self_left]
  rw [key]
  conv_rhs => rw [← Nat.mod_add_div v (2 ^ (lo' + j + k + 1))]
  rw [key]

/-! ## Fields of one register word -/

/-- A field within one word. -/
def Fld.One (f : Fld) : Prop := f.lo ≤ f.hi ∧ f.hi / 32 = f.lo / 32

theorem Dev.get_one (d : Dev) {f : Fld} (h : f.One) (i : Nat) :
    d.get f i = bitsOf (d.rd f.reg i (f.lo / 32)).toNat (f.hi - 32 * (f.lo / 32)) (f.lo - 32 * (f.lo / 32)) := by
  have e : f.hi / 32 + 1 - f.lo / 32 = 1 := by have := h.2; omega
  simp [Dev.get, e, Dev.rdWide]

theorem Dev.set_one (d : Dev) {f : Fld} (h : f.One) (i v : Nat) :
    d.set f i v = d.wr f.reg i (f.lo / 32) (BitVec.ofNat 32 (withBits (d.rd f.reg i (f.lo / 32)).toNat
      (f.hi - 32 * (f.lo / 32)) (f.lo - 32 * (f.lo / 32)) v)) := by
  have e : f.hi / 32 + 1 - f.lo / 32 = 1 := by have := h.2; omega
  simp [Dev.set, e, Dev.rdWide, Dev.wrWide]

/-- A field reads as it was written. -/
theorem Dev.get_set_same (d : Dev) {f : Fld} (h : f.One) (i v : Nat) :
    (d.set f i v).get f i = v % 2 ^ (f.hi + 1 - f.lo) := by
  have h1 := h.1
  have h2 := h.2
  rw [Dev.get_one _ h, Dev.set_one _ h, Dev.rd_wr_same, BitVec.toNat_ofNat,
    Nat.mod_eq_of_lt (withBits_lt (d.rd f.reg i (f.lo / 32)).isLt (by omega) (by omega)), bitsOf_withBits_same (by omega)]
  congr 2; omega

/-- A field of another register, another entry or another word reads as before. -/
theorem Dev.get_set_word (d : Dev) {f g : Fld} (hf : f.One) (hg : g.One) {i j : Nat} (v : Nat)
    (h : ¬(g.reg = f.reg ∧ j = i ∧ g.lo / 32 = f.lo / 32)) : (d.set f i v).get g j = d.get g j := by
  rw [Dev.get_one _ hg, Dev.get_one _ hg, Dev.set_one _ hf, Dev.rd_wr_ne _ _ h]

/-- Another field of the same word reads as before. -/
theorem Dev.get_set_bits (d : Dev) {f g : Fld} (hf : f.One) (hg : g.One) (i v : Nat)
    (hr : g.reg = f.reg) (hw : g.lo / 32 = f.lo / 32) (h : g.hi < f.lo ∨ f.hi < g.lo) :
    (d.set f i v).get g i = d.get g i := by
  have h1 := hf.1
  have h2 := hf.2
  have h3 := hg.1
  have h4 := hg.2
  rw [Dev.get_one _ hg, Dev.get_one _ hg, Dev.set_one _ hf, hr, hw, Dev.rd_wr_same, BitVec.toNat_ofNat,
    Nat.mod_eq_of_lt (withBits_lt (d.rd f.reg i (f.lo / 32)).isLt (by omega) (by omega))]
  rcases h with h | h
  · exact bitsOf_withBits_below (by omega) (by omega) (by omega)
  · exact bitsOf_withBits_above (by omega) (by omega)

/-- A register word that a field does not lie in reads as before. -/
theorem Dev.rd_set_ne (d : Dev) {f : Fld} (hf : f.One) {r : Reg} {i j w : Nat} (v : Nat)
    (h : ¬(r = f.reg ∧ j = i ∧ w = f.lo / 32)) : (d.set f i v).rd r j w = d.rd r j w := by
  rw [Dev.set_one _ hf, Dev.rd_wr_ne _ _ h]

/-- The register words stay in their order. -/
theorem Dev.wr_rising {d : Dev} (h : Tbl.Rising d.regs) (r : Reg) (i w : Nat) (v : Word) :
    Tbl.Rising (d.wr r i w v).regs := Tbl.put_rising h _ _ _

theorem Dev.set_rising {d : Dev} (h : Tbl.Rising d.regs) {f : Fld} (hf : f.One) (i v : Nat) :
    Tbl.Rising (d.set f i v).regs := by
  rw [Dev.set_one _ hf]; exact Dev.wr_rising h _ _ _ _

/-! ## The conditions of the JOB_CTL and GN_REQ commands -/

/-- A JOB_CTL request that reaches its execution is executed. -/
theorem Dev.onJob_reaches {d : Dev} {r : JobCtl} (h : d.JobReaches r) (f : Dev → Dev) : d.onJob r f = f (d.jobTaken r) := by
  simp [Dev.onJob, h.1, h.2]

/-- A GN_REQ that finds what it needs is executed. -/
theorem Dev.onGn_reaches {d : Dev} {r : GnReq} (h : d.GnReaches r) (f : Dev → Dev) : d.onGn r f = f (d.gnTaken r) := by
  have e : (!r.isMirror && !d.trkFree r.tile) = false := by
    rcases h with h | h <;> simp [h]
  simp only [Dev.onGn, e]
  rfl

end Sys2Proof.Machine
end

