-- ==== Sys2Proof/Laws/SoundOps.lean ====
section
/-! SUPPORT. Every operation of Machine/Ops.lean keeps the device sound (Safety.lean): one lemma per operation. -/
namespace Sys2Proof.Machine

variable {p₀ : List Out} {n₀ : Nat} {d : Dev}

theorem Dev.wr_sound (r : Reg) (i : Nat) (w : Nat) (v : Word) (h : d.Sound p₀ n₀) :
  (Dev.wr d r i w v).Sound p₀ n₀ := by
  exact ⟨⟨h.1.1.put r i w v, h.1.2⟩, h.2⟩

theorem Dev.wrWide_sound (r : Reg) (i : Nat) (a : Nat) (v : Nat) (x1 : Nat) (h : d.Sound p₀ n₀) :
  (Dev.wrWide d r i a v x1).Sound p₀ n₀ := by
  induction x1 generalizing d a v with
  | zero => exact h
  | succ k ih => exact ih (a + 1) (v / 2 ^ 32) (Dev.wr_sound r i a _ h)

theorem Dev.set_sound (f : Fld) (i : Nat) (v : Nat) (h : d.Sound p₀ n₀) :
  (Dev.set d f i v).Sound p₀ n₀ := by
  unfold Dev.set
  repeat' (first
    | with_reducible assumption
    | with_reducible apply Dev.wrWide_sound)

theorem Dev.setB_sound (f : Fld) (i : Nat) (b : Bool) (h : d.Sound p₀ n₀) :
  (Dev.setB d f i b).Sound p₀ n₀ := by
  unfold Dev.setB
  repeat' (first
    | with_reducible assumption
    | with_reducible apply Dev.set_sound)

theorem Dev.add_sound (r : Reg) (i : Nat) (n : Nat) (h : d.Sound p₀ n₀) :
  (Dev.add d r i n).Sound p₀ n₀ := by
  unfold Dev.add
  repeat' (first
    | with_reducible assumption
    | with_reducible apply Dev.wr_sound)

theorem Dev.count_sound (r : Reg) (i : Nat) (h : d.Sound p₀ n₀) :
  (Dev.count d r i).Sound p₀ n₀ := by
  unfold Dev.count
  repeat' (first
    | with_reducible assumption
    | with_reducible apply Dev.add_sound)

theorem Dev.add64_sound (r : Reg) (i : Nat) (n : Nat) (h : d.Sound p₀ n₀) :
  (Dev.add64 d r i n).Sound p₀ n₀ := by
  unfold Dev.add64
  repeat' (first
    | with_reducible assumption
    | with_reducible apply Dev.wrWide_sound)

theorem Dev.addWrap64_sound (r : Reg) (i : Nat) (n : Nat) (h : d.Sound p₀ n₀) :
  (Dev.addWrap64 d r i n).Sound p₀ n₀ := by
  unfold Dev.addWrap64
  repeat' (first
    | with_reducible assumption
    | with_reducible apply Dev.wrWide_sound)

theorem Dev.bumpSat_sound (f : Fld) (i : Nat) (h : d.Sound p₀ n₀) :
  (Dev.bumpSat d f i).Sound p₀ n₀ := by
  unfold Dev.bumpSat
  repeat' (first
    | with_reducible assumption
    | with_reducible apply Dev.set_sound)

theorem Dev.tick_sound (h : d.Sound p₀ n₀) :
  (Dev.tick d).Sound p₀ n₀ := by
  exact ⟨⟨h.1.1, h.1.2.1, h.1.2.2.1, Nat.mod_lt _ (by decide)⟩, h.2⟩

theorem Dev.emit_sound (o : Out) (h : d.Sound p₀ n₀) :
  (Dev.emit d o).Sound p₀ n₀ := by
  exact ⟨h.1, h.2.1.trans (List.prefix_append _ _), h.2.2⟩

theorem Dev.irq_sound (desk : Nat) (vec : Nat) (h : d.Sound p₀ n₀) :
  (Dev.irq d desk vec).Sound p₀ n₀ := by
  unfold Dev.irq
  repeat' (first
    | with_reducible assumption
    | with_reducible apply Dev.wr_sound
    | with_reducible apply Dev.emit_sound
    | with_reducible refine Dev.sound_ite (fun _ => ?_) (fun _ => ?_))

theorem Dev.irqBoth_sound (vec : Nat) (h : d.Sound p₀ n₀) :
  (Dev.irqBoth d vec).Sound p₀ n₀ := by
  unfold Dev.irqBoth
  repeat' (first
    | with_reducible assumption
    | with_reducible apply Dev.irq_sound)

theorem Dev.raise_sound (u : Nat) (k : Nat) (inst : Nat) (inst2 : Nat) (h : d.Sound p₀ n₀) :
  (Dev.raise d u k inst inst2).Sound p₀ n₀ := by
  unfold Dev.raise
  repeat' (first
    | with_reducible assumption
    | with_reducible refine Dev.sound_mk ?_ rfl rfl rfl)

theorem Dev.flagFrom_sound (n : Nat) (h : d.Sound p₀ n₀) :
  (Dev.flagFrom d n).Sound p₀ n₀ := by
  unfold Dev.flagFrom
  repeat' (first
    | with_reducible assumption
    | with_reducible refine Dev.sound_mk ?_ rfl rfl rfl)

theorem Dev.updBur_sound (f : BurSt → BurSt) (h : d.Sound p₀ n₀) :
  (Dev.updBur d f).Sound p₀ n₀ := by
  unfold Dev.updBur
  repeat' (first
    | with_reducible assumption
    | with_reducible refine Dev.sound_mk ?_ rfl rfl rfl)

theorem Dev.draw_sound (h : d.Sound p₀ n₀) :
  (Dev.draw d).2.Sound p₀ n₀ := by
  exact ⟨h.1, h.2.1, Nat.le_succ_of_le h.2.2⟩

theorem Dev.updLp_sound (n : Nat) (f : Lp → Lp) (h : d.Sound p₀ n₀) :
  (Dev.updLp d n f).Sound p₀ n₀ := by
  unfold Dev.updLp
  repeat' (first
    | with_reducible assumption
    | with_reducible refine Dev.sound_mk ?_ rfl rfl rfl)

theorem Dev.updLane_sound (n : Nat) (f : LaneSt → LaneSt) (h : d.Sound p₀ n₀) :
  (Dev.updLane d n f).Sound p₀ n₀ := by
  unfold Dev.updLane
  repeat' (first
    | with_reducible assumption
    | with_reducible refine Dev.sound_mk ?_ rfl rfl rfl)

theorem Dev.updCore_sound (f : CoreSt → CoreSt) (h : d.Sound p₀ n₀) :
  (Dev.updCore d f).Sound p₀ n₀ := by
  unfold Dev.updCore
  repeat' (first
    | with_reducible assumption
    | with_reducible refine Dev.sound_mk ?_ rfl rfl rfl)

theorem Dev.updFwd_sound (f : FwdSt → FwdSt) (h : d.Sound p₀ n₀) :
  (Dev.updFwd d f).Sound p₀ n₀ := by
  unfold Dev.updFwd
  repeat' (first
    | with_reducible assumption
    | with_reducible refine Dev.sound_mk ?_ rfl rfl rfl)

theorem Dev.updTm_sound (f : TmSt → TmSt) (h : d.Sound p₀ n₀) :
  (Dev.updTm d f).Sound p₀ n₀ := by
  unfold Dev.updTm
  repeat' (first
    | with_reducible assumption
    | with_reducible refine Dev.sound_mk ?_ rfl rfl rfl)

theorem Dev.each_sound {α : Type} (l : List α) (f : Dev → α → Dev) (h : d.Sound p₀ n₀) (hf : ∀ e y0, Dev.Sound p₀ n₀ e → (f e y0).Sound p₀ n₀) :
  (Dev.each d l f).Sound p₀ n₀ := by
  unfold Dev.each
  induction l generalizing d with
  | nil => exact h
  | cons y r ih => exact ih (hf d y h)

theorem Dev.pmcAdd_sound (n : Nat) (k : Nat) (m : Nat) (h : d.Sound p₀ n₀) :
  (Dev.pmcAdd d n k m).Sound p₀ n₀ := by
  unfold Dev.pmcAdd
  repeat' (first
    | with_reducible assumption
    | with_reducible apply Dev.addWrap64_sound)

theorem Dev.pulse_sound (n : Nat) (e : Nat) (m : Nat) (sel : Option Nat) (cls : Option Nat) (job : Option Nat) (h : d.Sound p₀ n₀) :
  (Dev.pulse d n e m sel cls job).Sound p₀ n₀ := by
  unfold Dev.pulse
  repeat' (first
    | with_reducible assumption
    | with_reducible apply Dev.each_sound
    | with_reducible apply Dev.pmcAdd_sound
    | intro _
    | split
    | with_reducible refine Dev.sound_mk ?_ rfl rfl rfl)

end Sys2Proof.Machine
end

