-- ==== Sys2Proof/Laws/SoundFabric.lean ====
section
/-! SUPPORT. Every operation of Machine/Fabric.lean keeps the device sound (Safety.lean): one lemma per operation. -/
namespace Sys2Proof.Machine

variable {p₀ : List Out} {n₀ : Nat} {d : Dev}

theorem Dev.putFrm_sound (fid : Nat) (f : Frm) (h : d.Sound p₀ n₀) :
  (Dev.putFrm d fid f).Sound p₀ n₀ := by
  unfold Dev.putFrm
  repeat' (first
    | with_reducible assumption
    | with_reducible apply Dev.updCore_sound)

theorem Dev.delFrm_sound (fid : Nat) (h : d.Sound p₀ n₀) :
  (Dev.delFrm d fid).Sound p₀ n₀ := by
  unfold Dev.delFrm
  repeat' (first
    | with_reducible assumption
    | with_reducible apply Dev.updCore_sound)

theorem Dev.newFrm_sound (f : Frm) (h : d.Sound p₀ n₀) :
  (Dev.newFrm d f).2.Sound p₀ n₀ := by
  unfold Dev.newFrm
  repeat' (first
    | with_reducible assumption
    | with_reducible apply Dev.updCore_sound
    | intro _
    | with_reducible refine Dev.sound_ite_snd (fun _ => ?_) (fun _ => ?_)
    | split
    | with_reducible refine Dev.sound_mk ?_ rfl rfl rfl)

theorem Dev.updQueue_sound (die : Nat) (out : Nat) (cls : Nat) (f : Queue → Queue) (h : d.Sound p₀ n₀) :
  (Dev.updQueue d die out cls f).Sound p₀ n₀ := by
  unfold Dev.updQueue
  repeat' (first
    | with_reducible assumption
    | with_reducible apply Dev.updCore_sound)

theorem Dev.updTriple_sound (die : Nat) (lane : Nat) (grp : Nat) (cls : Nat) (f : Triple → Triple) (h : d.Sound p₀ n₀) :
  (Dev.updTriple d die lane grp cls f).Sound p₀ n₀ := by
  unfold Dev.updTriple
  repeat' (first
    | with_reducible assumption
    | with_reducible apply Dev.updCore_sound)

theorem Dev.updAcct_sound (die : Nat) (src : Nat) (ci : Nat) (f : Acct → Acct) (h : d.Sound p₀ n₀) :
  (Dev.updAcct d die src ci f).Sound p₀ n₀ := by
  unfold Dev.updAcct
  repeat' (first
    | with_reducible assumption
    | with_reducible apply Dev.updCore_sound)

theorem Dev.updEnd_sound (die : Nat) (dir : Nat) (f : MeshEnd → MeshEnd) (h : d.Sound p₀ n₀) :
  (Dev.updEnd d die dir f).Sound p₀ n₀ := by
  unfold Dev.updEnd
  repeat' (first
    | with_reducible assumption
    | with_reducible apply Dev.updCore_sound)

theorem Dev.returnCredit_sound (die : Nat) (src : Nat) (ci : Nat) (n : Nat) (h : d.Sound p₀ n₀) :
  (Dev.returnCredit d die src ci n).Sound p₀ n₀ := by
  unfold Dev.returnCredit
  repeat' (first
    | with_reducible assumption
    | with_reducible apply Dev.updLp_sound
    | with_reducible apply Dev.updEnd_sound
    | intro _
    | with_reducible refine Dev.sound_ite (fun _ => ?_) (fun _ => ?_)
    | split
    | with_reducible refine Dev.sound_mk ?_ rfl rfl rfl)

theorem Dev.freeCells_sound (die : Nat) (src : Nat) (ci : Nat) (k : Nat) (r : Nat) (c : Nat) (h : d.Sound p₀ n₀) :
  (Dev.freeCells d die src ci k r c).Sound p₀ n₀ := by
  unfold Dev.freeCells
  repeat' (first
    | with_reducible assumption
    | with_reducible apply Dev.updAcct_sound
    | with_reducible apply Dev.set_sound
    | with_reducible apply Dev.returnCredit_sound
    | intro _
    | with_reducible refine Dev.sound_mk ?_ rfl rfl rfl)

theorem Dev.cellLeave_sound (fid : Nat) (h : d.Sound p₀ n₀) :
  (Dev.cellLeave d fid).Sound p₀ n₀ := by
  unfold Dev.cellLeave
  repeat' (first
    | with_reducible assumption
    | with_reducible apply Dev.freeCells_sound
    | with_reducible apply Dev.updAcct_sound
    | with_reducible apply Dev.updQueue_sound
    | with_reducible apply Dev.settle_sound
    | with_reducible apply Dev.putFrm_sound
    | intro _
    | with_reducible refine Dev.sound_ite (fun _ => ?_) (fun _ => ?_)
    | split
    | with_reducible refine Dev.sound_mk ?_ rfl rfl rfl)

theorem Dev.removeFrm_sound (fid : Nat) (h : d.Sound p₀ n₀) :
  (Dev.removeFrm d fid).Sound p₀ n₀ := by
  unfold Dev.removeFrm
  repeat' (first
    | with_reducible assumption
    | with_reducible apply Dev.freeCells_sound
    | with_reducible apply Dev.updAcct_sound
    | with_reducible apply Dev.updQueue_sound
    | with_reducible apply Dev.settle_sound
    | with_reducible apply Dev.delFrm_sound
    | intro _
    | with_reducible refine Dev.sound_ite (fun _ => ?_) (fun _ => ?_)
    | split
    | with_reducible refine Dev.sound_mk ?_ rfl rfl rfl)

theorem Dev.cutFrm_sound (fid : Nat) (h : d.Sound p₀ n₀) :
  (Dev.cutFrm d fid).Sound p₀ n₀ := by
  unfold Dev.cutFrm
  repeat' (first
    | with_reducible assumption
    | with_reducible apply Dev.putFrm_sound
    | with_reducible apply Dev.removeFrm_sound
    | with_reducible refine Dev.sound_ite (fun _ => ?_) (fun _ => ?_)
    | split
    | with_reducible refine Dev.sound_mk ?_ rfl rfl rfl)

theorem Dev.uncharge_sound (f : Frm) (h : d.Sound p₀ n₀) :
  (Dev.uncharge d f).Sound p₀ n₀ := by
  unfold Dev.uncharge
  repeat' (first
    | with_reducible assumption
    | with_reducible apply Dev.freeCells_sound
    | with_reducible refine Dev.sound_mk ?_ rfl rfl rfl)

theorem Dev.bufNext_sound (die : Nat) (h : d.Sound p₀ n₀) :
  (Dev.bufNext d die).Sound p₀ n₀ := by
  unfold Dev.bufNext
  repeat' (first
    | with_reducible assumption
    | with_reducible apply Dev.uncharge_sound
    | with_reducible apply Dev.updCore_sound
    | intro _
    | with_reducible refine Dev.sound_ite (fun _ => ?_) (fun _ => ?_)
    | split
    | with_reducible refine Dev.sound_mk ?_ rfl rfl rfl)

theorem Dev.bufFill_sound (die : Nat) (h : d.Sound p₀ n₀) :
  (Dev.bufFill d die).Sound p₀ n₀ := by
  unfold Dev.bufFill
  repeat' (first
    | with_reducible assumption
    | with_reducible apply Dev.each_sound
    | with_reducible apply Dev.bufNext_sound
    | intro _
    | with_reducible refine Dev.sound_mk ?_ rfl rfl rfl)

theorem Dev.promote_sound (die : Nat) (src : Nat) (ci : Nat) (h : d.Sound p₀ n₀) :
  (Dev.promote d die src ci).Sound p₀ n₀ := by
  unfold Dev.promote
  repeat' (first
    | with_reducible assumption
    | with_reducible apply Dev.updAcct_sound
    | with_reducible apply Dev.putFrm_sound
    | with_reducible apply Dev.set_sound
    | with_reducible apply Dev.returnCredit_sound
    | intro _
    | with_reducible refine Dev.sound_ite (fun _ => ?_) (fun _ => ?_)
    | split
    | with_reducible refine Dev.sound_mk ?_ rfl rfl rfl)

theorem Dev.chargeReserve_sound (fid : Nat) (n : Nat) (h : d.Sound p₀ n₀) :
  (Dev.chargeReserve d fid n).Sound p₀ n₀ := by
  unfold Dev.chargeReserve
  repeat' (first
    | with_reducible assumption
    | with_reducible apply Dev.putFrm_sound
    | with_reducible apply Dev.updAcct_sound
    | intro _
    | with_reducible refine Dev.sound_ite (fun _ => ?_) (fun _ => ?_)
    | split
    | with_reducible refine Dev.sound_mk ?_ rfl rfl rfl)

theorem Dev.intoCrossbar_sound (fid : Nat) (f : Frm) (i : Nat) (n : Nat) (h : d.Sound p₀ n₀) :
  (Dev.intoCrossbar d fid f i n).Sound p₀ n₀ := by
  unfold Dev.intoCrossbar
  repeat' (first
    | with_reducible assumption
    | with_reducible apply Dev.updCore_sound
    | intro _
    | with_reducible refine Dev.sound_mk ?_ rfl rfl rfl)

theorem Dev.countDrop_sound (die : Nat) (out : Nat) (cls : Nat) (h : d.Sound p₀ n₀) :
  (Dev.countDrop d die out cls).Sound p₀ n₀ := by
  unfold Dev.countDrop
  repeat' (first
    | with_reducible assumption
    | with_reducible apply Dev.updQueue_sound)

theorem Dev.enterLossy_sound (f : Frm) (k : Nat) (h : d.Sound p₀ n₀) :
  (Dev.enterLossy d f k).2.Sound p₀ n₀ := by
  unfold Dev.enterLossy
  repeat' (first
    | with_reducible assumption
    | with_reducible apply Dev.count_sound
    | with_reducible apply Dev.pulse_sound
    | with_reducible apply Dev.countDrop_sound
    | with_reducible apply Dev.newFrm_sound
    | with_reducible apply Dev.updAcct_sound
    | with_reducible apply Dev.set_sound
    | with_reducible apply Dev.returnCredit_sound
    | with_reducible apply Dev.updQueue_sound
    | with_reducible apply Dev.intoCrossbar_sound
    | with_reducible apply Dev.updCore_sound
    | with_reducible apply Dev.add64_sound
    | intro _
    | with_reducible refine Dev.sound_ite_snd (fun _ => ?_) (fun _ => ?_)
    | split
    | with_reducible refine Dev.sound_mk ?_ rfl rfl rfl)

theorem Dev.enterLossless_sound (f : Frm) (n : Nat) (h : d.Sound p₀ n₀) :
  (Dev.enterLossless d f n).2.Sound p₀ n₀ := by
  unfold Dev.enterLossless
  repeat' (first
    | with_reducible assumption
    | with_reducible apply Dev.newFrm_sound
    | with_reducible apply Dev.chargeReserve_sound
    | with_reducible apply Dev.updQueue_sound
    | with_reducible apply Dev.intoCrossbar_sound
    | with_reducible apply Dev.putFrm_sound
    | intro _
    | with_reducible refine Dev.sound_ite_snd (fun _ => ?_) (fun _ => ?_)
    | split
    | with_reducible refine Dev.sound_mk ?_ rfl rfl rfl)

theorem Dev.toInbox_sound (die : Nat) (kind : Nat) (f : Frm) (h : d.Sound p₀ n₀) :
  (Dev.toInbox d die kind f).Sound p₀ n₀ := by
  unfold Dev.toInbox
  repeat' (first
    | with_reducible assumption
    | with_reducible apply Dev.updCore_sound)

theorem Dev.orphanPass_sound (link : Bool) (h : d.Sound p₀ n₀) :
  (Dev.orphanPass d link).Sound p₀ n₀ := by
  unfold Dev.orphanPass
  repeat' (first
    | with_reducible assumption
    | with_reducible apply Dev.each_sound
    | with_reducible apply Dev.add_sound
    | with_reducible apply Dev.count_sound
    | with_reducible apply Dev.cutFrm_sound
    | intro _
    | with_reducible refine Dev.sound_ite (fun _ => ?_) (fun _ => ?_)
    | split
    | with_reducible refine Dev.sound_mk ?_ rfl rfl rfl)

theorem Dev.orphans_sound (link : Bool) (h : d.Sound p₀ n₀) :
  (Dev.orphans d link).Sound p₀ n₀ := by
  unfold Dev.orphans
  repeat' (first
    | with_reducible assumption
    | with_reducible apply Dev.each_sound
    | with_reducible apply Dev.orphanPass_sound
    | intro _
    | with_reducible refine Dev.sound_mk ?_ rfl rfl rfl)

end Sys2Proof.Machine
end

