-- ==== Sys2Proof/Laws/SoundForward.lean ====
section
/-! SUPPORT. Every operation of Machine/Forward.lean keeps the device sound (Safety.lean): one lemma per operation. -/
namespace Sys2Proof.Machine

variable {p₀ : List Out} {n₀ : Nat} {d : Dev}

theorem Dev.memberChoice_sound (die : Nat) (bank : Nat) (e : Nat) (cls : Nat) (spray : Bool) (b : List Byte) (h : d.Sound p₀ n₀) :
  (Dev.memberChoice d die bank e cls spray b).2.Sound p₀ n₀ := by
  unfold Dev.memberChoice
  repeat' (first
    | with_reducible assumption
    | with_reducible apply Dev.updFwd_sound
    | with_reducible refine Dev.sound_ite_snd (fun _ => ?_) (fun _ => ?_)
    | split)

theorem Dev.learnChange_sound (owner : Nat) (i : Nat) (new : Option LearnEnt) (h : d.Sound p₀ n₀) :
  (Dev.learnChange d owner i new).Sound p₀ n₀ := by
  unfold Dev.learnChange
  repeat' (first
    | with_reducible assumption
    | with_reducible apply Dev.updFwd_sound)

theorem Dev.learnSync_sound (h : d.Sound p₀ n₀) :
  (Dev.learnSync d).Sound p₀ n₀ := by
  unfold Dev.learnSync
  repeat' (first
    | with_reducible assumption
    | with_reducible apply Dev.updFwd_sound)

theorem Dev.learnAsk_sound (r : LearnReq) (h : d.Sound p₀ n₀) :
  (Dev.learnAsk d r).Sound p₀ n₀ := by
  unfold Dev.learnAsk
  repeat' (first
    | with_reducible assumption
    | with_reducible apply Dev.count_sound
    | with_reducible apply Dev.updFwd_sound
    | with_reducible refine Dev.sound_ite (fun _ => ?_) (fun _ => ?_))

theorem Dev.learnFlush_sound (lp : Nat) (h : d.Sound p₀ n₀) :
  (Dev.learnFlush d lp).Sound p₀ n₀ := by
  unfold Dev.learnFlush
  repeat' (first
    | with_reducible assumption
    | with_reducible apply Dev.each_sound
    | with_reducible apply Dev.count_sound
    | with_reducible apply Dev.learnChange_sound
    | intro _)

theorem Dev.genBump_sound (h : d.Sound p₀ n₀) :
  (Dev.genBump d).Sound p₀ n₀ := by
  unfold Dev.genBump
  repeat' (first
    | with_reducible assumption
    | with_reducible apply Dev.set_sound
    | with_reducible refine Dev.sound_mk ?_ rfl rfl rfl)

theorem Dev.routeSwap_sound (h : d.Sound p₀ n₀) :
  (Dev.routeSwap d).Sound p₀ n₀ := by
  unfold Dev.routeSwap
  repeat' (first
    | with_reducible assumption
    | with_reducible apply Dev.raise_sound
    | with_reducible apply Dev.count_sound
    | with_reducible apply Dev.set_sound
    | with_reducible apply Dev.setB_sound
    | with_reducible refine Dev.sound_ite (fun _ => ?_) (fun _ => ?_))

end Sys2Proof.Machine
end

