-- ==== Sys2Proof/Laws/SoundAccess.lean ====
section
/-! SUPPORT. Every operation of Machine/Access.lean keeps the device sound (Safety.lean): one lemma per operation. -/
namespace Sys2Proof.Machine

variable {p₀ : List Out} {n₀ : Nat} {d : Dev}

theorem Dev.writeRw_sound (r : Reg) (i : Nat) (w : Nat) (v : Word) (h : d.Sound p₀ n₀) :
  (Dev.writeRw d r i w v).Sound p₀ n₀ := by
  unfold Dev.writeRw
  repeat' (first
    | with_reducible assumption
    | with_reducible apply Dev.wr_sound)

theorem Dev.accErr_sound (a : Access) (cause : Nat) (addr : Nat) (write : Bool) (h : d.Sound p₀ n₀) :
  (Dev.accErr d a cause addr write).Sound p₀ n₀ := by
  unfold Dev.accErr
  repeat' (first
    | with_reducible assumption
    | with_reducible apply Dev.wr_sound
    | with_reducible apply Dev.count_sound)

theorem Dev.lockedWrite_sound (a : Access) (h : d.Sound p₀ n₀) :
  (Dev.lockedWrite d a).Sound p₀ n₀ := by
  unfold Dev.lockedWrite
  repeat' (first
    | with_reducible assumption
    | with_reducible apply Dev.raise_sound)

theorem Dev.onWrite_sound (a : Access) (r : Reg) (i : Nat) (w : Nat) (f : Dev → Dev) (h : d.Sound p₀ n₀) (hf : ∀ e, Dev.Sound p₀ n₀ e → (f e).Sound p₀ n₀) :
  (Dev.onWrite d a r i w f).Sound p₀ n₀ := by
  unfold Dev.onWrite
  repeat' (first
    | with_reducible assumption
    | with_reducible apply hf
    | with_reducible apply Dev.lockedWrite_sound
    | with_reducible apply Dev.accErr_sound
    | split
    | with_reducible refine Dev.sound_mk ?_ rfl rfl rfl)

end Sys2Proof.Machine
end

