-- ==== Sys2Proof/Laws/SoundTm.lean ====
section
/-! SUPPORT. Every operation of Machine/Tm.lean keeps the device sound (Safety.lean): one lemma per operation. -/
namespace Sys2Proof.Machine

variable {p₀ : List Out} {n₀ : Nat} {d : Dev}

theorem Dev.meter_sound (t : Nat) (n : Nat) (size : Nat) (preYellow : Bool) (h : d.Sound p₀ n₀) :
  (Dev.meter d t n size preYellow).2.Sound p₀ n₀ := by
  unfold Dev.meter
  repeat' (first
    | with_reducible assumption
    | with_reducible apply Dev.updTm_sound
    | with_reducible apply Dev.count_sound
    | split)

theorem Dev.police_sound (lp : Nat) (cls : Nat) (b : List Byte) (h : d.Sound p₀ n₀) :
  (Dev.police d lp cls b).2.Sound p₀ n₀ := by
  unfold Dev.police
  repeat' (first
    | with_reducible assumption
    | with_reducible apply Dev.meter_sound
    | with_reducible apply Dev.count_sound
    | with_reducible refine Dev.sound_ite_snd (fun _ => ?_) (fun _ => ?_)
    | with_reducible refine Dev.sound_ite (fun _ => ?_) (fun _ => ?_)
    | split)

theorem Dev.policerWord0_sound (desk : Nat) (t : Nat) (n : Nat) (v : Word) (h : d.Sound p₀ n₀) :
  (Dev.policerWord0 d desk t n v).Sound p₀ n₀ := by
  unfold Dev.policerWord0
  repeat' (first
    | with_reducible assumption
    | with_reducible apply Dev.updTm_sound
    | with_reducible apply Dev.wr_sound
    | with_reducible apply Dev.raise_sound
    | with_reducible refine Dev.sound_ite (fun _ => ?_) (fun _ => ?_))

theorem Dev.wredDrop_sound (t : Nat) (cls : Nat) (yellow : Bool) (q : Queue) (h : d.Sound p₀ n₀) :
  (Dev.wredDrop d t cls yellow q).2.Sound p₀ n₀ := by
  unfold Dev.wredDrop
  repeat' (first
    | with_reducible assumption
    | with_reducible apply Dev.updTm_sound)

theorem Dev.wredStep_sound (t : Nat) (f : Frm) (h : d.Sound p₀ n₀) :
  (Dev.wredStep d t f).2.Sound p₀ n₀ := by
  unfold Dev.wredStep
  repeat' (first
    | with_reducible assumption
    | with_reducible apply Dev.wredDrop_sound
    | with_reducible apply Dev.countDrop_sound
    | with_reducible apply Dev.count_sound
    | with_reducible refine Dev.sound_ite_snd (fun _ => ?_) (fun _ => ?_)
    | with_reducible refine Dev.sound_ite (fun _ => ?_) (fun _ => ?_))

theorem Dev.shpStat_sound (t : Nat) (q : Nat) (k : Buckets) (h : d.Sound p₀ n₀) :
  (Dev.shpStat d t q k).Sound p₀ n₀ := by
  unfold Dev.shpStat
  repeat' (first
    | with_reducible assumption
    | with_reducible apply Dev.wr_sound)

theorem Dev.shaperDebit_sound (lp : Nat) (cls : Nat) (fill : Nat) (starts : Nat) (h : d.Sound p₀ n₀) :
  (Dev.shaperDebit d lp cls fill starts).Sound p₀ n₀ := by
  unfold Dev.shaperDebit
  repeat' (first
    | with_reducible assumption
    | with_reducible apply Dev.updTm_sound
    | with_reducible apply Dev.shpStat_sound
    | intro _
    | with_reducible refine Dev.sound_ite (fun _ => ?_) (fun _ => ?_))

theorem Dev.turnsLost_sound (lp : Nat) (rounds : List (Nat × List Nat)) (h : d.Sound p₀ n₀) :
  (Dev.turnsLost d lp rounds).Sound p₀ n₀ := by
  unfold Dev.turnsLost
  repeat' (first
    | with_reducible assumption
    | with_reducible apply Dev.updTm_sound)

theorem Dev.schedRound_sound (lp : Nat) (round : Nat) (cs : List Nat) (h : d.Sound p₀ n₀) :
  ∀ r ∈ Dev.schedRound d lp round cs, r.2.Sound p₀ n₀ := by
  intro r hr
  unfold Dev.schedRound at hr
  split at hr
  · cases hr
  · simp only [Option.mem_def, Option.map_eq_some_iff] at hr
    obtain ⟨a, -, rfl⟩ := hr
    exact Dev.updTm_sound _ h

theorem Dev.schedPick_sound (lp : Nat) (elig : List Nat) (h : d.Sound p₀ n₀) :
  (Dev.schedPick d lp elig).2.Sound p₀ n₀ := by
  unfold Dev.schedPick
  have ht := fun c => Dev.turnsLost_sound lp c h
  dsimp only
  split
  · exact Dev.schedRound_sound _ _ _ (ht _) _ ‹_›
  · split
    · exact Dev.schedRound_sound _ _ _ (ht _) _ ‹_›
    · exact ht _

theorem Dev.refillPol_sound (t : Nat) (n : Nat) (h : d.Sound p₀ n₀) :
  (Dev.refillPol d t n).Sound p₀ n₀ := by
  unfold Dev.refillPol
  repeat' (first
    | with_reducible assumption
    | with_reducible apply Dev.updTm_sound
    | with_reducible refine Dev.sound_ite (fun _ => ?_) (fun _ => ?_))

theorem Dev.refillShp_sound (t : Nat) (q : Nat) (h : d.Sound p₀ n₀) :
  (Dev.refillShp d t q).Sound p₀ n₀ := by
  unfold Dev.refillShp
  repeat' (first
    | with_reducible assumption
    | with_reducible apply Dev.updTm_sound
    | with_reducible apply Dev.shpStat_sound
    | with_reducible refine Dev.sound_ite (fun _ => ?_) (fun _ => ?_))

theorem Dev.refillAvg_sound (t : Nat) (out : Nat) (cls : Nat) (h : d.Sound p₀ n₀) :
  (Dev.refillAvg d t out cls).Sound p₀ n₀ := by
  unfold Dev.refillAvg
  repeat' (first
    | with_reducible assumption
    | with_reducible apply Dev.updQueue_sound)

theorem Dev.refill_sound (t : Nat) (h : d.Sound p₀ n₀) :
  (Dev.refill d t).Sound p₀ n₀ := by
  unfold Dev.refill
  repeat' (first
    | with_reducible assumption
    | with_reducible apply Dev.each_sound
    | with_reducible apply Dev.refillPol_sound
    | with_reducible apply Dev.refillShp_sound
    | with_reducible apply Dev.updTm_sound
    | with_reducible apply Dev.refillAvg_sound
    | with_reducible refine Dev.sound_ite (fun _ => ?_) (fun _ => ?_)
    | intro _)

theorem Dev.publishLevels_sound (t : Nat) (h : d.Sound p₀ n₀) :
  (Dev.publishLevels d t).Sound p₀ n₀ := by
  unfold Dev.publishLevels
  repeat' (first
    | with_reducible assumption
    | with_reducible apply Dev.updFwd_sound
    | with_reducible apply Dev.each_sound
    | intro _)

theorem Dev.putSample_sound (t : Nat) (ws : List Nat) (h : d.Sound p₀ n₀) :
  (Dev.putSample d t ws).Sound p₀ n₀ := by
  unfold Dev.putSample
  repeat' (first
    | with_reducible assumption
    | with_reducible apply Dev.set_sound
    | with_reducible apply Dev.each_sound
    | with_reducible apply Dev.wr_sound
    | with_reducible apply Dev.count_sound
    | with_reducible refine Dev.sound_ite (fun _ => ?_) (fun _ => ?_)
    | intro _)

theorem Dev.sampleOne_sound (t : Nat) (n : Nat) (h : d.Sound p₀ n₀) :
  (Dev.sampleOne d t n).Sound p₀ n₀ := by
  unfold Dev.sampleOne
  repeat' (first
    | with_reducible assumption
    | with_reducible apply Dev.updTm_sound
    | with_reducible apply Dev.putSample_sound
    | with_reducible apply Dev.updQueue_sound
    | with_reducible refine Dev.sound_ite (fun _ => ?_) (fun _ => ?_))

theorem Dev.sample_sound (t : Nat) (h : d.Sound p₀ n₀) :
  (Dev.sample d t).Sound p₀ n₀ := by
  unfold Dev.sample
  repeat' (first
    | with_reducible assumption
    | with_reducible apply Dev.each_sound
    | with_reducible apply Dev.sampleOne_sound
    | with_reducible refine Dev.sound_ite (fun _ => ?_) (fun _ => ?_)
    | intro _)

end Sys2Proof.Machine
end

