-- ==== Sys2Proof/Laws/SoundIngress.lean ====
section
/-! SUPPORT. Every operation of Machine/Ingress.lean keeps the device sound (Safety.lean): one lemma per operation. -/
namespace Sys2Proof.Machine

variable {p₀ : List Out} {n₀ : Nat} {d : Dev}

theorem Dev.enterDieWith_sound (f : Frm) (k : Nat) (h : d.Sound p₀ n₀) :
  (Dev.enterDieWith d f k).2.Sound p₀ n₀ := by
  unfold Dev.enterDieWith
  repeat' (first
    | with_reducible assumption
    | with_reducible apply Dev.enterLossless_sound
    | with_reducible apply Dev.wredStep_sound
    | with_reducible apply Dev.enterLossy_sound
    | with_reducible refine Dev.sound_ite_snd (fun _ => ?_) (fun _ => ?_))

theorem Dev.enterDie_sound (f : Frm) (h : d.Sound p₀ n₀) :
  (Dev.enterDie d f).Sound p₀ n₀ := by
  unfold Dev.enterDie
  repeat' (first
    | with_reducible assumption
    | with_reducible apply Dev.enterDieWith_sound)

theorem Dev.sendFrom_sound (f : Frm) (h : d.Sound p₀ n₀) :
  (Dev.sendFrom d f).Sound p₀ n₀ := by
  unfold Dev.sendFrom
  repeat' (first
    | with_reducible assumption
    | with_reducible apply Dev.raise_sound
    | with_reducible apply Dev.add_sound
    | with_reducible apply Dev.enterDie_sound
    | with_reducible refine Dev.sound_ite (fun _ => ?_) (fun _ => ?_))

theorem Dev.sendMc_sound (f : Frm) (h : d.Sound p₀ n₀) :
  (Dev.sendMc d f).Sound p₀ n₀ := by
  unfold Dev.sendMc
  repeat' (first
    | with_reducible assumption
    | with_reducible apply Dev.count_sound
    | with_reducible apply Dev.each_sound
    | with_reducible apply Dev.add_sound
    | with_reducible apply Dev.raise_sound
    | with_reducible apply Dev.enterDie_sound
    | intro _
    | with_reducible refine Dev.sound_ite (fun _ => ?_) (fun _ => ?_))

theorem Dev.sendLp_sound (f : Frm) (lp : Nat) (h : d.Sound p₀ n₀) :
  (Dev.sendLp d f lp).Sound p₀ n₀ := by
  unfold Dev.sendLp
  repeat' (first
    | with_reducible assumption
    | with_reducible apply Dev.sendFrom_sound)

theorem Dev.sendMember_sound (f : Frm) (m : Member) (h : d.Sound p₀ n₀) :
  (Dev.sendMember d f m).Sound p₀ n₀ := by
  unfold Dev.sendMember
  repeat' (first
    | with_reducible assumption
    | with_reducible apply Dev.sendLp_sound
    | with_reducible apply Dev.count_sound
    | split)

theorem Dev.sendChecked_sound (f : Frm) (m : Member) (h : d.Sound p₀ n₀) :
  (Dev.sendChecked d f m).Sound p₀ n₀ := by
  unfold Dev.sendChecked
  repeat' (first
    | with_reducible assumption
    | with_reducible apply Dev.count_sound
    | with_reducible apply Dev.sendLp_sound
    | with_reducible apply Dev.sendMember_sound
    | split)

theorem Dev.forwardFabric_sound (f : Frm) (h : d.Sound p₀ n₀) :
  (Dev.forwardFabric d f).Sound p₀ n₀ := by
  unfold Dev.forwardFabric
  repeat' (first
    | with_reducible assumption
    | with_reducible apply Dev.sendMc_sound
    | with_reducible apply Dev.memberChoice_sound
    | with_reducible apply Dev.sendChecked_sound
    | with_reducible refine Dev.sound_ite (fun _ => ?_) (fun _ => ?_))

theorem Dev.putBytes_sound (r : Reg) (i : Nat) (w : Nat) (bs : List Byte) (h : d.Sound p₀ n₀) :
  (Dev.putBytes d r i w bs).Sound p₀ n₀ := by
  unfold Dev.putBytes
  repeat' (first
    | with_reducible assumption
    | with_reducible apply Dev.each_sound
    | with_reducible apply Dev.wr_sound
    | intro _
    | split)

theorem Dev.ptpRx_sound (desk : Nat) (stamp : Nat) (port : Nat) (eth : List Byte) (h : d.Sound p₀ n₀) :
  (Dev.ptpRx d desk stamp port eth).Sound p₀ n₀ := by
  unfold Dev.ptpRx
  repeat' (first
    | with_reducible assumption
    | with_reducible apply Dev.count_sound
    | with_reducible apply Dev.putBytes_sound
    | with_reducible apply Dev.irq_sound
    | with_reducible apply Dev.set_sound
    | with_reducible refine Dev.sound_ite (fun _ => ?_) (fun _ => ?_))

theorem Dev.coatPut_sound (rack : Nat) (e : CoatEnt) (h : d.Sound p₀ n₀) :
  (Dev.coatPut d rack e).Sound p₀ n₀ := by
  unfold Dev.coatPut
  repeat' (first
    | with_reducible assumption
    | with_reducible apply Dev.count_sound
    | with_reducible apply Dev.set_sound
    | with_reducible apply Dev.irqBoth_sound
    | with_reducible apply Dev.irq_sound
    | split
    | with_reducible refine Dev.sound_mk ?_ rfl rfl rfl)

theorem Dev.floodFrame_sound (f : Frm) (vlan : Nat) (h : d.Sound p₀ n₀) :
  (Dev.floodFrame d f vlan).Sound p₀ n₀ := by
  unfold Dev.floodFrame
  repeat' (first
    | with_reducible assumption
    | with_reducible apply Dev.sendMc_sound)

theorem Dev.learnSource_sound (t : Nat) (lp : Nat) (b : List Byte) (h : d.Sound p₀ n₀) :
  (Dev.learnSource d t lp b).2.Sound p₀ n₀ := by
  unfold Dev.learnSource
  repeat' (first
    | with_reducible assumption
    | with_reducible apply Dev.count_sound
    | with_reducible apply Dev.learnAsk_sound
    | with_reducible refine Dev.sound_ite_snd (fun _ => ?_) (fun _ => ?_)
    | split)

theorem Dev.ethForward_sound (f : Frm) (lp : Nat) (vlan : Nat) (h : d.Sound p₀ n₀) :
  (Dev.ethForward d f lp vlan).Sound p₀ n₀ := by
  unfold Dev.ethForward
  repeat' (first
    | with_reducible assumption
    | with_reducible apply Dev.count_sound
    | with_reducible apply Dev.floodFrame_sound
    | with_reducible apply Dev.memberChoice_sound
    | with_reducible apply Dev.sendChecked_sound
    | with_reducible refine Dev.sound_ite (fun _ => ?_) (fun _ => ?_)
    | split)

theorem Dev.forwardEth_sound (f : Frm) (lp : Nat) (h : d.Sound p₀ n₀) :
  (Dev.forwardEth d f lp).Sound p₀ n₀ := by
  unfold Dev.forwardEth
  repeat' (first
    | with_reducible assumption
    | with_reducible apply Dev.count_sound
    | with_reducible apply Dev.learnSource_sound
    | with_reducible apply Dev.floodFrame_sound
    | with_reducible apply Dev.ethForward_sound
    | with_reducible refine Dev.sound_ite (fun _ => ?_) (fun _ => ?_)
    | with_reducible refine Dev.sound_snd (by assumption) ?_
    | split)

theorem Dev.consume_sound (f : Frm) (h : d.Sound p₀ n₀) :
  (Dev.consume d f).Sound p₀ n₀ := by
  unfold Dev.consume
  repeat' (first
    | with_reducible assumption
    | with_reducible apply Dev.count_sound
    | with_reducible apply Dev.sendFrom_sound
    | with_reducible apply Dev.toInbox_sound
    | with_reducible refine Dev.sound_ite (fun _ => ?_) (fun _ => ?_)
    | split
    | with_reducible refine Dev.sound_mk ?_ rfl rfl rfl)

theorem Dev.originate_sound (die : Nat) (cls : Nat) (bytes : List Byte) (h : d.Sound p₀ n₀) :
  (Dev.originate d die cls bytes).Sound p₀ n₀ := by
  unfold Dev.originate
  repeat' (first
    | with_reducible assumption
    | with_reducible apply Dev.count_sound
    | with_reducible apply Dev.consume_sound
    | with_reducible apply Dev.forwardFabric_sound
    | with_reducible refine Dev.sound_ite (fun _ => ?_) (fun _ => ?_))

theorem Dev.takeRx_sound (lp : Nat) (cls : Nat) (b : List Byte) (h : d.Sound p₀ n₀) :
  (Dev.takeRx d lp cls b).2.Sound p₀ n₀ := by
  unfold Dev.takeRx
  repeat' (first
    | with_reducible assumption
    | with_reducible apply Dev.updLp_sound
    | intro _
    | with_reducible refine Dev.sound_ite_snd (fun _ => ?_) (fun _ => ?_)
    | split)

theorem Dev.ingressFrame_sound (lp : Nat) (cls : Nat) (x : RxTake) (h : d.Sound p₀ n₀) :
  (Dev.ingressFrame d lp cls x).Sound p₀ n₀ := by
  unfold Dev.ingressFrame
  repeat' (first
    | with_reducible assumption
    | with_reducible apply Dev.count_sound
    | with_reducible apply Dev.updLp_sound
    | with_reducible apply Dev.pulse_sound
    | with_reducible apply Dev.ptpRx_sound
    | with_reducible apply Dev.police_sound
    | with_reducible apply Dev.forwardFabric_sound
    | with_reducible apply Dev.forwardEth_sound
    | with_reducible apply Dev.consume_sound
    | intro _
    | with_reducible refine Dev.sound_ite (fun _ => ?_) (fun _ => ?_))

theorem Dev.refundRx_sound (lp : Nat) (cls : Nat) (b : List Byte) (l : List Nat) (k : Nat) (h : d.Sound p₀ n₀) :
  (Dev.refundRx d lp cls b l k).Sound p₀ n₀ := by
  unfold Dev.refundRx
  repeat' (first
    | with_reducible assumption
    | with_reducible apply Dev.returnCredit_sound
    | with_reducible refine Dev.sound_ite (fun _ => ?_) (fun _ => ?_))

theorem Dev.ingress_sound (lp : Nat) (cls : Nat) (b : List Byte) (h : d.Sound p₀ n₀) :
  (Dev.ingress d lp cls b).Sound p₀ n₀ := by
  have ht := Dev.takeRx_sound lp cls b h
  unfold Dev.ingress
  split
  · exact Dev.sound_snd ‹_› ht
  · have hd := Dev.sound_snd ‹_› ht
    dsimp only
    repeat' (first
      | with_reducible assumption
      | with_reducible apply Dev.updLp_sound
      | with_reducible apply Dev.refundRx_sound
      | with_reducible apply Dev.ingressFrame_sound
      | with_reducible refine Dev.sound_ite (fun _ => ?_) (fun _ => ?_))

end Sys2Proof.Machine
end

