-- ==== Sys2Proof/Laws/SoundBudget.lean ====
section
/-! SUPPORT. Every operation of Machine/Budget.lean keeps the device sound (Safety.lean): one lemma per operation. -/
namespace Sys2Proof.Machine

variable {p₀ : List Out} {n₀ : Nat} {d : Dev}

theorem Dev.expel_sound (n : Nat) (scope : Nat) (h : d.Sound p₀ n₀) :
  (Dev.expel d n scope).Sound p₀ n₀ := by
  unfold Dev.expel
  repeat' (first
    | with_reducible assumption
    | with_reducible refine Dev.sound_mk ?_ rfl rfl rfl)

theorem Dev.backIn_sound (inst : Nat) (h : d.Sound p₀ n₀) :
  (Dev.backIn d inst).Sound p₀ n₀ := by
  unfold Dev.backIn
  repeat' (first
    | with_reducible assumption
    | with_reducible refine Dev.sound_mk ?_ rfl rfl rfl)

theorem Dev.heldBack_sound (inst : Nat) (h : d.Sound p₀ n₀) :
  (Dev.heldBack d inst).Sound p₀ n₀ := by
  unfold Dev.heldBack
  repeat' (first
    | with_reducible assumption
    | with_reducible apply Dev.backIn_sound
    | split)

theorem Dev.budgetExhausted_sound (n : Nat) (inst : Nat) (h : d.Sound p₀ n₀) :
  (Dev.budgetExhausted d n inst).Sound p₀ n₀ := by
  unfold Dev.budgetExhausted
  repeat' (first
    | with_reducible assumption
    | with_reducible apply Dev.raise_sound)

theorem Dev.tryExpel_sound (n : Nat) (scope : Nat) (inst : Nat) (h : d.Sound p₀ n₀) :
  (Dev.tryExpel d n scope inst).2.Sound p₀ n₀ := by
  unfold Dev.tryExpel
  repeat' (first
    | with_reducible assumption
    | with_reducible apply Dev.budgetExhausted_sound
    | with_reducible apply Dev.expel_sound
    | with_reducible refine Dev.sound_ite_snd (fun _ => ?_) (fun _ => ?_))

theorem Dev.forceExpel_sound (n : Nat) (scope : Nat) (inst : Nat) (h : d.Sound p₀ n₀) :
  (Dev.forceExpel d n scope inst).Sound p₀ n₀ := by
  unfold Dev.forceExpel
  repeat' (first
    | with_reducible assumption
    | with_reducible apply Dev.expel_sound
    | with_reducible apply Dev.budgetExhausted_sound
    | with_reducible refine Dev.sound_ite (fun _ => ?_) (fun _ => ?_))

end Sys2Proof.Machine
end

