-- ==== Sys2Proof/Laws/SoundCrossbar.lean ====
section
/-! SUPPORT. Every operation of Machine/Crossbar.lean keeps the device sound (Safety.lean): one lemma per operation. -/
namespace Sys2Proof.Machine

variable {p₀ : List Out} {n₀ : Nat} {d : Dev}

theorem Dev.xbarRun_sound (n : Nat) (h : d.Sound p₀ n₀) :
  (Dev.xbarRun d n).Sound p₀ n₀ := by
  unfold Dev.xbarRun
  repeat' (first
    | with_reducible assumption
    | with_reducible apply Dev.updCore_sound
    | with_reducible refine Dev.sound_mk ?_ rfl rfl rfl)

theorem Dev.xbarTo_sound (die : Nat) (lane : Nat) (grp : Nat) (cls : Nat) (h : d.Sound p₀ n₀) :
  (Dev.xbarTo d die lane grp cls).Sound p₀ n₀ := by
  unfold Dev.xbarTo
  repeat' (first
    | with_reducible assumption
    | with_reducible apply Dev.updCore_sound
    | intro _
    | with_reducible refine Dev.sound_mk ?_ rfl rfl rfl)

end Sys2Proof.Machine
end

