-- ==== Sys2Proof/Laws/SoundXbar.lean ====
section
/-! SUPPORT. Every operation of Machine/Xbar.lean keeps the device sound (Safety.lean): one lemma per operation. -/
namespace Sys2Proof.Machine

variable {p₀ : List Out} {n₀ : Nat} {d : Dev}

theorem Dev.mcReplicate_sound (f : Frm) (h : d.Sound p₀ n₀) :
  (Dev.mcReplicate d f).Sound p₀ n₀ := by
  unfold Dev.mcReplicate
  repeat' (first
    | with_reducible assumption
    | with_reducible apply Dev.add_sound
    | with_reducible apply Dev.count_sound
    | with_reducible apply Dev.each_sound
    | with_reducible apply Dev.enterDie_sound
    | intro _
    | with_reducible refine Dev.sound_ite (fun _ => ?_) (fun _ => ?_)
    | split
    | with_reducible refine Dev.sound_mk ?_ rfl rfl rfl)

theorem Dev.deliverTile_sound (fid : Nat) (f : Frm) (h : d.Sound p₀ n₀) :
  (Dev.deliverTile d fid f).Sound p₀ n₀ := by
  unfold Dev.deliverTile
  repeat' (first
    | with_reducible assumption
    | with_reducible apply Dev.removeFrm_sound
    | with_reducible apply Dev.count_sound
    | with_reducible apply Dev.mcReplicate_sound
    | with_reducible apply Dev.toInbox_sound
    | with_reducible apply Dev.updCore_sound
    | intro _
    | with_reducible refine Dev.sound_ite (fun _ => ?_) (fun _ => ?_)
    | split
    | with_reducible refine Dev.sound_mk ?_ rfl rfl rfl)

theorem Dev.land_sound (fid : Nat) (h : d.Sound p₀ n₀) :
  (Dev.land d fid).Sound p₀ n₀ := by
  unfold Dev.land
  repeat' (first
    | with_reducible assumption
    | with_reducible apply Dev.putFrm_sound
    | with_reducible apply Dev.removeFrm_sound
    | with_reducible apply Dev.count_sound
    | with_reducible apply Dev.updQueue_sound
    | with_reducible apply Dev.deliverTile_sound
    | intro _
    | with_reducible refine Dev.sound_ite (fun _ => ?_) (fun _ => ?_)
    | split
    | with_reducible refine Dev.sound_mk ?_ rfl rfl rfl)

theorem Dev.reseqRelease_sound (die : Nat) (lane : Nat) (grp : Nat) (cls : Nat) (x1 : Nat) (h : d.Sound p₀ n₀) :
  (Dev.reseqRelease d die lane grp cls x1).Sound p₀ n₀ := by
  induction x1 generalizing d with
  | zero => exact h
  | succ k ih =>
    have hx := Dev.xbarTo_sound die lane grp cls h
    simp only [Dev.reseqRelease]
    split
    · exact ih (Dev.land_sound _ (Dev.updTriple_sound _ _ _ _ _ hx))
    · exact hx

theorem Dev.poisonAt_sound (fid : Nat) (idx : Nat) (h : d.Sound p₀ n₀) :
  (Dev.poisonAt d fid idx).Sound p₀ n₀ := by
  unfold Dev.poisonAt
  repeat' (first
    | with_reducible assumption
    | with_reducible apply Dev.putFrm_sound
    | with_reducible apply Dev.count_sound
    | with_reducible apply Dev.removeFrm_sound
    | with_reducible refine Dev.sound_ite (fun _ => ?_) (fun _ => ?_)
    | split
    | with_reducible refine Dev.sound_mk ?_ rfl rfl rfl)

theorem Dev.poison_sound (fid : Nat) (idx : Nat) (h : d.Sound p₀ n₀) :
  (Dev.poison d fid idx).Sound p₀ n₀ := by
  unfold Dev.poison
  repeat' (first
    | with_reducible assumption
    | with_reducible apply Dev.raise_sound
    | with_reducible apply Dev.poisonAt_sound
    | with_reducible refine Dev.sound_ite (fun _ => ?_) (fun _ => ?_)
    | split
    | with_reducible refine Dev.sound_mk ?_ rfl rfl rfl)

theorem Dev.markLost_sound (fid : Nat) (idx : Nat) (h : d.Sound p₀ n₀) :
  (Dev.markLost d fid idx).Sound p₀ n₀ := by
  unfold Dev.markLost
  repeat' (first
    | with_reducible assumption
    | with_reducible apply Dev.putFrm_sound
    | with_reducible apply Dev.poison_sound
    | with_reducible apply Dev.removeFrm_sound
    | with_reducible refine Dev.sound_ite (fun _ => ?_) (fun _ => ?_)
    | split
    | with_reducible refine Dev.sound_mk ?_ rfl rfl rfl)

theorem Dev.loseAwaited_sound (die : Nat) (lane : Nat) (grp : Nat) (cls : Nat) (h : d.Sound p₀ n₀) :
  (Dev.loseAwaited d die lane grp cls).Sound p₀ n₀ := by
  unfold Dev.loseAwaited
  repeat' (first
    | with_reducible assumption
    | with_reducible apply Dev.updCore_sound
    | with_reducible apply Dev.updTriple_sound
    | intro _
    | with_reducible refine Dev.sound_mk ?_ rfl rfl rfl)

theorem Dev.reseqTimeout_sound (die : Nat) (lane : Nat) (grp : Nat) (cls : Nat) (h : d.Sound p₀ n₀) :
  (Dev.reseqTimeout d die lane grp cls).Sound p₀ n₀ := by
  have hx := fun n => Dev.xbarRun_sound n h
  have hl := fun n => Dev.loseAwaited_sound die lane grp cls (hx n)
  unfold Dev.reseqTimeout
  dsimp only
  refine Dev.sound_ite (fun _ => ?_) (fun _ => hx _)
  refine Dev.reseqRelease_sound _ _ _ _ _ (Dev.raise_sound _ _ _ _ (Dev.count_sound _ _ ?_))
  split
  · exact Dev.markLost_sound _ _ (hl _)
  · exact hl _

theorem Dev.spillRead_sound (lp : Nat) (cls : Nat) (ue : Bool) (h : d.Sound p₀ n₀) :
  (Dev.spillRead d lp cls ue).Sound p₀ n₀ := by
  unfold Dev.spillRead
  repeat' (first
    | with_reducible assumption
    | with_reducible apply Dev.updQueue_sound
    | with_reducible apply Dev.settle_sound
    | with_reducible apply Dev.removeFrm_sound
    | with_reducible apply Dev.count_sound
    | with_reducible apply Dev.raise_sound
    | with_reducible apply Dev.putFrm_sound
    | intro _
    | with_reducible refine Dev.sound_ite (fun _ => ?_) (fun _ => ?_)
    | split
    | with_reducible refine Dev.sound_mk ?_ rfl rfl rfl)

theorem Dev.meshTake_sound (die : Nat) (dir : Nat) (cls : Nat) (fid : Nat) (f : Frm) (h : d.Sound p₀ n₀) :
  (Dev.meshTake d die dir cls fid f).2.Sound p₀ n₀ := by
  unfold Dev.meshTake
  repeat' (first
    | with_reducible assumption
    | with_reducible apply Dev.cellLeave_sound
    | with_reducible apply Dev.updQueue_sound
    | with_reducible apply Dev.updEnd_sound
    | with_reducible apply Dev.delFrm_sound
    | intro _
    | with_reducible refine Dev.sound_ite_snd (fun _ => ?_) (fun _ => ?_)
    | split
    | with_reducible refine Dev.sound_mk ?_ rfl rfl rfl)

theorem Dev.meshTurns_sound (die : Nat) (dir : Nat) (cs : List Nat) (h : d.Sound p₀ n₀) :
  (Dev.meshTurns d die dir cs).Sound p₀ n₀ := by
  unfold Dev.meshTurns
  repeat' (first
    | with_reducible assumption
    | with_reducible apply Dev.updEnd_sound
    | intro _
    | with_reducible refine Dev.sound_mk ?_ rfl rfl rfl)

theorem Dev.meshFill_sound (die : Nat) (dir : Nat) (cells : List WireCell) (x1 : Nat) (h : d.Sound p₀ n₀) :
  (Dev.meshFill d die dir cells x1).2.Sound p₀ n₀ := by
  induction x1 generalizing d die dir cells with
  | zero => exact h
  | succ k ih =>
    unfold Dev.meshFill
    dsimp only
    have ht := fun cs => Dev.meshTurns_sound die dir cs h
    split
    · exact ht _
    · split
      · exact ht _
      · have hu := fun cs f => Dev.updEnd_sound die dir f (ht cs)
        split
        · exact hu _ _
        · exact ih _ _ _ (Dev.pulse_sound _ _ _ _ _ _ (Dev.meshTake_sound _ _ _ _ _ (hu _ _)))

theorem Dev.meshSend_sound (die : Nat) (dir : Nat) (h : d.Sound p₀ n₀) :
  (Dev.meshSend d die dir).Sound p₀ n₀ := by
  unfold Dev.meshSend
  repeat' (first
    | with_reducible assumption
    | with_reducible apply Dev.meshFill_sound
    | with_reducible apply Dev.updEnd_sound
    | with_reducible apply Dev.updCore_sound
    | with_reducible refine Dev.sound_ite (fun _ => ?_) (fun _ => ?_)
    | split)

theorem Dev.deliverCab_sound (fid : Nat) (f : Frm) (h : d.Sound p₀ n₀) :
  (Dev.deliverCab d fid f).Sound p₀ n₀ := by
  unfold Dev.deliverCab
  repeat' (first
    | with_reducible assumption
    | with_reducible apply Dev.removeFrm_sound
    | with_reducible apply Dev.count_sound
    | with_reducible apply Dev.delFrm_sound
    | with_reducible apply Dev.toInbox_sound
    | with_reducible apply Dev.bufFill_sound
    | intro _
    | with_reducible refine Dev.sound_ite (fun _ => ?_) (fun _ => ?_)
    | split
    | with_reducible refine Dev.sound_mk ?_ rfl rfl rfl)

theorem Dev.freeRide_sound (f : Frm) (h : d.Sound p₀ n₀) :
  (Dev.freeRide d f).Sound p₀ n₀ := by
  unfold Dev.freeRide
  repeat' (first
    | with_reducible assumption
    | with_reducible apply Dev.returnCredit_sound
    | with_reducible refine Dev.sound_ite (fun _ => ?_) (fun _ => ?_)
    | split
    | with_reducible refine Dev.sound_mk ?_ rfl rfl rfl)

theorem Dev.laterCell_sound (fid : Nat) (idx : Nat) (bytes : List Byte) (fcsBad : Bool) (bad : Bool) (h : d.Sound p₀ n₀) :
  (Dev.laterCell d fid idx bytes fcsBad bad).Sound p₀ n₀ := by
  unfold Dev.laterCell
  repeat' (first
    | with_reducible assumption
    | with_reducible apply Dev.putFrm_sound
    | with_reducible apply Dev.chargeReserve_sound
    | with_reducible apply Dev.freeRide_sound
    | with_reducible apply Dev.intoCrossbar_sound
    | with_reducible apply Dev.poisonAt_sound
    | with_reducible apply Dev.deliverCab_sound
    | with_reducible refine Dev.sound_ite (fun _ => ?_) (fun _ => ?_)
    | split
    | with_reducible refine Dev.sound_mk ?_ rfl rfl rfl)

theorem Dev.firstCell_sound (die : Nat) (dir : Nat) (w : WireCell) (h : d.Sound p₀ n₀) :
  (Dev.firstCell d die dir w).2.Sound p₀ n₀ := by
  unfold Dev.firstCell
  dsimp only
  refine Dev.sound_ite_snd (fun _ => Dev.count_sound _ _ h) (fun _ => ?_)
  refine Dev.sound_ite_snd (fun _ => ?_) (fun _ => ?_)
  · have hc := fun f => Dev.chargeReserve_sound (d.newFrm f).1 1 (Dev.newFrm_sound f h)
    split
    · repeat' (first
        | with_reducible apply hc
        | with_reducible apply Dev.putFrm_sound
        | with_reducible apply Dev.deliverCab_sound
        | with_reducible refine Dev.sound_ite (fun _ => ?_) (fun _ => ?_)
        | dsimp only)
    · exact hc _
  · refine Dev.sound_foldl_snd _ _ (Dev.add_sound _ _ _ h) fun e c he => ?_
    have hw := Dev.enterDieWith_sound c 1 he
    split <;> exact Dev.sound_snd ‹_› hw

theorem Dev.meshCell_sound (die : Nat) (dir : Nat) (w : WireCell) (h : d.Sound p₀ n₀) :
  (Dev.meshCell d die dir w).Sound p₀ n₀ := by
  unfold Dev.meshCell
  repeat' (first
    | with_reducible assumption
    | with_reducible apply Dev.returnCredit_sound
    | with_reducible apply Dev.firstCell_sound
    | with_reducible apply Dev.updEnd_sound
    | with_reducible apply Dev.add_sound
    | with_reducible apply Dev.each_sound
    | with_reducible apply Dev.laterCell_sound
    | intro _
    | with_reducible refine Dev.sound_ite (fun _ => ?_) (fun _ => ?_)
    | split
    | with_reducible refine Dev.sound_mk ?_ rfl rfl rfl)

theorem Dev.laneBad_sound (r : Nat) (l : Nat) (n : Nat) (h : d.Sound p₀ n₀) :
  (Dev.laneBad d r l n).Sound p₀ n₀ := by
  unfold Dev.laneBad
  repeat' (first
    | with_reducible assumption
    | with_reducible apply Dev.each_sound
    | with_reducible apply Dev.wr_sound
    | intro _)

theorem Dev.nameLane_sound (die : Nat) (dir : Nat) (h : d.Sound p₀ n₀) :
  (Dev.nameLane d die dir).Sound p₀ n₀ := by
  unfold Dev.nameLane
  repeat' (first
    | with_reducible assumption
    | with_reducible apply Dev.updEnd_sound
    | intro _
    | with_reducible refine Dev.sound_ite (fun _ => ?_) (fun _ => ?_)
    | split
    | with_reducible refine Dev.sound_mk ?_ rfl rfl rfl)

theorem Dev.laneFails_sound (die : Nat) (dir : Nat) (l : Nat) (h : d.Sound p₀ n₀) :
  (Dev.laneFails d die dir l).Sound p₀ n₀ := by
  unfold Dev.laneFails
  repeat' (first
    | with_reducible assumption
    | with_reducible apply Dev.steer_sound
    | with_reducible apply Dev.laneBad_sound
    | with_reducible apply Dev.set_sound
    | with_reducible apply Dev.updEnd_sound
    | with_reducible apply Dev.nameLane_sound
    | intro _
    | with_reducible refine Dev.sound_ite (fun _ => ?_) (fun _ => ?_)
    | split
    | with_reducible refine Dev.sound_mk ?_ rfl rfl rfl)

theorem Dev.meshParity_sound (die : Nat) (dir : Nat) (lanes : List Nat) (h : d.Sound p₀ n₀) :
  (Dev.meshParity d die dir lanes).Sound p₀ n₀ := by
  unfold Dev.meshParity
  repeat' (first
    | with_reducible assumption
    | with_reducible apply Dev.each_sound
    | with_reducible apply Dev.updEnd_sound
    | with_reducible apply Dev.laneFails_sound
    | intro _
    | with_reducible refine Dev.sound_ite (fun _ => ?_) (fun _ => ?_)
    | split
    | with_reducible refine Dev.sound_mk ?_ rfl rfl rfl)

theorem Dev.meshRecv_sound (die : Nat) (dir : Nat) (crcBad : Bool) (parity : List Nat) (h : d.Sound p₀ n₀) :
  (Dev.meshRecv d die dir crcBad parity).Sound p₀ n₀ := by
  unfold Dev.meshRecv
  repeat' (first
    | with_reducible assumption
    | with_reducible apply Dev.updCore_sound
    | with_reducible apply Dev.meshParity_sound
    | with_reducible apply Dev.updBur_sound
    | with_reducible apply Dev.count_sound
    | with_reducible apply Dev.updEnd_sound
    | with_reducible apply Dev.each_sound
    | with_reducible apply Dev.meshCell_sound
    | intro _
    | with_reducible refine Dev.sound_ite (fun _ => ?_) (fun _ => ?_)
    | split
    | with_reducible refine Dev.sound_mk ?_ rfl rfl rfl)

theorem Dev.meshReplay_sound (die : Nat) (dir : Nat) (h : d.Sound p₀ n₀) :
  (Dev.meshReplay d die dir).Sound p₀ n₀ := by
  unfold Dev.meshReplay
  repeat' (first
    | with_reducible assumption
    | with_reducible apply Dev.pulse_sound
    | with_reducible apply Dev.count_sound
    | with_reducible apply Dev.updEnd_sound
    | with_reducible apply Dev.set_sound
    | with_reducible apply Dev.updCore_sound
    | with_reducible refine Dev.sound_ite (fun _ => ?_) (fun _ => ?_)
    | split)

theorem Dev.linkDrop_sound (h : d.Sound p₀ n₀) :
  (Dev.linkDrop d).Sound p₀ n₀ := by
  unfold Dev.linkDrop
  repeat' (first
    | with_reducible assumption
    | with_reducible apply Dev.each_sound
    | with_reducible apply Dev.add_sound
    | with_reducible apply Dev.removeFrm_sound
    | intro _
    | with_reducible refine Dev.sound_ite (fun _ => ?_) (fun _ => ?_)
    | split
    | with_reducible refine Dev.sound_mk ?_ rfl rfl rfl)

theorem Dev.linkFail_sound (die : Nat) (dir : Nat) (h : d.Sound p₀ n₀) :
  (Dev.linkFail d die dir).Sound p₀ n₀ := by
  unfold Dev.linkFail
  repeat' (first
    | with_reducible assumption
    | with_reducible apply Dev.set_sound
    | with_reducible apply Dev.updEnd_sound
    | with_reducible apply Dev.updCore_sound
    | with_reducible apply Dev.linkDrop_sound
    | with_reducible apply Dev.orphans_sound
    | with_reducible apply Dev.raise_sound
    | intro _
    | split
    | with_reducible refine Dev.sound_mk ?_ rfl rfl rfl)

theorem Dev.meshRepair_sound (die : Nat) (dir : Nat) (h : d.Sound p₀ n₀) :
  (Dev.meshRepair d die dir).Sound p₀ n₀ := by
  unfold Dev.meshRepair
  repeat' (first
    | with_reducible assumption
    | with_reducible apply Dev.updEnd_sound
    | with_reducible apply Dev.tryExpel_sound
    | with_reducible refine Dev.sound_ite (fun _ => ?_) (fun _ => ?_)
    | split)

end Sys2Proof.Machine
end

