-- ==== Sys2Proof/Laws/SoundTables.lean ====
section
/-! SUPPORT. Every operation of Machine/Tables.lean keeps the device sound (Safety.lean): one lemma per operation. -/
namespace Sys2Proof.Machine

variable {p₀ : List Out} {n₀ : Nat} {d : Dev}

theorem Dev.moveRx_sound (t : Nat) (old : Nat) (new : Nat) (h : d.Sound p₀ n₀) :
  (Dev.moveRx d t old new).Sound p₀ n₀ := by
  unfold Dev.moveRx
  repeat' (first
    | with_reducible assumption
    | with_reducible apply Dev.each_sound
    | with_reducible apply Dev.updEnd_sound
    | with_reducible apply Dev.updLp_sound
    | intro _)

theorem Dev.reenqueue_sound (t : Nat) (old : Nat) (f : Frm) (h : d.Sound p₀ n₀) :
  (Dev.reenqueue d t old f).Sound p₀ n₀ := by
  unfold Dev.reenqueue
  repeat' (first
    | with_reducible assumption
    | with_reducible apply Dev.count_sound
    | with_reducible apply Dev.memberChoice_sound
    | with_reducible apply Dev.sendLp_sound
    | with_reducible apply Dev.moveRx_sound
    | with_reducible refine Dev.sound_snd (by assumption) ?_
    | with_reducible refine Dev.sound_ite (fun _ => ?_) (fun _ => ?_)
    | split
    | dsimp only)

theorem Dev.withdrawQueues_sound (lp : Nat) (h : d.Sound p₀ n₀) :
  (Dev.withdrawQueues d lp).Sound p₀ n₀ := by
  unfold Dev.withdrawQueues
  repeat' (first
    | with_reducible assumption
    | with_reducible apply Dev.each_sound
    | with_reducible apply Dev.removeFrm_sound
    | with_reducible apply Dev.reenqueue_sound
    | intro _
    | with_reducible refine Dev.sound_snd (by assumption) ?_
    | with_reducible refine Dev.sound_ite (fun _ => ?_) (fun _ => ?_)
    | split)

theorem Dev.withdrawWrite_sound (i : Nat) (v : Word) (h : d.Sound p₀ n₀) :
  (Dev.withdrawWrite d i v).Sound p₀ n₀ := by
  unfold Dev.withdrawWrite
  repeat' (first
    | with_reducible assumption
    | with_reducible apply Dev.wr_sound
    | with_reducible apply Dev.each_sound
    | with_reducible apply Dev.withdrawQueues_sound
    | intro _)

theorem Dev.withdraw_sound (lp : Nat) (h : d.Sound p₀ n₀) :
  (Dev.withdraw d lp).Sound p₀ n₀ := by
  unfold Dev.withdraw
  repeat' (first
    | with_reducible assumption
    | with_reducible apply Dev.withdrawWrite_sound)

theorem Dev.takeLearn_sound (t : Nat) (kind : Nat) (h : d.Sound p₀ n₀) :
  (Dev.takeLearn d t kind).2.Sound p₀ n₀ := by
  unfold Dev.takeLearn
  repeat' (first
    | with_reducible assumption
    | with_reducible apply Dev.updFwd_sound
    | split)

theorem Dev.learnHit_sound (t : Nat) (h : d.Sound p₀ n₀) :
  (Dev.learnHit d t).Sound p₀ n₀ := by
  unfold Dev.learnHit
  repeat' (first
    | with_reducible assumption
    | with_reducible apply Dev.takeLearn_sound
    | with_reducible apply Dev.learnChange_sound
    | with_reducible refine Dev.sound_snd (by assumption) ?_
    | split)

theorem Dev.learnMove_sound (t : Nat) (h : d.Sound p₀ n₀) :
  (Dev.learnMove d t).Sound p₀ n₀ := by
  unfold Dev.learnMove
  repeat' (first
    | with_reducible assumption
    | with_reducible apply Dev.takeLearn_sound
    | with_reducible apply Dev.count_sound
    | with_reducible apply Dev.learnChange_sound
    | with_reducible refine Dev.sound_snd (by assumption) ?_
    | split)

theorem Dev.learnInsert_sound (t : Nat) (h : d.Sound p₀ n₀) :
  (Dev.learnInsert d t).Sound p₀ n₀ := by
  unfold Dev.learnInsert
  repeat' (first
    | with_reducible assumption
    | with_reducible apply Dev.takeLearn_sound
    | with_reducible apply Dev.learnChange_sound
    | with_reducible apply Dev.count_sound
    | with_reducible refine Dev.sound_snd (by assumption) ?_
    | split)

theorem Dev.learnApply_sound (t : Nat) (h : d.Sound p₀ n₀) :
  (Dev.learnApply d t).Sound p₀ n₀ := by
  unfold Dev.learnApply
  repeat' (first
    | with_reducible assumption
    | with_reducible apply Dev.updFwd_sound
    | split)

theorem Dev.ageSweep_sound (t : Nat) (h : d.Sound p₀ n₀) :
  (Dev.ageSweep d t).Sound p₀ n₀ := by
  unfold Dev.ageSweep
  repeat' (first
    | with_reducible assumption
    | with_reducible apply Dev.each_sound
    | with_reducible apply Dev.learnChange_sound
    | with_reducible apply Dev.count_sound
    | with_reducible refine Dev.sound_ite (fun _ => ?_) (fun _ => ?_)
    | intro _)

theorem Dev.drainClear_sound (h : d.Sound p₀ n₀) :
  (Dev.drainClear d).Sound p₀ n₀ := by
  unfold Dev.drainClear
  repeat' (first
    | with_reducible assumption
    | with_reducible apply Dev.setB_sound)

theorem Dev.drainComplete_sound (h : d.Sound p₀ n₀) :
  (Dev.drainComplete d).Sound p₀ n₀ := by
  unfold Dev.drainComplete
  repeat' (first
    | with_reducible assumption
    | with_reducible apply Dev.drainClear_sound
    | with_reducible refine Dev.sound_ite (fun _ => ?_) (fun _ => ?_))

theorem Dev.staleDrop_sound (m : Nat) (n : Nat) (h : d.Sound p₀ n₀) :
  (Dev.staleDrop d m n).Sound p₀ n₀ := by
  unfold Dev.staleDrop
  repeat' (first
    | with_reducible assumption
    | with_reducible apply Dev.raise_sound
    | with_reducible apply Dev.add_sound
    | with_reducible refine Dev.sound_ite (fun _ => ?_) (fun _ => ?_))

theorem Dev.dropOld_sound (g : Nat) (on : List Nat) (m : Nat) (h : d.Sound p₀ n₀) :
  (Dev.dropOld d g on m).Sound p₀ n₀ := by
  unfold Dev.dropOld
  repeat' (first
    | with_reducible assumption
    | with_reducible apply Dev.each_sound
    | with_reducible apply Dev.removeFrm_sound
    | with_reducible apply Dev.updCore_sound
    | with_reducible apply Dev.updEnd_sound
    | with_reducible apply Dev.staleDrop_sound
    | intro _)

theorem Dev.drainTimeout_sound (h : d.Sound p₀ n₀) :
  (Dev.drainTimeout d).Sound p₀ n₀ := by
  unfold Dev.drainTimeout
  repeat' (first
    | with_reducible assumption
    | with_reducible apply Dev.each_sound
    | with_reducible apply Dev.dropOld_sound
    | with_reducible apply Dev.drainClear_sound
    | intro _
    | with_reducible refine Dev.sound_ite (fun _ => ?_) (fun _ => ?_))

theorem Dev.indDone_sound (k : Nat) (op : Nat) (table : Nat) (bank : Bool) (status : Nat) (h : d.Sound p₀ n₀) :
  (Dev.indDone d k op table bank status).Sound p₀ n₀ := by
  unfold Dev.indDone
  repeat' (first
    | with_reducible assumption
    | with_reducible apply Dev.irq_sound
    | with_reducible apply Dev.wr_sound)

theorem Dev.setInd_sound (k : Nat) (n : Nat) (v : Nat) (h : d.Sound p₀ n₀) :
  (Dev.setInd d k n v).Sound p₀ n₀ := by
  unfold Dev.setInd
  repeat' (first
    | with_reducible assumption
    | with_reducible apply Dev.wr_sound)

theorem Dev.setIndLearn_sound (k : Nat) (ws : List Nat) (h : d.Sound p₀ n₀) :
  (Dev.setIndLearn d k ws).Sound p₀ n₀ := by
  unfold Dev.setIndLearn
  repeat' (first
    | with_reducible assumption
    | with_reducible apply Dev.setInd_sound)

theorem Dev.indReadTo_sound (k : Nat) (table : Nat) (bank : Nat) (i : Nat) (h : d.Sound p₀ n₀) :
  (Dev.indReadTo d k table bank i).Sound p₀ n₀ := by
  unfold Dev.indReadTo
  repeat' (first
    | with_reducible assumption
    | with_reducible apply Dev.setInd_sound
    | with_reducible apply Dev.each_sound
    | with_reducible apply Dev.setIndLearn_sound
    | intro _
    | split)

theorem Dev.indRead_sound (k : Nat) (table : Nat) (bank : Bool) (h : d.Sound p₀ n₀) :
  (Dev.indRead d k table bank).Sound p₀ n₀ := by
  unfold Dev.indRead
  repeat' (first
    | with_reducible assumption
    | with_reducible apply Dev.indDone_sound
    | with_reducible apply Dev.indReadTo_sound
    | with_reducible refine Dev.sound_ite (fun _ => ?_) (fun _ => ?_)
    | split)

theorem Dev.indWriteTo_sound (k : Nat) (table : Nat) (bank : Nat) (i : Nat) (h : d.Sound p₀ n₀) :
  (Dev.indWriteTo d k table bank i).Sound p₀ n₀ := by
  unfold Dev.indWriteTo
  repeat' (first
    | with_reducible assumption
    | with_reducible apply Dev.updFwd_sound
    | split)

theorem Dev.indWrite_sound (k : Nat) (table : Nat) (bank : Bool) (h : d.Sound p₀ n₀) :
  (Dev.indWrite d k table bank).Sound p₀ n₀ := by
  unfold Dev.indWrite
  repeat' (first
    | with_reducible assumption
    | with_reducible apply Dev.indDone_sound
    | with_reducible apply Dev.learnChange_sound
    | with_reducible apply Dev.learnSync_sound
    | with_reducible apply Dev.count_sound
    | with_reducible apply Dev.genBump_sound
    | with_reducible apply Dev.indWriteTo_sound
    | with_reducible refine Dev.sound_ite (fun _ => ?_) (fun _ => ?_)
    | split)

theorem Dev.indInsert_sound (k : Nat) (table : Nat) (bank : Bool) (h : d.Sound p₀ n₀) :
  (Dev.indInsert d k table bank).Sound p₀ n₀ := by
  unfold Dev.indInsert
  repeat' (first
    | with_reducible assumption
    | with_reducible apply Dev.indDone_sound
    | with_reducible apply Dev.learnChange_sound
    | with_reducible apply Dev.learnSync_sound
    | with_reducible apply Dev.set_sound
    | with_reducible apply Dev.setIndLearn_sound
    | with_reducible refine Dev.sound_snd (by assumption) ?_
    | with_reducible refine Dev.sound_ite (fun _ => ?_) (fun _ => ?_)
    | split)

theorem Dev.indDelete_sound (k : Nat) (table : Nat) (bank : Bool) (h : d.Sound p₀ n₀) :
  (Dev.indDelete d k table bank).Sound p₀ n₀ := by
  unfold Dev.indDelete
  repeat' (first
    | with_reducible assumption
    | with_reducible apply Dev.indDone_sound
    | with_reducible apply Dev.learnChange_sound
    | with_reducible apply Dev.learnSync_sound
    | with_reducible refine Dev.sound_snd (by assumption) ?_
    | with_reducible refine Dev.sound_ite (fun _ => ?_) (fun _ => ?_)
    | split
    | dsimp only)

theorem Dev.indSearch_sound (k : Nat) (table : Nat) (bank : Bool) (h : d.Sound p₀ n₀) :
  (Dev.indSearch d k table bank).Sound p₀ n₀ := by
  unfold Dev.indSearch
  repeat' (first
    | with_reducible assumption
    | with_reducible apply Dev.indDone_sound
    | with_reducible apply Dev.set_sound
    | with_reducible apply Dev.setIndLearn_sound
    | with_reducible refine Dev.sound_snd (by assumption) ?_
    | with_reducible refine Dev.sound_ite (fun _ => ?_) (fun _ => ?_)
    | split
    | dsimp only)

theorem Dev.rankMapPut_sound (e : Nat) (v : Word) (h : d.Sound p₀ n₀) :
  (Dev.rankMapPut d e v).Sound p₀ n₀ := by
  unfold Dev.rankMapPut
  repeat' (first
    | with_reducible assumption
    | with_reducible apply Dev.genBump_sound
    | with_reducible apply Dev.wr_sound)

theorem Dev.jobPut_sound (j : Nat) (ws : List Word) (h : d.Sound p₀ n₀) :
  (Dev.jobPut d j ws).Sound p₀ n₀ := by
  unfold Dev.jobPut
  repeat' (first
    | with_reducible assumption
    | with_reducible apply Dev.updFwd_sound
    | with_reducible apply Dev.wr_sound
    | with_reducible apply Dev.sound_foldl
    | intro _)

theorem Dev.jobCommit_sound (desk : Nat) (j : Nat) (v : Word) (h : d.Sound p₀ n₀) :
  (Dev.jobCommit d desk j v).Sound p₀ n₀ := by
  unfold Dev.jobCommit
  repeat' (first
    | with_reducible assumption
    | with_reducible apply Dev.genBump_sound
    | with_reducible apply Dev.jobPut_sound
    | with_reducible apply Dev.raise_sound
    | with_reducible apply Dev.each_sound
    | with_reducible apply Dev.wr_sound
    | with_reducible refine Dev.sound_ite (fun _ => ?_) (fun _ => ?_)
    | intro _)

end Sys2Proof.Machine
end

