-- ==== Sys2Proof/Laws/SoundRings.lean ====
section
/-! SUPPORT. Every operation of Machine/Rings.lean keeps the device sound (Safety.lean): one lemma per operation. -/
namespace Sys2Proof.Machine

variable {p₀ : List Out} {n₀ : Nat} {d : Dev}

theorem Dev.updRing_sound (x : Nat) (f : RingSt → RingSt) (h : d.Sound p₀ n₀) :
  (Dev.updRing d x f).Sound p₀ n₀ := by
  unfold Dev.updRing
  repeat' (first
    | with_reducible assumption
    | with_reducible refine Dev.sound_mk ?_ rfl rfl rfl)

theorem Dev.setHeater_sound (x : Nat) (h' : Int) (h : d.Sound p₀ n₀) :
  (Dev.setHeater d x h').Sound p₀ n₀ := by
  unfold Dev.setHeater
  repeat' (first
    | with_reducible assumption
    | with_reducible apply Dev.set_sound)

theorem Dev.ringGo_sound (x : Nat) (st : Nat) (h : d.Sound p₀ n₀) :
  (Dev.ringGo d x st).Sound p₀ n₀ := by
  unfold Dev.ringGo
  repeat' (first
    | with_reducible assumption
    | with_reducible apply Dev.set_sound
    | with_reducible apply Dev.setB_sound
    | with_reducible refine Dev.sound_ite (fun _ => ?_) (fun _ => ?_))

theorem Dev.ringSweep_sound (x : Nat) (h : d.Sound p₀ n₀) :
  (Dev.ringSweep d x).Sound p₀ n₀ := by
  unfold Dev.ringSweep
  repeat' (first
    | with_reducible assumption
    | with_reducible apply Dev.setHeater_sound
    | with_reducible apply Dev.ringGo_sound)

theorem Dev.setRole_sound (port : Nat) (lane : Nat) (rx : Bool) (role : Nat) (h : d.Sound p₀ n₀) :
  (Dev.setRole d port lane rx role).Sound p₀ n₀ := by
  unfold Dev.setRole
  repeat' (first
    | with_reducible assumption
    | with_reducible apply Dev.set_sound)

theorem Dev.spareOut_sound (port : Nat) (lane : Nat) (rx : Bool) (h : d.Sound p₀ n₀) :
  (Dev.spareOut d port lane rx).Sound p₀ n₀ := by
  unfold Dev.spareOut
  repeat' (first
    | with_reducible assumption
    | with_reducible apply Dev.setRole_sound
    | with_reducible refine Dev.sound_ite (fun _ => ?_) (fun _ => ?_))

theorem Dev.ringOut_sound (x : Nat) (h : d.Sound p₀ n₀) :
  (Dev.ringOut d x).Sound p₀ n₀ := by
  unfold Dev.ringOut
  repeat' (first
    | with_reducible assumption
    | with_reducible apply Dev.ringGo_sound
    | with_reducible apply Dev.updRing_sound
    | with_reducible apply Dev.spareOut_sound
    | with_reducible apply Dev.ringSweep_sound
    | intro _
    | with_reducible refine Dev.sound_ite (fun _ => ?_) (fun _ => ?_))

theorem Dev.ringReacquire_sound (x : Nat) (h : d.Sound p₀ n₀) :
  (Dev.ringReacquire d x).Sound p₀ n₀ := by
  unfold Dev.ringReacquire
  repeat' (first
    | with_reducible assumption
    | with_reducible apply Dev.ringOut_sound
    | with_reducible refine Dev.sound_ite (fun _ => ?_) (fun _ => ?_))

theorem Dev.ringFail_sound (x : Nat) (h : d.Sound p₀ n₀) :
  (Dev.ringFail d x).Sound p₀ n₀ := by
  unfold Dev.ringFail
  repeat' (first
    | with_reducible assumption
    | with_reducible apply Dev.set_sound
    | with_reducible apply Dev.count_sound
    | with_reducible apply Dev.updRing_sound
    | with_reducible apply Dev.setHeater_sound
    | with_reducible apply Dev.ringGo_sound
    | with_reducible apply Dev.raise_sound
    | with_reducible apply Dev.setRole_sound
    | with_reducible apply Dev.ringOut_sound
    | with_reducible refine Dev.sound_ite (fun _ => ?_) (fun _ => ?_))

theorem Dev.ringPreheat_sound (x : Nat) (h : d.Sound p₀ n₀) :
  (Dev.ringPreheat d x).Sound p₀ n₀ := by
  unfold Dev.ringPreheat
  repeat' (first
    | with_reducible assumption
    | with_reducible apply Dev.updRing_sound
    | with_reducible apply Dev.ringGo_sound
    | with_reducible apply Dev.setHeater_sound
    | with_reducible refine Dev.sound_ite (fun _ => ?_) (fun _ => ?_))

theorem Dev.ringHold_sound (x : Nat) (h : d.Sound p₀ n₀) :
  (Dev.ringHold d x).Sound p₀ n₀ := by
  unfold Dev.ringHold
  repeat' (first
    | with_reducible assumption
    | with_reducible apply Dev.ringGo_sound
    | with_reducible apply Dev.updRing_sound)

theorem Dev.ringUnlit_sound (x : Nat) (h : d.Sound p₀ n₀) :
  (Dev.ringUnlit d x).Sound p₀ n₀ := by
  unfold Dev.ringUnlit
  repeat' (first
    | with_reducible assumption
    | with_reducible apply Dev.ringHold_sound
    | with_reducible apply Dev.updRing_sound
    | intro _
    | with_reducible refine Dev.sound_ite (fun _ => ?_) (fun _ => ?_))

theorem Dev.dropRings_sound (port : Nat) (st : Nat) (f : Dev → Nat → Dev) (h : d.Sound p₀ n₀) (hf : ∀ e y0, Dev.Sound p₀ n₀ e → (f e y0).Sound p₀ n₀) :
  (Dev.dropRings d port st f).Sound p₀ n₀ := by
  unfold Dev.dropRings
  repeat' (first
    | with_reducible assumption
    | with_reducible apply hf
    | with_reducible apply Dev.each_sound
    | with_reducible refine Dev.sound_ite (fun _ => ?_) (fun _ => ?_)
    | intro _)

end Sys2Proof.Machine
end

