-- ==== Sys2Proof/Laws/SoundPhy.lean ====
section
/-! SUPPORT. Every operation of Machine/Phy.lean keeps the device sound (Safety.lean): one lemma per operation. -/
namespace Sys2Proof.Machine

variable {p₀ : List Out} {n₀ : Nat} {d : Dev}

theorem Dev.setPos_sound (port : Nat) (lane : Nat) (rx : Bool) (p : Nat) (h : d.Sound p₀ n₀) :
  (Dev.setPos d port lane rx p).Sound p₀ n₀ := by
  unfold Dev.setPos
  repeat' (first
    | with_reducible assumption
    | with_reducible apply Dev.set_sound)

theorem Dev.sendCodeword_sound (lp : Nat) (word : List Nat) (h : d.Sound p₀ n₀) :
  (Dev.sendCodeword d lp word).Sound p₀ n₀ := by
  unfold Dev.sendCodeword
  repeat' (first
    | with_reducible assumption
    | with_reducible apply Dev.each_sound
    | with_reducible apply Dev.emit_sound
    | with_reducible apply Dev.updLp_sound
    | intro _)

theorem Dev.sendBits_sound (lp : Nat) (bits : List Bool) (h : d.Sound p₀ n₀) :
  (Dev.sendBits d lp bits).Sound p₀ n₀ := by
  unfold Dev.sendBits
  repeat' (first
    | with_reducible assumption
    | with_reducible apply Dev.updLp_sound
    | with_reducible apply Dev.sendCodeword_sound
    | intro _
    | with_reducible refine Dev.sound_ite (fun _ => ?_) (fun _ => ?_))

theorem Dev.flushBits_sound (lp : Nat) (h : d.Sound p₀ n₀) :
  (Dev.flushBits d lp).Sound p₀ n₀ := by
  unfold Dev.flushBits
  repeat' (first
    | with_reducible assumption
    | with_reducible apply Dev.sendBits_sound
    | with_reducible refine Dev.sound_ite (fun _ => ?_) (fun _ => ?_))

theorem Dev.putMarker_sound (m : MarkerInfo) (h : d.Sound p₀ n₀) :
  (Dev.putMarker d m).Sound p₀ n₀ := by
  unfold Dev.putMarker
  repeat' (first
    | with_reducible assumption
    | with_reducible apply Dev.emit_sound
    | with_reducible apply Dev.updBur_sound
    | intro _
    | with_reducible refine Dev.sound_snd (by assumption) ?_
    | split
    | dsimp only)

theorem Dev.spareMarkers_sound (lp : Nat) (idx : Nat) (h : d.Sound p₀ n₀) :
  (Dev.spareMarkers d lp idx).Sound p₀ n₀ := by
  unfold Dev.spareMarkers
  repeat' (first
    | with_reducible assumption
    | with_reducible apply Dev.each_sound
    | with_reducible apply Dev.putMarker_sound
    | with_reducible apply Dev.emit_sound
    | intro _
    | with_reducible refine Dev.sound_ite (fun _ => ?_) (fun _ => ?_))

theorem Dev.sendMarkers_sound (lp : Nat) (kind : Nat) (idx : Nat) (h : d.Sound p₀ n₀) :
  (Dev.sendMarkers d lp kind idx).Sound p₀ n₀ := by
  unfold Dev.sendMarkers
  repeat' (first
    | with_reducible assumption
    | with_reducible apply Dev.each_sound
    | with_reducible apply Dev.putMarker_sound
    | with_reducible apply Dev.spareMarkers_sound
    | with_reducible apply Dev.updLp_sound
    | intro _
    | with_reducible refine Dev.sound_snd (by assumption) ?_
    | with_reducible refine Dev.sound_ite (fun _ => ?_) (fun _ => ?_)
    | split)

end Sys2Proof.Machine
end

