-- ==== Sys2Proof/Laws/SoundLink.lean ====
section
/-! SUPPORT. Every operation of Machine/Link.lean keeps the device sound (Safety.lean): one lemma per operation. -/
namespace Sys2Proof.Machine

variable {p₀ : List Out} {n₀ : Nat} {d : Dev}

theorem Dev.breakoutApply_sound (port : Nat) (h : d.Sound p₀ n₀) :
  (Dev.breakoutApply d port).Sound p₀ n₀ := by
  unfold Dev.breakoutApply
  repeat' (first
    | with_reducible assumption
    | with_reducible apply Dev.updCore_sound
    | with_reducible apply Dev.each_sound
    | with_reducible apply Dev.set_sound
    | with_reducible refine Dev.sound_ite (fun _ => ?_) (fun _ => ?_)
    | intro _)

theorem Dev.closeGap_sound (lp : Nat) (rx : Bool) (p : Nat) (h : d.Sound p₀ n₀) :
  (Dev.closeGap d lp rx p).Sound p₀ n₀ := by
  unfold Dev.closeGap
  repeat' (first
    | with_reducible assumption
    | with_reducible apply Dev.each_sound
    | with_reducible apply Dev.setPos_sound
    | intro _
    | with_reducible refine Dev.sound_ite (fun _ => ?_) (fun _ => ?_))

theorem Dev.lmapBump_sound (lp : Nat) (h : d.Sound p₀ n₀) :
  (Dev.lmapBump d lp).Sound p₀ n₀ := by
  unfold Dev.lmapBump
  repeat' (first
    | with_reducible assumption
    | with_reducible apply Dev.set_sound)

theorem Dev.giveUp_sound (lp : Nat) (lane : Nat) (rx : Bool) (h : d.Sound p₀ n₀) :
  (Dev.giveUp d lp lane rx).Sound p₀ n₀ := by
  unfold Dev.giveUp
  repeat' (first
    | with_reducible assumption
    | with_reducible apply Dev.updLane_sound
    | with_reducible apply Dev.closeGap_sound)

theorem Dev.showLanes_sound (lp : Nat) (h : d.Sound p₀ n₀) :
  (Dev.showLanes d lp).Sound p₀ n₀ := by
  unfold Dev.showLanes
  repeat' (first
    | with_reducible assumption
    | with_reducible apply Dev.set_sound)

theorem Dev.portEvent_sound (lp : Nat) (h : d.Sound p₀ n₀) :
  (Dev.portEvent d lp).Sound p₀ n₀ := by
  unfold Dev.portEvent
  repeat' (first
    | with_reducible assumption
    | with_reducible apply Dev.raise_sound)

theorem Dev.lpGo_sound (lp : Nat) (st : Nat) (h : d.Sound p₀ n₀) :
  (Dev.lpGo d lp st).Sound p₀ n₀ := by
  unfold Dev.lpGo
  repeat' (first
    | with_reducible assumption
    | with_reducible apply Dev.set_sound)

theorem Dev.rxCut_sound (lp : Nat) (cls : Nat) (h : d.Sound p₀ n₀) :
  (Dev.rxCut d lp cls).Sound p₀ n₀ := by
  unfold Dev.rxCut
  repeat' (first
    | with_reducible assumption
    | with_reducible apply Dev.each_sound
    | with_reducible apply Dev.putFrm_sound
    | with_reducible apply Dev.orphans_sound
    | intro _
    | with_reducible refine Dev.sound_snd (by assumption) ?_
    | split)

theorem Dev.lpDiscard_sound (lp : Nat) (h : d.Sound p₀ n₀) :
  (Dev.lpDiscard d lp).Sound p₀ n₀ := by
  unfold Dev.lpDiscard
  repeat' (first
    | with_reducible assumption
    | with_reducible apply Dev.each_sound
    | with_reducible apply Dev.removeFrm_sound
    | with_reducible apply Dev.add_sound
    | with_reducible apply Dev.rxCut_sound
    | with_reducible apply Dev.count_sound
    | intro _
    | with_reducible refine Dev.sound_ite (fun _ => ?_) (fun _ => ?_))

theorem Dev.clearAvg_sound (lp : Nat) (h : d.Sound p₀ n₀) :
  (Dev.clearAvg d lp).Sound p₀ n₀ := by
  unfold Dev.clearAvg
  repeat' (first
    | with_reducible assumption
    | with_reducible apply Dev.each_sound
    | with_reducible apply Dev.updQueue_sound
    | intro _)

theorem Dev.releaseHeld_sound (lp : Nat) (h : d.Sound p₀ n₀) :
  (Dev.releaseHeld d lp).Sound p₀ n₀ := by
  unfold Dev.releaseHeld
  repeat' (first
    | with_reducible assumption
    | with_reducible apply Dev.each_sound
    | with_reducible apply Dev.giveUp_sound
    | intro _)

theorem Dev.endRotation_sound (port : Nat) (lane : Nat) (h : d.Sound p₀ n₀) :
  (Dev.endRotation d port lane).Sound p₀ n₀ := by
  unfold Dev.endRotation
  repeat' (first
    | with_reducible assumption
    | with_reducible refine Dev.sound_ite (fun _ => ?_) (fun _ => ?_)
    | split
    | with_reducible refine Dev.sound_mk ?_ rfl rfl rfl)

theorem Dev.linkDown_sound (lp : Nat) (st : Nat) (h : d.Sound p₀ n₀) :
  (Dev.linkDown d lp st).Sound p₀ n₀ := by
  unfold Dev.linkDown
  repeat' (first
    | with_reducible assumption
    | with_reducible apply Dev.lpDiscard_sound
    | with_reducible apply Dev.clearAvg_sound
    | with_reducible apply Dev.setB_sound
    | with_reducible apply Dev.each_sound
    | with_reducible apply Dev.endRotation_sound
    | with_reducible apply Dev.updLp_sound
    | with_reducible apply Dev.releaseHeld_sound
    | with_reducible apply Dev.lpGo_sound
    | with_reducible apply Dev.set_sound
    | with_reducible apply Dev.learnFlush_sound
    | with_reducible apply Dev.portEvent_sound
    | with_reducible apply Dev.breakoutApply_sound
    | intro _
    | with_reducible refine Dev.sound_ite (fun _ => ?_) (fun _ => ?_))

theorem Dev.mapFault_sound (lp : Nat) (h : d.Sound p₀ n₀) :
  (Dev.mapFault d lp).Sound p₀ n₀ := by
  unfold Dev.mapFault
  repeat' (first
    | with_reducible assumption
    | with_reducible apply Dev.setB_sound
    | with_reducible apply Dev.linkDown_sound)

theorem Dev.tryAcquire_sound (lp : Nat) (h : d.Sound p₀ n₀) :
  (Dev.tryAcquire d lp).Sound p₀ n₀ := by
  unfold Dev.tryAcquire
  repeat' (first
    | with_reducible assumption
    | with_reducible apply Dev.each_sound
    | with_reducible apply Dev.ringPreheat_sound
    | intro _
    | with_reducible refine Dev.sound_ite (fun _ => ?_) (fun _ => ?_))

theorem Dev.enableLp_sound (lp : Nat) (h : d.Sound p₀ n₀) :
  (Dev.enableLp d lp).Sound p₀ n₀ := by
  unfold Dev.enableLp
  repeat' (first
    | with_reducible assumption
    | with_reducible apply Dev.mapFault_sound
    | with_reducible apply Dev.lpGo_sound
    | with_reducible apply Dev.tryAcquire_sound
    | with_reducible refine Dev.sound_ite (fun _ => ?_) (fun _ => ?_))

theorem Dev.adminWrite_sound (lp : Nat) (up : Bool) (h : d.Sound p₀ n₀) :
  (Dev.adminWrite d lp up).Sound p₀ n₀ := by
  unfold Dev.adminWrite
  repeat' (first
    | with_reducible assumption
    | with_reducible apply Dev.set_sound
    | with_reducible apply Dev.enableLp_sound
    | with_reducible apply Dev.heldBack_sound
    | with_reducible apply Dev.updLp_sound
    | with_reducible apply Dev.breakoutApply_sound
    | with_reducible apply Dev.linkDown_sound
    | with_reducible apply Dev.setB_sound
    | with_reducible refine Dev.sound_ite (fun _ => ?_) (fun _ => ?_))

theorem Dev.laneCfgWrite_sound (port : Nat) (lane : Nat) (v : Word) (h : d.Sound p₀ n₀) :
  (Dev.laneCfgWrite d port lane v).Sound p₀ n₀ := by
  unfold Dev.laneCfgWrite
  repeat' (first
    | with_reducible assumption
    | with_reducible apply Dev.wr_sound
    | with_reducible apply Dev.updLane_sound
    | with_reducible apply Dev.updRing_sound
    | with_reducible apply Dev.ringSweep_sound
    | intro _
    | with_reducible refine Dev.sound_ite (fun _ => ?_) (fun _ => ?_))

theorem Dev.lightPresent_sound (lp : Nat) (h : d.Sound p₀ n₀) :
  (Dev.lightPresent d lp).Sound p₀ n₀ := by
  unfold Dev.lightPresent
  repeat' (first
    | with_reducible assumption
    | with_reducible apply Dev.enableLp_sound
    | with_reducible apply Dev.updLp_sound)

theorem Dev.ringsLocked_sound (lp : Nat) (h : d.Sound p₀ n₀) :
  (Dev.ringsLocked d lp).Sound p₀ n₀ := by
  unfold Dev.ringsLocked
  repeat' (first
    | with_reducible assumption
    | with_reducible apply Dev.lpGo_sound
    | with_reducible refine Dev.sound_ite (fun _ => ?_) (fun _ => ?_))

theorem Dev.fecLock_sound (lp : Nat) (h : d.Sound p₀ n₀) :
  (Dev.fecLock d lp).Sound p₀ n₀ := by
  unfold Dev.fecLock
  repeat' (first
    | with_reducible assumption
    | with_reducible apply Dev.updLp_sound
    | with_reducible apply Dev.lpGo_sound
    | with_reducible refine Dev.sound_ite (fun _ => ?_) (fun _ => ?_))

theorem Dev.trainTimeout_sound (lp : Nat) (h : d.Sound p₀ n₀) :
  (Dev.trainTimeout d lp).Sound p₀ n₀ := by
  unfold Dev.trainTimeout
  repeat' (first
    | with_reducible assumption
    | with_reducible apply Dev.updLp_sound
    | with_reducible apply Dev.lpGo_sound
    | with_reducible apply Dev.count_sound
    | intro _
    | with_reducible refine Dev.sound_ite (fun _ => ?_) (fun _ => ?_))

theorem Dev.toRetrain_sound (lp : Nat) (h : d.Sound p₀ n₀) :
  (Dev.toRetrain d lp).Sound p₀ n₀ := by
  unfold Dev.toRetrain
  repeat' (first
    | with_reducible assumption
    | with_reducible apply Dev.updLp_sound
    | with_reducible apply Dev.each_sound
    | with_reducible apply Dev.updLane_sound
    | with_reducible apply Dev.lpGo_sound
    | with_reducible apply Dev.setB_sound
    | with_reducible apply Dev.count_sound
    | with_reducible apply Dev.portEvent_sound
    | intro _)

theorem Dev.retrainTimeout_sound (lp : Nat) (h : d.Sound p₀ n₀) :
  (Dev.retrainTimeout d lp).Sound p₀ n₀ := by
  unfold Dev.retrainTimeout
  repeat' (first
    | with_reducible assumption
    | with_reducible apply Dev.linkDown_sound
    | with_reducible refine Dev.sound_ite (fun _ => ?_) (fun _ => ?_))

theorem Dev.lmapMismatch_sound (lp : Nat) (h : d.Sound p₀ n₀) :
  (Dev.lmapMismatch d lp).Sound p₀ n₀ := by
  unfold Dev.lmapMismatch
  repeat' (first
    | with_reducible assumption
    | with_reducible apply Dev.toRetrain_sound
    | with_reducible refine Dev.sound_ite (fun _ => ?_) (fun _ => ?_))

theorem Dev.toHold_sound (lp : Nat) (h : d.Sound p₀ n₀) :
  (Dev.toHold d lp).Sound p₀ n₀ := by
  unfold Dev.toHold
  repeat' (first
    | with_reducible assumption
    | with_reducible apply Dev.updLp_sound
    | with_reducible apply Dev.lpGo_sound
    | with_reducible apply Dev.setB_sound
    | intro _
    | with_reducible refine Dev.sound_ite (fun _ => ?_) (fun _ => ?_))

theorem Dev.sendBurst_sound (lp : Nat) (h : d.Sound p₀ n₀) :
  (Dev.sendBurst d lp).Sound p₀ n₀ := by
  unfold Dev.sendBurst
  repeat' (first
    | with_reducible assumption
    | with_reducible apply Dev.each_sound
    | with_reducible apply Dev.sendMarkers_sound
    | with_reducible apply Dev.updLp_sound
    | intro _)

theorem Dev.toReacquire_sound (lp : Nat) (h : d.Sound p₀ n₀) :
  (Dev.toReacquire d lp).Sound p₀ n₀ := by
  unfold Dev.toReacquire
  repeat' (first
    | with_reducible assumption
    | with_reducible apply Dev.updLp_sound
    | with_reducible apply Dev.lpGo_sound
    | with_reducible apply Dev.sendBurst_sound
    | intro _
    | with_reducible refine Dev.sound_ite (fun _ => ?_) (fun _ => ?_))

theorem Dev.fastReacqTimeout_sound (lp : Nat) (h : d.Sound p₀ n₀) :
  (Dev.fastReacqTimeout d lp).Sound p₀ n₀ := by
  unfold Dev.fastReacqTimeout
  repeat' (first
    | with_reducible assumption
    | with_reducible apply Dev.toRetrain_sound
    | with_reducible refine Dev.sound_ite (fun _ => ?_) (fun _ => ?_))

end Sys2Proof.Machine
end

