-- ==== Sys2Proof/Laws/SoundLanes.lean ====
section
/-! SUPPORT. Every operation of Machine/Lanes.lean keeps the device sound (Safety.lean): one lemma per operation. -/
namespace Sys2Proof.Machine

variable {p₀ : List Out} {n₀ : Nat} {d : Dev}

theorem Dev.showBusy_sound (lp : Nat) (h : d.Sound p₀ n₀) :
  (Dev.showBusy d lp).Sound p₀ n₀ := by
  unfold Dev.showBusy
  repeat' (first
    | with_reducible assumption
    | with_reducible apply Dev.setB_sound)

theorem Dev.openTxn_sound (lp : Nat) (op : Nat) (lane : Nat) (spare : Nat) (reason : Nat) (mgmt : Bool) (h : d.Sound p₀ n₀) :
  (Dev.openTxn d lp op lane spare reason mgmt).Sound p₀ n₀ := by
  unfold Dev.openTxn
  repeat' (first
    | with_reducible assumption
    | with_reducible apply Dev.updLp_sound
    | with_reducible apply Dev.showBusy_sound
    | with_reducible refine Dev.sound_ite (fun _ => ?_) (fun _ => ?_))

theorem Dev.sendLane_sound (lp : Nat) (op : Nat) (lane : Nat) (spare : Nat) (reason : Nat) (status : Nat) (h : d.Sound p₀ n₀) :
  (Dev.sendLane d lp op lane spare reason status).Sound p₀ n₀ := by
  unfold Dev.sendLane
  repeat' (first
    | with_reducible assumption
    | with_reducible apply Dev.updLp_sound)

theorem Dev.answerLane_sound (lp : Nat) (m : LaneOut) (h : d.Sound p₀ n₀) :
  (Dev.answerLane d lp m).Sound p₀ n₀ := by
  unfold Dev.answerLane
  repeat' (first
    | with_reducible assumption
    | with_reducible apply Dev.updLp_sound)

theorem Dev.lightSpare_sound (lp : Nat) (j : Nat) (reason : Nat) (h : d.Sound p₀ n₀) :
  (Dev.lightSpare d lp j reason).Sound p₀ n₀ := by
  unfold Dev.lightSpare
  repeat' (first
    | with_reducible assumption
    | with_reducible apply Dev.sendLane_sound
    | with_reducible apply Dev.ringPreheat_sound
    | intro _
    | with_reducible refine Dev.sound_ite (fun _ => ?_) (fun _ => ?_))

theorem Dev.txRemove_sound (lp : Nat) (lane : Nat) (reason : Nat) (h : d.Sound p₀ n₀) :
  (Dev.txRemove d lp lane reason).Sound p₀ n₀ := by
  unfold Dev.txRemove
  repeat' (first
    | with_reducible assumption
    | with_reducible apply Dev.openTxn_sound
    | with_reducible apply Dev.lightSpare_sound
    | with_reducible apply Dev.updLp_sound
    | intro _
    | with_reducible refine Dev.sound_snd (by assumption) ?_
    | with_reducible refine Dev.sound_ite (fun _ => ?_) (fun _ => ?_)
    | split)

theorem Dev.txAgain_sound (lp : Nat) (lane : Nat) (reason : Nat) (h : d.Sound p₀ n₀) :
  (Dev.txAgain d lp lane reason).Sound p₀ n₀ := by
  unfold Dev.txAgain
  repeat' (first
    | with_reducible assumption
    | with_reducible apply Dev.openTxn_sound
    | with_reducible apply Dev.updLp_sound
    | intro _
    | with_reducible refine Dev.sound_snd (by assumption) ?_
    | with_reducible refine Dev.sound_ite (fun _ => ?_) (fun _ => ?_)
    | split)

theorem Dev.nextTodo_sound (lp : Nat) (h : d.Sound p₀ n₀) :
  (Dev.nextTodo d lp).Sound p₀ n₀ := by
  unfold Dev.nextTodo
  repeat' (first
    | with_reducible assumption
    | with_reducible apply Dev.updLp_sound
    | with_reducible apply Dev.txAgain_sound
    | with_reducible apply Dev.openTxn_sound
    | intro _
    | with_reducible refine Dev.sound_snd (by assumption) ?_
    | with_reducible refine Dev.sound_ite (fun _ => ?_) (fun _ => ?_)
    | split)

theorem Dev.spareLocked_sound (port : Nat) (lane : Nat) (h : d.Sound p₀ n₀) :
  (Dev.spareLocked d port lane).Sound p₀ n₀ := by
  unfold Dev.spareLocked
  repeat' (first
    | with_reducible assumption
    | with_reducible apply Dev.each_sound
    | with_reducible apply Dev.lightSpare_sound
    | intro _
    | with_reducible refine Dev.sound_snd (by assumption) ?_
    | with_reducible refine Dev.sound_ite (fun _ => ?_) (fun _ => ?_)
    | split
    | dsimp only)

theorem Dev.closeTx_sound (lp : Nat) (h : d.Sound p₀ n₀) :
  (Dev.closeTx d lp).Sound p₀ n₀ := by
  unfold Dev.closeTx
  repeat' (first
    | with_reducible assumption
    | with_reducible apply Dev.endRotation_sound
    | with_reducible apply Dev.updLp_sound
    | with_reducible apply Dev.showBusy_sound
    | with_reducible apply Dev.nextTodo_sound
    | intro _
    | with_reducible refine Dev.sound_snd (by assumption) ?_
    | split)

theorem Dev.finishTx_sound (lp : Nat) (status : Nat) (h : d.Sound p₀ n₀) :
  (Dev.finishTx d lp status).Sound p₀ n₀ := by
  unfold Dev.finishTx
  repeat' (first
    | with_reducible assumption
    | with_reducible apply Dev.set_sound
    | with_reducible apply Dev.setB_sound
    | with_reducible apply Dev.closeTx_sound
    | with_reducible refine Dev.sound_ite (fun _ => ?_) (fun _ => ?_))

theorem Dev.afterMap_sound (lp : Nat) (h : d.Sound p₀ n₀) :
  (Dev.afterMap d lp).Sound p₀ n₀ := by
  unfold Dev.afterMap
  repeat' (first
    | with_reducible assumption
    | with_reducible apply Dev.linkDown_sound
    | with_reducible apply Dev.showLanes_sound
    | with_reducible refine Dev.sound_ite (fun _ => ?_) (fun _ => ?_))

theorem Dev.movePos_sound (lp : Nat) (lane : Nat) (spare : Nat) (reason : Nat) (rx : Bool) (h : d.Sound p₀ n₀) :
  (Dev.movePos d lp lane spare reason rx).Sound p₀ n₀ := by
  unfold Dev.movePos
  repeat' (first
    | with_reducible assumption
    | with_reducible apply Dev.setRole_sound
    | with_reducible apply Dev.setPos_sound
    | with_reducible apply Dev.updLane_sound
    | intro _
    | with_reducible refine Dev.sound_ite (fun _ => ?_) (fun _ => ?_))

theorem Dev.dropPos_sound (lp : Nat) (lane : Nat) (reason : Nat) (rx : Bool) (h : d.Sound p₀ n₀) :
  (Dev.dropPos d lp lane reason rx).Sound p₀ n₀ := by
  unfold Dev.dropPos
  repeat' (first
    | with_reducible assumption
    | with_reducible apply Dev.setRole_sound
    | with_reducible apply Dev.giveUp_sound
    | with_reducible apply Dev.updLane_sound
    | intro _
    | with_reducible refine Dev.sound_ite (fun _ => ?_) (fun _ => ?_))

theorem Dev.addPos_sound (lp : Nat) (lane : Nat) (rx : Bool) (h : d.Sound p₀ n₀) :
  (Dev.addPos d lp lane rx).Sound p₀ n₀ := by
  unfold Dev.addPos
  repeat' (first
    | with_reducible assumption
    | with_reducible apply Dev.setRole_sound
    | with_reducible apply Dev.setPos_sound
    | with_reducible apply Dev.updLane_sound)

theorem Dev.sendFibre_sound (port : Nat) (op : Nat) (lane : Nat) (reason : Nat) (h : d.Sound p₀ n₀) :
  (Dev.sendFibre d port op lane reason).Sound p₀ n₀ := by
  unfold Dev.sendFibre
  repeat' (first
    | with_reducible assumption
    | with_reducible apply Dev.each_sound
    | with_reducible apply Dev.sendLane_sound
    | intro _
    | with_reducible refine Dev.sound_ite (fun _ => ?_) (fun _ => ?_))

theorem Dev.rxTakeOut_sound (port : Nat) (lane : Nat) (s : Nat) (role : Nat) (reason : Nat) (h : d.Sound p₀ n₀) :
  (Dev.rxTakeOut d port lane s role reason).Sound p₀ n₀ := by
  unfold Dev.rxTakeOut
  repeat' (first
    | with_reducible assumption
    | with_reducible apply Dev.setRole_sound
    | with_reducible apply Dev.updLane_sound
    | with_reducible apply Dev.sendLane_sound
    | with_reducible apply Dev.showLanes_sound
    | intro _
    | with_reducible refine Dev.sound_ite (fun _ => ?_) (fun _ => ?_))

theorem Dev.rxLaneOut_sound (port : Nat) (lane : Nat) (role : Nat) (reason : Nat) (h : d.Sound p₀ n₀) :
  (Dev.rxLaneOut d port lane role reason).Sound p₀ n₀ := by
  unfold Dev.rxLaneOut
  repeat' (first
    | with_reducible assumption
    | with_reducible apply Dev.tryExpel_sound
    | with_reducible apply Dev.forceExpel_sound
    | with_reducible apply Dev.raise_sound
    | with_reducible apply Dev.rxTakeOut_sound
    | with_reducible apply Dev.setRole_sound
    | with_reducible apply Dev.updLane_sound
    | with_reducible apply Dev.sendFibre_sound
    | intro _
    | with_reducible refine Dev.sound_snd (by assumption) ?_
    | with_reducible refine Dev.sound_ite (fun _ => ?_) (fun _ => ?_)
    | split)

theorem Dev.afterLoss_sound (port : Nat) (s : Nat) (h : d.Sound p₀ n₀) :
  (Dev.afterLoss d port s).Sound p₀ n₀ := by
  unfold Dev.afterLoss
  repeat' (first
    | with_reducible assumption
    | with_reducible apply Dev.afterMap_sound
    | with_reducible refine Dev.sound_ite (fun _ => ?_) (fun _ => ?_))

theorem Dev.rxWrongLine_sound (port : Nat) (lane : Nat) (reason : Nat) (h : d.Sound p₀ n₀) :
  (Dev.rxWrongLine d port lane reason).Sound p₀ n₀ := by
  unfold Dev.rxWrongLine
  repeat' (first
    | with_reducible assumption
    | with_reducible apply Dev.count_sound
    | with_reducible apply Dev.setB_sound
    | with_reducible apply Dev.updLane_sound
    | with_reducible apply Dev.rxLaneOut_sound
    | with_reducible apply Dev.ringReacquire_sound
    | with_reducible apply Dev.afterLoss_sound)

theorem Dev.txLaneOut_sound (port : Nat) (lane : Nat) (s : Nat) (h : d.Sound p₀ n₀) :
  (Dev.txLaneOut d port lane s).Sound p₀ n₀ := by
  unfold Dev.txLaneOut
  repeat' (first
    | with_reducible assumption
    | with_reducible apply Dev.setRole_sound
    | with_reducible apply Dev.updLane_sound)

theorem Dev.unqualify_sound (port : Nat) (lane : Nat) (h : d.Sound p₀ n₀) :
  (Dev.unqualify d port lane).Sound p₀ n₀ := by
  unfold Dev.unqualify
  repeat' (first
    | with_reducible assumption
    | with_reducible apply Dev.each_sound
    | with_reducible apply Dev.updLp_sound
    | intro _)

theorem Dev.txWrongLine_sound (port : Nat) (lane : Nat) (h : d.Sound p₀ n₀) :
  (Dev.txWrongLine d port lane).Sound p₀ n₀ := by
  unfold Dev.txWrongLine
  repeat' (first
    | with_reducible assumption
    | with_reducible apply Dev.count_sound
    | with_reducible apply Dev.forceExpel_sound
    | with_reducible apply Dev.raise_sound
    | with_reducible apply Dev.txLaneOut_sound
    | with_reducible apply Dev.txRemove_sound
    | with_reducible apply Dev.afterMap_sound
    | with_reducible apply Dev.unqualify_sound
    | with_reducible refine Dev.sound_ite (fun _ => ?_) (fun _ => ?_))

theorem Dev.lossOfLight_sound (port : Nat) (lane : Nat) (h : d.Sound p₀ n₀) :
  (Dev.lossOfLight d port lane).Sound p₀ n₀ := by
  unfold Dev.lossOfLight
  repeat' (first
    | with_reducible assumption
    | with_reducible apply Dev.setB_sound
    | with_reducible apply Dev.updLane_sound
    | with_reducible apply Dev.ringUnlit_sound
    | with_reducible apply Dev.rxLaneOut_sound
    | with_reducible apply Dev.updLp_sound
    | with_reducible apply Dev.linkDown_sound
    | intro _
    | with_reducible refine Dev.sound_ite (fun _ => ?_) (fun _ => ?_))

theorem Dev.markerLoss_sound (port : Nat) (lane : Nat) (h : d.Sound p₀ n₀) :
  (Dev.markerLoss d port lane).Sound p₀ n₀ := by
  unfold Dev.markerLoss
  repeat' (first
    | with_reducible assumption
    | with_reducible apply Dev.updLane_sound
    | with_reducible apply Dev.setB_sound
    | with_reducible apply Dev.rxWrongLine_sound
    | with_reducible apply Dev.toRetrain_sound
    | with_reducible refine Dev.sound_ite (fun _ => ?_) (fun _ => ?_))

theorem Dev.symbolCheck_sound (port : Nat) (lane : Nat) (errors : Nat) (symbols : Nat) (h : d.Sound p₀ n₀) :
  (Dev.symbolCheck d port lane errors symbols).Sound p₀ n₀ := by
  unfold Dev.symbolCheck
  repeat' (first
    | with_reducible assumption
    | with_reducible apply Dev.add64_sound
    | with_reducible apply Dev.rxLaneOut_sound
    | with_reducible apply Dev.afterMap_sound
    | with_reducible refine Dev.sound_ite (fun _ => ?_) (fun _ => ?_))

theorem Dev.nakLane_sound (lp : Nat) (m : LaneMsg) (status : Nat) (h : d.Sound p₀ n₀) :
  (Dev.nakLane d lp m status).Sound p₀ n₀ := by
  unfold Dev.nakLane
  repeat' (first
    | with_reducible assumption
    | with_reducible apply Dev.answerLane_sound)

theorem Dev.msgSpareLight_sound (lp : Nat) (m : LaneMsg) (h : d.Sound p₀ n₀) :
  (Dev.msgSpareLight d lp m).Sound p₀ n₀ := by
  unfold Dev.msgSpareLight
  repeat' (first
    | with_reducible assumption
    | with_reducible apply Dev.answerLane_sound
    | with_reducible apply Dev.ringPreheat_sound
    | with_reducible refine Dev.sound_ite (fun _ => ?_) (fun _ => ?_))

theorem Dev.laneReturn_sound (port : Nat) (lane : Nat) (h : d.Sound p₀ n₀) :
  (Dev.laneReturn d port lane).Sound p₀ n₀ := by
  unfold Dev.laneReturn
  repeat' (first
    | with_reducible assumption
    | with_reducible apply Dev.setRole_sound
    | with_reducible apply Dev.openTxn_sound
    | intro _
    | with_reducible refine Dev.sound_snd (by assumption) ?_
    | with_reducible refine Dev.sound_ite (fun _ => ?_) (fun _ => ?_)
    | split)

theorem Dev.msgSpareReady_sound (lp : Nat) (m : LaneMsg) (h : d.Sound p₀ n₀) :
  (Dev.msgSpareReady d lp m).Sound p₀ n₀ := by
  unfold Dev.msgSpareReady
  repeat' (first
    | with_reducible assumption
    | with_reducible apply Dev.updLp_sound
    | with_reducible apply Dev.nextTodo_sound
    | with_reducible apply Dev.laneReturn_sound)

theorem Dev.acceptTxn_sound (lp : Nat) (op : Nat) (ack : Nat) (m : LaneMsg) (h : d.Sound p₀ n₀) :
  (Dev.acceptTxn d lp op ack m).Sound p₀ n₀ := by
  unfold Dev.acceptTxn
  repeat' (first
    | with_reducible assumption
    | with_reducible apply Dev.showBusy_sound
    | with_reducible apply Dev.answerLane_sound
    | with_reducible apply Dev.updLp_sound)

theorem Dev.msgMirror_sound (lp : Nat) (m : LaneMsg) (h : d.Sound p₀ n₀) :
  (Dev.msgMirror d lp m).Sound p₀ n₀ := by
  unfold Dev.msgMirror
  repeat' (first
    | with_reducible assumption
    | with_reducible apply Dev.updLp_sound
    | with_reducible apply Dev.nakLane_sound
    | with_reducible apply Dev.acceptTxn_sound
    | intro _
    | with_reducible refine Dev.sound_snd (by assumption) ?_
    | with_reducible refine Dev.sound_ite (fun _ => ?_) (fun _ => ?_)
    | split)

theorem Dev.msgDrop_sound (lp : Nat) (m : LaneMsg) (h : d.Sound p₀ n₀) :
  (Dev.msgDrop d lp m).Sound p₀ n₀ := by
  unfold Dev.msgDrop
  repeat' (first
    | with_reducible assumption
    | with_reducible apply Dev.updLp_sound
    | with_reducible apply Dev.nakLane_sound
    | with_reducible apply Dev.acceptTxn_sound
    | intro _
    | with_reducible refine Dev.sound_snd (by assumption) ?_
    | with_reducible refine Dev.sound_ite (fun _ => ?_) (fun _ => ?_)
    | split)

theorem Dev.msgAdd_sound (lp : Nat) (m : LaneMsg) (h : d.Sound p₀ n₀) :
  (Dev.msgAdd d lp m).Sound p₀ n₀ := by
  unfold Dev.msgAdd
  repeat' (first
    | with_reducible assumption
    | with_reducible apply Dev.updLp_sound
    | with_reducible apply Dev.nakLane_sound
    | with_reducible apply Dev.acceptTxn_sound
    | split)

theorem Dev.msgAck_sound (lp : Nat) (op : Nat) (m : LaneMsg) (h : d.Sound p₀ n₀) :
  (Dev.msgAck d lp op m).Sound p₀ n₀ := by
  unfold Dev.msgAck
  repeat' (first
    | with_reducible assumption
    | with_reducible apply Dev.updLp_sound
    | intro _
    | with_reducible refine Dev.sound_snd (by assumption) ?_
    | with_reducible refine Dev.sound_ite (fun _ => ?_) (fun _ => ?_)
    | split)

theorem Dev.swapDone_sound (lp : Nat) (t : LaneTxn) (h : d.Sound p₀ n₀) :
  (Dev.swapDone d lp t).Sound p₀ n₀ := by
  unfold Dev.swapDone
  repeat' (first
    | with_reducible assumption
    | with_reducible apply Dev.movePos_sound
    | with_reducible apply Dev.lmapBump_sound
    | with_reducible apply Dev.showLanes_sound
    | with_reducible apply Dev.setRole_sound
    | with_reducible apply Dev.updLp_sound
    | intro _
    | with_reducible refine Dev.sound_ite (fun _ => ?_) (fun _ => ?_))

theorem Dev.suspDone_sound (lp : Nat) (t : LaneTxn) (h : d.Sound p₀ n₀) :
  (Dev.suspDone d lp t).Sound p₀ n₀ := by
  unfold Dev.suspDone
  repeat' (first
    | with_reducible assumption
    | with_reducible apply Dev.swapDone_sound
    | with_reducible apply Dev.updLp_sound
    | with_reducible apply Dev.finishTx_sound
    | intro _
    | with_reducible refine Dev.sound_ite (fun _ => ?_) (fun _ => ?_))

theorem Dev.msgSwitchDone_sound (lp : Nat) (m : LaneMsg) (h : d.Sound p₀ n₀) :
  (Dev.msgSwitchDone d lp m).Sound p₀ n₀ := by
  unfold Dev.msgSwitchDone
  repeat' (first
    | with_reducible assumption
    | with_reducible apply Dev.swapDone_sound
    | with_reducible apply Dev.finishTx_sound
    | with_reducible apply Dev.suspDone_sound
    | with_reducible apply Dev.updLp_sound
    | intro _
    | with_reducible refine Dev.sound_snd (by assumption) ?_
    | with_reducible refine Dev.sound_ite (fun _ => ?_) (fun _ => ?_)
    | split)

theorem Dev.selectOut_sound (port : Nat) (lane : Nat) (h : d.Sound p₀ n₀) :
  (Dev.selectOut d port lane).Sound p₀ n₀ := by
  unfold Dev.selectOut
  repeat' (first
    | with_reducible assumption
    | with_reducible apply Dev.txLaneOut_sound
    | with_reducible apply Dev.ringOut_sound
    | with_reducible refine Dev.sound_ite (fun _ => ?_) (fun _ => ?_))

theorem Dev.msgLaneFault_sound (lp : Nat) (m : LaneMsg) (h : d.Sound p₀ n₀) :
  (Dev.msgLaneFault d lp m).Sound p₀ n₀ := by
  unfold Dev.msgLaneFault
  repeat' (first
    | with_reducible assumption
    | with_reducible apply Dev.selectOut_sound
    | with_reducible apply Dev.setRole_sound
    | with_reducible apply Dev.unqualify_sound
    | with_reducible apply Dev.forceExpel_sound
    | with_reducible apply Dev.raise_sound
    | with_reducible apply Dev.txRemove_sound
    | with_reducible apply Dev.afterMap_sound
    | with_reducible refine Dev.sound_ite (fun _ => ?_) (fun _ => ?_))

theorem Dev.msgNak_sound (lp : Nat) (m : LaneMsg) (h : d.Sound p₀ n₀) :
  (Dev.msgNak d lp m).Sound p₀ n₀ := by
  unfold Dev.msgNak
  repeat' (first
    | with_reducible assumption
    | with_reducible apply Dev.finishTx_sound
    | with_reducible apply Dev.updLp_sound
    | intro _
    | with_reducible refine Dev.sound_ite (fun _ => ?_) (fun _ => ?_))

theorem Dev.laneMsg_sound (lp : Nat) (op : Nat) (m : LaneMsg) (h : d.Sound p₀ n₀) :
  (Dev.laneMsg d lp op m).Sound p₀ n₀ := by
  unfold Dev.laneMsg
  repeat' (first
    | with_reducible assumption
    | with_reducible apply Dev.msgSpareLight_sound
    | with_reducible apply Dev.msgSpareReady_sound
    | with_reducible apply Dev.msgMirror_sound
    | with_reducible apply Dev.msgAck_sound
    | with_reducible apply Dev.msgSwitchDone_sound
    | with_reducible apply Dev.msgLaneFault_sound
    | with_reducible apply Dev.msgDrop_sound
    | with_reducible apply Dev.msgAdd_sound
    | with_reducible apply Dev.msgNak_sound
    | split)

theorem Dev.giveUpMsg_sound (lp : Nat) (h : d.Sound p₀ n₀) :
  (Dev.giveUpMsg d lp).Sound p₀ n₀ := by
  unfold Dev.giveUpMsg
  repeat' (first
    | with_reducible assumption
    | with_reducible apply Dev.updLp_sound
    | with_reducible apply Dev.count_sound
    | with_reducible apply Dev.nextTodo_sound
    | intro _
    | with_reducible refine Dev.sound_snd (by assumption) ?_
    | split
    | dsimp only)

theorem Dev.lanectlTimeout_sound (lp : Nat) (h : d.Sound p₀ n₀) :
  (Dev.lanectlTimeout d lp).Sound p₀ n₀ := by
  unfold Dev.lanectlTimeout
  repeat' (first
    | with_reducible assumption
    | with_reducible apply Dev.giveUpMsg_sound
    | with_reducible apply Dev.count_sound
    | with_reducible apply Dev.setB_sound
    | with_reducible apply Dev.closeTx_sound
    | with_reducible refine Dev.sound_snd (by assumption) ?_
    | with_reducible refine Dev.sound_ite (fun _ => ?_) (fun _ => ?_)
    | split
    | dsimp only)

theorem Dev.rxSwitch_sound (lp : Nat) (t : LaneTxn) (h : d.Sound p₀ n₀) :
  (Dev.rxSwitch d lp t).Sound p₀ n₀ := by
  unfold Dev.rxSwitch
  repeat' (first
    | with_reducible assumption
    | with_reducible apply Dev.showLanes_sound
    | with_reducible apply Dev.movePos_sound
    | with_reducible apply Dev.updLane_sound
    | with_reducible apply Dev.showBusy_sound
    | with_reducible apply Dev.updLp_sound
    | with_reducible refine Dev.sound_ite_snd (fun _ => ?_) (fun _ => ?_)
    | with_reducible refine Dev.sound_ite (fun _ => ?_) (fun _ => ?_))

theorem Dev.mirrorBegin_sound (lp : Nat) (h : d.Sound p₀ n₀) :
  (Dev.mirrorBegin d lp).Sound p₀ n₀ := by
  unfold Dev.mirrorBegin
  repeat' (first
    | with_reducible assumption
    | with_reducible apply Dev.updLp_sound
    | with_reducible apply Dev.rxSwitch_sound
    | intro _
    | with_reducible refine Dev.sound_snd (by assumption) ?_
    | with_reducible refine Dev.sound_ite (fun _ => ?_) (fun _ => ?_)
    | split
    | dsimp only)

theorem Dev.mirrorSwitch_sound (lp : Nat) (h : d.Sound p₀ n₀) :
  (Dev.mirrorSwitch d lp).Sound p₀ n₀ := by
  unfold Dev.mirrorSwitch
  repeat' (first
    | with_reducible assumption
    | with_reducible apply Dev.rxSwitch_sound
    | split)

theorem Dev.rxApply_sound (lp : Nat) (op : Nat) (f : Dev → LaneTxn → Dev) (h : d.Sound p₀ n₀) (hf : ∀ e y0, Dev.Sound p₀ n₀ e → (f e y0).Sound p₀ n₀) :
  (Dev.rxApply d lp op f).Sound p₀ n₀ := by
  unfold Dev.rxApply
  repeat' (first
    | with_reducible assumption
    | with_reducible apply hf
    | with_reducible apply Dev.showBusy_sound
    | with_reducible apply Dev.updLp_sound
    | split)

theorem Dev.txApply_sound (lp : Nat) (op : Nat) (f : Dev → LaneTxn → Dev) (h : d.Sound p₀ n₀) (hf : ∀ e y0, Dev.Sound p₀ n₀ e → (f e y0).Sound p₀ n₀) :
  (Dev.txApply d lp op f).Sound p₀ n₀ := by
  unfold Dev.txApply
  repeat' (first
    | with_reducible assumption
    | with_reducible apply hf
    | with_reducible apply Dev.lmapBump_sound
    | with_reducible apply Dev.finishTx_sound
    | with_reducible refine Dev.sound_snd (by assumption) ?_
    | with_reducible refine Dev.sound_ite (fun _ => ?_) (fun _ => ?_)
    | split)

theorem Dev.dropApply_sound (lp : Nat) (h : d.Sound p₀ n₀) :
  (Dev.dropApply d lp).Sound p₀ n₀ := by
  unfold Dev.dropApply
  repeat' (first
    | with_reducible assumption
    | with_reducible apply Dev.rxApply_sound
    | with_reducible apply Dev.dropPos_sound
    | with_reducible apply Dev.txApply_sound
    | with_reducible apply Dev.afterMap_sound
    | intro _)

theorem Dev.addApply_sound (lp : Nat) (h : d.Sound p₀ n₀) :
  (Dev.addApply d lp).Sound p₀ n₀ := by
  unfold Dev.addApply
  repeat' (first
    | with_reducible assumption
    | with_reducible apply Dev.rxApply_sound
    | with_reducible apply Dev.addPos_sound
    | with_reducible apply Dev.txApply_sound
    | with_reducible apply Dev.afterMap_sound
    | intro _)

theorem Dev.swapCmd_sound (port : Nat) (action : Nat) (lane : Nat) (spare : Nat) (h : d.Sound p₀ n₀) :
  (Dev.swapCmd d port action lane spare).Sound p₀ n₀ := by
  unfold Dev.swapCmd
  extract_lets d1 refuse sub
  have h1 : d1.Sound p₀ n₀ := Dev.wr_sound _ _ _ _ h
  clear_value d1
  have h2 : ∀ st, (refuse st).Sound p₀ n₀ := fun st => Dev.setB_sound _ _ _ (Dev.set_sound _ _ _ h1)
  clear_value refuse sub
  split
  · exact h2 3
  · refine Dev.sound_ite (fun _ => h2 3) (fun _ => Dev.sound_ite (fun _ => h2 4) (fun _ => ?_))
    exact Dev.openTxn_sound _ _ _ _ _ _ h1

end Sys2Proof.Machine
end

