-- ==== Sys2Proof/Laws/SoundFlits.lean ====
section
/-! SUPPORT. Every operation of Machine/Flits.lean keeps the device sound (Safety.lean): one lemma per operation. -/
namespace Sys2Proof.Machine

variable {p₀ : List Out} {n₀ : Nat} {d : Dev}

theorem Dev.trainMap_sound (lp : Nat) (rx : Bool) (ok : List Nat) (h : d.Sound p₀ n₀) :
  (Dev.trainMap d lp rx ok).Sound p₀ n₀ := by
  unfold Dev.trainMap
  repeat' (first
    | with_reducible assumption
    | with_reducible apply Dev.each_sound
    | with_reducible apply Dev.movePos_sound
    | with_reducible apply Dev.dropPos_sound
    | with_reducible apply Dev.lmapBump_sound
    | intro _
    | with_reducible refine Dev.sound_snd (by assumption) ?_
    | with_reducible refine Dev.sound_ite (fun _ => ?_) (fun _ => ?_)
    | split
    | dsimp only)

theorem Dev.takeAck_sound (lp : Nat) (ack : Nat) (h : d.Sound p₀ n₀) :
  (Dev.takeAck d lp ack).Sound p₀ n₀ := by
  unfold Dev.takeAck
  repeat' (first
    | with_reducible assumption
    | with_reducible apply Dev.updLp_sound
    | split
    | with_reducible refine Dev.sound_mk ?_ rfl rfl rfl)

theorem Dev.enterActive_sound (lp : Nat) (h : d.Sound p₀ n₀) :
  (Dev.enterActive d lp).Sound p₀ n₀ := by
  unfold Dev.enterActive
  repeat' (first
    | with_reducible assumption
    | with_reducible apply Dev.lpGo_sound
    | with_reducible apply Dev.showLanes_sound
    | with_reducible apply Dev.count_sound
    | with_reducible apply Dev.pulse_sound
    | with_reducible apply Dev.updLp_sound
    | with_reducible apply Dev.showBusy_sound
    | with_reducible apply Dev.nextTodo_sound
    | intro _
    | with_reducible refine Dev.sound_ite (fun _ => ?_) (fun _ => ?_)
    | split
    | dsimp only)

theorem Dev.trainDone_sound (lp : Nat) (h : d.Sound p₀ n₀) :
  (Dev.trainDone d lp).Sound p₀ n₀ := by
  unfold Dev.trainDone
  repeat' (first
    | with_reducible assumption
    | with_reducible apply Dev.trainMap_sound
    | with_reducible apply Dev.linkDown_sound
    | with_reducible apply Dev.setB_sound
    | with_reducible apply Dev.updLp_sound
    | with_reducible apply Dev.takeAck_sound
    | with_reducible apply Dev.flushBits_sound
    | with_reducible apply Dev.sendMarkers_sound
    | with_reducible apply Dev.enterActive_sound
    | intro _
    | with_reducible refine Dev.sound_ite (fun _ => ?_) (fun _ => ?_)
    | split
    | dsimp only)

theorem Dev.takeTrain_sound (lp : Nat) (t : List Byte) (h : d.Sound p₀ n₀) :
  (Dev.takeTrain d lp t).Sound p₀ n₀ := by
  unfold Dev.takeTrain
  repeat' (first
    | with_reducible assumption
    | with_reducible apply Dev.setB_sound
    | with_reducible apply Dev.linkDown_sound
    | with_reducible apply Dev.wr_sound
    | with_reducible apply Dev.trainDone_sound
    | with_reducible apply Dev.updLp_sound
    | with_reducible refine Dev.sound_ite (fun _ => ?_) (fun _ => ?_))

theorem Dev.ringCommission_sound (x : Nat) (h : d.Sound p₀ n₀) :
  (Dev.ringCommission d x).Sound p₀ n₀ := by
  unfold Dev.ringCommission
  repeat' (first
    | with_reducible assumption
    | with_reducible apply Dev.set_sound
    | with_reducible refine Dev.sound_ite (fun _ => ?_) (fun _ => ?_))

theorem Dev.markersGood_sound (port : Nat) (lane : Nat) (h : d.Sound p₀ n₀) :
  (Dev.markersGood d port lane).Sound p₀ n₀ := by
  unfold Dev.markersGood
  repeat' (first
    | with_reducible assumption
    | with_reducible apply Dev.ringCommission_sound
    | with_reducible apply Dev.updRing_sound
    | with_reducible refine Dev.sound_ite (fun _ => ?_) (fun _ => ?_))

theorem Dev.spareQualified_sound (port : Nat) (lane : Nat) (h : d.Sound p₀ n₀) :
  (Dev.spareQualified d port lane).Sound p₀ n₀ := by
  unfold Dev.spareQualified
  repeat' (first
    | with_reducible assumption
    | with_reducible apply Dev.setRole_sound
    | with_reducible apply Dev.each_sound
    | with_reducible apply Dev.updLp_sound
    | intro _
    | with_reducible refine Dev.sound_ite (fun _ => ?_) (fun _ => ?_)
    | split
    | dsimp only)

theorem Dev.countMarker_sound (i : Nat) (kind : Nat) (mirrorOf : Nat) (h : d.Sound p₀ n₀) :
  (Dev.countMarker d i kind mirrorOf).Sound p₀ n₀ := by
  unfold Dev.countMarker
  repeat' (first
    | with_reducible assumption
    | with_reducible apply Dev.updLane_sound
    | with_reducible apply Dev.draw_sound
    | with_reducible apply Dev.set_sound
    | intro _
    | with_reducible refine Dev.sound_snd (by assumption) ?_
    | with_reducible refine Dev.sound_ite (fun _ => ?_) (fun _ => ?_)
    | split
    | dsimp only)

theorem Dev.numberCw_sound (lp : Nat) (m : Nat) (h : d.Sound p₀ n₀) :
  (Dev.numberCw d lp m).Sound p₀ n₀ := by
  unfold Dev.numberCw
  repeat' (first
    | with_reducible assumption
    | with_reducible apply Dev.updLp_sound
    | intro _)

theorem Dev.zeroMarker_sound (lp : Nat) (h : d.Sound p₀ n₀) :
  (Dev.zeroMarker d lp).Sound p₀ n₀ := by
  unfold Dev.zeroMarker
  repeat' (first
    | with_reducible assumption
    | with_reducible apply Dev.enterActive_sound
    | with_reducible apply Dev.updLp_sound
    | intro _
    | with_reducible refine Dev.sound_ite (fun _ => ?_) (fun _ => ?_)
    | split)

theorem Dev.goodMarker_sound (port : Nat) (lane : Nat) (m : Nat) (prbsOk : Bool) (h : d.Sound p₀ n₀) :
  (Dev.goodMarker d port lane m prbsOk).Sound p₀ n₀ := by
  unfold Dev.goodMarker
  repeat' (first
    | with_reducible assumption
    | with_reducible apply Dev.setB_sound
    | with_reducible apply Dev.updLane_sound
    | with_reducible apply Dev.markersGood_sound
    | with_reducible apply Dev.spareQualified_sound
    | with_reducible apply Dev.countMarker_sound
    | with_reducible apply Dev.numberCw_sound
    | with_reducible apply Dev.zeroMarker_sound
    | intro _
    | with_reducible refine Dev.sound_ite (fun _ => ?_) (fun _ => ?_)
    | split
    | dsimp only)

theorem Dev.laneMarker_sound (port : Nat) (lane : Nat) (m : Nat) (prbsOk : Bool) (h : d.Sound p₀ n₀) :
  (Dev.laneMarker d port lane m prbsOk).Sound p₀ n₀ := by
  unfold Dev.laneMarker
  repeat' (first
    | with_reducible assumption
    | with_reducible apply Dev.setB_sound
    | with_reducible apply Dev.count_sound
    | with_reducible apply Dev.set_sound
    | with_reducible apply Dev.ringFail_sound
    | with_reducible apply Dev.rxWrongLine_sound
    | with_reducible apply Dev.goodMarker_sound
    | with_reducible refine Dev.sound_ite (fun _ => ?_) (fun _ => ?_)
    | split
    | dsimp only)

theorem Dev.startReplay_sound (lp : Nat) (h : d.Sound p₀ n₀) :
  (Dev.startReplay d lp).Sound p₀ n₀ := by
  unfold Dev.startReplay
  repeat' (first
    | with_reducible assumption
    | with_reducible apply Dev.pulse_sound
    | with_reducible apply Dev.toRetrain_sound
    | with_reducible apply Dev.count_sound
    | with_reducible apply Dev.updLp_sound
    | with_reducible refine Dev.sound_ite (fun _ => ?_) (fun _ => ?_))

theorem Dev.replayReq_sound (lp : Nat) (ack : Nat) (h : d.Sound p₀ n₀) :
  (Dev.replayReq d lp ack).Sound p₀ n₀ := by
  unfold Dev.replayReq
  repeat' (first
    | with_reducible assumption
    | with_reducible apply Dev.startReplay_sound
    | with_reducible apply Dev.takeAck_sound)

theorem Dev.receiverTimeout_sound (lp : Nat) (h : d.Sound p₀ n₀) :
  (Dev.receiverTimeout d lp).Sound p₀ n₀ := by
  unfold Dev.receiverTimeout
  repeat' (first
    | with_reducible assumption
    | with_reducible apply Dev.updLp_sound
    | with_reducible refine Dev.sound_ite (fun _ => ?_) (fun _ => ?_))

theorem Dev.flitHeader_sound (lp : Nat) (f : List Byte) (h : d.Sound p₀ n₀) :
  (Dev.flitHeader d lp f).Sound p₀ n₀ := by
  unfold Dev.flitHeader
  repeat' (first
    | with_reducible assumption
    | with_reducible apply Dev.updLp_sound
    | with_reducible apply Dev.takeAck_sound
    | with_reducible apply Dev.startReplay_sound
    | with_reducible refine Dev.sound_ite (fun _ => ?_) (fun _ => ?_))

theorem Dev.askReplay_sound (lp : Nat) (h : d.Sound p₀ n₀) :
  (Dev.askReplay d lp).Sound p₀ n₀ := by
  unfold Dev.askReplay
  repeat' (first
    | with_reducible assumption
    | with_reducible apply Dev.updLp_sound)

theorem Dev.rxPut_sound (lp : Nat) (cls : Nat) (r : RxStream) (h : d.Sound p₀ n₀) :
  (Dev.rxPut d lp cls r).Sound p₀ n₀ := by
  unfold Dev.rxPut
  repeat' (first
    | with_reducible assumption
    | with_reducible apply Dev.updLp_sound
    | intro _)

theorem Dev.rxPush_sound (lp : Nat) (cls : Nat) (stamp : Nat) (b : List Byte) (h : d.Sound p₀ n₀) :
  (Dev.rxPush d lp cls stamp b).Sound p₀ n₀ := by
  unfold Dev.rxPush
  repeat' (first
    | with_reducible assumption
    | with_reducible apply Dev.updLp_sound
    | intro _)

theorem Dev.rxRefund_sound (lp : Nat) (cls : Nat) (b : List Byte) (n : Nat) (h : d.Sound p₀ n₀) :
  (Dev.rxRefund d lp cls b n).Sound p₀ n₀ := by
  unfold Dev.rxRefund
  repeat' (first
    | with_reducible assumption
    | with_reducible apply Dev.returnCredit_sound)

theorem Dev.rxFirst_sound (lp : Nat) (cls : Nat) (h : d.Sound p₀ n₀) :
  (Dev.rxFirst d lp cls).Sound p₀ n₀ := by
  unfold Dev.rxFirst
  repeat' (first
    | with_reducible assumption
    | with_reducible apply Dev.rxRefund_sound
    | with_reducible apply Dev.rxPut_sound
    | with_reducible apply Dev.count_sound
    | with_reducible apply Dev.rxCut_sound
    | with_reducible refine Dev.sound_ite (fun _ => ?_) (fun _ => ?_)
    | split
    | dsimp only)

theorem Dev.rxCells_sound (lp : Nat) (cls : Nat) (l : List Nat) (stamp : Nat) (old : Nat) (buf : List Byte) (len : Nat) (h : d.Sound p₀ n₀) :
  (Dev.rxCells d lp cls l stamp old buf len).Sound p₀ n₀ := by
  unfold Dev.rxCells
  repeat' (first
    | with_reducible assumption
    | with_reducible apply Dev.count_sound
    | with_reducible apply Dev.each_sound
    | with_reducible apply Dev.refundRx_sound
    | with_reducible apply Dev.laterCell_sound
    | intro _
    | with_reducible refine Dev.sound_ite (fun _ => ?_) (fun _ => ?_)
    | split
    | dsimp only)

theorem Dev.rxWord_sound (lp : Nat) (cls : Nat) (w : List Byte) (h : d.Sound p₀ n₀) :
  (Dev.rxWord d lp cls w).Sound p₀ n₀ := by
  unfold Dev.rxWord
  repeat' (first
    | with_reducible assumption
    | with_reducible apply Dev.rxPut_sound
    | with_reducible apply Dev.rxPush_sound
    | with_reducible apply Dev.rxCells_sound
    | with_reducible refine Dev.sound_snd (by assumption) ?_
    | with_reducible refine Dev.sound_ite (fun _ => ?_) (fun _ => ?_)
    | split
    | dsimp only)

theorem Dev.rxPayload_sound (lp : Nat) (f : List Byte) (h : d.Sound p₀ n₀) :
  (Dev.rxPayload d lp f).Sound p₀ n₀ := by
  unfold Dev.rxPayload
  repeat' (first
    | with_reducible assumption
    | with_reducible apply Dev.each_sound
    | with_reducible apply Dev.rxFirst_sound
    | with_reducible apply Dev.rxWord_sound
    | intro _
    | with_reducible refine Dev.sound_ite (fun _ => ?_) (fun _ => ?_)
    | split
    | dsimp only)

theorem Dev.codewords_sound (lp : Nat) (l : List (Fin 16)) (bad : Bool) (h : d.Sound p₀ n₀) :
  (Dev.codewords d lp l bad).Sound p₀ n₀ := by
  unfold Dev.codewords
  repeat' (first
    | with_reducible assumption
    | with_reducible apply Dev.addWrap64_sound
    | with_reducible apply Dev.updLp_sound
    | with_reducible apply Dev.add64_sound
    | with_reducible apply Dev.each_sound
    | with_reducible apply Dev.count_sound
    | with_reducible apply Dev.pulse_sound
    | intro _
    | with_reducible refine Dev.sound_ite (fun _ => ?_) (fun _ => ?_)
    | split
    | dsimp only)

theorem Dev.withCodeword_sound (lp : Nat) (bad : Bool) (corrected : List (Fin 16)) (f : Dev → Bool → List (Fin 16) → Dev) (h : d.Sound p₀ n₀) (hf : ∀ e y0 y1, Dev.Sound p₀ n₀ e → (f e y0 y1).Sound p₀ n₀) :
  (Dev.withCodeword d lp bad corrected f).Sound p₀ n₀ := by
  unfold Dev.withCodeword
  repeat' (first
    | with_reducible assumption
    | with_reducible apply hf
    | with_reducible apply Dev.updBur_sound
    | with_reducible apply Dev.flagFrom_sound
    | split)

theorem Dev.dataFlit_sound (lp : Nat) (f : List Byte) (bad : Bool) (corrected : List (Fin 16)) (h : d.Sound p₀ n₀) :
  (Dev.dataFlit d lp f bad corrected).Sound p₀ n₀ := by
  unfold Dev.dataFlit
  repeat' (first
    | with_reducible assumption
    | with_reducible apply Dev.codewords_sound
    | with_reducible apply Dev.askReplay_sound
    | with_reducible apply Dev.count_sound
    | with_reducible apply Dev.flitHeader_sound
    | with_reducible apply Dev.addWrap64_sound
    | with_reducible apply Dev.updLp_sound
    | with_reducible apply Dev.rxPayload_sound
    | intro _
    | with_reducible refine Dev.sound_ite (fun _ => ?_) (fun _ => ?_)
    | split
    | dsimp only)

theorem Dev.linkControl_sound (lp : Nat) (f : List Byte) (bad : Bool) (corrected : List (Fin 16)) (h : d.Sound p₀ n₀) :
  (Dev.linkControl d lp f bad corrected).Sound p₀ n₀ := by
  unfold Dev.linkControl
  repeat' (first
    | with_reducible assumption
    | with_reducible apply Dev.codewords_sound
    | with_reducible apply Dev.count_sound
    | with_reducible apply Dev.updLp_sound
    | with_reducible apply Dev.flitHeader_sound
    | with_reducible apply Dev.takeTrain_sound
    | with_reducible apply Dev.laneMsg_sound
    | intro _
    | with_reducible refine Dev.sound_snd (by assumption) ?_
    | with_reducible refine Dev.sound_ite (fun _ => ?_) (fun _ => ?_)
    | split
    | dsimp only)

theorem Dev.fastReacquire_sound (lp : Nat) (within1us : Bool) (h : d.Sound p₀ n₀) :
  (Dev.fastReacquire d lp within1us).Sound p₀ n₀ := by
  unfold Dev.fastReacquire
  repeat' (first
    | with_reducible assumption
    | with_reducible apply Dev.updLp_sound
    | with_reducible apply Dev.enterActive_sound
    | intro _
    | with_reducible refine Dev.sound_ite (fun _ => ?_) (fun _ => ?_)
    | split)

theorem Dev.sendFlit_sound (lp : Nat) (ty : Nat) (replay : Nat) (cls : Nat) (first : Nat) (fill : Nat) (seq : Nat) (payload : List Byte) (h : d.Sound p₀ n₀) :
  (Dev.sendFlit d lp ty replay cls first fill seq payload).Sound p₀ n₀ := by
  unfold Dev.sendFlit
  repeat' (first
    | with_reducible assumption
    | with_reducible apply Dev.addWrap64_sound
    | with_reducible apply Dev.emit_sound
    | with_reducible apply Dev.updLp_sound
    | with_reducible apply Dev.sendBits_sound
    | intro _
    | with_reducible refine Dev.sound_ite (fun _ => ?_) (fun _ => ?_)
    | split
    | dsimp only)

theorem Dev.sendControl_sound (lp : Nat) (h : d.Sound p₀ n₀) :
  (Dev.sendControl d lp).Sound p₀ n₀ := by
  unfold Dev.sendControl
  repeat' (first
    | with_reducible assumption
    | with_reducible apply Dev.sendFlit_sound
    | with_reducible apply Dev.updLp_sound
    | with_reducible apply Dev.trainDone_sound
    | with_reducible refine Dev.sound_ite (fun _ => ?_) (fun _ => ?_))

theorem Dev.leaveUpTo_sound (fid : Nat) (off : Nat) (x1 : Nat) (h : d.Sound p₀ n₀) :
  (Dev.leaveUpTo d fid off x1).Sound p₀ n₀ := by
  induction x1 generalizing d fid off with
  | zero => exact h
  | succ k ih =>
    unfold Dev.leaveUpTo
    dsimp only
    repeat' (first
      | with_reducible assumption
      | with_reducible apply ih
      | with_reducible apply Dev.cellLeave_sound
      | split)

theorem Dev.startFrame_sound (lp : Nat) (f : Frm) (h : d.Sound p₀ n₀) :
  (Dev.startFrame d lp f).Sound p₀ n₀ := by
  unfold Dev.startFrame
  repeat' (first
    | with_reducible assumption
    | with_reducible apply Dev.updLp_sound
    | with_reducible apply Dev.pulse_sound
    | with_reducible apply Dev.coatPut_sound
    | with_reducible refine Dev.sound_ite (fun _ => ?_) (fun _ => ?_))

theorem Dev.fillFlit_sound (lp : Nat) (cls : Nat) (pay : List Byte) (first : Nat) (starts : Nat) (x1 : Nat) (h : d.Sound p₀ n₀) :
  (Dev.fillFlit d lp cls pay first starts x1).1.Sound p₀ n₀ := by
  induction x1 generalizing d lp cls pay first starts with
  | zero => exact h
  | succ k ih =>
    unfold Dev.fillFlit
    dsimp only
    repeat' (first
      | with_reducible assumption
      | with_reducible apply ih
      | with_reducible apply Dev.startFrame_sound
      | with_reducible apply Dev.leaveUpTo_sound
      | with_reducible apply Dev.updQueue_sound
      | with_reducible apply Dev.delFrm_sound
      | split)

theorem Dev.countWaits_sound (lp : Nat) (h : d.Sound p₀ n₀) :
  (Dev.countWaits d lp).Sound p₀ n₀ := by
  unfold Dev.countWaits
  repeat' (first
    | with_reducible assumption
    | with_reducible apply Dev.each_sound
    | with_reducible apply Dev.count_sound
    | intro _
    | with_reducible refine Dev.sound_snd (by assumption) ?_
    | with_reducible refine Dev.sound_ite (fun _ => ?_) (fun _ => ?_)
    | split)

theorem Dev.creditStall_sound (n : Nat) (h : d.Sound p₀ n₀) :
  (Dev.creditStall d n).Sound p₀ n₀ := by
  unfold Dev.creditStall
  repeat' (first
    | with_reducible assumption
    | with_reducible apply Dev.each_sound
    | with_reducible apply Dev.add_sound
    | intro _
    | with_reducible refine Dev.sound_ite (fun _ => ?_) (fun _ => ?_)
    | split
    | dsimp only)

theorem Dev.sendIdle_sound (lp : Nat) (h : d.Sound p₀ n₀) :
  (Dev.sendIdle d lp).Sound p₀ n₀ := by
  unfold Dev.sendIdle
  repeat' (first
    | with_reducible assumption
    | with_reducible apply Dev.sendFlit_sound)

theorem Dev.sendData_sound (lp : Nat) (cls : Nat) (h : d.Sound p₀ n₀) :
  (Dev.sendData d lp cls).Sound p₀ n₀ := by
  unfold Dev.sendData
  repeat' (first
    | with_reducible assumption
    | with_reducible apply Dev.fillFlit_sound
    | with_reducible apply Dev.shaperDebit_sound
    | with_reducible apply Dev.updQueue_sound
    | with_reducible apply Dev.sendFlit_sound
    | with_reducible apply Dev.updLp_sound)

theorem Dev.dataSlot_sound (lp : Nat) (h : d.Sound p₀ n₀) :
  (Dev.dataSlot d lp).Sound p₀ n₀ := by
  unfold Dev.dataSlot
  repeat' (first
    | with_reducible assumption
    | with_reducible apply Dev.sendFlit_sound
    | with_reducible apply Dev.count_sound
    | with_reducible apply Dev.updQueue_sound
    | with_reducible apply Dev.updLp_sound
    | with_reducible apply Dev.sendIdle_sound
    | with_reducible apply Dev.countWaits_sound
    | with_reducible apply Dev.schedPick_sound
    | with_reducible apply Dev.sendData_sound
    | intro _
    | with_reducible refine Dev.sound_snd (by assumption) ?_
    | with_reducible refine Dev.sound_ite (fun _ => ?_) (fun _ => ?_)
    | split
    | dsimp only)

theorem Dev.nextFlitSlot_sound (lp : Nat) (training : Bool) (h : d.Sound p₀ n₀) :
  (Dev.nextFlitSlot d lp training).Sound p₀ n₀ := by
  unfold Dev.nextFlitSlot
  repeat' (first
    | with_reducible assumption
    | with_reducible apply Dev.updLp_sound
    | with_reducible apply Dev.sendMarkers_sound
    | with_reducible refine Dev.sound_ite (fun _ => ?_) (fun _ => ?_))

theorem Dev.trainSlot_sound (lp : Nat) (h : d.Sound p₀ n₀) :
  (Dev.trainSlot d lp).Sound p₀ n₀ := by
  unfold Dev.trainSlot
  repeat' (first
    | with_reducible assumption
    | with_reducible apply Dev.sendControl_sound
    | with_reducible apply Dev.nextFlitSlot_sound
    | with_reducible refine Dev.sound_ite (fun _ => ?_) (fun _ => ?_)
    | split
    | dsimp only)

theorem Dev.egressSlot_sound (lp : Nat) (h : d.Sound p₀ n₀) :
  (Dev.egressSlot d lp).Sound p₀ n₀ := by
  unfold Dev.egressSlot
  repeat' (first
    | with_reducible assumption
    | with_reducible apply Dev.updLp_sound
    | with_reducible apply Dev.trainSlot_sound
    | with_reducible apply Dev.sendControl_sound
    | with_reducible apply Dev.dataSlot_sound
    | with_reducible apply Dev.nextFlitSlot_sound
    | with_reducible apply Dev.flushBits_sound
    | with_reducible apply Dev.sendIdle_sound
    | intro _
    | with_reducible refine Dev.sound_snd (by assumption) ?_
    | with_reducible refine Dev.sound_ite (fun _ => ?_) (fun _ => ?_)
    | split
    | dsimp only)

end Sys2Proof.Machine
end

