-- ==== Sys2Proof/Laws/SoundOe.lean ====
section
/-! SUPPORT. Every operation of Machine/Oe.lean keeps the device sound (Safety.lean): one lemma per operation. -/
namespace Sys2Proof.Machine

variable {p₀ : List Out} {n₀ : Nat} {d : Dev}

theorem Dev.lockin_sound (x : Nat) (o : LockinObs) (h : d.Sound p₀ n₀) :
  (Dev.lockin d x o).Sound p₀ n₀ := by
  unfold Dev.lockin
  repeat' (first
    | with_reducible assumption
    | with_reducible apply Dev.set_sound
    | with_reducible apply Dev.updRing_sound
    | with_reducible apply Dev.setHeater_sound
    | with_reducible apply Dev.ringGo_sound
    | with_reducible apply Dev.spareLocked_sound
    | with_reducible apply Dev.setB_sound
    | with_reducible apply Dev.count_sound
    | with_reducible apply Dev.raise_sound
    | intro _
    | with_reducible refine Dev.sound_ite (fun _ => ?_) (fun _ => ?_)
    | split
    | dsimp only)

theorem Dev.windowEval_sound (x : Nat) (temp : Nat) (h : d.Sound p₀ n₀) :
  (Dev.windowEval d x temp).Sound p₀ n₀ := by
  unfold Dev.windowEval
  repeat' (first
    | with_reducible assumption
    | with_reducible apply Dev.updRing_sound
    | with_reducible apply Dev.setHeater_sound
    | with_reducible apply Dev.setB_sound
    | with_reducible apply Dev.rxWrongLine_sound
    | with_reducible apply Dev.ringReacquire_sound
    | with_reducible apply Dev.txWrongLine_sound
    | with_reducible refine Dev.sound_ite (fun _ => ?_) (fun _ => ?_))

theorem Dev.preheatDone_sound (x : Nat) (h : d.Sound p₀ n₀) :
  (Dev.preheatDone d x).Sound p₀ n₀ := by
  unfold Dev.preheatDone
  repeat' (first
    | with_reducible assumption
    | with_reducible apply Dev.ringSweep_sound
    | with_reducible refine Dev.sound_ite (fun _ => ?_) (fun _ => ?_))

theorem Dev.sweepDone_sound (x : Nat) (o : SweepObs) (h : d.Sound p₀ n₀) :
  (Dev.sweepDone d x o).Sound p₀ n₀ := by
  unfold Dev.sweepDone
  repeat' (first
    | with_reducible assumption
    | with_reducible apply Dev.updRing_sound
    | with_reducible apply Dev.set_sound
    | with_reducible apply Dev.setHeater_sound
    | with_reducible apply Dev.ringGo_sound
    | with_reducible apply Dev.ringFail_sound
    | with_reducible refine Dev.sound_ite (fun _ => ?_) (fun _ => ?_))

theorem Dev.captureTimeout_sound (x : Nat) (h : d.Sound p₀ n₀) :
  (Dev.captureTimeout d x).Sound p₀ n₀ := by
  unfold Dev.captureTimeout
  repeat' (first
    | with_reducible assumption
    | with_reducible apply Dev.ringFail_sound
    | with_reducible refine Dev.sound_ite (fun _ => ?_) (fun _ => ?_))

theorem Dev.outRetry_sound (x : Nat) (h : d.Sound p₀ n₀) :
  (Dev.outRetry d x).Sound p₀ n₀ := by
  unfold Dev.outRetry
  repeat' (first
    | with_reducible assumption
    | with_reducible apply Dev.ringSweep_sound
    | with_reducible refine Dev.sound_ite (fun _ => ?_) (fun _ => ?_))

theorem Dev.reacqTimeout_sound (port : Nat) (lane : Nat) (h : d.Sound p₀ n₀) :
  (Dev.reacqTimeout d port lane).Sound p₀ n₀ := by
  unfold Dev.reacqTimeout
  repeat' (first
    | with_reducible assumption
    | with_reducible apply Dev.ringFail_sound
    | with_reducible refine Dev.sound_ite (fun _ => ?_) (fun _ => ?_))

theorem Dev.failExpire_sound (x : Nat) (h : d.Sound p₀ n₀) :
  (Dev.failExpire d x).Sound p₀ n₀ := by
  unfold Dev.failExpire
  repeat' (first
    | with_reducible assumption
    | with_reducible apply Dev.set_sound)

theorem Dev.modeOut_sound (x : Nat) (h : d.Sound p₀ n₀) :
  (Dev.modeOut d x).Sound p₀ n₀ := by
  unfold Dev.modeOut
  repeat' (first
    | with_reducible assumption
    | with_reducible apply Dev.rxTakeOut_sound
    | with_reducible apply Dev.afterMap_sound
    | with_reducible apply Dev.setRole_sound
    | with_reducible apply Dev.txLaneOut_sound
    | with_reducible apply Dev.txRemove_sound
    | with_reducible apply Dev.unqualify_sound
    | with_reducible refine Dev.sound_ite (fun _ => ?_) (fun _ => ?_)
    | split
    | dsimp only)

theorem Dev.ringModeWrite_sound (x : Nat) (v : Nat) (h : d.Sound p₀ n₀) :
  (Dev.ringModeWrite d x v).Sound p₀ n₀ := by
  unfold Dev.ringModeWrite
  repeat' (first
    | with_reducible assumption
    | with_reducible apply Dev.set_sound
    | with_reducible apply Dev.setHeater_sound
    | with_reducible apply Dev.ringGo_sound
    | with_reducible apply Dev.heldBack_sound
    | with_reducible apply Dev.ringPreheat_sound
    | with_reducible apply Dev.ringHold_sound
    | with_reducible apply Dev.modeOut_sound
    | split
    | with_reducible refine Dev.sound_mk ?_ rfl rfl rfl)

theorem Dev.feedSwitch_sound (oe : Nat) (k : Nat) (stby : Bool) (h : d.Sound p₀ n₀) :
  (Dev.feedSwitch d oe k stby).Sound p₀ n₀ := by
  unfold Dev.feedSwitch
  repeat' (first
    | with_reducible assumption
    | with_reducible apply Dev.raise_sound
    | with_reducible apply Dev.count_sound
    | with_reducible apply Dev.set_sound)

theorem Dev.feedAuto_sound (oe : Nat) (k : Nat) (h : d.Sound p₀ n₀) :
  (Dev.feedAuto d oe k).Sound p₀ n₀ := by
  unfold Dev.feedAuto
  repeat' (first
    | with_reducible assumption
    | with_reducible apply Dev.feedSwitch_sound
    | with_reducible refine Dev.sound_ite (fun _ => ?_) (fun _ => ?_))

theorem Dev.combFail_sound (oe : Nat) (dark : Nat) (h : d.Sound p₀ n₀) :
  (Dev.combFail d oe dark).Sound p₀ n₀ := by
  unfold Dev.combFail
  repeat' (first
    | with_reducible assumption
    | with_reducible apply Dev.setB_sound
    | with_reducible apply Dev.raise_sound
    | with_reducible apply Dev.each_sound
    | with_reducible apply Dev.feedAuto_sound
    | with_reducible refine Dev.sound_ite (fun _ => ?_) (fun _ => ?_)
    | intro _)

theorem Dev.feedReturn_sound (oe : Nat) (k : Nat) (h : d.Sound p₀ n₀) :
  (Dev.feedReturn d oe k).Sound p₀ n₀ := by
  unfold Dev.feedReturn
  repeat' (first
    | with_reducible assumption
    | with_reducible apply Dev.feedSwitch_sound
    | with_reducible refine Dev.sound_ite (fun _ => ?_) (fun _ => ?_))

theorem Dev.feedRet_sound (oe : Nat) (v : Nat) (h : d.Sound p₀ n₀) :
  (Dev.feedRet d oe v).Sound p₀ n₀ := by
  unfold Dev.feedRet
  repeat' (first
    | with_reducible assumption
    | with_reducible apply Dev.each_sound
    | with_reducible apply Dev.feedReturn_sound
    | with_reducible refine Dev.sound_ite (fun _ => ?_) (fun _ => ?_)
    | intro _)

theorem Dev.feedForce_sound (oe : Nat) (v : Nat) (h : d.Sound p₀ n₀) :
  (Dev.feedForce d oe v).Sound p₀ n₀ := by
  unfold Dev.feedForce
  repeat' (first
    | with_reducible assumption
    | with_reducible apply Dev.set_sound
    | with_reducible apply Dev.each_sound
    | with_reducible apply Dev.feedSwitch_sound
    | with_reducible apply Dev.feedReturn_sound
    | with_reducible refine Dev.sound_ite (fun _ => ?_) (fun _ => ?_)
    | intro _)

theorem Dev.showCombS_sound (oe : Nat) (h : d.Sound p₀ n₀) :
  (Dev.showCombS d oe).Sound p₀ n₀ := by
  unfold Dev.showCombS
  repeat' (first
    | with_reducible assumption
    | with_reducible apply Dev.setB_sound)

theorem Dev.toRingLock_sound (oe : Nat) (h : d.Sound p₀ n₀) :
  (Dev.toRingLock d oe).Sound p₀ n₀ := by
  unfold Dev.toRingLock
  repeat' (first
    | with_reducible assumption
    | with_reducible apply Dev.set_sound
    | with_reducible apply Dev.each_sound
    | with_reducible apply Dev.ringPreheat_sound
    | intro _
    | with_reducible refine Dev.sound_ite (fun _ => ?_) (fun _ => ?_)
    | split
    | dsimp only)

theorem Dev.polLock_sound (oe : Nat) (comb : Bool) (k : Nat) (locked : Bool) (rejected : Nat) (h : d.Sound p₀ n₀) :
  (Dev.polLock d oe comb k locked rejected).Sound p₀ n₀ := by
  unfold Dev.polLock
  repeat' (first
    | with_reducible assumption
    | with_reducible apply Dev.set_sound
    | with_reducible apply Dev.setB_sound
    | with_reducible apply Dev.raise_sound
    | with_reducible apply Dev.count_sound
    | with_reducible apply Dev.toRingLock_sound
    | with_reducible apply Dev.showCombS_sound
    | with_reducible refine Dev.sound_ite (fun _ => ?_) (fun _ => ?_))

theorem Dev.fadeSwap_sound (port : Nat) (lane : Nat) (s : Nat) (again : Bool) (h : d.Sound p₀ n₀) :
  (Dev.fadeSwap d port lane s again).Sound p₀ n₀ := by
  unfold Dev.fadeSwap
  repeat' (first
    | with_reducible assumption
    | with_reducible apply Dev.tryExpel_sound
    | with_reducible apply Dev.raise_sound
    | with_reducible apply Dev.txRemove_sound
    | with_reducible refine Dev.sound_snd (by assumption) ?_
    | with_reducible refine Dev.sound_ite (fun _ => ?_) (fun _ => ?_)
    | split
    | dsimp only)

theorem Dev.lineReading_sound (oe : Nat) (k : Nat) (lane : Nat) (power : Nat) (h : d.Sound p₀ n₀) :
  (Dev.lineReading d oe k lane power).Sound p₀ n₀ := by
  unfold Dev.lineReading
  extract_lets port i x s d1 d2 diff l warn act clear d3 d4 d5
  have h1 : d1.Sound p₀ n₀ := Dev.sound_ite (fun _ => Dev.ringCommission_sound _ h) (fun _ => h)
  have h2 : d2.Sound p₀ n₀ := Dev.set_sound _ _ _ h1
  have h3 : d3.Sound p₀ n₀ := Dev.updLane_sound _ _ h2
  have h4 : d4.Sound p₀ n₀ :=
    Dev.sound_ite (fun _ => Dev.raise_sound _ _ _ _ (Dev.setB_sound _ _ _ h3)) (fun _ => h3)
  have h5 : d5.Sound p₀ n₀ := Dev.sound_ite (fun _ => Dev.setB_sound _ _ _ h4) (fun _ => h4)
  clear_value d5 d4 d3 d2 d1
  exact Dev.sound_ite (fun _ => h) (fun _ => Dev.sound_ite (fun _ => Dev.set_sound _ _ _ h2) (fun _ =>
    Dev.sound_ite (fun _ => Dev.fadeSwap_sound _ _ _ _ (Dev.setB_sound _ _ _ h5)) (fun _ => h5)))

theorem Dev.refineTempco_sound (x : Nat) (delta : Int) (h : d.Sound p₀ n₀) :
  (Dev.refineTempco d x delta).Sound p₀ n₀ := by
  unfold Dev.refineTempco
  repeat' (first
    | with_reducible assumption
    | with_reducible apply Dev.set_sound
    | with_reducible apply Dev.updRing_sound
    | intro _
    | with_reducible refine Dev.sound_ite (fun _ => ?_) (fun _ => ?_)
    | split
    | dsimp only)

theorem Dev.calibrate_sound (oe : Nat) (t : CalTask) (k : Nat) (lane : Nat) (o : CalObs) (h : d.Sound p₀ n₀) :
  (Dev.calibrate d oe t k lane o).Sound p₀ n₀ := by
  unfold Dev.calibrate
  repeat' (first
    | with_reducible assumption
    | with_reducible apply Dev.updRing_sound
    | with_reducible apply Dev.raise_sound
    | with_reducible apply Dev.set_sound
    | with_reducible apply Dev.refineTempco_sound
    | with_reducible apply Dev.polLock_sound
    | intro _
    | with_reducible refine Dev.sound_snd (by assumption) ?_
    | with_reducible refine Dev.sound_ite (fun _ => ?_) (fun _ => ?_)
    | split
    | dsimp only)

theorem Dev.rotate_sound (oe : Nat) (h : d.Sound p₀ n₀) :
  (Dev.rotate d oe).Sound p₀ n₀ := by
  unfold Dev.rotate
  repeat' (first
    | with_reducible assumption
    | with_reducible apply Dev.openTxn_sound
    | split
    | with_reducible refine Dev.sound_mk ?_ rfl rfl rfl)

theorem Dev.moduleControl_sound (oe : Nat) (v : Nat) (h : d.Sound p₀ n₀) :
  (Dev.moduleControl d oe v).Sound p₀ n₀ := by
  unfold Dev.moduleControl
  repeat' (first
    | with_reducible assumption
    | with_reducible apply Dev.emit_sound)

theorem Dev.modulePoll_sound (oe : Nat) (m : Bool) (ok : Bool) (_status : Nat) (h : d.Sound p₀ n₀) :
  (Dev.modulePoll d oe m ok _status).Sound p₀ n₀ := by
  unfold Dev.modulePoll
  repeat' (first
    | with_reducible assumption
    | with_reducible apply Dev.set_sound
    | with_reducible apply Dev.moduleControl_sound
    | with_reducible apply Dev.raise_sound
    | with_reducible apply Dev.setB_sound
    | with_reducible apply Dev.count_sound
    | split
    | with_reducible refine Dev.sound_mk ?_ rfl rfl rfl)

theorem Dev.i2cCmd_sound (oe : Nat) (v : Nat) (ok : Bool) (data : Nat) (h : d.Sound p₀ n₀) :
  (Dev.i2cCmd d oe v ok data).Sound p₀ n₀ := by
  unfold Dev.i2cCmd
  repeat' (first
    | with_reducible assumption
    | with_reducible apply Dev.emit_sound
    | with_reducible apply Dev.wr_sound)

theorem Dev.domainRequest_sound (pd : Nat) (h : d.Sound p₀ n₀) :
  (Dev.domainRequest d pd).Sound p₀ n₀ := by
  unfold Dev.domainRequest
  repeat' (first
    | with_reducible assumption
    | with_reducible apply Dev.setB_sound
    | split
    | with_reducible refine Dev.sound_mk ?_ rfl rfl rfl)

theorem Dev.domainOff_sound (pd : Nat) (h : d.Sound p₀ n₀) :
  (Dev.domainOff d pd).Sound p₀ n₀ := by
  unfold Dev.domainOff
  repeat' (first
    | with_reducible assumption
    | with_reducible apply Dev.set_sound
    | with_reducible apply Dev.setB_sound
    | with_reducible refine Dev.sound_mk ?_ rfl rfl rfl)

theorem Dev.sbdPortLost_sound (oe : Nat) (h : d.Sound p₀ n₀) :
  (Dev.sbdPortLost d oe).Sound p₀ n₀ := by
  unfold Dev.sbdPortLost
  repeat' (first
    | with_reducible assumption
    | with_reducible apply Dev.each_sound
    | with_reducible apply Dev.set_sound
    | with_reducible apply Dev.wrWide_sound
    | with_reducible apply Dev.raise_sound
    | intro _
    | with_reducible refine Dev.sound_ite (fun _ => ?_) (fun _ => ?_)
    | split
    | dsimp only
    | with_reducible refine Dev.sound_mk ?_ rfl rfl rfl)

theorem Dev.engineEnable_sound (oe : Nat) (h : d.Sound p₀ n₀) :
  (Dev.engineEnable d oe).Sound p₀ n₀ := by
  unfold Dev.engineEnable
  repeat' (first
    | with_reducible assumption
    | with_reducible apply Dev.count_sound
    | with_reducible apply Dev.domainRequest_sound
    | with_reducible apply Dev.setB_sound
    | with_reducible refine Dev.sound_ite (fun _ => ?_) (fun _ => ?_))

theorem Dev.engineStart_sound (oe : Nat) (h : d.Sound p₀ n₀) :
  (Dev.engineStart d oe).Sound p₀ n₀ := by
  unfold Dev.engineStart
  repeat' (first
    | with_reducible assumption
    | with_reducible apply Dev.each_sound
    | with_reducible apply Dev.setHeater_sound
    | with_reducible apply Dev.set_sound
    | intro _
    | with_reducible refine Dev.sound_ite (fun _ => ?_) (fun _ => ?_)
    | split
    | dsimp only)

theorem Dev.stageGo_sound (st : Nat) (h : d.Sound p₀ n₀) :
  (Dev.stageGo d st).Sound p₀ n₀ := by
  unfold Dev.stageGo
  repeat' (first
    | with_reducible assumption
    | with_reducible apply Dev.irqBoth_sound
    | with_reducible apply Dev.set_sound)

theorem Dev.stageReady_sound (h : d.Sound p₀ n₀) :
  (Dev.stageReady d).Sound p₀ n₀ := by
  unfold Dev.stageReady
  repeat' (first
    | with_reducible assumption
    | with_reducible apply Dev.stageGo_sound
    | with_reducible refine Dev.sound_ite (fun _ => ?_) (fun _ => ?_))

theorem Dev.engineDown_sound (oe : Nat) (keep : Bool) (h : d.Sound p₀ n₀) :
  (Dev.engineDown d oe keep).Sound p₀ n₀ := by
  unfold Dev.engineDown
  repeat' (first
    | with_reducible assumption
    | with_reducible apply Dev.each_sound
    | with_reducible apply Dev.linkDown_sound
    | with_reducible apply Dev.sbdPortLost_sound
    | with_reducible apply Dev.ringGo_sound
    | with_reducible apply Dev.setHeater_sound
    | with_reducible apply Dev.moduleControl_sound
    | with_reducible apply Dev.setB_sound
    | with_reducible apply Dev.set_sound
    | with_reducible apply Dev.domainOff_sound
    | intro _
    | with_reducible refine Dev.sound_ite (fun _ => ?_) (fun _ => ?_)
    | split
    | dsimp only
    | with_reducible refine Dev.sound_mk ?_ rfl rfl rfl)

theorem Dev.engineDisable_sound (oe : Nat) (h : d.Sound p₀ n₀) :
  (Dev.engineDisable d oe).Sound p₀ n₀ := by
  unfold Dev.engineDisable
  repeat' (first
    | with_reducible assumption
    | with_reducible apply Dev.count_sound
    | with_reducible apply Dev.engineDown_sound
    | with_reducible apply Dev.setB_sound
    | with_reducible refine Dev.sound_ite (fun _ => ?_) (fun _ => ?_))

theorem Dev.combReady_sound (oe : Nat) (p : Bool) (s : Bool) (h : d.Sound p₀ n₀) :
  (Dev.combReady d oe p s).Sound p₀ n₀ := by
  unfold Dev.combReady
  repeat' (first
    | with_reducible assumption
    | with_reducible apply Dev.setB_sound
    | with_reducible apply Dev.showCombS_sound
    | with_reducible apply Dev.toRingLock_sound
    | with_reducible apply Dev.set_sound
    | with_reducible apply Dev.moduleControl_sound
    | split
    | with_reducible refine Dev.sound_mk ?_ rfl rfl rfl)

theorem Dev.engineReadyNow_sound (oe : Nat) (h : d.Sound p₀ n₀) :
  (Dev.engineReadyNow d oe).Sound p₀ n₀ := by
  unfold Dev.engineReadyNow
  repeat' (first
    | with_reducible assumption
    | with_reducible apply Dev.set_sound
    | with_reducible apply Dev.stageReady_sound
    | with_reducible apply Dev.each_sound
    | with_reducible apply Dev.enableLp_sound
    | with_reducible refine Dev.sound_ite (fun _ => ?_) (fun _ => ?_)
    | intro _)

theorem Dev.powerupTimeout_sound (oe : Nat) (h : d.Sound p₀ n₀) :
  (Dev.powerupTimeout d oe).Sound p₀ n₀ := by
  unfold Dev.powerupTimeout
  repeat' (first
    | with_reducible assumption
    | with_reducible apply Dev.stageReady_sound
    | with_reducible apply Dev.raise_sound
    | with_reducible apply Dev.setB_sound
    | with_reducible apply Dev.set_sound
    | with_reducible refine Dev.sound_ite (fun _ => ?_) (fun _ => ?_))

end Sys2Proof.Machine
end

