-- ==== Sys2Proof/Laws/SoundSbd.lean ====
section
/-! SUPPORT. Every operation of Machine/Sbd.lean keeps the device sound (Safety.lean): one lemma per operation. -/
namespace Sys2Proof.Machine

variable {p₀ : List Out} {n₀ : Nat} {d : Dev}

theorem Dev.sbdCheckCmd_sound (h : d.Sound p₀ n₀) :
  (Dev.sbdCheckCmd d).Sound p₀ n₀ := by
  unfold Dev.sbdCheckCmd
  repeat' (first
    | with_reducible assumption
    | with_reducible apply Dev.setB_sound
    | with_reducible apply Dev.set_sound
    | with_reducible refine Dev.sound_snd (by assumption) ?_
    | with_reducible refine Dev.sound_ite (fun _ => ?_) (fun _ => ?_)
    | split
    | dsimp only
    | with_reducible refine Dev.sound_mk ?_ rfl rfl rfl)

theorem Dev.shadowWrite_sound (r : Reg) (i : Nat) (w : Nat) (v : Word) (h : d.Sound p₀ n₀) :
  (Dev.shadowWrite d r i w v).Sound p₀ n₀ := by
  unfold Dev.shadowWrite
  repeat' (first
    | with_reducible assumption
    | with_reducible apply Dev.count_sound
    | with_reducible apply Dev.setB_sound
    | with_reducible apply Dev.writeRw_sound
    | with_reducible refine Dev.sound_ite (fun _ => ?_) (fun _ => ?_))

theorem Dev.eachLp_sound (i : Nat) (f : Dev → Nat → Dev) (h : d.Sound p₀ n₀) (hf : ∀ e y0, Dev.Sound p₀ n₀ e → (f e y0).Sound p₀ n₀) :
  (Dev.eachLp d i f).Sound p₀ n₀ := by
  unfold Dev.eachLp
  repeat' (first
    | with_reducible assumption
    | with_reducible apply hf
    | with_reducible apply Dev.each_sound
    | intro _)

theorem Dev.enterBypass_sound (i : Nat) (h : d.Sound p₀ n₀) :
  (Dev.enterBypass d i).Sound p₀ n₀ := by
  unfold Dev.enterBypass
  repeat' (first
    | with_reducible assumption
    | with_reducible apply Dev.dropRings_sound
    | with_reducible apply Dev.eachLp_sound
    | with_reducible apply Dev.toHold_sound
    | with_reducible apply Dev.ringHold_sound)

theorem Dev.leaveBypass_sound (i : Nat) (h : d.Sound p₀ n₀) :
  (Dev.leaveBypass d i).Sound p₀ n₀ := by
  unfold Dev.leaveBypass
  repeat' (first
    | with_reducible assumption
    | with_reducible apply Dev.dropRings_sound
    | with_reducible apply Dev.ringGo_sound
    | with_reducible apply Dev.eachLp_sound
    | with_reducible apply Dev.toReacquire_sound
    | intro _
    | with_reducible refine Dev.sound_ite (fun _ => ?_) (fun _ => ?_)
    | split)

theorem Dev.takePositions_sound (cs : List (Nat × Nat)) (h : d.Sound p₀ n₀) :
  (Dev.takePositions d cs).Sound p₀ n₀ := by
  unfold Dev.takePositions
  repeat' (first
    | with_reducible assumption
    | with_reducible apply Dev.each_sound
    | with_reducible apply Dev.enterBypass_sound
    | with_reducible apply Dev.leaveBypass_sound
    | with_reducible apply Dev.wrWide_sound
    | intro _
    | dsimp only
    | with_reducible refine Dev.sound_mk ?_ rfl rfl rfl)

theorem Dev.allElectrical_sound (h : d.Sound p₀ n₀) :
  (Dev.allElectrical d).Sound p₀ n₀ := by
  unfold Dev.allElectrical
  repeat' (first
    | with_reducible assumption
    | with_reducible apply Dev.takePositions_sound)

theorem Dev.sbdSwapFire_sound (l : Nat) (h : d.Sound p₀ n₀) :
  (Dev.sbdSwapFire d l).Sound p₀ n₀ := by
  unfold Dev.sbdSwapFire
  repeat' (first
    | with_reducible assumption
    | with_reducible apply Dev.raise_sound
    | with_reducible apply Dev.count_sound
    | with_reducible apply Dev.setB_sound
    | split
    | with_reducible refine Dev.sound_mk ?_ rfl rfl rfl)

theorem Dev.copyTable_sound (src : Dev) (r : Reg) (r' : Reg) (h : d.Sound p₀ n₀) (hsrc : src.Sound p₀ n₀) :
  (Dev.copyTable d src r r').Sound p₀ n₀ := by
  unfold Dev.copyTable
  repeat' (first
    | with_reducible assumption
    | with_reducible apply Dev.each_sound
    | with_reducible apply Dev.wr_sound
    | intro _)

theorem Dev.sbdSwap_sound (h : d.Sound p₀ n₀) :
  (Dev.sbdSwap d).Sound p₀ n₀ := by
  unfold Dev.sbdSwap
  repeat' (first
    | with_reducible assumption
    | with_reducible apply Dev.copyTable_sound
    | with_reducible apply Dev.set_sound
    | with_reducible apply Dev.setB_sound
    | with_reducible apply Dev.addWrap64_sound
    | with_reducible apply Dev.count_sound
    | with_reducible apply Dev.genBump_sound
    | with_reducible apply Dev.allElectrical_sound
    | with_reducible apply Dev.takePositions_sound
    | with_reducible refine Dev.sound_snd (by assumption) ?_
    | with_reducible refine Dev.sound_ite (fun _ => ?_) (fun _ => ?_)
    | split
    | dsimp only
    | with_reducible refine Dev.sound_mk ?_ rfl rfl rfl)

theorem Dev.slotGuard_sound (h : d.Sound p₀ n₀) :
  (Dev.slotGuard d).Sound p₀ n₀ := by
  unfold Dev.slotGuard
  repeat' (first
    | with_reducible assumption
    | with_reducible apply Dev.each_sound
    | with_reducible apply Dev.eachLp_sound
    | with_reducible apply Dev.toHold_sound
    | intro _)

theorem Dev.slotBoundary_sound (h : d.Sound p₀ n₀) :
  (Dev.slotBoundary d).Sound p₀ n₀ := by
  unfold Dev.slotBoundary
  repeat' (first
    | with_reducible assumption
    | with_reducible apply Dev.set_sound
    | with_reducible apply Dev.addWrap64_sound
    | with_reducible apply Dev.takePositions_sound
    | with_reducible refine Dev.sound_ite (fun _ => ?_) (fun _ => ?_)
    | split
    | dsimp only
    | with_reducible refine Dev.sound_mk ?_ rfl rfl rfl)

theorem Dev.darkEnd_sound (h : d.Sound p₀ n₀) :
  (Dev.darkEnd d).Sound p₀ n₀ := by
  unfold Dev.darkEnd
  repeat' (first
    | with_reducible assumption
    | with_reducible apply Dev.each_sound
    | intro _
    | split
    | with_reducible refine Dev.sound_mk ?_ rfl rfl rfl)

theorem Dev.sbdCal_sound (o : SbdCalObs) (h : d.Sound p₀ n₀) :
  (Dev.sbdCal d o).Sound p₀ n₀ := by
  unfold Dev.sbdCal
  repeat' (first
    | with_reducible assumption
    | with_reducible apply Dev.setB_sound
    | with_reducible apply Dev.count_sound
    | with_reducible apply Dev.raise_sound
    | with_reducible refine Dev.sound_snd (by assumption) ?_
    | with_reducible refine Dev.sound_ite (fun _ => ?_) (fun _ => ?_)
    | split
    | dsimp only
    | with_reducible refine Dev.sound_mk ?_ rfl rfl rfl)

theorem Dev.sbdDisarm_sound (h : d.Sound p₀ n₀) :
  (Dev.sbdDisarm d).Sound p₀ n₀ := by
  unfold Dev.sbdDisarm
  repeat' (first
    | with_reducible assumption
    | with_reducible apply Dev.setB_sound
    | with_reducible apply Dev.raise_sound
    | with_reducible apply Dev.count_sound
    | split
    | with_reducible refine Dev.sound_mk ?_ rfl rfl rfl)

theorem Dev.sbdNoLive_sound (h : d.Sound p₀ n₀) :
  (Dev.sbdNoLive d).Sound p₀ n₀ := by
  unfold Dev.sbdNoLive
  repeat' (first
    | with_reducible assumption
    | with_reducible apply Dev.set_sound)

theorem Dev.sbdFail_sound (h : d.Sound p₀ n₀) :
  (Dev.sbdFail d).Sound p₀ n₀ := by
  unfold Dev.sbdFail
  repeat' (first
    | with_reducible assumption
    | with_reducible apply Dev.allElectrical_sound
    | with_reducible apply Dev.set_sound
    | with_reducible apply Dev.raise_sound
    | with_reducible apply Dev.count_sound
    | with_reducible apply Dev.sbdNoLive_sound
    | with_reducible apply Dev.sbdDisarm_sound)

theorem Dev.noDriveOn_sound (lost : List Nat) (h : d.Sound p₀ n₀) :
  (Dev.noDriveOn d lost).Sound p₀ n₀ := by
  unfold Dev.noDriveOn
  repeat' (first
    | with_reducible assumption
    | with_reducible apply Dev.sbdFail_sound
    | intro _
    | with_reducible refine Dev.sound_ite (fun _ => ?_) (fun _ => ?_)
    | split
    | dsimp only
    | with_reducible refine Dev.sound_mk ?_ rfl rfl rfl)

theorem Dev.driveLost_sound (dies : Nat) (h : d.Sound p₀ n₀) :
  (Dev.driveLost d dies).Sound p₀ n₀ :=
  Dev.sound_mk (Dev.noDriveOn_sound _ h) rfl rfl rfl

theorem Dev.sbdClear_sound (h : d.Sound p₀ n₀) :
  (Dev.sbdClear d).Sound p₀ n₀ := by
  unfold Dev.sbdClear
  repeat' (first
    | with_reducible assumption
    | with_reducible apply Dev.set_sound
    | with_reducible refine Dev.sound_ite (fun _ => ?_) (fun _ => ?_))

theorem Dev.sbdDomainOn_sound (pd : Nat) (h : d.Sound p₀ n₀) :
  (Dev.sbdDomainOn d pd).Sound p₀ n₀ := by
  unfold Dev.sbdDomainOn
  repeat' (first
    | with_reducible assumption
    | with_reducible apply Dev.set_sound
    | with_reducible apply Dev.sbdNoLive_sound
    | intro _
    | with_reducible refine Dev.sound_ite (fun _ => ?_) (fun _ => ?_)
    | split
    | dsimp only
    | with_reducible refine Dev.sound_mk ?_ rfl rfl rfl)

theorem Dev.sbdDomainOff_sound (h : d.Sound p₀ n₀) :
  (Dev.sbdDomainOff d).Sound p₀ n₀ := by
  unfold Dev.sbdDomainOff
  repeat' (first
    | with_reducible assumption
    | with_reducible apply Dev.sbdFail_sound
    | with_reducible apply Dev.set_sound
    | with_reducible apply Dev.sbdDisarm_sound
    | with_reducible refine Dev.sound_ite (fun _ => ?_) (fun _ => ?_))

end Sys2Proof.Machine
end

