-- ==== Sys2Proof/Laws/SoundCab.lean ====
section
/-! SUPPORT. Every operation of Machine/Cab.lean keeps the device sound (Safety.lean): one lemma per operation. -/
namespace Sys2Proof.Machine

variable {p₀ : List Out} {n₀ : Nat} {d : Dev}

theorem Dev.updCab_sound (f : CabSt → CabSt) (h : d.Sound p₀ n₀) :
  (Dev.updCab d f).Sound p₀ n₀ := by
  unfold Dev.updCab
  repeat' (first
    | with_reducible assumption
    | with_reducible refine Dev.sound_mk ?_ rfl rfl rfl)

theorem Dev.putCtx_sound (die : Nat) (h' : Nat) (c : DrwCtx) (h : d.Sound p₀ n₀) :
  (Dev.putCtx d die h' c).Sound p₀ n₀ := by
  unfold Dev.putCtx
  repeat' (first
    | with_reducible assumption
    | with_reducible apply Dev.updCab_sound)

theorem Dev.updCtx_sound (die : Nat) (h' : Nat) (f : DrwCtx → DrwCtx) (h : d.Sound p₀ n₀) :
  (Dev.updCtx d die h' f).Sound p₀ n₀ := by
  unfold Dev.updCtx
  repeat' (first
    | with_reducible assumption
    | with_reducible apply Dev.putCtx_sound
    | split)

theorem Dev.delCtx_sound (die : Nat) (h' : Nat) (h : d.Sound p₀ n₀) :
  (Dev.delCtx d die h').Sound p₀ n₀ := by
  unfold Dev.delCtx
  repeat' (first
    | with_reducible assumption
    | with_reducible apply Dev.updCab_sound)

theorem Dev.collStatus_sound (die : Nat) (dstType : Nat) (dst : Nat) (job : Nat) (h' : Nat) (epoch : Nat) (contrib : Nat) (tag : Nat) (chunk : Nat) (attempt : Nat) (code : Nat) (k : Nat) (arg : Nat) (h : d.Sound p₀ n₀) :
  (Dev.collStatus d die dstType dst job h' epoch contrib tag chunk attempt code k arg).Sound p₀ n₀ := by
  unfold Dev.collStatus
  repeat' (first
    | with_reducible assumption
    | with_reducible apply Dev.originate_sound)

theorem Dev.memberDst_sound (die : Nat) (h' : Nat) (i : Nat) (h : d.Sound p₀ n₀) :
  (Dev.memberDst d die h' i).2.Sound p₀ n₀ := by
  unfold Dev.memberDst
  repeat' (first
    | with_reducible assumption
    | with_reducible apply Dev.raise_sound
    | with_reducible apply Dev.count_sound
    | split)

theorem Dev.statusAll_sound (die : Nat) (h' : Nat) (chunk : Nat) (code : Nat) (arg : Nat) (h : d.Sound p₀ n₀) :
  (Dev.statusAll d die h' chunk code arg).Sound p₀ n₀ := by
  unfold Dev.statusAll
  repeat' (first
    | with_reducible assumption
    | with_reducible apply Dev.each_sound
    | with_reducible apply Dev.memberDst_sound
    | with_reducible apply Dev.collStatus_sound
    | with_reducible refine Dev.sound_snd (by assumption) ?_
    | intro _
    | split)

theorem Dev.originateFenced_sound (die : Nat) (cls : Nat) (bytes : List Byte) (h : d.Sound p₀ n₀) :
  (Dev.originateFenced d die cls bytes).2.Sound p₀ n₀ := by
  unfold Dev.originateFenced
  repeat' (first
    | with_reducible assumption
    | with_reducible apply Dev.memberChoice_sound
    | with_reducible apply Dev.originate_sound)

theorem Dev.updNotes_sound (die : Nat) (dst : Nat) (f : NStream → NStream) (h : d.Sound p₀ n₀) :
  (Dev.updNotes d die dst f).Sound p₀ n₀ := by
  unfold Dev.updNotes
  repeat' (first
    | with_reducible assumption
    | with_reducible apply Dev.updCab_sound)

theorem Dev.pushNotice_sound (die : Nat) (dst : Nat) (n : Notice) (h : d.Sound p₀ n₀) :
  (Dev.pushNotice d die dst n).Sound p₀ n₀ := by
  unfold Dev.pushNotice
  repeat' (first
    | with_reducible assumption
    | with_reducible apply Dev.originateFenced_sound
    | with_reducible apply Dev.count_sound
    | with_reducible apply Dev.updNotes_sound
    | intro _
    | with_reducible refine Dev.sound_snd (by assumption) ?_
    | with_reducible refine Dev.sound_ite (fun _ => ?_) (fun _ => ?_)
    | split
    | dsimp only)

theorem Dev.sendNotice_sound (die : Nat) (dst : Nat) (n : Notice) (h : d.Sound p₀ n₀) :
  (Dev.sendNotice d die dst n).Sound p₀ n₀ := by
  unfold Dev.sendNotice
  repeat' (first
    | with_reducible assumption
    | with_reducible apply Dev.updNotes_sound
    | with_reducible apply Dev.pushNotice_sound
    | with_reducible refine Dev.sound_ite (fun _ => ?_) (fun _ => ?_))

theorem Dev.drainNotices_sound (die : Nat) (dst : Nat) (x1 : Nat) (h : d.Sound p₀ n₀) :
  (Dev.drainNotices d die dst x1).Sound p₀ n₀ := by
  induction x1 generalizing d die dst with
  | zero => exact h
  | succ k ih =>
    unfold Dev.drainNotices
    dsimp only
    repeat' (first
      | with_reducible assumption
      | with_reducible apply ih
      | with_reducible apply Dev.pushNotice_sound
      | with_reducible apply Dev.updNotes_sound
      | split)

theorem Dev.sendSync_sound (die : Nat) (dst : Nat) (h : d.Sound p₀ n₀) :
  (Dev.sendSync d die dst).Sound p₀ n₀ := by
  unfold Dev.sendSync
  repeat' (first
    | with_reducible assumption
    | with_reducible apply Dev.originate_sound
    | with_reducible apply Dev.updNotes_sound)

theorem Dev.ackNotices_sound (die : Nat) (dst : Nat) (ack : Nat) (h : d.Sound p₀ n₀) :
  (Dev.ackNotices d die dst ack).Sound p₀ n₀ := by
  unfold Dev.ackNotices
  repeat' (first
    | with_reducible assumption
    | with_reducible apply Dev.updNotes_sound
    | with_reducible apply Dev.drainNotices_sound)

theorem Dev.noticeResp_sound (die : Nat) (r : GnResp) (h : d.Sound p₀ n₀) :
  (Dev.noticeResp d die r).2.Sound p₀ n₀ := by
  unfold Dev.noticeResp
  repeat' (first
    | with_reducible assumption
    | with_reducible apply Dev.ackNotices_sound
    | with_reducible apply Dev.updNotes_sound
    | with_reducible apply Dev.sendSync_sound
    | with_reducible refine Dev.sound_ite_snd (fun _ => ?_) (fun _ => ?_)
    | with_reducible refine Dev.sound_ite (fun _ => ?_) (fun _ => ?_)
    | split)

theorem Dev.resendNotice_sound (die : Nat) (dst : Nat) (seq : Nat) (h : d.Sound p₀ n₀) :
  (Dev.resendNotice d die dst seq).Sound p₀ n₀ := by
  unfold Dev.resendNotice
  repeat' (first
    | with_reducible assumption
    | with_reducible apply Dev.sendSync_sound
    | with_reducible apply Dev.updNotes_sound
    | with_reducible apply Dev.raise_sound
    | with_reducible apply Dev.count_sound
    | with_reducible apply Dev.drainNotices_sound
    | with_reducible apply Dev.originate_sound
    | with_reducible refine Dev.sound_ite (fun _ => ?_) (fun _ => ?_)
    | split)

theorem Dev.creditShadow_sound (die : Nat) (k : Nat) (n : Nat) (h : d.Sound p₀ n₀) :
  (Dev.creditShadow d die k n).Sound p₀ n₀ := by
  unfold Dev.creditShadow
  repeat' (first
    | with_reducible assumption
    | with_reducible apply Dev.updCab_sound
    | intro _)

theorem Dev.dropShadow_sound (h' : Nat) (h : d.Sound p₀ n₀) :
  (Dev.dropShadow d h').Sound p₀ n₀ := by
  unfold Dev.dropShadow
  repeat' (first
    | with_reducible assumption
    | with_reducible apply Dev.delCtx_sound
    | with_reducible apply Dev.each_sound
    | with_reducible apply Dev.creditShadow_sound
    | with_reducible apply Dev.updCab_sound
    | with_reducible apply Dev.setB_sound
    | with_reducible apply Dev.updCtx_sound
    | intro _
    | with_reducible refine Dev.sound_snd (by assumption) ?_
    | with_reducible refine Dev.sound_ite (fun _ => ?_) (fun _ => ?_)
    | split
    | dsimp only)

theorem Dev.shadowLost_sound (die : Nat) (h' : Nat) (h : d.Sound p₀ n₀) :
  (Dev.shadowLost d die h').Sound p₀ n₀ := by
  unfold Dev.shadowLost
  repeat' (first
    | with_reducible assumption
    | with_reducible apply Dev.raise_sound
    | with_reducible apply Dev.dropShadow_sound)

theorem Dev.sendShadow_sound (die : Nat) (k : Nat) (m : ShMsg) (h : d.Sound p₀ n₀) :
  (Dev.sendShadow d die k m).Sound p₀ n₀ := by
  unfold Dev.sendShadow
  repeat' (first
    | with_reducible assumption
    | with_reducible apply Dev.updCab_sound
    | with_reducible apply Dev.sendFrom_sound
    | intro _
    | dsimp only)

theorem Dev.feedShadow_sound (die : Nat) (h' : Nat) (i : ShItem) (h : d.Sound p₀ n₀) :
  (Dev.feedShadow d die h' i).Sound p₀ n₀ := by
  unfold Dev.feedShadow
  repeat' (first
    | with_reducible assumption
    | with_reducible apply Dev.shadowLost_sound
    | with_reducible apply Dev.sendShadow_sound
    | with_reducible refine Dev.sound_snd (by assumption) ?_
    | with_reducible refine Dev.sound_ite (fun _ => ?_) (fun _ => ?_)
    | split
    | dsimp only)

theorem Dev.clearStage_sound (die : Nat) (h' : Nat) (h : d.Sound p₀ n₀) :
  (Dev.clearStage d die h').Sound p₀ n₀ := by
  unfold Dev.clearStage
  repeat' (first
    | with_reducible assumption
    | with_reducible apply Dev.updCab_sound)

theorem Dev.closeOp_sound (die : Nat) (h' : Nat) (h : d.Sound p₀ n₀) :
  (Dev.closeOp d die h').Sound p₀ n₀ := by
  unfold Dev.closeOp
  repeat' (first
    | with_reducible assumption
    | with_reducible apply Dev.feedShadow_sound
    | with_reducible apply Dev.updCab_sound
    | with_reducible apply Dev.updCtx_sound
    | intro _
    | with_reducible refine Dev.sound_snd (by assumption) ?_
    | split
    | dsimp only)

theorem Dev.abortCtx_sound (die : Nat) (h' : Nat) (h : d.Sound p₀ n₀) :
  (Dev.abortCtx d die h').Sound p₀ n₀ := by
  unfold Dev.abortCtx
  repeat' (first
    | with_reducible assumption
    | with_reducible apply Dev.feedShadow_sound
    | with_reducible apply Dev.clearStage_sound
    | with_reducible apply Dev.putCtx_sound
    | with_reducible refine Dev.sound_snd (by assumption) ?_
    | split
    | dsimp only)

theorem Dev.wantAlloc_sound (die : Nat) (h' : Nat) (h : d.Sound p₀ n₀) :
  (Dev.wantAlloc d die h').Sound p₀ n₀ := by
  unfold Dev.wantAlloc
  repeat' (first
    | with_reducible assumption
    | with_reducible apply Dev.updCab_sound)

theorem Dev.allocChunk_sound (die : Nat) (h' : Nat) (h : d.Sound p₀ n₀) :
  (Dev.allocChunk d die h').Sound p₀ n₀ := by
  unfold Dev.allocChunk
  repeat' (first
    | with_reducible assumption
    | with_reducible apply Dev.updCtx_sound
    | with_reducible apply Dev.updCab_sound)

end Sys2Proof.Machine
end

