-- ==== Sys2Proof/Laws/SoundColl.lean ====
section
/-! SUPPORT. Every operation of Machine/Coll.lean keeps the device sound (Safety.lean): one lemma per operation. -/
namespace Sys2Proof.Machine

variable {p₀ : List Out} {n₀ : Nat} {d : Dev}

theorem Dev.accumulate_sound (die : Nat) (h' : Nat) (ch : Chunk) (c : Contrib) (h : d.Sound p₀ n₀) :
  (Dev.accumulate d die h' ch c).2.Sound p₀ n₀ := by
  unfold Dev.accumulate
  repeat' (first
    | with_reducible assumption
    | with_reducible apply Dev.contrib_sound
    | with_reducible apply Dev.pulse_sound
    | with_reducible apply Dev.add_sound
    | intro _
    | with_reducible refine Dev.sound_snd (by assumption) ?_
    | with_reducible refine Dev.sound_ite_snd (fun _ => ?_) (fun _ => ?_)
    | split
    | dsimp only)

theorem Dev.completeChunk_sound (die : Nat) (h' : Nat) (n : Nat) (h : d.Sound p₀ n₀) :
  (Dev.completeChunk d die h' n).Sound p₀ n₀ := by
  unfold Dev.completeChunk
  repeat' (first
    | with_reducible assumption
    | with_reducible apply Dev.updCab_sound
    | with_reducible apply Dev.pulse_sound
    | with_reducible apply Dev.wantAlloc_sound
    | with_reducible apply Dev.putCtx_sound
    | split)

theorem Dev.tryComplete_sound (die : Nat) (h' : Nat) (n : Nat) (h : d.Sound p₀ n₀) :
  (Dev.tryComplete d die h' n).Sound p₀ n₀ := by
  unfold Dev.tryComplete
  repeat' (first
    | with_reducible assumption
    | with_reducible apply Dev.completeChunk_sound
    | split)

theorem Dev.settle_sound (die : Nat) (h' : Nat) (h : d.Sound p₀ n₀) :
  (Dev.settle d die h').Sound p₀ n₀ := by
  unfold Dev.settle
  repeat' (first
    | with_reducible assumption
    | with_reducible apply Dev.each_sound
    | with_reducible apply Dev.tryComplete_sound
    | intro _
    | split)

theorem Dev.shadowAlloc_sound (die : Nat) (h' : Nat) (x1 : Nat) (h : d.Sound p₀ n₀) :
  (Dev.shadowAlloc d die h' x1).Sound p₀ n₀ := by
  induction x1 generalizing d die h with
  | zero => exact h
  | succ k ih =>
    unfold Dev.shadowAlloc
    try dsimp only
    repeat' (first
      | with_reducible assumption
      | with_reducible apply ih
      | with_reducible apply Dev.tryComplete_sound
      | with_reducible apply Dev.allocChunk_sound
      | split)

theorem Dev.settleAll_sound (die : Nat) (h' : Nat) (h : d.Sound p₀ n₀) :
  (Dev.settleAll d die h').Sound p₀ n₀ := by
  unfold Dev.settleAll
  repeat' (first
    | with_reducible assumption
    | with_reducible apply Dev.shadowAlloc_sound
    | with_reducible apply Dev.settle_sound)

theorem Dev.grantAllocs_sound (die : Nat) (r : Nat) (h : d.Sound p₀ n₀) :
  (Dev.grantAllocs d die r).Sound p₀ n₀ := by
  unfold Dev.grantAllocs
  repeat' (first
    | with_reducible assumption
    | with_reducible apply Dev.each_sound
    | with_reducible apply Dev.allocChunk_sound
    | with_reducible apply Dev.tryComplete_sound
    | with_reducible apply Dev.wantAlloc_sound
    | intro _
    | with_reducible refine Dev.sound_snd (by assumption) ?_
    | with_reducible refine Dev.sound_ite (fun _ => ?_) (fun _ => ?_)
    | split
    | dsimp only)

theorem Dev.refuseClaim_sound (die : Nat) (h' : Nat) (r : Nat) (c : Contrib) (h : d.Sound p₀ n₀) :
  (Dev.refuseClaim d die h' r c).Sound p₀ n₀ := by
  unfold Dev.refuseClaim
  repeat' (first
    | with_reducible assumption
    | with_reducible apply Dev.updCtx_sound
    | with_reducible apply Dev.collStatus_sound
    | with_reducible apply Dev.pulse_sound
    | with_reducible apply Dev.count_sound
    | with_reducible refine Dev.sound_ite (fun _ => ?_) (fun _ => ?_))

theorem Dev.grantClaim_sound (die : Nat) (r : Nat) (c : Contrib) (h : d.Sound p₀ n₀) :
  (Dev.grantClaim d die r c).Sound p₀ n₀ := by
  unfold Dev.grantClaim
  repeat' (first
    | with_reducible assumption
    | with_reducible apply Dev.putCtx_sound
    | with_reducible apply Dev.count_sound
    | with_reducible apply Dev.pulse_sound
    | with_reducible apply Dev.updCab_sound
    | with_reducible apply Dev.feedShadow_sound
    | with_reducible apply Dev.settle_sound
    | with_reducible apply Dev.wantAlloc_sound
    | intro _
    | with_reducible refine Dev.sound_snd (by assumption) ?_
    | with_reducible refine Dev.sound_ite (fun _ => ?_) (fun _ => ?_)
    | split
    | dsimp only)

theorem Dev.arbiter_sound (die : Nat) (cl : List Contrib) (h : d.Sound p₀ n₀) :
  (Dev.arbiter d die cl).Sound p₀ n₀ := by
  unfold Dev.arbiter
  repeat' (first
    | with_reducible assumption
    | with_reducible apply Dev.each_sound
    | with_reducible apply Dev.grantAllocs_sound
    | with_reducible apply Dev.grantClaim_sound
    | intro _
    | dsimp only)

theorem Dev.drawerReplay_sound (die : Nat) (h' : Nat) (h : d.Sound p₀ n₀) :
  (Dev.drawerReplay d die h').Sound p₀ n₀ := by
  unfold Dev.drawerReplay
  repeat' (first
    | with_reducible assumption
    | with_reducible apply Dev.feedShadow_sound
    | with_reducible apply Dev.putCtx_sound
    | with_reducible apply Dev.wantAlloc_sound
    | with_reducible apply Dev.statusAll_sound
    | with_reducible apply Dev.count_sound
    | with_reducible refine Dev.sound_snd (by assumption) ?_
    | with_reducible refine Dev.sound_ite (fun _ => ?_) (fun _ => ?_)
    | split
    | dsimp only)

theorem Dev.failChunk_sound (die : Nat) (h' : Nat) (n : Nat) (h : d.Sound p₀ n₀) :
  (Dev.failChunk d die h' n).Sound p₀ n₀ := by
  unfold Dev.failChunk
  repeat' (first
    | with_reducible assumption
    | with_reducible apply Dev.count_sound
    | with_reducible apply Dev.raise_sound
    | with_reducible apply Dev.shadowLost_sound
    | with_reducible apply Dev.putCtx_sound
    | with_reducible apply Dev.feedShadow_sound
    | with_reducible apply Dev.statusAll_sound
    | with_reducible refine Dev.sound_snd (by assumption) ?_
    | with_reducible refine Dev.sound_ite (fun _ => ?_) (fun _ => ?_)
    | split
    | dsimp only)

theorem Dev.reopenChunk_sound (die : Nat) (h' : Nat) (n : Nat) (h : d.Sound p₀ n₀) :
  (Dev.reopenChunk d die h' n).Sound p₀ n₀ := by
  unfold Dev.reopenChunk
  repeat' (first
    | with_reducible assumption
    | with_reducible apply Dev.updCab_sound
    | with_reducible apply Dev.putCtx_sound
    | intro _
    | with_reducible refine Dev.sound_snd (by assumption) ?_
    | with_reducible refine Dev.sound_ite (fun _ => ?_) (fun _ => ?_)
    | split
    | dsimp only)

theorem Dev.shelfError_sound (die : Nat) (h' : Nat) (n : Nat) (h : d.Sound p₀ n₀) :
  (Dev.shelfError d die h' n).Sound p₀ n₀ := by
  unfold Dev.shelfError
  repeat' (first
    | with_reducible assumption
    | with_reducible apply Dev.reopenChunk_sound
    | with_reducible apply Dev.failChunk_sound)

theorem Dev.countsDone_sound (die : Nat) (h' : Nat) (h : d.Sound p₀ n₀) :
  (Dev.countsDone d die h').Sound p₀ n₀ := by
  unfold Dev.countsDone
  repeat' (first
    | with_reducible assumption
    | with_reducible apply Dev.putCtx_sound
    | with_reducible apply Dev.updCab_sound
    | split)

theorem Dev.takeCount_sound (die : Nat) (h' : Nat) (x : DrwCtx) (c : Contrib) (h : d.Sound p₀ n₀) :
  (Dev.takeCount d die h' x c).Sound p₀ n₀ := by
  unfold Dev.takeCount
  repeat' (first
    | with_reducible assumption
    | with_reducible apply Dev.contrib_sound
    | with_reducible apply Dev.count_sound
    | with_reducible apply Dev.feedShadow_sound
    | with_reducible apply Dev.putCtx_sound
    | with_reducible apply Dev.countsDone_sound
    | intro _
    | with_reducible refine Dev.sound_snd (by assumption) ?_
    | with_reducible refine Dev.sound_ite (fun _ => ?_) (fun _ => ?_)
    | split
    | dsimp only)

theorem Dev.spineFeed_sound (die : Nat) (c : Contrib) (bytes : List Byte) (h : d.Sound p₀ n₀) :
  (Dev.spineFeed d die c bytes).Sound p₀ n₀ := by
  unfold Dev.spineFeed
  repeat' (first
    | with_reducible assumption
    | with_reducible apply Dev.count_sound
    | with_reducible apply Dev.sendLp_sound
    | with_reducible refine Dev.sound_ite (fun _ => ?_) (fun _ => ?_))

theorem Dev.takeData_sound (die : Nat) (h' : Nat) (x : DrwCtx) (ch : Chunk) (c : Contrib) (bytes : List Byte) (h : d.Sound p₀ n₀) :
  (Dev.takeData d die h' x ch c bytes).Sound p₀ n₀ := by
  unfold Dev.takeData
  repeat' (first
    | with_reducible assumption
    | with_reducible apply Dev.contrib_sound
    | with_reducible apply Dev.count_sound
    | with_reducible apply Dev.updBur_sound
    | with_reducible apply Dev.failChunk_sound
    | with_reducible apply Dev.flagFrom_sound
    | with_reducible apply Dev.feedShadow_sound
    | with_reducible apply Dev.spineFeed_sound
    | with_reducible apply Dev.accumulate_sound
    | with_reducible apply Dev.updCtx_sound
    | with_reducible apply Dev.tryComplete_sound
    | with_reducible apply Dev.wantAlloc_sound
    | intro _
    | with_reducible refine Dev.sound_snd (by assumption) ?_
    | with_reducible refine Dev.sound_ite (fun _ => ?_) (fun _ => ?_)
    | split
    | dsimp only)

theorem Dev.contribRest_sound (die : Nat) (h' : Nat) (c : Contrib) (bytes : List Byte) (h : d.Sound p₀ n₀) :
  (Dev.contribRest d die h' c bytes).Sound p₀ n₀ := by
  unfold Dev.contribRest
  repeat' (first
    | with_reducible assumption
    | with_reducible apply Dev.count_sound
    | with_reducible apply Dev.takeCount_sound
    | with_reducible apply Dev.raise_sound
    | with_reducible apply Dev.takeData_sound
    | with_reducible refine Dev.sound_ite (fun _ => ?_) (fun _ => ?_)
    | split)

theorem Dev.takeInbox_sound (die : Nat) (kind : Nat) (p : Frm → Bool) (h : d.Sound p₀ n₀) :
  (Dev.takeInbox d die kind p).2.Sound p₀ n₀ := by
  unfold Dev.takeInbox
  dsimp only
  split
  · exact h
  · have hu := fun f => Dev.updCore_sound f h
    exact Dev.sound_ite (fun _ => Dev.bufFill_sound _ (Dev.sound_ite (fun _ => Dev.uncharge_sound _ (hu _)) (fun _ => hu _)))
      (fun _ => hu _)

theorem Dev.claim_sound (die : Nat) (c : Contrib) (h : d.Sound p₀ n₀) :
  (Dev.claim d die c).Sound p₀ n₀ := by
  unfold Dev.claim
  repeat' (first
    | with_reducible assumption
    | with_reducible apply Dev.arbiter_sound
    | with_reducible apply Dev.each_sound
    | with_reducible apply Dev.takeInbox_sound
    | with_reducible apply Dev.refuseClaim_sound
    | intro _
    | with_reducible refine Dev.sound_ite (fun _ => ?_) (fun _ => ?_)
    | split
    | dsimp only)

theorem Dev.contrib_sound (die : Nat) (c : Contrib) (bytes : List Byte) (h : d.Sound p₀ n₀) :
  (Dev.contrib d die c bytes).Sound p₀ n₀ := by
  unfold Dev.contrib
  repeat' (first
    | with_reducible assumption
    | with_reducible apply Dev.failChunk_sound
    | with_reducible apply Dev.count_sound
    | with_reducible apply Dev.claim_sound
    | with_reducible apply Dev.contribRest_sound
    | with_reducible apply Dev.refuseClaim_sound
    | with_reducible refine Dev.sound_ite (fun _ => ?_) (fun _ => ?_)
    | split)

theorem Dev.contribReceived_sound (die : Nat) (c : Contrib) (h : d.Sound p₀ n₀) :
  (Dev.contribReceived d die c).Sound p₀ n₀ := by
  unfold Dev.contribReceived
  repeat' (first
    | with_reducible assumption
    | with_reducible apply Dev.takeInbox_sound
    | with_reducible apply Dev.contrib_sound
    | with_reducible refine Dev.sound_ite (fun _ => ?_) (fun _ => ?_))

theorem Dev.digestAdd_sound (die : Nat) (job : Nat) (tag : Nat) (chunk : Nat) (epoch : Nat) (crc : Nat) (h : d.Sound p₀ n₀) :
  (Dev.digestAdd d die job tag chunk epoch crc).Sound p₀ n₀ := by
  unfold Dev.digestAdd
  repeat' (first
    | with_reducible assumption
    | with_reducible apply Dev.count_sound
    | with_reducible apply Dev.wrWide_sound
    | with_reducible apply Dev.setB_sound
    | with_reducible apply Dev.set_sound
    | with_reducible apply Dev.updBur_sound
    | with_reducible apply Dev.raise_sound
    | with_reducible apply Dev.flagFrom_sound
    | intro _
    | with_reducible refine Dev.sound_snd (by assumption) ?_
    | with_reducible refine Dev.sound_ite (fun _ => ?_) (fun _ => ?_)
    | split
    | dsimp only)

theorem Dev.sendResult_sound (die : Nat) (h' : Nat) (dstType : Nat) (dst : Nat) (o : OutItem) (count : Bool) (chunk : Nat) (p : Nat × List Byte × Bool) (h : d.Sound p₀ n₀) :
  (Dev.sendResult d die h' dstType dst o count chunk p).Sound p₀ n₀ := by
  unfold Dev.sendResult
  repeat' (first
    | with_reducible assumption
    | with_reducible apply Dev.originate_sound
    | with_reducible apply Dev.originateFenced_sound
    | with_reducible apply Dev.count_sound
    | with_reducible refine Dev.sound_ite (fun _ => ?_) (fun _ => ?_))

theorem Dev.sendMemberResult_sound (die : Nat) (h' : Nat) (i : Nat) (o : OutItem) (count : Bool) (chunk : Nat) (ps : List (Nat × List Byte × Bool)) (h : d.Sound p₀ n₀) :
  (Dev.sendMemberResult d die h' i o count chunk ps).Sound p₀ n₀ := by
  unfold Dev.sendMemberResult
  repeat' (first
    | with_reducible assumption
    | with_reducible apply Dev.each_sound
    | with_reducible apply Dev.memberDst_sound
    | with_reducible apply Dev.sendResult_sound
    | with_reducible refine Dev.sound_snd (by assumption) ?_
    | intro _
    | split)

theorem Dev.sendResults_sound (die : Nat) (h' : Nat) (c : DrwCtx) (o : OutItem) (bytes : List Byte) (h : d.Sound p₀ n₀) :
  (Dev.sendResults d die h' c o bytes).Sound p₀ n₀ := by
  unfold Dev.sendResults
  repeat' (first
    | with_reducible assumption
    | with_reducible apply Dev.each_sound
    | with_reducible apply Dev.sendResult_sound
    | with_reducible apply Dev.sendMemberResult_sound
    | with_reducible refine Dev.sound_ite (fun _ => ?_) (fun _ => ?_)
    | intro _)

theorem Dev.sendNotices_sound (die : Nat) (h' : Nat) (c : DrwCtx) (o : OutItem) (size : Nat) (crc : Nat) (h : d.Sound p₀ n₀) :
  (Dev.sendNotices d die h' c o size crc).Sound p₀ n₀ := by
  unfold Dev.sendNotices
  repeat' (first
    | with_reducible assumption
    | with_reducible apply Dev.each_sound
    | with_reducible apply Dev.memberDst_sound
    | with_reducible apply Dev.sendNotice_sound
    | intro _
    | with_reducible refine Dev.sound_snd (by assumption) ?_
    | split)

theorem Dev.closeIfDone_sound (die : Nat) (h' : Nat) (h : d.Sound p₀ n₀) :
  (Dev.closeIfDone d die h').Sound p₀ n₀ := by
  unfold Dev.closeIfDone
  repeat' (first
    | with_reducible assumption
    | with_reducible apply Dev.closeOp_sound
    | split)

theorem Dev.shareD_sound (die : Nat) (h' : Nat) (c : DrwCtx) (o : OutItem) (crc : Nat) (h : d.Sound p₀ n₀) :
  (Dev.shareD d die h' c o crc).Sound p₀ n₀ := by
  unfold Dev.shareD
  repeat' (first
    | with_reducible assumption
    | with_reducible apply Dev.updCab_sound
    | with_reducible refine Dev.sound_ite (fun _ => ?_) (fun _ => ?_))

theorem Dev.chunkLeaves_sound (die : Nat) (h' : Nat) (c : DrwCtx) (o : OutItem) (h : d.Sound p₀ n₀) :
  (Dev.chunkLeaves d die h' c o).Sound p₀ n₀ := by
  unfold Dev.chunkLeaves
  repeat' (first
    | with_reducible assumption
    | with_reducible apply Dev.add_sound
    | with_reducible apply Dev.shareD_sound
    | with_reducible apply Dev.digestAdd_sound
    | with_reducible apply Dev.shadowAlloc_sound
    | with_reducible apply Dev.closeIfDone_sound
    | with_reducible apply Dev.sendNotices_sound
    | with_reducible apply Dev.sendResults_sound
    | with_reducible refine Dev.sound_ite (fun _ => ?_) (fun _ => ?_))

theorem Dev.startData_sound (die : Nat) (h' : Nat) (h : d.Sound p₀ n₀) :
  (Dev.startData d die h').Sound p₀ n₀ := by
  unfold Dev.startData
  repeat' (first
    | with_reducible assumption
    | with_reducible apply Dev.closeOp_sound
    | with_reducible apply Dev.putCtx_sound
    | with_reducible apply Dev.closeIfDone_sound
    | with_reducible apply Dev.wantAlloc_sound
    | with_reducible apply Dev.settleAll_sound
    | split)

theorem Dev.countLeaves_sound (die : Nat) (h' : Nat) (c : DrwCtx) (o : OutItem) (h : d.Sound p₀ n₀) :
  (Dev.countLeaves d die h' c o).Sound p₀ n₀ := by
  unfold Dev.countLeaves
  repeat' (first
    | with_reducible assumption
    | with_reducible apply Dev.add_sound
    | with_reducible apply Dev.startData_sound
    | with_reducible apply Dev.each_sound
    | with_reducible apply Dev.sendResult_sound
    | with_reducible apply Dev.sendMemberResult_sound
    | intro _
    | with_reducible refine Dev.sound_ite (fun _ => ?_) (fun _ => ?_)
    | split
    | dsimp only)

theorem Dev.outputDone_sound (die : Nat) (h : d.Sound p₀ n₀) :
  (Dev.outputDone d die).Sound p₀ n₀ := by
  unfold Dev.outputDone
  repeat' (first
    | with_reducible assumption
    | with_reducible apply Dev.updCab_sound
    | with_reducible apply Dev.chunkLeaves_sound
    | with_reducible apply Dev.countLeaves_sound
    | dsimp only
    | split)

theorem Dev.releaseDrawer_sound (h' : Nat) (h : d.Sound p₀ n₀) :
  (Dev.releaseDrawer d h').Sound p₀ n₀ := by
  unfold Dev.releaseDrawer
  repeat' (first
    | with_reducible assumption
    | with_reducible apply Dev.each_sound
    | with_reducible apply Dev.updCtx_sound
    | with_reducible apply Dev.settleAll_sound
    | intro _)

theorem Dev.straggler_sound (die : Nat) (h' : Nat) (h : d.Sound p₀ n₀) :
  (Dev.straggler d die h').Sound p₀ n₀ := by
  unfold Dev.straggler
  repeat' (first
    | with_reducible assumption
    | with_reducible apply Dev.count_sound
    | with_reducible apply Dev.raise_sound
    | with_reducible apply Dev.each_sound
    | with_reducible apply Dev.collStatus_sound
    | with_reducible apply Dev.updCtx_sound
    | intro _
    | split)

theorem Dev.allocGrant_sound (die : Nat) (h : d.Sound p₀ n₀) :
  (Dev.allocGrant d die).Sound p₀ n₀ := by
  unfold Dev.allocGrant
  repeat' (first
    | with_reducible assumption
    | with_reducible apply Dev.wantAlloc_sound
    | with_reducible apply Dev.tryComplete_sound
    | with_reducible apply Dev.allocChunk_sound
    | split)

theorem Dev.chunkSpill_sound (die : Nat) (h : d.Sound p₀ n₀) :
  (Dev.chunkSpill d die).Sound p₀ n₀ := by
  unfold Dev.chunkSpill
  repeat' (first
    | with_reducible assumption
    | with_reducible apply Dev.count_sound
    | with_reducible apply Dev.updCtx_sound
    | split)

theorem Dev.chunkReturn_sound (die : Nat) (h : d.Sound p₀ n₀) :
  (Dev.chunkReturn d die).Sound p₀ n₀ := by
  unfold Dev.chunkReturn
  repeat' (first
    | with_reducible assumption
    | with_reducible apply Dev.count_sound
    | with_reducible apply Dev.updCtx_sound
    | split)

theorem Dev.shadowFrame_sound (die : Nat) (h' : Nat) (c : Contrib) (h : d.Sound p₀ n₀) :
  (Dev.shadowFrame d die h' c).Sound p₀ n₀ := by
  unfold Dev.shadowFrame
  repeat' (first
    | with_reducible assumption
    | with_reducible apply Dev.count_sound
    | with_reducible apply Dev.shadowLost_sound
    | with_reducible apply Dev.contrib_sound
    | with_reducible apply Dev.putCtx_sound
    | with_reducible apply Dev.countsDone_sound
    | with_reducible apply Dev.updBur_sound
    | with_reducible apply Dev.failChunk_sound
    | with_reducible apply Dev.flagFrom_sound
    | with_reducible apply Dev.accumulate_sound
    | with_reducible apply Dev.updCtx_sound
    | with_reducible apply Dev.tryComplete_sound
    | with_reducible apply Dev.shadowAlloc_sound
    | intro _
    | with_reducible refine Dev.sound_snd (by assumption) ?_
    | with_reducible refine Dev.sound_ite (fun _ => ?_) (fun _ => ?_)
    | split
    | dsimp only)

theorem Dev.shadowItem_sound (die : Nat) (m : ShMsg) (h : d.Sound p₀ n₀) :
  (Dev.shadowItem d die m).Sound p₀ n₀ := by
  unfold Dev.shadowItem
  repeat' (first
    | with_reducible assumption
    | with_reducible apply Dev.shadowFrame_sound
    | with_reducible apply Dev.putCtx_sound
    | with_reducible apply Dev.shadowAlloc_sound
    | with_reducible apply Dev.updCtx_sound
    | with_reducible apply Dev.clearStage_sound
    | with_reducible apply Dev.reform_sound
    | with_reducible apply Dev.shadowLost_sound
    | intro _
    | with_reducible refine Dev.sound_snd (by assumption) ?_
    | with_reducible refine Dev.sound_ite (fun _ => ?_) (fun _ => ?_)
    | split
    | dsimp only)

theorem Dev.shadowStream_sound (die : Nat) (h : d.Sound p₀ n₀) :
  (Dev.shadowStream d die).Sound p₀ n₀ := by
  unfold Dev.shadowStream
  repeat' (first
    | with_reducible assumption
    | with_reducible apply Dev.updCab_sound
    | with_reducible apply Dev.creditShadow_sound
    | with_reducible apply Dev.shadowItem_sound
    | intro _
    | with_reducible refine Dev.sound_snd (by assumption) ?_
    | split)

end Sys2Proof.Machine
end

