-- ==== Sys2Proof/Laws/SoundDrawer.lean ====
section
/-! SUPPORT. Every operation of Machine/Drawer.lean keeps the device sound (Safety.lean): one lemma per operation. -/
namespace Sys2Proof.Machine

variable {p₀ : List Out} {n₀ : Nat} {d : Dev}

theorem Dev.cfgWrite_sound (h' : Nat) (w : Nat) (v : Word) (h : d.Sound p₀ n₀) :
  (Dev.cfgWrite d h' w v).Sound p₀ n₀ := by
  unfold Dev.cfgWrite
  repeat' (first
    | with_reducible assumption
    | with_reducible apply Dev.writeRw_sound
    | with_reducible apply Dev.set_sound
    | with_reducible apply Dev.count_sound
    | with_reducible refine Dev.sound_ite (fun _ => ?_) (fun _ => ?_))

theorem Dev.cfgWriteFree_sound (h' : Nat) (r : Reg) (i : Nat) (w : Nat) (v : Word) (h : d.Sound p₀ n₀) :
  (Dev.cfgWriteFree d h' r i w v).Sound p₀ n₀ := by
  unfold Dev.cfgWriteFree
  repeat' (first
    | with_reducible assumption
    | with_reducible apply Dev.writeRw_sound
    | with_reducible apply Dev.count_sound
    | with_reducible refine Dev.sound_ite (fun _ => ?_) (fun _ => ?_))

theorem Dev.drwCfgWrite_sound (addr : Nat) (v : Word) (h : d.Sound p₀ n₀) :
  (Dev.drwCfgWrite d addr v).Sound p₀ n₀ := by
  unfold Dev.drwCfgWrite
  repeat' (first
    | with_reducible assumption
    | with_reducible apply Dev.cfgWrite_sound
    | with_reducible apply Dev.cfgWriteFree_sound
    | split)

theorem Dev.weightWrite_sound (die : Nat) (e : Nat) (v : Word) (h : d.Sound p₀ n₀) :
  (Dev.weightWrite d die e v).Sound p₀ n₀ := by
  unfold Dev.weightWrite
  repeat' (first
    | with_reducible assumption
    | with_reducible apply Dev.count_sound
    | with_reducible apply Dev.genBump_sound
    | with_reducible apply Dev.wr_sound
    | with_reducible refine Dev.sound_ite (fun _ => ?_) (fun _ => ?_))

theorem Dev.steer_sound (h' : Nat) (die : Option Nat) (h : d.Sound p₀ n₀) :
  (Dev.steer d h' die).Sound p₀ n₀ := by
  unfold Dev.steer
  repeat' (first
    | with_reducible assumption
    | with_reducible apply Dev.each_sound
    | with_reducible apply Dev.wr_sound
    | intro _)

theorem Dev.seat_sound (die : Nat) (h' : Nat) (slot : Nat) (epoch : Nat) (start : Nat) (begun : Nat) (at' : Option Nat) (h : d.Sound p₀ n₀) :
  (Dev.seat d die h' slot epoch start begun at').Sound p₀ n₀ := by
  unfold Dev.seat
  repeat' (first
    | with_reducible assumption
    | with_reducible apply Dev.putCtx_sound)

theorem Dev.setState_sound (h' : Nat) (st : Nat) (h : d.Sound p₀ n₀) :
  (Dev.setState d h' st).Sound p₀ n₀ := by
  unfold Dev.setState
  repeat' (first
    | with_reducible assumption
    | with_reducible apply Dev.set_sound)

theorem Dev.openDrawer_sound (h' : Nat) (h : d.Sound p₀ n₀) :
  (Dev.openDrawer d h').2.Sound p₀ n₀ := by
  unfold Dev.openDrawer
  repeat' (first
    | with_reducible assumption
    | with_reducible apply Dev.set_sound
    | with_reducible apply Dev.seat_sound
    | with_reducible apply Dev.setState_sound
    | with_reducible apply Dev.steer_sound
    | with_reducible refine Dev.sound_ite_snd (fun _ => ?_) (fun _ => ?_)
    | split)

theorem Dev.dropRecords_sound (die : Nat) (h' : Nat) (h : d.Sound p₀ n₀) :
  (Dev.dropRecords d die h').Sound p₀ n₀ := by
  unfold Dev.dropRecords
  repeat' (first
    | with_reducible assumption
    | with_reducible apply Dev.updCab_sound)

theorem Dev.closeDrawer_sound (h' : Nat) (h : d.Sound p₀ n₀) :
  (Dev.closeDrawer d h').2.Sound p₀ n₀ := by
  unfold Dev.closeDrawer
  repeat' (first
    | with_reducible assumption
    | with_reducible apply Dev.steer_sound
    | with_reducible apply Dev.dropShadow_sound
    | with_reducible apply Dev.dropRecords_sound
    | with_reducible apply Dev.delCtx_sound
    | with_reducible apply Dev.updCab_sound
    | with_reducible apply Dev.setState_sound
    | with_reducible refine Dev.sound_ite_snd (fun _ => ?_) (fun _ => ?_)
    | with_reducible refine Dev.sound_ite (fun _ => ?_) (fun _ => ?_))

theorem Dev.abortHere_sound (die : Nat) (h' : Nat) (c : DrwCtx) (h : d.Sound p₀ n₀) :
  (Dev.abortHere d die h' c).2.Sound p₀ n₀ := by
  unfold Dev.abortHere
  repeat' (first
    | with_reducible assumption
    | with_reducible apply Dev.abortCtx_sound
    | with_reducible refine Dev.sound_ite_snd (fun _ => ?_) (fun _ => ?_))

theorem Dev.abortFailed_sound (h' : Nat) (h : d.Sound p₀ n₀) :
  (Dev.abortFailed d h').2.Sound p₀ n₀ := by
  unfold Dev.abortFailed
  repeat' (first
    | with_reducible assumption
    | with_reducible apply Dev.setState_sound
    | with_reducible apply Dev.set_sound
    | with_reducible apply Dev.steer_sound
    | with_reducible apply Dev.seat_sound
    | dsimp only
    | split)

theorem Dev.abortDrawer_sound (h' : Nat) (h : d.Sound p₀ n₀) :
  (Dev.abortDrawer d h').2.Sound p₀ n₀ := by
  unfold Dev.abortDrawer
  repeat' (first
    | with_reducible assumption
    | with_reducible apply Dev.abortFailed_sound
    | with_reducible apply Dev.abortHere_sound
    | with_reducible refine Dev.sound_ite_snd (fun _ => ?_) (fun _ => ?_)
    | split)

theorem Dev.shadowOpen_sound (h' : Nat) (h : d.Sound p₀ n₀) :
  (Dev.shadowOpen d h').2.Sound p₀ n₀ := by
  unfold Dev.shadowOpen
  repeat' (first
    | with_reducible assumption
    | with_reducible apply Dev.set_sound
    | with_reducible apply Dev.setB_sound
    | with_reducible apply Dev.putCtx_sound
    | with_reducible apply Dev.updCtx_sound
    | intro _
    | with_reducible refine Dev.sound_snd (by assumption) ?_
    | with_reducible refine Dev.sound_ite_snd (fun _ => ?_) (fun _ => ?_)
    | split
    | dsimp only)

theorem Dev.shadowClose_sound (h' : Nat) (h : d.Sound p₀ n₀) :
  (Dev.shadowClose d h').2.Sound p₀ n₀ := by
  unfold Dev.shadowClose
  repeat' (first
    | with_reducible assumption
    | with_reducible apply Dev.dropShadow_sound
    | with_reducible refine Dev.sound_ite_snd (fun _ => ?_) (fun _ => ?_))

theorem Dev.drwRun_sound (op : Nat) (h' : Nat) (h : d.Sound p₀ n₀) :
  (Dev.drwRun d op h').2.Sound p₀ n₀ := by
  unfold Dev.drwRun
  repeat' (first
    | with_reducible assumption
    | with_reducible apply Dev.openDrawer_sound
    | with_reducible apply Dev.closeDrawer_sound
    | with_reducible apply Dev.abortDrawer_sound
    | with_reducible apply Dev.shadowOpen_sound
    | with_reducible apply Dev.shadowClose_sound
    | split)

theorem Dev.drwCmd_sound (desk : Nat) (op : Nat) (h' : Nat) (h : d.Sound p₀ n₀) :
  (Dev.drwCmd d desk op h').Sound p₀ n₀ := by
  unfold Dev.drwCmd
  repeat' (first
    | with_reducible assumption
    | with_reducible apply Dev.drwRun_sound
    | with_reducible apply Dev.wr_sound
    | with_reducible apply Dev.irq_sound)

theorem Dev.takeRecord_sound (die : Nat) (m : MirRec) (h : d.Sound p₀ n₀) :
  (Dev.takeRecord d die m).Sound p₀ n₀ := by
  unfold Dev.takeRecord
  repeat' (first
    | with_reducible assumption
    | with_reducible apply Dev.setState_sound
    | with_reducible apply Dev.set_sound
    | with_reducible apply Dev.updCab_sound
    | intro _
    | with_reducible refine Dev.sound_ite (fun _ => ?_) (fun _ => ?_)
    | split
    | dsimp only)

theorem Dev.mirrorRecord_sound (die : Nat) (h : d.Sound p₀ n₀) :
  (Dev.mirrorRecord d die).Sound p₀ n₀ := by
  unfold Dev.mirrorRecord
  repeat' (first
    | with_reducible assumption
    | with_reducible apply Dev.takeRecord_sound
    | with_reducible apply Dev.updCab_sound
    | split)

theorem Dev.cabEmpty_sound (die : Nat) (f : Dev → Nat → Dev) (h : d.Sound p₀ n₀) (hf : ∀ e y0, Dev.Sound p₀ n₀ e → (f e y0).Sound p₀ n₀) :
  (Dev.cabEmpty d die f).Sound p₀ n₀ := by
  unfold Dev.cabEmpty
  repeat' (first
    | with_reducible assumption
    | with_reducible apply hf
    | with_reducible apply Dev.sound_regsFilter
    | with_reducible apply Dev.each_sound
    | with_reducible apply Dev.takeRecord_sound
    | with_reducible apply Dev.updCab_sound
    | with_reducible apply Dev.dropShadow_sound
    | with_reducible apply Dev.delCtx_sound
    | with_reducible apply Dev.updCore_sound
    | with_reducible apply Dev.wr_sound
    | intro _
    | with_reducible refine Dev.sound_ite (fun _ => ?_) (fun _ => ?_)
    | split
    | dsimp only
    | with_reducible refine Dev.sound_mk ?_ rfl rfl rfl)

theorem Dev.cabLost_sound (die : Nat) (h : d.Sound p₀ n₀) :
  (Dev.cabLost d die).Sound p₀ n₀ := by
  unfold Dev.cabLost
  repeat' (first
    | with_reducible assumption
    | with_reducible apply Dev.cabEmpty_sound
    | with_reducible apply Dev.setState_sound
    | with_reducible apply Dev.setB_sound
    | with_reducible refine Dev.sound_ite (fun _ => ?_) (fun _ => ?_)
    | intro _)

theorem Dev.standbyTaken_sound (die : Nat) (h : d.Sound p₀ n₀) :
  (Dev.standbyTaken d die).Sound p₀ n₀ := by
  unfold Dev.standbyTaken
  repeat' (first
    | with_reducible assumption
    | with_reducible apply Dev.set_sound
    | with_reducible apply Dev.raise_sound
    | with_reducible apply Dev.setB_sound
    | with_reducible refine Dev.sound_ite (fun _ => ?_) (fun _ => ?_))

theorem Dev.statusFailed_sound (h' : Nat) (h : d.Sound p₀ n₀) :
  (Dev.statusFailed d h').Sound p₀ n₀ := by
  unfold Dev.statusFailed
  repeat' (first
    | with_reducible assumption
    | with_reducible apply Dev.each_sound
    | with_reducible apply Dev.originate_sound
    | with_reducible apply Dev.raise_sound
    | with_reducible apply Dev.count_sound
    | intro _
    | split)

theorem Dev.jobResp_sound (r : JobCtl) (status : Nat) (payload : List Byte) (h : d.Sound p₀ n₀) :
  (Dev.jobResp d r status payload).Sound p₀ n₀ := by
  unfold Dev.jobResp
  repeat' (first
    | with_reducible assumption
    | with_reducible apply Dev.originate_sound)

theorem Dev.jobDone_sound (r : JobCtl) (status : Nat) (payload : List Byte) (h : d.Sound p₀ n₀) :
  (Dev.jobDone d r status payload).Sound p₀ n₀ := by
  unfold Dev.jobDone
  repeat' (first
    | with_reducible assumption
    | with_reducible apply Dev.updCab_sound
    | with_reducible apply Dev.jobResp_sound)

theorem Dev.onJob_sound (r : JobCtl) (f : Dev → Dev) (h : d.Sound p₀ n₀) (hf : ∀ e, Dev.Sound p₀ n₀ e → (f e).Sound p₀ n₀) :
  (Dev.onJob d r f).Sound p₀ n₀ := by
  unfold Dev.onJob
  repeat' (first
    | with_reducible assumption
    | with_reducible apply hf
    | with_reducible apply Dev.takeInbox_sound
    | with_reducible apply Dev.jobResp_sound
    | with_reducible apply Dev.raise_sound
    | with_reducible apply Dev.count_sound
    | with_reducible refine Dev.sound_ite (fun _ => ?_) (fun _ => ?_)
    | split)

theorem Dev.jobAbort_sound (r : JobCtl) (h : d.Sound p₀ n₀) :
  (Dev.jobAbort d r).Sound p₀ n₀ := by
  unfold Dev.jobAbort
  repeat' (first
    | with_reducible assumption
    | with_reducible apply Dev.jobDone_sound
    | with_reducible apply Dev.abortDrawer_sound
    | with_reducible refine Dev.sound_snd (by assumption) ?_
    | split)

theorem Dev.reform_sound (r : JobCtl) (h : d.Sound p₀ n₀) :
  (Dev.reform d r).Sound p₀ n₀ := by
  unfold Dev.reform
  repeat' (first
    | with_reducible assumption
    | with_reducible apply Dev.jobDone_sound
    | with_reducible apply Dev.each_sound
    | with_reducible apply Dev.setB_sound
    | with_reducible apply Dev.updCab_sound
    | with_reducible refine Dev.sound_ite (fun _ => ?_) (fun _ => ?_)
    | intro _
    | split)

theorem Dev.reformEnd_sound (h' : Nat) (q : ReformReq) (status : Nat) (payload : List Byte) (h : d.Sound p₀ n₀) :
  (Dev.reformEnd d h' q status payload).Sound p₀ n₀ := by
  unfold Dev.reformEnd
  repeat' (first
    | with_reducible assumption
    | with_reducible apply Dev.jobDone_sound
    | with_reducible apply Dev.updCab_sound)

theorem Dev.reformApply_sound (h' : Nat) (h : d.Sound p₀ n₀) :
  (Dev.reformApply d h').Sound p₀ n₀ := by
  unfold Dev.reformApply
  repeat' (first
    | with_reducible assumption
    | with_reducible apply Dev.feedShadow_sound
    | with_reducible apply Dev.reform_sound
    | with_reducible apply Dev.putCtx_sound
    | with_reducible apply Dev.wantAlloc_sound
    | with_reducible apply Dev.updCab_sound
    | intro _
    | with_reducible refine Dev.sound_snd (by assumption) ?_
    | with_reducible refine Dev.sound_ite (fun _ => ?_) (fun _ => ?_)
    | split
    | dsimp only)

theorem Dev.reformClear_sound (h' : Nat) (h : d.Sound p₀ n₀) :
  (Dev.reformClear d h').Sound p₀ n₀ := by
  unfold Dev.reformClear
  repeat' (first
    | with_reducible assumption
    | with_reducible apply Dev.reformEnd_sound
    | with_reducible apply Dev.putCtx_sound
    | with_reducible apply Dev.count_sound
    | with_reducible apply Dev.statusAll_sound
    | with_reducible apply Dev.closeIfDone_sound
    | with_reducible apply Dev.wantAlloc_sound
    | with_reducible apply Dev.countsDone_sound
    | with_reducible apply Dev.settle_sound
    | dsimp only
    | split)

theorem Dev.reformReplaced_sound (h' : Nat) (status : Nat) (payload : List Byte) (h : d.Sound p₀ n₀) :
  (Dev.reformReplaced d h' status payload).Sound p₀ n₀ := by
  unfold Dev.reformReplaced
  repeat' (first
    | with_reducible assumption
    | with_reducible apply Dev.reformEnd_sound
    | split)

theorem Dev.replaceFailed_sound (h' : Nat) (h : d.Sound p₀ n₀) :
  (Dev.replaceFailed d h').Sound p₀ n₀ := by
  unfold Dev.replaceFailed
  repeat' (first
    | with_reducible assumption
    | with_reducible apply Dev.reformReplaced_sound
    | with_reducible apply Dev.statusFailed_sound
    | with_reducible apply Dev.setState_sound
    | with_reducible apply Dev.dropShadow_sound)

theorem Dev.replaceOn_sound (h' : Nat) (k : Nat) (slot : Nat) (e : Nat) (w : Nat) (rel : Bool × Bool) (h : d.Sound p₀ n₀) :
  (Dev.replaceOn d h' k slot e w rel).Sound p₀ n₀ := by
  unfold Dev.replaceOn
  repeat' (first
    | with_reducible assumption
    | with_reducible apply Dev.dropShadow_sound
    | with_reducible apply Dev.set_sound
    | with_reducible apply Dev.setState_sound
    | with_reducible apply Dev.seat_sound
    | with_reducible apply Dev.updCtx_sound
    | with_reducible apply Dev.steer_sound
    | with_reducible apply Dev.standbyTaken_sound
    | with_reducible apply Dev.statusAll_sound
    | with_reducible apply Dev.reformReplaced_sound
    | intro _
    | dsimp only)

theorem Dev.replaceAt_sound (h' : Nat) (t : Option (Nat × Bool)) (h : d.Sound p₀ n₀) :
  (Dev.replaceAt d h' t).Sound p₀ n₀ := by
  unfold Dev.replaceAt
  repeat' (first
    | with_reducible assumption
    | with_reducible apply Dev.steer_sound
    | with_reducible apply Dev.replaceFailed_sound
    | with_reducible apply Dev.replaceOn_sound
    | with_reducible refine Dev.sound_snd (by assumption) ?_
    | split
    | dsimp only)

theorem Dev.replaceOne_sound (h' : Nat) (h : d.Sound p₀ n₀) :
  (Dev.replaceOne d h').Sound p₀ n₀ := by
  unfold Dev.replaceOne
  repeat' (first
    | with_reducible assumption
    | with_reducible apply Dev.replaceAt_sound)

theorem Dev.resumeOne_sound (h' : Nat) (h : d.Sound p₀ n₀) :
  (Dev.resumeOne d h').Sound p₀ n₀ := by
  unfold Dev.resumeOne
  repeat' (first
    | with_reducible assumption
    | with_reducible apply Dev.replaceAt_sound)

theorem Dev.failover_sound (die : Nat) (h : d.Sound p₀ n₀) :
  (Dev.failover d die).Sound p₀ n₀ := by
  unfold Dev.failover
  repeat' (first
    | with_reducible assumption
    | with_reducible apply Dev.each_sound
    | with_reducible apply Dev.replaceOne_sound)

end Sys2Proof.Machine
end

