-- ==== Sys2Proof/Laws/SoundJobCtl.lean ====
section
/-! SUPPORT. Every operation of Machine/JobCtl.lean keeps the device sound (Safety.lean): one lemma per operation. -/
namespace Sys2Proof.Machine

variable {p₀ : List Out} {n₀ : Nat} {d : Dev}

theorem Dev.setController_sound (r : JobCtl) (h : d.Sound p₀ n₀) :
  (Dev.setController d r).Sound p₀ n₀ := by
  unfold Dev.setController
  repeat' (first
    | with_reducible assumption
    | with_reducible apply Dev.updFwd_sound
    | with_reducible apply Dev.wr_sound
    | with_reducible apply Dev.jobDone_sound
    | with_reducible apply Dev.genBump_sound)

theorem Dev.rankMapWrite_sound (r : JobCtl) (h : d.Sound p₀ n₀) :
  (Dev.rankMapWrite d r).Sound p₀ n₀ := by
  unfold Dev.rankMapWrite
  repeat' (first
    | with_reducible assumption
    | with_reducible apply Dev.jobDone_sound
    | with_reducible apply Dev.each_sound
    | with_reducible apply Dev.rankMapPut_sound
    | with_reducible refine Dev.sound_ite (fun _ => ?_) (fun _ => ?_)
    | intro _
    | split)

end Sys2Proof.Machine
end

