-- ==== Sys2Proof/Laws/SoundPool.lean ====
section
/-! SUPPORT. Every operation of Machine/Pool.lean keeps the device sound (Safety.lean): one lemma per operation. -/
namespace Sys2Proof.Machine

variable {p₀ : List Out} {n₀ : Nat} {d : Dev}

theorem Dev.updPool_sound (f : PoolSt → PoolSt) (h : d.Sound p₀ n₀) (hf : (f d.pool).mem = d.pool.mem) :
  (Dev.updPool d f).Sound p₀ n₀ := by
  exact Dev.sound_mk h hf rfl rfl

theorem Dev.poolWrite_sound (a : Nat) (bs : List Byte) (h : d.Sound p₀ n₀) :
  (Dev.poolWrite d a bs).Sound p₀ n₀ := by
  exact ⟨⟨h.1.1, Memory.writeN_wf h.1.2.1 a bs, h.1.2.2⟩, h.2⟩

theorem Dev.setBad_sound (line : Nat) (b : Bool) (h : d.Sound p₀ n₀) :
  (Dev.setBad d line b).Sound p₀ n₀ := by
  unfold Dev.setBad
  repeat' (first
    | with_reducible assumption
    | with_reducible rfl
    | with_reducible apply Dev.updPool_sound)

theorem Dev.updMst_sound (t : Nat) (p : Nat) (f : MStream → MStream) (h : d.Sound p₀ n₀) :
  (Dev.updMst d t p f).Sound p₀ n₀ := by
  unfold Dev.updMst
  repeat' (first
    | with_reducible assumption
    | with_reducible rfl
    | with_reducible apply Dev.updPool_sound)

theorem Dev.sendGnReq_sound (t : Nat) (p : Nat) (opcode : Nat) (tag : Nat) (seq : Nat) (addr : Nat) (payload : List Byte) (h : d.Sound p₀ n₀) :
  (Dev.sendGnReq d t p opcode tag seq addr payload).Sound p₀ n₀ := by
  unfold Dev.sendGnReq
  repeat' (first
    | with_reducible assumption
    | with_reducible apply Dev.originate_sound)

theorem Dev.sendItem_sound (t : Nat) (p : Nat) (m : MItem) (h : d.Sound p₀ n₀) :
  (Dev.sendItem d t p m).Sound p₀ n₀ := by
  unfold Dev.sendItem
  repeat' (first
    | with_reducible assumption
    | with_reducible apply Dev.sendGnReq_sound
    | with_reducible refine Dev.sound_ite (fun _ => ?_) (fun _ => ?_))

theorem Dev.drainMst_sound (t : Nat) (p : Nat) (x1 : Nat) (h : d.Sound p₀ n₀) :
  (Dev.drainMst d t p x1).Sound p₀ n₀ := by
  induction x1 generalizing d t p with
  | zero => exact h
  | succ k ih =>
    unfold Dev.drainMst
    try dsimp only
    repeat' (first
      | with_reducible assumption
      | with_reducible apply ih
      | with_reducible apply Dev.updMst_sound
      | with_reducible apply Dev.sendItem_sound
      | split)

theorem Dev.queueItem_sound (t : Nat) (p : Nat) (m : MItem) (h : d.Sound p₀ n₀) :
  (Dev.queueItem d t p m).Sound p₀ n₀ := by
  unfold Dev.queueItem
  repeat' (first
    | with_reducible assumption
    | with_reducible apply Dev.updMst_sound
    | with_reducible apply Dev.drainMst_sound)

theorem Dev.syncMst_sound (t : Nat) (p : Nat) (h : d.Sound p₀ n₀) :
  (Dev.syncMst d t p).Sound p₀ n₀ := by
  unfold Dev.syncMst
  repeat' (first
    | with_reducible assumption
    | with_reducible apply Dev.updMst_sound
    | with_reducible apply Dev.sendGnReq_sound)

theorem Dev.poolCut_sound (a : Nat) (b : Nat) (r : GnReq) (h : d.Sound p₀ n₀) :
  (Dev.poolCut d a b r).Sound p₀ n₀ := by
  unfold Dev.poolCut
  repeat' (first
    | with_reducible assumption
    | with_reducible apply Dev.count_sound
    | with_reducible apply Dev.raise_sound
    | with_reducible apply Dev.updPool_sound
    | intro _
    | with_reducible refine Dev.sound_snd (by assumption) ?_
    | with_reducible refine Dev.sound_ite (fun _ => ?_) (fun _ => ?_)
    | split
    | dsimp only
    | rfl)

theorem Dev.toOrder_sound (c : GnDone) (h : d.Sound p₀ n₀) :
  (Dev.toOrder d c).Sound p₀ n₀ := by
  unfold Dev.toOrder
  repeat' (first
    | with_reducible assumption
    | with_reducible apply Dev.poolCut_sound
    | with_reducible apply Dev.updPool_sound
    | intro _
    | with_reducible refine Dev.sound_ite (fun _ => ?_) (fun _ => ?_)
    | split
    | rfl)

theorem Dev.refuseGn_sound (home : Nat) (r : GnReq) (status : Nat) (h : d.Sound p₀ n₀) :
  (Dev.refuseGn d home r status).Sound p₀ n₀ := by
  unfold Dev.refuseGn
  repeat' (first
    | with_reducible assumption
    | with_reducible apply Dev.count_sound
    | with_reducible apply Dev.toOrder_sound
    | with_reducible refine Dev.sound_ite (fun _ => ?_) (fun _ => ?_))

theorem Dev.dataError_sound (home : Nat) (r : GnReq) (h : d.Sound p₀ n₀) :
  (Dev.dataError d home r).Sound p₀ n₀ := by
  unfold Dev.dataError
  repeat' (first
    | with_reducible assumption
    | with_reducible apply Dev.raise_sound
    | with_reducible apply Dev.count_sound
    | with_reducible apply Dev.toOrder_sound)

theorem Dev.updResil_sound (w : Nat) (f : Resil → Resil) (h : d.Sound p₀ n₀) :
  (Dev.updResil d w f).Sound p₀ n₀ := by
  unfold Dev.updResil
  repeat' (first
    | with_reducible assumption
    | with_reducible rfl
    | with_reducible apply Dev.updPool_sound)

theorem Dev.afterWrite_sound (home : Nat) (r : GnReq) (c : GnDone) (h : d.Sound p₀ n₀) :
  (Dev.afterWrite d home r c).Sound p₀ n₀ := by
  unfold Dev.afterWrite
  repeat' (first
    | with_reducible assumption
    | with_reducible apply Dev.queueItem_sound
    | with_reducible apply Dev.toOrder_sound
    | with_reducible refine Dev.sound_ite (fun _ => ?_) (fun _ => ?_))

theorem Dev.runAtomic_sound (r : GnReq) (k : Nat) (wide : Bool) (h : d.Sound p₀ n₀) :
  (Dev.runAtomic d r k wide).2.Sound p₀ n₀ := by
  unfold Dev.runAtomic
  repeat' (first
    | with_reducible assumption
    | with_reducible apply Dev.poolWrite_sound)

theorem Dev.runGn_sound (home : Nat) (r : GnReq) (o : GnOp) (ue : Bool) (h : d.Sound p₀ n₀) :
  (Dev.runGn d home r o ue).Sound p₀ n₀ := by
  unfold Dev.runGn
  repeat' (first
    | with_reducible assumption
    | with_reducible apply Dev.flagFrom_sound
    | with_reducible apply Dev.dataError_sound
    | with_reducible apply Dev.updBur_sound
    | with_reducible apply Dev.toOrder_sound
    | with_reducible apply Dev.pulse_sound
    | with_reducible apply Dev.add64_sound
    | with_reducible apply Dev.afterWrite_sound
    | with_reducible apply Dev.setBad_sound
    | with_reducible apply Dev.poolWrite_sound
    | with_reducible apply Dev.runAtomic_sound
    | with_reducible refine Dev.sound_ite (fun _ => ?_) (fun _ => ?_)
    | split)

theorem Dev.homeRun_sound (home : Nat) (q : HomeReq) (ue : Bool) (h : d.Sound p₀ n₀) :
  (Dev.homeRun d home q ue).2.Sound p₀ n₀ := by
  unfold Dev.homeRun
  repeat' (first
    | with_reducible assumption
    | with_reducible apply Dev.refuseGn_sound
    | with_reducible apply Dev.updResil_sound
    | with_reducible apply Dev.runGn_sound
    | split)

theorem Dev.homeExecute_sound (tile : Nat) (n : Nat) (ue : Bool) (h : d.Sound p₀ n₀) :
  (Dev.homeExecute d tile n ue).Sound p₀ n₀ := by
  unfold Dev.homeExecute
  repeat' (first
    | with_reducible assumption
    | with_reducible rfl
    | with_reducible apply Dev.homeRun_sound
    | with_reducible apply Dev.updPool_sound
    | dsimp only
    | split)

end Sys2Proof.Machine
end

