-- ==== Sys2Proof/Laws/SoundOrder.lean ====
section
/-! SUPPORT. Every operation of Machine/Order.lean keeps the device sound (Safety.lean): one lemma per operation. -/
namespace Sys2Proof.Machine

variable {p₀ : List Out} {n₀ : Nat} {d : Dev}

theorem Dev.putTrk_sound (k : Nat) (t : Tracker) (h : d.Sound p₀ n₀) :
  (Dev.putTrk d k t).Sound p₀ n₀ := by
  unfold Dev.putTrk
  repeat' (first
    | with_reducible assumption
    | with_reducible rfl
    | with_reducible apply Dev.updPool_sound)

theorem Dev.updTrk_sound (k : Nat) (f : Tracker → Tracker) (h : d.Sound p₀ n₀) :
  (Dev.updTrk d k f).Sound p₀ n₀ := by
  unfold Dev.updTrk
  repeat' (first
    | with_reducible assumption
    | with_reducible rfl
    | with_reducible apply Dev.updPool_sound)

theorem Dev.respondWith_sound (r : GnReq) (status : Nat) (ack : Nat) (payload : List Byte) (h : d.Sound p₀ n₀) :
  (Dev.respondWith d r status ack payload).Sound p₀ n₀ := by
  unfold Dev.respondWith
  repeat' (first
    | with_reducible assumption
    | with_reducible apply Dev.count_sound
    | with_reducible apply Dev.originate_sound
    | with_reducible refine Dev.sound_ite (fun _ => ?_) (fun _ => ?_))

theorem Dev.respond_sound (r : GnReq) (status : Nat) (payload : List Byte) (h : d.Sound p₀ n₀) :
  (Dev.respond d r status payload).Sound p₀ n₀ := by
  unfold Dev.respond
  repeat' (first
    | with_reducible assumption
    | with_reducible apply Dev.respondWith_sound)

theorem Dev.respondBare_sound (r : GnReq) (status : Nat) (h : d.Sound p₀ n₀) :
  (Dev.respondBare d r status).Sound p₀ n₀ := by
  unfold Dev.respondBare
  repeat' (first
    | with_reducible assumption
    | with_reducible apply Dev.respond_sound)

theorem Dev.toHome_sound (q : HomeReq) (h : d.Sound p₀ n₀) :
  (Dev.toHome d q).Sound p₀ n₀ := by
  unfold Dev.toHome
  repeat' (first
    | with_reducible assumption
    | with_reducible apply Dev.poolCut_sound
    | with_reducible apply Dev.updPool_sound
    | intro _
    | with_reducible refine Dev.sound_ite (fun _ => ?_) (fun _ => ?_)
    | split
    | rfl)

theorem Dev.afterW_sound (k : Nat) (h : d.Sound p₀ n₀) :
  (Dev.afterW d k).Sound p₀ n₀ := by
  unfold Dev.afterW
  repeat' (first
    | with_reducible assumption
    | with_reducible apply Dev.putTrk_sound
    | with_reducible apply Dev.each_sound
    | with_reducible apply Dev.respond_sound
    | with_reducible apply Dev.toHome_sound
    | intro _
    | split)

theorem Dev.retire_sound (c : GnDone) (h : d.Sound p₀ n₀) :
  (Dev.retire d c).Sound p₀ n₀ := by
  unfold Dev.retire
  repeat' (first
    | with_reducible assumption
    | with_reducible apply Dev.putTrk_sound
    | with_reducible apply Dev.afterW_sound
    | dsimp only
    | split)

theorem Dev.rack_sound (r : GnReq) (h : d.Sound p₀ n₀) :
  (Dev.rack d r).Sound p₀ n₀ := by
  unfold Dev.rack
  repeat' (first
    | with_reducible assumption
    | with_reducible rfl
    | with_reducible apply Dev.updPool_sound
    | with_reducible refine Dev.sound_ite (fun _ => ?_) (fun _ => ?_))

theorem Dev.atomicArrive_sound (r : GnReq) (h : d.Sound p₀ n₀) :
  (Dev.atomicArrive d r).Sound p₀ n₀ := by
  unfold Dev.atomicArrive
  repeat' (first
    | with_reducible assumption
    | with_reducible apply Dev.respondBare_sound
    | with_reducible apply Dev.putTrk_sound
    | with_reducible apply Dev.respond_sound
    | with_reducible apply Dev.count_sound
    | with_reducible apply Dev.toHome_sound
    | dsimp only
    | split)

theorem Dev.touchTrk_sound (r : GnReq) (h : d.Sound p₀ n₀) :
  (Dev.touchTrk d r).Sound p₀ n₀ := by
  unfold Dev.touchTrk
  repeat' (first
    | with_reducible assumption
    | with_reducible apply Dev.updTrk_sound
    | intro _)

theorem Dev.syncArrive_sound (r : GnReq) (h : d.Sound p₀ n₀) :
  (Dev.syncArrive d r).Sound p₀ n₀ := by
  unfold Dev.syncArrive
  repeat' (first
    | with_reducible assumption
    | with_reducible apply Dev.respondBare_sound
    | with_reducible apply Dev.count_sound
    | with_reducible apply Dev.putTrk_sound
    | split)

theorem Dev.writeArrive_sound (r : GnReq) (hold : Bool) (h : d.Sound p₀ n₀) :
  (Dev.writeArrive d r hold).Sound p₀ n₀ := by
  unfold Dev.writeArrive
  repeat' (first
    | with_reducible assumption
    | with_reducible apply Dev.respondBare_sound
    | with_reducible apply Dev.putTrk_sound
    | with_reducible apply Dev.count_sound
    | with_reducible apply Dev.toHome_sound
    | with_reducible refine Dev.sound_ite (fun _ => ?_) (fun _ => ?_)
    | split)

theorem Dev.mwriteArrive_sound (r : GnReq) (h : d.Sound p₀ n₀) :
  (Dev.mwriteArrive d r).Sound p₀ n₀ := by
  unfold Dev.mwriteArrive
  repeat' (first
    | with_reducible assumption
    | with_reducible apply Dev.respondBare_sound
    | with_reducible apply Dev.writeArrive_sound
    | with_reducible refine Dev.sound_ite (fun _ => ?_) (fun _ => ?_))

theorem Dev.onGn_sound (r : GnReq) (f : Dev → Dev) (h : d.Sound p₀ n₀) (hf : ∀ e, Dev.Sound p₀ n₀ e → (f e).Sound p₀ n₀) :
  (Dev.onGn d r f).Sound p₀ n₀ := by
  unfold Dev.onGn
  repeat' (first
    | with_reducible assumption
    | with_reducible apply hf
    | with_reducible apply Dev.takeInbox_sound
    | with_reducible apply Dev.pulse_sound
    | with_reducible apply Dev.rack_sound
    | with_reducible refine Dev.sound_ite (fun _ => ?_) (fun _ => ?_))

theorem Dev.takeDone_sound (c : GnDone) (h : d.Sound p₀ n₀) :
  (Dev.takeDone d c).Sound p₀ n₀ := by
  unfold Dev.takeDone
  repeat' (first
    | with_reducible assumption
    | with_reducible rfl
    | with_reducible apply Dev.retire_sound
    | with_reducible apply Dev.respond_sound
    | with_reducible apply Dev.updTrk_sound
    | with_reducible apply Dev.updPool_sound
    | split)

theorem Dev.homeCompletion_sound (t : Nat) (h : d.Sound p₀ n₀) :
  (Dev.homeCompletion d t).Sound p₀ n₀ := by
  unfold Dev.homeCompletion
  repeat' (first
    | with_reducible assumption
    | with_reducible rfl
    | with_reducible apply Dev.takeDone_sound
    | with_reducible apply Dev.updPool_sound
    | split)

theorem Dev.gapExpire_sound (k : Nat) (h : d.Sound p₀ n₀) :
  (Dev.gapExpire d k).Sound p₀ n₀ := by
  unfold Dev.gapExpire
  repeat' (first
    | with_reducible assumption
    | with_reducible apply Dev.putTrk_sound
    | with_reducible apply Dev.each_sound
    | with_reducible apply Dev.respondBare_sound
    | with_reducible apply Dev.raise_sound
    | with_reducible apply Dev.count_sound
    | intro _
    | split)

theorem Dev.rcExpire_sound (ty : Nat) (src : Nat) (tag : Nat) (h : d.Sound p₀ n₀) :
  (Dev.rcExpire d ty src tag).Sound p₀ n₀ := by
  unfold Dev.rcExpire
  repeat' (first
    | with_reducible assumption
    | with_reducible rfl
    | with_reducible apply Dev.updPool_sound
    | with_reducible apply Dev.updTrk_sound
    | with_reducible apply Dev.count_sound
    | split)

theorem Dev.tombFree_sound (ty : Nat) (src : Nat) (tag : Nat) (h : d.Sound p₀ n₀) :
  (Dev.tombFree d ty src tag).Sound p₀ n₀ := by
  unfold Dev.tombFree
  repeat' (first
    | with_reducible assumption
    | with_reducible rfl
    | with_reducible apply Dev.updPool_sound
    | split)

theorem Dev.trkFreeIdle_sound (ty : Nat) (src : Nat) (h : d.Sound p₀ n₀) :
  (Dev.trkFreeIdle d ty src).Sound p₀ n₀ := by
  unfold Dev.trkFreeIdle
  repeat' (first
    | with_reducible assumption
    | with_reducible apply Dev.updPool_sound
    | intro _
    | with_reducible refine Dev.sound_snd (by assumption) ?_
    | with_reducible refine Dev.sound_ite (fun _ => ?_) (fun _ => ?_)
    | split
    | dsimp only
    | rfl)

end Sys2Proof.Machine
end

