-- ==== Sys2Proof/Laws/SoundWindow.lean ====
section
/-! SUPPORT. Every operation of Machine/Window.lean keeps the device sound (Safety.lean): one lemma per operation. -/
namespace Sys2Proof.Machine

variable {p₀ : List Out} {n₀ : Nat} {d : Dev}

theorem Dev.releaseItems_sound (l : List MItem) (h : d.Sound p₀ n₀) :
  (Dev.releaseItems d l).Sound p₀ n₀ := by
  unfold Dev.releaseItems
  repeat' (first
    | with_reducible assumption
    | with_reducible apply Dev.each_sound
    | with_reducible apply Dev.toOrder_sound
    | intro _
    | split)

theorem Dev.orphanItems_sound (w : Nat) (p : MItem → Bool) (h : d.Sound p₀ n₀) :
  (Dev.orphanItems d w p).Sound p₀ n₀ := by
  unfold Dev.orphanItems
  repeat' (first
    | with_reducible assumption
    | with_reducible apply Dev.each_sound
    | with_reducible apply Dev.updMst_sound
    | with_reducible apply Dev.drainMst_sound
    | with_reducible apply Dev.releaseItems_sound
    | intro _)

theorem Dev.forceHeld_sound (w : Nat) (status : Nat) (h : d.Sound p₀ n₀) :
  (Dev.forceHeld d w status).Sound p₀ n₀ := by
  unfold Dev.forceHeld
  repeat' (first
    | with_reducible assumption
    | with_reducible rfl
    | with_reducible apply Dev.updPool_sound)

theorem Dev.closeEnds_sound (h : d.Sound p₀ n₀) :
  (Dev.closeEnds d).Sound p₀ n₀ := by
  unfold Dev.closeEnds
  repeat' (first
    | with_reducible assumption
    | with_reducible apply Dev.each_sound
    | with_reducible apply Dev.updPool_sound
    | with_reducible apply Dev.set_sound
    | with_reducible apply Dev.setB_sound
    | with_reducible apply Dev.irq_sound
    | with_reducible apply Dev.genBump_sound
    | intro _
    | with_reducible refine Dev.sound_ite (fun _ => ?_) (fun _ => ?_)
    | split
    | dsimp only
    | rfl)

theorem Dev.partnerLost_sound (t : Nat) (w : Nat) (h : d.Sound p₀ n₀) :
  (Dev.partnerLost d t w).Sound p₀ n₀ := by
  unfold Dev.partnerLost
  repeat' (first
    | with_reducible assumption
    | with_reducible apply Dev.count_sound
    | with_reducible apply Dev.orphanItems_sound
    | with_reducible apply Dev.updPool_sound
    | with_reducible apply Dev.set_sound
    | with_reducible apply Dev.raise_sound
    | with_reducible apply Dev.forceHeld_sound
    | with_reducible apply Dev.closeEnds_sound
    | intro _
    | with_reducible refine Dev.sound_snd (by assumption) ?_
    | split
    | dsimp only
    | rfl)

theorem Dev.mirrorTimeout_sound (w : Nat) (h : d.Sound p₀ n₀) :
  (Dev.mirrorTimeout d w).Sound p₀ n₀ := by
  unfold Dev.mirrorTimeout
  repeat' (first
    | with_reducible assumption
    | with_reducible apply Dev.partnerLost_sound
    | split)

theorem Dev.lineDone_sound (w : Nat) (off : Nat) (h : d.Sound p₀ n₀) :
  (Dev.lineDone d w off).Sound p₀ n₀ := by
  unfold Dev.lineDone
  repeat' (first
    | with_reducible assumption
    | with_reducible apply Dev.updResil_sound)

theorem Dev.itemDone_sound (m : MItem) (h : d.Sound p₀ n₀) :
  (Dev.itemDone d m).Sound p₀ n₀ := by
  unfold Dev.itemDone
  repeat' (first
    | with_reducible assumption
    | with_reducible apply Dev.releaseItems_sound
    | with_reducible apply Dev.lineDone_sound
    | split)

theorem Dev.ackMst_sound (t : Nat) (p : Nat) (ack : Nat) (h : d.Sound p₀ n₀) :
  (Dev.ackMst d t p ack).Sound p₀ n₀ := by
  unfold Dev.ackMst
  repeat' (first
    | with_reducible assumption
    | with_reducible apply Dev.updMst_sound
    | with_reducible apply Dev.each_sound
    | with_reducible apply Dev.itemDone_sound
    | with_reducible apply Dev.drainMst_sound
    | with_reducible apply Dev.closeEnds_sound
    | intro _
    | with_reducible refine Dev.sound_ite (fun _ => ?_) (fun _ => ?_)
    | split
    | dsimp only)

theorem Dev.readDone_sound (t : Nat) (p : Nat) (m : MItem) (ok : Bool) (data : List Byte) (h : d.Sound p₀ n₀) :
  (Dev.readDone d t p m ok data).Sound p₀ n₀ := by
  unfold Dev.readDone
  repeat' (first
    | with_reducible assumption
    | with_reducible apply Dev.updMst_sound
    | with_reducible apply Dev.poolWrite_sound
    | with_reducible apply Dev.lineDone_sound
    | with_reducible apply Dev.setBad_sound
    | split)

theorem Dev.itemBusy_sound (t : Nat) (p : Nat) (read : Bool) (seq : Nat) (h : d.Sound p₀ n₀) :
  (Dev.itemBusy d t p read seq).Sound p₀ n₀ := by
  unfold Dev.itemBusy
  repeat' (first
    | with_reducible assumption
    | with_reducible apply Dev.updMst_sound)

theorem Dev.mirrorResp_sound (t : Nat) (r : GnResp) (h : d.Sound p₀ n₀) :
  (Dev.mirrorResp d t r).Sound p₀ n₀ := by
  unfold Dev.mirrorResp
  repeat' (first
    | with_reducible assumption
    | with_reducible apply Dev.updMst_sound
    | with_reducible apply Dev.ackMst_sound
    | with_reducible apply Dev.itemBusy_sound
    | with_reducible apply Dev.syncMst_sound
    | with_reducible apply Dev.partnerLost_sound
    | with_reducible apply Dev.readDone_sound
    | intro _
    | with_reducible refine Dev.sound_snd (by assumption) ?_
    | with_reducible refine Dev.sound_ite (fun _ => ?_) (fun _ => ?_)
    | split
    | dsimp only)

theorem Dev.offerDies_sound (r : GnResp) (l : List Nat) (h : d.Sound p₀ n₀) :
  (Dev.offerDies d r l).2.Sound p₀ n₀ := by
  unfold Dev.offerDies
  repeat' (first
    | with_reducible assumption
    | with_reducible apply Dev.noticeResp_sound
    | with_reducible apply Dev.sound_foldl_snd
    | intro _)

theorem Dev.respConsumed_sound (tile : Nat) (r : GnResp) (h : d.Sound p₀ n₀) :
  (Dev.respConsumed d tile r).Sound p₀ n₀ := by
  unfold Dev.respConsumed
  repeat' (first
    | with_reducible assumption
    | with_reducible apply Dev.takeInbox_sound
    | with_reducible apply Dev.mirrorResp_sound
    | with_reducible apply Dev.noticeResp_sound
    | with_reducible apply Dev.offerDies_sound
    | with_reducible apply Dev.count_sound
    | intro _
    | with_reducible refine Dev.sound_snd (by assumption) ?_
    | with_reducible refine Dev.sound_ite (fun _ => ?_) (fun _ => ?_)
    | split
    | dsimp only)

theorem Dev.mirrorResend_sound (t : Nat) (p : Nat) (seq : Nat) (h : d.Sound p₀ n₀) :
  (Dev.mirrorResend d t p seq).Sound p₀ n₀ := by
  unfold Dev.mirrorResend
  repeat' (first
    | with_reducible assumption
    | with_reducible apply Dev.sendGnReq_sound
    | with_reducible apply Dev.sendItem_sound
    | with_reducible refine Dev.sound_ite (fun _ => ?_) (fun _ => ?_)
    | split)

theorem Dev.mirrorBusyRetry_sound (t : Nat) (p : Nat) (seq : Nat) (h : d.Sound p₀ n₀) :
  (Dev.mirrorBusyRetry d t p seq).Sound p₀ n₀ := by
  unfold Dev.mirrorBusyRetry
  repeat' (first
    | with_reducible assumption
    | with_reducible apply Dev.updMst_sound
    | with_reducible apply Dev.count_sound
    | with_reducible apply Dev.sendItem_sound
    | intro _
    | with_reducible refine Dev.sound_snd (by assumption) ?_
    | with_reducible refine Dev.sound_ite (fun _ => ?_) (fun _ => ?_)
    | split
    | dsimp only)

theorem Dev.startGranule_sound (w : Nat) (g : Nat) (h : d.Sound p₀ n₀) :
  (Dev.startGranule d w g).Sound p₀ n₀ := by
  unfold Dev.startGranule
  repeat' (first
    | with_reducible assumption
    | with_reducible apply Dev.updResil_sound
    | with_reducible apply Dev.each_sound
    | with_reducible apply Dev.queueItem_sound
    | intro _)

theorem Dev.granuleDone_sound (w : Nat) (h : d.Sound p₀ n₀) :
  (Dev.granuleDone d w).Sound p₀ n₀ := by
  unfold Dev.granuleDone
  repeat' (first
    | with_reducible assumption
    | with_reducible rfl
    | with_reducible apply Dev.set_sound
    | with_reducible apply Dev.updPool_sound
    | with_reducible apply Dev.updResil_sound
    | with_reducible apply Dev.startGranule_sound
    | dsimp only
    | split)

theorem Dev.closeWin_sound (w : Nat) (desk : Option Nat) (h : d.Sound p₀ n₀) :
  (Dev.closeWin d w desk).Sound p₀ n₀ := by
  unfold Dev.closeWin
  repeat' (first
    | with_reducible assumption
    | with_reducible apply Dev.forceHeld_sound
    | with_reducible apply Dev.orphanItems_sound
    | with_reducible apply Dev.updPool_sound
    | with_reducible apply Dev.set_sound
    | intro _
    | with_reducible refine Dev.sound_snd (by assumption) ?_
    | with_reducible refine Dev.sound_ite (fun _ => ?_) (fun _ => ?_)
    | split
    | dsimp only
    | rfl)

theorem Dev.winLost_sound (w : Nat) (h : d.Sound p₀ n₀) :
  (Dev.winLost d w).Sound p₀ n₀ := by
  unfold Dev.winLost
  repeat' (first
    | with_reducible assumption
    | with_reducible rfl
    | with_reducible apply Dev.orphanItems_sound
    | with_reducible apply Dev.forceHeld_sound
    | with_reducible apply Dev.set_sound
    | with_reducible apply Dev.updPool_sound)

theorem Dev.opening_sound (w : Nat) (target : Nat) (h : d.Sound p₀ n₀) :
  (Dev.opening d w target).Sound p₀ n₀ := by
  unfold Dev.opening
  repeat' (first
    | with_reducible assumption
    | with_reducible rfl
    | with_reducible apply Dev.set_sound
    | with_reducible apply Dev.updPool_sound)

theorem Dev.resilver_sound (w : Nat) (state : Nat) (h : d.Sound p₀ n₀) :
  (Dev.resilver d w state).Sound p₀ n₀ := by
  unfold Dev.resilver
  repeat' (first
    | with_reducible assumption
    | with_reducible rfl
    | with_reducible apply Dev.set_sound
    | with_reducible apply Dev.startGranule_sound
    | with_reducible apply Dev.updPool_sound)

theorem Dev.winRun_sound (desk : Nat) (op : Nat) (w : Nat) (h : d.Sound p₀ n₀) :
  (Dev.winRun d desk op w).2.Sound p₀ n₀ := by
  unfold Dev.winRun
  repeat' (first
    | with_reducible assumption
    | with_reducible apply Dev.opening_sound
    | with_reducible apply Dev.closeWin_sound
    | with_reducible apply Dev.resilver_sound
    | with_reducible apply Dev.winLost_sound
    | with_reducible refine Dev.sound_snd (by assumption) ?_
    | with_reducible refine Dev.sound_ite_snd (fun _ => ?_) (fun _ => ?_)
    | split
    | dsimp only)

theorem Dev.winCmd_sound (desk : Nat) (op : Nat) (w : Nat) (h : d.Sound p₀ n₀) :
  (Dev.winCmd d desk op w).Sound p₀ n₀ := by
  unfold Dev.winCmd
  repeat' (first
    | with_reducible assumption
    | with_reducible apply Dev.winRun_sound
    | with_reducible apply Dev.genBump_sound
    | with_reducible apply Dev.wr_sound
    | with_reducible apply Dev.irq_sound
    | with_reducible refine Dev.sound_snd (by assumption) ?_
    | with_reducible refine Dev.sound_ite (fun _ => ?_) (fun _ => ?_)
    | split
    | dsimp only)

theorem Dev.zeroDone_sound (w : Nat) (h : d.Sound p₀ n₀) :
  (Dev.zeroDone d w).Sound p₀ n₀ := by
  unfold Dev.zeroDone
  refine Dev.sound_ite (fun _ => h) (fun _ => Dev.set_sound _ _ _ ?_)
  exact ⟨⟨h.1.1, Memory.clear_wf h.1.2.1 _ _, h.1.2.2⟩, h.2⟩

theorem Dev.winWrite_sound (w : Nat) (word : Nat) (v : Word) (h : d.Sound p₀ n₀) :
  (Dev.winWrite d w word v).Sound p₀ n₀ := by
  unfold Dev.winWrite
  repeat' (first
    | with_reducible assumption
    | with_reducible apply Dev.writeRw_sound
    | with_reducible apply Dev.genBump_sound
    | with_reducible apply Dev.count_sound
    | with_reducible refine Dev.sound_ite (fun _ => ?_) (fun _ => ?_)
    | split
    | dsimp only)

theorem Dev.poolTeardown_sound (j : Nat) (h : d.Sound p₀ n₀) :
  (Dev.poolTeardown d j).Sound p₀ n₀ := by
  have h1 : (d.each (List.range 4096) fun d w =>
      if d.get F.POOL_WIN.JOB w = j ∧ d.winState w ≠ 0 then d.closeWin w none else d).Sound p₀ n₀ :=
    Dev.each_sound _ _ h fun e w he => Dev.sound_ite (fun _ => Dev.closeWin_sound w none he) (fun _ => he)
  have h2 : ∀ e : Dev, e.Sound p₀ n₀ → (e.updPool fun p =>
      { p with rc := p.rc.filter fun e => e.2.job != j,
               trk := (p.trk.filter fun e => e.2.job != j).map fun e =>
                 (e.1, { e.2 with held := e.2.held.filter fun h => h.r.job.val != j }) }).Sound p₀ n₀ :=
    fun e he => Dev.updPool_sound _ he rfl
  exact h2 _ h1

end Sys2Proof.Machine
end

