-- ==== Sys2Proof/Laws/SoundMantel.lean ====
section
/-! SUPPORT. Every operation of Machine/Mantel.lean keeps the device sound (Safety.lean): one lemma per operation. -/
namespace Sys2Proof.Machine

variable {p₀ : List Out} {n₀ : Nat} {d : Dev}

theorem TimeSt.apply_raw (t : TimeSt) (u : TimeUpd) : (t.apply u).raw = t.raw := by
  unfold TimeSt.apply
  split <;> rfl

theorem Dev.updTime_sound (f : TimeSt → TimeSt) (h : d.Sound p₀ n₀) (hf : (f d.time).raw = d.time.raw) :
  (Dev.updTime d f).Sound p₀ n₀ := by
  exact Dev.sound_mk h rfl rfl hf

theorem Dev.syncRecord_sound (die : Nat) (diff : Int) (h : d.Sound p₀ n₀) :
  (Dev.syncRecord d die diff).Sound p₀ n₀ := by
  unfold Dev.syncRecord
  repeat' (first
    | with_reducible assumption
    | with_reducible apply Dev.count_sound
    | with_reducible apply Dev.raise_sound
    | with_reducible refine Dev.sound_ite (fun _ => ?_) (fun _ => ?_))

theorem Dev.schedule_sound (rate : Option Int) (step : Int) (h : d.Sound p₀ n₀) :
  (Dev.schedule d rate step).Sound p₀ n₀ := by
  unfold Dev.schedule
  repeat' (first
    | with_reducible assumption
    | with_reducible rfl
    | with_reducible apply Dev.setB_sound
    | with_reducible apply Dev.updTime_sound)

theorem Dev.rateWrite_sound (v : Word) (h : d.Sound p₀ n₀) :
  (Dev.rateWrite d v).Sound p₀ n₀ := by
  unfold Dev.rateWrite
  repeat' (first
    | with_reducible assumption
    | with_reducible rfl
    | with_reducible apply Dev.count_sound
    | with_reducible apply Dev.setB_sound
    | with_reducible apply Dev.wr_sound
    | with_reducible apply Dev.schedule_sound
    | with_reducible apply Dev.updTime_sound
    | with_reducible refine Dev.sound_ite (fun _ => ?_) (fun _ => ?_))

theorem Dev.takeStaged_sound (r : Reg) (i : Nat) (w : Nat) (h : d.Sound p₀ n₀) :
  (Dev.takeStaged d r i w).2.Sound p₀ n₀ := by
  unfold Dev.takeStaged
  repeat' (first
    | with_reducible assumption
    | with_reducible apply Dev.sound_regsFilter
    | with_reducible refine Dev.sound_mk ?_ rfl rfl rfl)

theorem Dev.stepCommit_sound (v : Word) (h : d.Sound p₀ n₀) :
  (Dev.stepCommit d v).Sound p₀ n₀ := by
  unfold Dev.stepCommit
  repeat' (first
    | with_reducible assumption
    | with_reducible apply Dev.takeStaged_sound
    | with_reducible apply Dev.wr_sound
    | with_reducible apply Dev.count_sound
    | with_reducible apply Dev.setB_sound
    | with_reducible apply Dev.schedule_sound
    | with_reducible refine Dev.sound_snd (by assumption) ?_
    | with_reducible refine Dev.sound_ite (fun _ => ?_) (fun _ => ?_)
    | split
    | dsimp only)

theorem Dev.stepArm_sound (desk : Nat) (h : d.Sound p₀ n₀) :
  (Dev.stepArm d desk).Sound p₀ n₀ := by
  unfold Dev.stepArm
  repeat' (first
    | with_reducible assumption
    | with_reducible apply Dev.raise_sound
    | with_reducible apply Dev.setB_sound)

theorem Dev.timeSnap_sound (h : d.Sound p₀ n₀) :
  (Dev.timeSnap d).Sound p₀ n₀ := by
  unfold Dev.timeSnap
  repeat' (first
    | with_reducible assumption
    | with_reducible apply Dev.wrWide_sound)

theorem Dev.paramUpdate_sound (h : d.Sound p₀ n₀) :
  (Dev.paramUpdate d).Sound p₀ n₀ := by
  unfold Dev.paramUpdate
  repeat' (first
    | with_reducible assumption
    | exact TimeSt.apply_raw _ _
    | with_reducible rfl
    | with_reducible apply Dev.setB_sound
    | with_reducible apply Dev.updTime_sound
    | split)

theorem Dev.holdover_sound (h : d.Sound p₀ n₀) :
  (Dev.holdover d).Sound p₀ n₀ := by
  unfold Dev.holdover
  repeat' (first
    | with_reducible assumption
    | with_reducible apply Dev.raise_sound
    | with_reducible apply Dev.setB_sound
    | with_reducible refine Dev.sound_ite (fun _ => ?_) (fun _ => ?_))

theorem Dev.latch_sound (a : Access) (k : Nat) (v : Word) (h : d.Sound p₀ n₀) :
  (Dev.latch d a k v).Sound p₀ n₀ := by
  unfold Dev.latch
  repeat' (first
    | with_reducible assumption
    | with_reducible apply Dev.sound_regsFilter
    | with_reducible refine Dev.sound_mk ?_ rfl rfl rfl)

theorem Dev.onRead_sound (a : Access) (r : Reg) (i : Nat) (w : Nat) (f : Dev → Word × Dev) (h : d.Sound p₀ n₀) (hf : ∀ e, Dev.Sound p₀ n₀ e → (f e).2.Sound p₀ n₀) :
  (Dev.onRead d a r i w f).Sound p₀ n₀ := by
  unfold Dev.onRead
  repeat' (first
    | with_reducible assumption
    | with_reducible apply hf
    | with_reducible apply Dev.emit_sound
    | with_reducible apply Dev.accErr_sound
    | dsimp only
    | split)

theorem Dev.coatPop_sound (a : Access) (rack : Nat) (k : Nat) (h : d.Sound p₀ n₀) :
  (Dev.coatPop d a rack k).2.Sound p₀ n₀ := by
  unfold Dev.coatPop
  repeat' (first
    | with_reducible assumption
    | with_reducible rfl
    | with_reducible apply Dev.latch_sound
    | with_reducible apply Dev.updTime_sound
    | with_reducible apply Dev.set_sound
    | split)

theorem Dev.coatRead_sound (a : Access) (which : CoatSel) (h : d.Sound p₀ n₀) :
  (Dev.coatRead d a which).Sound p₀ n₀ := by
  unfold Dev.coatRead
  repeat' (first
    | with_reducible assumption
    | with_reducible apply Dev.onRead_sound
    | with_reducible apply Dev.coatPop_sound
    | intro _
    | split)

theorem Dev.mgmtPtp_sound (desk : Nat) (b : List Byte) (h : d.Sound p₀ n₀) :
  (Dev.mgmtPtp d desk b).Sound p₀ n₀ := by
  unfold Dev.mgmtPtp
  repeat' (first
    | with_reducible assumption
    | with_reducible apply Dev.ptpRx_sound
    | with_reducible refine Dev.sound_ite (fun _ => ?_) (fun _ => ?_))

theorem Dev.ptpSend_sound (desk : Nat) (v : Word) (h : d.Sound p₀ n₀) :
  (Dev.ptpSend d desk v).Sound p₀ n₀ := by
  unfold Dev.ptpSend
  repeat' (first
    | with_reducible assumption
    | with_reducible apply Dev.writeRw_sound
    | with_reducible apply Dev.emit_sound
    | with_reducible apply Dev.coatPut_sound
    | with_reducible apply Dev.count_sound
    | with_reducible apply Dev.draw_sound
    | with_reducible apply Dev.sendLp_sound
    | with_reducible refine Dev.sound_ite (fun _ => ?_) (fun _ => ?_))

theorem Dev.ppsEdge_sound (h : d.Sound p₀ n₀) :
  (Dev.ppsEdge d).Sound p₀ n₀ := by
  unfold Dev.ppsEdge
  repeat' (first
    | with_reducible assumption
    | with_reducible rfl
    | with_reducible apply Dev.updTime_sound
    | with_reducible apply Dev.count_sound
    | with_reducible apply Dev.wrWide_sound
    | with_reducible refine Dev.sound_ite (fun _ => ?_) (fun _ => ?_))

theorem Dev.ppsPulse_sound (h : d.Sound p₀ n₀) :
  (Dev.ppsPulse d).Sound p₀ n₀ := by
  unfold Dev.ppsPulse
  repeat' (first
    | with_reducible assumption
    | with_reducible rfl
    | with_reducible apply Dev.emit_sound
    | with_reducible apply Dev.updTime_sound
    | with_reducible refine Dev.sound_ite (fun _ => ?_) (fun _ => ?_))

theorem Dev.mntCtlWrite_sound (desk : Nat) (v : Word) (h : d.Sound p₀ n₀) :
  (Dev.mntCtlWrite d desk v).Sound p₀ n₀ := by
  unfold Dev.mntCtlWrite
  repeat' (first
    | with_reducible assumption
    | with_reducible rfl
    | with_reducible apply Dev.writeRw_sound
    | with_reducible apply Dev.updTime_sound
    | with_reducible apply Dev.stepArm_sound
    | with_reducible apply Dev.timeSnap_sound
    | with_reducible refine Dev.sound_ite (fun _ => ?_) (fun _ => ?_))

theorem Dev.launchTime_sound (e : Nat) (v : Word) (h : d.Sound p₀ n₀) :
  (Dev.launchTime d e v).Sound p₀ n₀ := by
  unfold Dev.launchTime
  repeat' (first
    | with_reducible assumption
    | with_reducible apply Dev.count_sound
    | with_reducible apply Dev.genBump_sound
    | with_reducible apply Dev.wr_sound
    | with_reducible refine Dev.sound_ite (fun _ => ?_) (fun _ => ?_))

theorem Dev.launchWord1_sound (e : Nat) (v : Word) (h : d.Sound p₀ n₀) :
  (Dev.launchWord1 d e v).Sound p₀ n₀ := by
  unfold Dev.launchWord1
  repeat' (first
    | with_reducible assumption
    | with_reducible rfl
    | with_reducible apply Dev.count_sound
    | with_reducible apply Dev.genBump_sound
    | with_reducible apply Dev.writeRw_sound
    | with_reducible apply Dev.updTime_sound
    | with_reducible refine Dev.sound_ite (fun _ => ?_) (fun _ => ?_))

theorem Dev.takeLaunchUpd_sound (e : Nat) (arm : Bool) (h : d.Sound p₀ n₀) :
  (Dev.takeLaunchUpd d e arm).2.Sound p₀ n₀ := by
  unfold Dev.takeLaunchUpd
  repeat' (first
    | with_reducible assumption
    | with_reducible rfl
    | with_reducible apply Dev.updTime_sound
    | split)

theorem Dev.launchArm_sound (e : Nat) (h : d.Sound p₀ n₀) :
  (Dev.launchArm d e).Sound p₀ n₀ := by
  unfold Dev.launchArm
  repeat' (first
    | with_reducible assumption
    | with_reducible rfl
    | with_reducible apply Dev.takeLaunchUpd_sound
    | with_reducible apply Dev.updTime_sound
    | with_reducible apply Dev.set_sound
    | with_reducible refine Dev.sound_snd (by assumption) ?_
    | split)

theorem Dev.launchCancel_sound (e : Nat) (h : d.Sound p₀ n₀) :
  (Dev.launchCancel d e).Sound p₀ n₀ := by
  unfold Dev.launchCancel
  repeat' (first
    | with_reducible assumption
    | with_reducible rfl
    | with_reducible apply Dev.takeLaunchUpd_sound
    | with_reducible apply Dev.updTime_sound
    | with_reducible refine Dev.sound_snd (by assumption) ?_
    | split)

theorem Dev.launchEnd_sound (e : Nat) (outcome : Nat) (h : d.Sound p₀ n₀) :
  (Dev.launchEnd d e outcome).Sound p₀ n₀ := by
  unfold Dev.launchEnd
  repeat' (first
    | with_reducible assumption
    | with_reducible rfl
    | with_reducible apply Dev.updTime_sound
    | with_reducible apply Dev.set_sound
    | with_reducible apply Dev.setB_sound)

theorem Dev.launchMissed_sound (h : d.Sound p₀ n₀) :
  (Dev.launchMissed d).Sound p₀ n₀ := by
  unfold Dev.launchMissed
  repeat' (first
    | with_reducible assumption
    | with_reducible apply Dev.each_sound
    | with_reducible apply Dev.count_sound
    | with_reducible apply Dev.launchEnd_sound
    | with_reducible refine Dev.sound_ite (fun _ => ?_) (fun _ => ?_)
    | intro _)

end Sys2Proof.Machine
end

