-- ==== Sys2Proof/Laws/SoundPmc.lean ====
section
/-! SUPPORT. Every operation of Machine/Pmc.lean keeps the device sound (Safety.lean): one lemma per operation. -/
namespace Sys2Proof.Machine

variable {p₀ : List Out} {n₀ : Nat} {d : Dev}

theorem Dev.updPmc_sound (f : PmcSt → PmcSt) (h : d.Sound p₀ n₀) :
  (Dev.updPmc d f).Sound p₀ n₀ := by
  unfold Dev.updPmc
  repeat' (first
    | with_reducible assumption
    | with_reducible apply Dev.sound_regsFilter
    | with_reducible refine Dev.sound_mk ?_ rfl rfl rfl)

theorem Dev.pmcTick_sound (h : d.Sound p₀ n₀) :
  (Dev.pmcTick d).Sound p₀ n₀ := by
  unfold Dev.pmcTick
  repeat' (first
    | with_reducible assumption
    | with_reducible apply Dev.each_sound
    | with_reducible apply Dev.pmcAdd_sound
    | with_reducible apply Dev.updPmc_sound
    | with_reducible refine Dev.sound_ite (fun _ => ?_) (fun _ => ?_)
    | intro _)

theorem Dev.tickAll_sound (h : d.Sound p₀ n₀) :
  (Dev.tickAll d).Sound p₀ n₀ := by
  unfold Dev.tickAll
  repeat' (first
    | with_reducible assumption
    | with_reducible apply Dev.pmcTick_sound
    | with_reducible apply Dev.creditStall_sound
    | with_reducible apply Dev.xbarRun_sound
    | with_reducible apply Dev.tick_sound)

theorem Dev.snapCapture_sound (h : d.Sound p₀ n₀) :
  (Dev.snapCapture d).Sound p₀ n₀ := by
  unfold Dev.snapCapture
  repeat' (first
    | with_reducible assumption
    | with_reducible apply Dev.each_sound
    | with_reducible apply Dev.wrWide_sound
    | with_reducible apply Dev.wr_sound
    | with_reducible apply Dev.updPmc_sound
    | with_reducible apply Dev.setB_sound
    | with_reducible apply Dev.irq_sound
    | intro _
    | with_reducible refine Dev.sound_snd (by assumption) ?_
    | split
    | dsimp only)

theorem Dev.cwinMap_sound (n : Nat) (die : Nat) (f : Nat → Nat → Nat) (h : d.Sound p₀ n₀) :
  (Dev.cwinMap d n die f).Sound p₀ n₀ := by
  unfold Dev.cwinMap
  repeat' (first
    | with_reducible assumption
    | with_reducible apply Dev.wrWide_sound
    | with_reducible apply Dev.each_sound
    | with_reducible refine Dev.sound_ite (fun _ => ?_) (fun _ => ?_)
    | intro _)

theorem Dev.cwinOpen_sound (n : Nat) (h : d.Sound p₀ n₀) :
  (Dev.cwinOpen d n).Sound p₀ n₀ := by
  unfold Dev.cwinOpen
  repeat' (first
    | with_reducible assumption
    | with_reducible apply Dev.each_sound
    | with_reducible apply Dev.set_sound
    | with_reducible apply Dev.cwinMap_sound
    | with_reducible apply Dev.setB_sound
    | with_reducible apply Dev.updPmc_sound
    | with_reducible refine Dev.sound_ite (fun _ => ?_) (fun _ => ?_)
    | intro _)

theorem Dev.cwinClose_sound (n : Nat) (cut : Bool) (h : d.Sound p₀ n₀) :
  (Dev.cwinClose d n cut).Sound p₀ n₀ := by
  unfold Dev.cwinClose
  repeat' (first
    | with_reducible assumption
    | with_reducible apply Dev.each_sound
    | with_reducible apply Dev.cwinMap_sound
    | with_reducible apply Dev.setB_sound
    | with_reducible apply Dev.set_sound
    | with_reducible apply Dev.updPmc_sound
    | with_reducible refine Dev.sound_ite (fun _ => ?_) (fun _ => ?_)
    | intro _)

theorem Dev.cwinCutAll_sound (h : d.Sound p₀ n₀) :
  (Dev.cwinCutAll d).Sound p₀ n₀ := by
  unfold Dev.cwinCutAll
  repeat' (first
    | with_reducible assumption
    | with_reducible apply Dev.each_sound
    | with_reducible apply Dev.cwinClose_sound
    | intro _)

theorem Dev.cwinLaunch_sound (n : Nat) (h : d.Sound p₀ n₀) :
  (Dev.cwinLaunch d n).Sound p₀ n₀ := by
  unfold Dev.cwinLaunch
  repeat' (first
    | with_reducible assumption
    | with_reducible apply Dev.cwinOpen_sound
    | with_reducible apply Dev.count_sound
    | split)

theorem Dev.pmcRun_sound (desk : Nat) (op : Nat) (n : Nat) (h : d.Sound p₀ n₀) :
  (Dev.pmcRun d desk op n).2.Sound p₀ n₀ := by
  unfold Dev.pmcRun
  repeat' (first
    | with_reducible assumption
    | with_reducible apply Dev.set_sound
    | with_reducible apply Dev.count_sound
    | with_reducible apply Dev.updPmc_sound
    | intro _
    | with_reducible refine Dev.sound_snd (by assumption) ?_
    | with_reducible refine Dev.sound_ite_snd (fun _ => ?_) (fun _ => ?_)
    | split)

theorem Dev.pmcCmd_sound (desk : Nat) (op : Nat) (n : Nat) (h : d.Sound p₀ n₀) :
  (Dev.pmcCmd d desk op n).Sound p₀ n₀ := by
  unfold Dev.pmcCmd
  repeat' (first
    | with_reducible assumption
    | with_reducible apply Dev.pmcRun_sound
    | with_reducible apply Dev.wr_sound
    | with_reducible apply Dev.irq_sound
    | with_reducible refine Dev.sound_snd (by assumption) ?_
    | with_reducible refine Dev.sound_ite (fun _ => ?_) (fun _ => ?_)
    | split
    | dsimp only)

theorem Dev.pmcCfgWrite_sound (die : Nat) (r : Reg) (i : Nat) (v : Word) (h : d.Sound p₀ n₀) :
  (Dev.pmcCfgWrite d die r i v).Sound p₀ n₀ := by
  unfold Dev.pmcCfgWrite
  repeat' (first
    | with_reducible assumption
    | with_reducible apply Dev.count_sound
    | with_reducible apply Dev.writeRw_sound
    | with_reducible refine Dev.sound_ite (fun _ => ?_) (fun _ => ?_))

theorem Dev.cwinWrite_sound (n : Nat) (w : Nat) (v : Word) (h : d.Sound p₀ n₀) :
  (Dev.cwinWrite d n w v).Sound p₀ n₀ := by
  unfold Dev.cwinWrite
  repeat' (first
    | with_reducible assumption
    | with_reducible apply Dev.count_sound
    | with_reducible apply Dev.writeRw_sound
    | with_reducible refine Dev.sound_ite (fun _ => ?_) (fun _ => ?_))

theorem Dev.counterRead_sound (r : JobCtl) (h : d.Sound p₀ n₀) :
  (Dev.counterRead d r).Sound p₀ n₀ := by
  unfold Dev.counterRead
  repeat' (first
    | with_reducible assumption
    | with_reducible apply Dev.jobDone_sound
    | with_reducible refine Dev.sound_ite (fun _ => ?_) (fun _ => ?_)
    | split)

theorem Dev.digestRead_sound (r : JobCtl) (h : d.Sound p₀ n₀) :
  (Dev.digestRead d r).Sound p₀ n₀ := by
  unfold Dev.digestRead
  repeat' (first
    | with_reducible assumption
    | with_reducible apply Dev.jobDone_sound
    | with_reducible refine Dev.sound_ite (fun _ => ?_) (fun _ => ?_))

theorem Dev.alignResult_sound (bad : List (Fin 28 × BitVec 8)) (h : d.Sound p₀ n₀) :
  (Dev.alignResult d bad).Sound p₀ n₀ := by
  unfold Dev.alignResult
  repeat' (first
    | with_reducible assumption
    | with_reducible apply Dev.each_sound
    | with_reducible apply Dev.setB_sound
    | with_reducible apply Dev.set_sound
    | with_reducible apply Dev.raise_sound
    | with_reducible refine Dev.sound_ite (fun _ => ?_) (fun _ => ?_)
    | intro _)

theorem Dev.alignCheck_sound (h : d.Sound p₀ n₀) :
  (Dev.alignCheck d).Sound p₀ n₀ := by
  unfold Dev.alignCheck
  repeat' (first
    | with_reducible assumption
    | with_reducible apply Dev.setB_sound)

end Sys2Proof.Machine
end

