-- ==== Sys2Proof/Laws/SoundUnits.lean ====
section
/-! SUPPORT. Every operation of Machine/Units.lean keeps the device sound (Safety.lean): one lemma per operation. -/
namespace Sys2Proof.Machine

variable {p₀ : List Out} {n₀ : Nat} {d : Dev}

theorem Dev.unitGo_sound (n : Nat) (st : Nat) (h : d.Sound p₀ n₀) :
  (Dev.unitGo d n st).Sound p₀ n₀ := by
  unfold Dev.unitGo
  repeat' (first
    | with_reducible assumption
    | with_reducible apply Dev.updBur_sound
    | with_reducible apply Dev.set_sound
    | with_reducible refine Dev.sound_ite (fun _ => ?_) (fun _ => ?_))

theorem Dev.setMaster_sound (h : d.Sound p₀ n₀) :
  (Dev.setMaster d).Sound p₀ n₀ := by
  unfold Dev.setMaster
  repeat' (first
    | with_reducible assumption
    | with_reducible apply Dev.setB_sound)

theorem Dev.semDrop_sound (k : Nat) (h : d.Sound p₀ n₀) :
  (Dev.semDrop d k).Sound p₀ n₀ := by
  unfold Dev.semDrop
  repeat' (first
    | with_reducible assumption
    | with_reducible apply Dev.each_sound
    | with_reducible apply Dev.irq_sound
    | with_reducible apply Dev.wr_sound
    | with_reducible refine Dev.sound_ite (fun _ => ?_) (fun _ => ?_)
    | intro _)

theorem Dev.deskLeave_sound (k : Nat) (st : Nat) (h : d.Sound p₀ n₀) :
  (Dev.deskLeave d k st).Sound p₀ n₀ := by
  unfold Dev.deskLeave
  repeat' (first
    | with_reducible assumption
    | with_reducible rfl
    | with_reducible apply Dev.setMaster_sound
    | with_reducible apply Dev.unitGo_sound
    | with_reducible apply Dev.updTime_sound
    | with_reducible apply Dev.setB_sound
    | with_reducible apply Dev.irq_sound
    | with_reducible apply Dev.semDrop_sound
    | with_reducible refine Dev.sound_ite (fun _ => ?_) (fun _ => ?_))

theorem Dev.deskReturn_sound (k : Nat) (h : d.Sound p₀ n₀) :
  (Dev.deskReturn d k).Sound p₀ n₀ := by
  unfold Dev.deskReturn
  repeat' (first
    | with_reducible assumption
    | with_reducible apply Dev.setMaster_sound
    | with_reducible apply Dev.unitGo_sound)

theorem Dev.keepRegs_sound (p : RegDesc → Nat → Nat → Bool) (h : d.Sound p₀ n₀) :
  (Dev.keepRegs d p).Sound p₀ n₀ := by
  exact Dev.sound_regsFilter _ h

theorem Dev.deskReset_sound (k : Nat) (h : d.Sound p₀ n₀) :
  (Dev.deskReset d k).Sound p₀ n₀ := by
  unfold Dev.deskReset
  repeat' (first
    | with_reducible assumption
    | with_reducible apply Dev.keepRegs_sound
    | with_reducible apply Dev.sound_regsFilter
    | with_reducible refine Dev.sound_mk ?_ rfl rfl rfl)

theorem Dev.pcieReset_sound (k : Nat) (h : d.Sound p₀ n₀) :
  (Dev.pcieReset d k).Sound p₀ n₀ := by
  unfold Dev.pcieReset
  repeat' (first
    | with_reducible assumption
    | with_reducible apply Dev.keepRegs_sound
    | with_reducible apply Dev.sound_regsFilter
    | with_reducible refine Dev.sound_mk ?_ rfl rfl rfl)

theorem Dev.zeroCounters_sound (lo : Nat) (hi : Nat) (h : d.Sound p₀ n₀) :
  (Dev.zeroCounters d lo hi).Sound p₀ n₀ := by
  unfold Dev.zeroCounters
  repeat' (first
    | with_reducible assumption
    | with_reducible apply Dev.keepRegs_sound)

theorem Dev.coatClear_sound (t : Nat) (h : d.Sound p₀ n₀) :
  (Dev.coatClear d t).Sound p₀ n₀ := by
  unfold Dev.coatClear
  repeat' (first
    | with_reducible assumption
    | with_reducible rfl
    | with_reducible apply Dev.set_sound
    | with_reducible apply Dev.updTime_sound)

theorem Dev.meshDieClear_sound (m : Nat) (h : d.Sound p₀ n₀) :
  (Dev.meshDieClear d m).Sound p₀ n₀ := by
  unfold Dev.meshDieClear
  repeat' (first
    | with_reducible assumption
    | with_reducible apply Dev.steer_sound
    | with_reducible apply Dev.updCore_sound
    | with_reducible apply Dev.wr_sound
    | with_reducible apply Dev.orphans_sound
    | intro _
    | dsimp only)

theorem Dev.dieClear_sound (n : Nat) (h : d.Sound p₀ n₀) :
  (Dev.dieClear d n).Sound p₀ n₀ := by
  unfold Dev.dieClear
  repeat' (first
    | with_reducible assumption
    | with_reducible apply Dev.meshDieClear_sound
    | with_reducible apply Dev.updTm_sound
    | with_reducible apply Dev.coatClear_sound
    | with_reducible apply Dev.zeroCounters_sound
    | with_reducible refine Dev.sound_ite (fun _ => ?_) (fun _ => ?_))

theorem Dev.cabIsolate_sound (c : Nat) (h : d.Sound p₀ n₀) :
  (Dev.cabIsolate d c).Sound p₀ n₀ := by
  unfold Dev.cabIsolate
  repeat' (first
    | with_reducible assumption
    | with_reducible apply Dev.cabLost_sound
    | with_reducible apply Dev.set_sound)

theorem Dev.forceDown_sound (lp : Nat) (h : d.Sound p₀ n₀) :
  (Dev.forceDown d lp).Sound p₀ n₀ := by
  unfold Dev.forceDown
  repeat' (first
    | with_reducible assumption
    | with_reducible apply Dev.updLp_sound
    | with_reducible apply Dev.linkDown_sound
    | with_reducible refine Dev.sound_ite (fun _ => ?_) (fun _ => ?_))

theorem Dev.releaseDown_sound (lp : Nat) (h : d.Sound p₀ n₀) :
  (Dev.releaseDown d lp).Sound p₀ n₀ := by
  unfold Dev.releaseDown
  repeat' (first
    | with_reducible assumption
    | with_reducible apply Dev.enableLp_sound
    | with_reducible apply Dev.updLp_sound)

end Sys2Proof.Machine
end

