-- ==== Sys2Proof/Laws/SoundMeshFault.lean ====
section
/-! SUPPORT. Every operation of Machine/MeshFault.lean keeps the device sound (Safety.lean): one lemma per operation. -/
namespace Sys2Proof.Machine

variable {p₀ : List Out} {n₀ : Nat} {d : Dev}

theorem Dev.meshFail_sound (m : Nat) (dir : Nat) (h : d.Sound p₀ n₀) :
  (Dev.meshFail d m dir).Sound p₀ n₀ := by
  unfold Dev.meshFail
  repeat' (first
    | with_reducible assumption
    | with_reducible apply Dev.linkFail_sound
    | with_reducible apply Dev.cabLost_sound
    | with_reducible refine Dev.sound_snd (by assumption) ?_
    | split
    | dsimp only)

theorem Dev.meshRetrained_sound (die : Nat) (dir : Nat) (ok : Bool) (bad : List Nat) (h : d.Sound p₀ n₀) :
  (Dev.meshRetrained d die dir ok bad).Sound p₀ n₀ := by
  unfold Dev.meshRetrained
  repeat' (first
    | with_reducible assumption
    | with_reducible apply Dev.set_sound
    | with_reducible apply Dev.updEnd_sound
    | with_reducible apply Dev.updCore_sound
    | with_reducible apply Dev.each_sound
    | with_reducible apply Dev.laneFails_sound
    | with_reducible apply Dev.forceExpel_sound
    | with_reducible apply Dev.meshFail_sound
    | with_reducible apply Dev.count_sound
    | intro _
    | with_reducible refine Dev.sound_snd (by assumption) ?_
    | with_reducible refine Dev.sound_ite (fun _ => ?_) (fun _ => ?_)
    | split
    | dsimp only)

theorem Dev.meshSwitch_sound (die : Nat) (dir : Nat) (h : d.Sound p₀ n₀) :
  (Dev.meshSwitch d die dir).Sound p₀ n₀ := by
  unfold Dev.meshSwitch
  repeat' (first
    | with_reducible assumption
    | with_reducible apply Dev.updEnd_sound
    | with_reducible apply Dev.steer_sound
    | with_reducible apply Dev.count_sound
    | with_reducible apply Dev.raise_sound
    | with_reducible apply Dev.laneBad_sound
    | with_reducible apply Dev.set_sound
    | with_reducible apply Dev.nameLane_sound
    | with_reducible apply Dev.meshFail_sound
    | intro _
    | with_reducible refine Dev.sound_snd (by assumption) ?_
    | with_reducible refine Dev.sound_ite (fun _ => ?_) (fun _ => ?_)
    | split
    | dsimp only)

end Sys2Proof.Machine
end

