-- ==== Sys2Proof/Laws/SoundPower.lean ====
section
/-! SUPPORT. Every operation of Machine/Power.lean keeps the device sound (Safety.lean): one lemma per operation. -/
namespace Sys2Proof.Machine

variable {p₀ : List Out} {n₀ : Nat} {d : Dev}

/-- A device with nothing but its flash, its fuses, its pins and what has left it is sound where the old one was. -/
theorem Dev.blank_sound (uds : BitVec 256) (q : PwrSt) (h : d.Sound p₀ n₀) :
    Dev.Sound p₀ n₀ { pwr := q, boot := { flash := d.boot.flash, uds := uds }, out := d.out, fresh := d.fresh } :=
  ⟨⟨⟨.nil, fun _ he => nomatch he⟩, ⟨.nil, fun _ he => nomatch he⟩, h.1.2.2.1, Nat.two_pow_pos 64⟩, h.2⟩

theorem Dev.updPwr_sound (f : PwrSt → PwrSt) (h : d.Sound p₀ n₀) :
  (Dev.updPwr d f).Sound p₀ n₀ := by
  unfold Dev.updPwr
  repeat' (first
    | with_reducible assumption
    | with_reducible apply Dev.sound_regsFilter
    | with_reducible refine Dev.sound_mk ?_ rfl rfl rfl)

theorem Dev.faultPin_sound (low : Bool) (h : d.Sound p₀ n₀) :
  (Dev.faultPin d low).Sound p₀ n₀ := by
  unfold Dev.faultPin
  repeat' (first
    | with_reducible assumption
    | with_reducible apply Dev.emit_sound
    | with_reducible apply Dev.updPwr_sound
    | with_reducible refine Dev.sound_ite (fun _ => ?_) (fun _ => ?_))

theorem Dev.tripPin_sound (low : Bool) (h : d.Sound p₀ n₀) :
  (Dev.tripPin d low).Sound p₀ n₀ := by
  unfold Dev.tripPin
  repeat' (first
    | with_reducible assumption
    | with_reducible apply Dev.emit_sound
    | with_reducible apply Dev.updPwr_sound
    | with_reducible refine Dev.sound_ite (fun _ => ?_) (fun _ => ?_))

theorem Dev.showLimit_sound (was : Nat) (h : d.Sound p₀ n₀) :
  (Dev.showLimit d was).Sound p₀ n₀ := by
  unfold Dev.showLimit
  repeat' (first
    | with_reducible assumption
    | with_reducible apply Dev.set_sound
    | with_reducible apply Dev.count_sound
    | with_reducible refine Dev.sound_ite (fun _ => ?_) (fun _ => ?_))

theorem Dev.limit1_sound (avg1 : Nat) (avg100 : Nat) (h : d.Sound p₀ n₀) :
  (Dev.limit1 d avg1 avg100).Sound p₀ n₀ := by
  unfold Dev.limit1
  repeat' (first
    | with_reducible assumption
    | with_reducible apply Dev.set_sound
    | with_reducible apply Dev.showLimit_sound
    | with_reducible apply Dev.updPwr_sound
    | with_reducible refine Dev.sound_ite (fun _ => ?_) (fun _ => ?_))

theorem Dev.limit2_sound (h : d.Sound p₀ n₀) :
  (Dev.limit2 d).Sound p₀ n₀ := by
  unfold Dev.limit2
  repeat' (first
    | with_reducible assumption
    | with_reducible apply Dev.showLimit_sound
    | with_reducible apply Dev.updPwr_sound
    | with_reducible refine Dev.sound_ite (fun _ => ?_) (fun _ => ?_))

theorem Dev.limitEnd_sound (avg100 : Nat) (h : d.Sound p₀ n₀) :
  (Dev.limitEnd d avg100).Sound p₀ n₀ := by
  unfold Dev.limitEnd
  repeat' (first
    | with_reducible assumption
    | with_reducible apply Dev.set_sound
    | with_reducible apply Dev.showLimit_sound
    | with_reducible apply Dev.updPwr_sound
    | with_reducible refine Dev.sound_ite (fun _ => ?_) (fun _ => ?_))

theorem Dev.vrHot_sound (on : Bool) (h : d.Sound p₀ n₀) :
  (Dev.vrHot d on).Sound p₀ n₀ := by
  unfold Dev.vrHot
  repeat' (first
    | with_reducible assumption
    | with_reducible apply Dev.showLimit_sound
    | with_reducible apply Dev.setB_sound)

theorem Dev.vinMain_sound (mv : Nat) (h : d.Sound p₀ n₀) :
  (Dev.vinMain d mv).Sound p₀ n₀ := by
  unfold Dev.vinMain
  repeat' (first
    | with_reducible assumption
    | with_reducible apply Dev.set_sound
    | with_reducible apply Dev.updPwr_sound
    | with_reducible refine Dev.sound_ite (fun _ => ?_) (fun _ => ?_))

theorem Dev.supplyWarn_sound (mv : Nat) (h : d.Sound p₀ n₀) :
  (Dev.supplyWarn d mv).Sound p₀ n₀ := by
  unfold Dev.supplyWarn
  repeat' (first
    | with_reducible assumption
    | with_reducible apply Dev.vinMain_sound
    | with_reducible apply Dev.set_sound
    | with_reducible refine Dev.sound_ite (fun _ => ?_) (fun _ => ?_))

theorem Dev.bootEngines_sound (h : d.Sound p₀ n₀) :
  (Dev.bootEngines d).Sound p₀ n₀ := by
  unfold Dev.bootEngines
  repeat' (first
    | with_reducible assumption
    | with_reducible apply Dev.stageReady_sound
    | with_reducible apply Dev.each_sound
    | with_reducible apply Dev.domainRequest_sound
    | split
    | with_reducible apply Dev.sound_regsFilter
    | with_reducible refine Dev.sound_mk ?_ rfl rfl rfl)

theorem Dev.supplyClear_sound (mv : Nat) (h : d.Sound p₀ n₀) :
  (Dev.supplyClear d mv).Sound p₀ n₀ := by
  unfold Dev.supplyClear
  repeat' (first
    | with_reducible assumption
    | with_reducible apply Dev.vinMain_sound
    | with_reducible apply Dev.bootEngines_sound
    | with_reducible apply Dev.raise_sound
    | with_reducible apply Dev.count_sound
    | with_reducible apply Dev.set_sound
    | with_reducible refine Dev.sound_ite (fun _ => ?_) (fun _ => ?_))

theorem Dev.allDown_sound (h : d.Sound p₀ n₀) :
  (Dev.allDown d).Sound p₀ n₀ := by
  unfold Dev.allDown
  repeat' (first
    | with_reducible assumption
    | with_reducible apply Dev.each_sound
    | with_reducible apply Dev.linkDown_sound
    | with_reducible refine Dev.sound_ite (fun _ => ?_) (fun _ => ?_)
    | intro _)

theorem Dev.safeDiscard_sound (h : d.Sound p₀ n₀) :
  (Dev.safeDiscard d).Sound p₀ n₀ := by
  unfold Dev.safeDiscard
  repeat' (first
    | with_reducible assumption
    | with_reducible rfl
    | with_reducible apply Dev.each_sound
    | with_reducible apply Dev.cabEmpty_sound
    | with_reducible apply Dev.meshDieClear_sound
    | with_reducible apply Dev.updLp_sound
    | with_reducible apply Dev.updPool_sound
    | with_reducible apply Dev.updTm_sound
    | with_reducible apply Dev.updFwd_sound
    | intro _)

theorem Dev.domainsOff_sound (h : d.Sound p₀ n₀) :
  (Dev.domainsOff d).Sound p₀ n₀ := by
  unfold Dev.domainsOff
  repeat' (first
    | with_reducible assumption
    | with_reducible apply Dev.each_sound
    | with_reducible apply Dev.ringGo_sound
    | with_reducible apply Dev.updRing_sound
    | with_reducible apply Dev.setB_sound
    | with_reducible apply Dev.set_sound
    | with_reducible apply Dev.updPwr_sound
    | intro _
    | with_reducible refine Dev.sound_ite (fun _ => ?_) (fun _ => ?_)
    | split
    | dsimp only
    | with_reducible refine Dev.sound_mk ?_ rfl rfl rfl)

theorem Dev.sbdOff_sound (h : d.Sound p₀ n₀) :
  (Dev.sbdOff d).Sound p₀ n₀ := by
  unfold Dev.sbdOff
  repeat' (first
    | with_reducible assumption
    | with_reducible apply Dev.set_sound
    | with_reducible apply Dev.sbdNoLive_sound
    | with_reducible apply Dev.allElectrical_sound
    | with_reducible apply Dev.sbdDomainOff_sound)

theorem Dev.safeStop_sound (cause : Nat) (h : d.Sound p₀ n₀) :
  (Dev.safeStop d cause).Sound p₀ n₀ := by
  unfold Dev.safeStop
  repeat' (first
    | with_reducible assumption
    | with_reducible apply Dev.updPwr_sound
    | with_reducible apply Dev.faultPin_sound
    | with_reducible apply Dev.set_sound
    | with_reducible apply Dev.raise_sound
    | with_reducible apply Dev.domainsOff_sound
    | with_reducible apply Dev.safeDiscard_sound
    | with_reducible apply Dev.sbdOff_sound
    | with_reducible apply Dev.allDown_sound
    | with_reducible apply Dev.cwinCutAll_sound
    | with_reducible refine Dev.sound_ite (fun _ => ?_) (fun _ => ?_))

theorem Dev.resumeBegin_sound (h : d.Sound p₀ n₀) :
  (Dev.resumeBegin d).Sound p₀ n₀ := by
  unfold Dev.resumeBegin
  repeat' (first
    | with_reducible assumption
    | with_reducible apply Dev.faultPin_sound
    | with_reducible apply Dev.set_sound
    | with_reducible apply Dev.launchMissed_sound
    | with_reducible apply Dev.updPwr_sound
    | with_reducible apply Dev.updTm_sound
    | with_reducible apply Dev.each_sound
    | with_reducible apply Dev.coatClear_sound
    | with_reducible apply Dev.zeroCounters_sound
    | with_reducible apply Dev.domainRequest_sound
    | intro _)

theorem Dev.resumeWrite_sound (h : d.Sound p₀ n₀) :
  (Dev.resumeWrite d).Sound p₀ n₀ := by
  unfold Dev.resumeWrite
  repeat' (first
    | with_reducible assumption
    | with_reducible apply Dev.resumeBegin_sound
    | with_reducible refine Dev.sound_ite (fun _ => ?_) (fun _ => ?_))

theorem Dev.autoResume_sound (h : d.Sound p₀ n₀) :
  (Dev.autoResume d).Sound p₀ n₀ := by
  unfold Dev.autoResume
  repeat' (first
    | with_reducible assumption
    | with_reducible apply Dev.updPwr_sound
    | with_reducible apply Dev.resumeBegin_sound
    | with_reducible refine Dev.sound_ite (fun _ => ?_) (fun _ => ?_))

theorem Dev.resumeDrawers_sound (h : d.Sound p₀ n₀) :
  (Dev.resumeDrawers d).Sound p₀ n₀ := by
  unfold Dev.resumeDrawers
  repeat' (first
    | with_reducible assumption
    | with_reducible apply Dev.each_sound
    | with_reducible apply Dev.resumeOne_sound)

theorem Dev.resumeWindows_sound (h : d.Sound p₀ n₀) :
  (Dev.resumeWindows d).Sound p₀ n₀ := by
  unfold Dev.resumeWindows
  repeat' (first
    | with_reducible assumption
    | with_reducible apply Dev.each_sound
    | with_reducible apply Dev.set_sound
    | intro _
    | split)

theorem Dev.resumeComplete_sound (h : d.Sound p₀ n₀) :
  (Dev.resumeComplete d).Sound p₀ n₀ := by
  unfold Dev.resumeComplete
  repeat' (first
    | with_reducible assumption
    | with_reducible apply Dev.resumeWindows_sound
    | with_reducible apply Dev.resumeDrawers_sound
    | with_reducible apply Dev.drainClear_sound
    | with_reducible apply Dev.set_sound
    | with_reducible apply Dev.count_sound
    | with_reducible refine Dev.sound_ite (fun _ => ?_) (fun _ => ?_))

theorem Dev.afterReset_sound (aon : Bool) (heaters : Bool) (h : d.Sound p₀ n₀) :
  (Dev.afterReset d aon heaters).Sound p₀ n₀ := by
  unfold Dev.afterReset
  repeat' (first
    | with_reducible assumption
    | with_reducible exact Dev.blank_sound _ _ h
    | with_reducible apply Dev.setB_sound
    | with_reducible apply Dev.set_sound
    | with_reducible apply Dev.each_sound
    | with_reducible apply Dev.wr_sound
    | with_reducible refine Dev.sound_ite (fun _ => ?_) (fun _ => ?_)
    | intro _)

theorem Dev.deviceReset_sound (aon : Bool) (h : d.Sound p₀ n₀) :
  (Dev.deviceReset d aon).Sound p₀ n₀ := by
  unfold Dev.deviceReset
  repeat' (first
    | with_reducible assumption
    | with_reducible apply Dev.tripPin_sound
    | with_reducible apply Dev.faultPin_sound
    | with_reducible apply Dev.afterReset_sound)

theorem Dev.cabOff_sound (c : Nat) (h : d.Sound p₀ n₀) :
  (Dev.cabOff d c).Sound p₀ n₀ := by
  unfold Dev.cabOff
  repeat' (first
    | with_reducible assumption
    | with_reducible apply Dev.unitGo_sound
    | with_reducible apply Dev.cabIsolate_sound
    | with_reducible apply Dev.domainOff_sound
    | with_reducible apply Dev.failover_sound
    | with_reducible refine Dev.sound_ite (fun _ => ?_) (fun _ => ?_))

theorem Dev.sbdPdOff_sound (pd : Nat) (h : d.Sound p₀ n₀) :
  (Dev.sbdPdOff d pd).Sound p₀ n₀ := by
  unfold Dev.sbdPdOff
  repeat' (first
    | with_reducible assumption
    | with_reducible apply Dev.sbdDomainOff_sound
    | with_reducible apply Dev.domainOff_sound
    | with_reducible refine Dev.sound_ite (fun _ => ?_) (fun _ => ?_))

theorem Dev.pdWrite_sound (v : Word) (h : d.Sound p₀ n₀) :
  (Dev.pdWrite d v).Sound p₀ n₀ := by
  unfold Dev.pdWrite
  repeat' (first
    | with_reducible assumption
    | with_reducible apply Dev.count_sound
    | with_reducible apply Dev.set_sound
    | with_reducible apply Dev.each_sound
    | with_reducible apply Dev.domainRequest_sound
    | with_reducible apply Dev.cabOff_sound
    | with_reducible apply Dev.sbdPdOff_sound
    | with_reducible refine Dev.sound_ite (fun _ => ?_) (fun _ => ?_)
    | intro _)

theorem Dev.pdOn_sound (h : d.Sound p₀ n₀) :
  (Dev.pdOn d).Sound p₀ n₀ := by
  unfold Dev.pdOn
  repeat' (first
    | with_reducible assumption
    | with_reducible apply Dev.updPwr_sound
    | with_reducible apply Dev.setB_sound
    | with_reducible apply Dev.set_sound
    | with_reducible apply Dev.engineStart_sound
    | with_reducible apply Dev.sbdDomainOn_sound
    | intro _
    | with_reducible refine Dev.sound_snd (by assumption) ?_
    | with_reducible refine Dev.sound_ite (fun _ => ?_) (fun _ => ?_)
    | split
    | dsimp only)

theorem Dev.sensor_sound (n : Nat) (s : Nat) (t : Int) (h : d.Sound p₀ n₀) :
  (Dev.sensor d n s t).Sound p₀ n₀ := by
  unfold Dev.sensor
  repeat' (first
    | with_reducible assumption
    | with_reducible apply Dev.set_sound
    | with_reducible apply Dev.setB_sound
    | with_reducible apply Dev.count_sound
    | with_reducible apply Dev.raise_sound
    | with_reducible apply Dev.safeStop_sound
    | with_reducible apply Dev.tripPin_sound
    | with_reducible apply Dev.updPwr_sound
    | with_reducible refine Dev.sound_ite (fun _ => ?_) (fun _ => ?_))

theorem Dev.setRef_sound (b : Bool) (ok : Bool) (h : d.Sound p₀ n₀) :
  (Dev.setRef d b ok).Sound p₀ n₀ := by
  unfold Dev.setRef
  repeat' (first
    | with_reducible assumption
    | with_reducible apply Dev.setB_sound
    | with_reducible refine Dev.sound_ite (fun _ => ?_) (fun _ => ?_))

theorem Dev.refMove_sound (b : Bool) (h : d.Sound p₀ n₀) :
  (Dev.refMove d b).Sound p₀ n₀ := by
  unfold Dev.refMove
  repeat' (first
    | with_reducible assumption
    | with_reducible apply Dev.raise_sound
    | with_reducible apply Dev.count_sound
    | with_reducible apply Dev.setB_sound)

theorem Dev.refLoss_sound (b : Bool) (h : d.Sound p₀ n₀) :
  (Dev.refLoss d b).Sound p₀ n₀ := by
  unfold Dev.refLoss
  repeat' (first
    | with_reducible assumption
    | with_reducible apply Dev.raise_sound
    | with_reducible apply Dev.count_sound
    | with_reducible apply Dev.setRef_sound
    | with_reducible apply Dev.refMove_sound
    | with_reducible apply Dev.setB_sound
    | with_reducible refine Dev.sound_ite (fun _ => ?_) (fun _ => ?_))

theorem Dev.refSwitch_sound (h : d.Sound p₀ n₀) :
  (Dev.refSwitch d).Sound p₀ n₀ := by
  unfold Dev.refSwitch
  repeat' (first
    | with_reducible assumption
    | with_reducible apply Dev.refMove_sound
    | with_reducible refine Dev.sound_ite (fun _ => ?_) (fun _ => ?_))

theorem Dev.refReturn_sound (b : Bool) (h : d.Sound p₀ n₀) :
  (Dev.refReturn d b).Sound p₀ n₀ := by
  unfold Dev.refReturn
  repeat' (first
    | with_reducible assumption
    | with_reducible apply Dev.setRef_sound
    | with_reducible apply Dev.setB_sound
    | with_reducible apply Dev.refMove_sound
    | with_reducible refine Dev.sound_ite (fun _ => ?_) (fun _ => ?_))

end Sys2Proof.Machine
end

