-- ==== Sys2Proof/Laws/SoundBureau.lean ====
section
/-! SUPPORT. Every operation of Machine/Bureau.lean keeps the device sound (Safety.lean): one lemma per operation. -/
namespace Sys2Proof.Machine

variable {p₀ : List Out} {n₀ : Nat} {d : Dev}

theorem Dev.rawZero_sound (h : d.Sound p₀ n₀) :
    (d.updTime fun t => { t with raw := 0, baseC := 0 }).Sound p₀ n₀ :=
  ⟨⟨h.1.1, h.1.2.1, h.1.2.2.1, Nat.two_pow_pos 64⟩, h.2⟩

theorem Dev.logAt_sound (k : Nat) (ws : List Nat) (level : Nat) (h : d.Sound p₀ n₀) :
  (Dev.logAt d k ws level).Sound p₀ n₀ := by
  unfold Dev.logAt
  repeat' (first
    | with_reducible assumption
    | with_reducible apply Dev.count_sound
    | with_reducible apply Dev.each_sound
    | with_reducible apply Dev.wr_sound
    | with_reducible apply Dev.set_sound
    | with_reducible apply Dev.irq_sound
    | with_reducible apply Dev.draw_sound
    | with_reducible apply Dev.emit_sound
    | with_reducible refine Dev.sound_ite (fun _ => ?_) (fun _ => ?_)
    | intro _)

theorem Dev.log_sound (r : LogRec) (h : d.Sound p₀ n₀) :
  (Dev.log d r).Sound p₀ n₀ := by
  unfold Dev.log
  repeat' (first
    | with_reducible assumption
    | with_reducible apply Dev.updBur_sound
    | with_reducible apply Dev.logAt_sound
    | with_reducible refine Dev.sound_ite (fun _ => ?_) (fun _ => ?_))

theorem Dev.graceSet_sound (s : Nat) (level : Nat) (h : d.Sound p₀ n₀) :
  (Dev.graceSet d s level).Sound p₀ n₀ := by
  unfold Dev.graceSet
  repeat' (first
    | with_reducible assumption
    | with_reducible apply Dev.updBur_sound
    | with_reducible refine Dev.sound_ite (fun _ => ?_) (fun _ => ?_))

theorem Dev.graceNone_sound (h : d.Sound p₀ n₀) :
  (Dev.graceNone d).Sound p₀ n₀ := by
  unfold Dev.graceNone
  repeat' (first
    | with_reducible assumption
    | with_reducible apply Dev.updBur_sound)

theorem Dev.putOut_sound (inst : Nat) (src : Nat) (auto : Bool) (h : d.Sound p₀ n₀) :
  (Dev.putOut d inst src auto).Sound p₀ n₀ := by
  unfold Dev.putOut
  repeat' (first
    | with_reducible assumption
    | with_reducible apply Dev.updBur_sound)

theorem Dev.dieOutBy_sound (n : Nat) (src : Nat) (auto : Bool) (reset : Bool) (h : d.Sound p₀ n₀) :
  (Dev.dieOutBy d n src auto reset).Sound p₀ n₀ := by
  unfold Dev.dieOutBy
  repeat' (first
    | with_reducible assumption
    | with_reducible apply Dev.updBur_sound
    | with_reducible apply Dev.unitGo_sound)

theorem Dev.isolateLane_sound (p : Nat) (j : Nat) (h : d.Sound p₀ n₀) :
  (Dev.isolateLane d p j).Sound p₀ n₀ := by
  unfold Dev.isolateLane
  repeat' (first
    | with_reducible assumption
    | with_reducible apply Dev.updLane_sound
    | with_reducible apply Dev.rxTakeOut_sound
    | with_reducible apply Dev.afterMap_sound
    | with_reducible apply Dev.setRole_sound
    | with_reducible apply Dev.txLaneOut_sound
    | with_reducible apply Dev.txRemove_sound
    | with_reducible apply Dev.unqualify_sound
    | with_reducible apply Dev.ringReacquire_sound
    | intro _
    | with_reducible refine Dev.sound_ite (fun _ => ?_) (fun _ => ?_))

theorem Dev.actDie_sound (n : Nat) (level : Nat) (src : Nat) (auto : Bool) (h : d.Sound p₀ n₀) :
  (Dev.actDie d n level src auto).Sound p₀ n₀ := by
  unfold Dev.actDie
  repeat' (first
    | with_reducible assumption
    | with_reducible apply Dev.each_sound
    | with_reducible apply Dev.forceDown_sound
    | with_reducible apply Dev.dieOutBy_sound
    | with_reducible apply Dev.cabIsolate_sound
    | with_reducible apply Dev.domainOff_sound
    | with_reducible apply Dev.domainRequest_sound
    | with_reducible apply Dev.sbdDomainOff_sound
    | with_reducible apply Dev.allElectrical_sound
    | with_reducible apply Dev.sbdNoLive_sound
    | with_reducible apply Dev.set_sound
    | with_reducible apply Dev.noDriveOn_sound
    | with_reducible apply Dev.deskReset_sound
    | with_reducible apply Dev.deskLeave_sound
    | with_reducible apply Dev.updBur_sound
    | with_reducible apply Dev.engineDown_sound
    | intro _
    | with_reducible refine Dev.sound_ite (fun _ => ?_) (fun _ => ?_))

theorem Dev.act_sound (i : Inst) (level : Nat) (src : Nat) (auto : Bool) (h : d.Sound p₀ n₀) :
  (Dev.act d i level src auto).Sound p₀ n₀ := by
  unfold Dev.act
  repeat' (first
    | with_reducible assumption
    | with_reducible apply Dev.actDie_sound
    | with_reducible apply Dev.isolateLane_sound
    | with_reducible apply Dev.putOut_sound
    | with_reducible apply Dev.forceDown_sound
    | with_reducible apply Dev.linkDown_sound
    | with_reducible apply Dev.backIn_sound
    | with_reducible apply Dev.releaseDown_sound
    | with_reducible apply Dev.meshFail_sound
    | with_reducible apply Dev.updEnd_sound
    | with_reducible apply Dev.count_sound
    | with_reducible apply Dev.set_sound
    | intro _
    | with_reducible refine Dev.sound_snd (by assumption) ?_
    | with_reducible refine Dev.sound_ite (fun _ => ?_) (fun _ => ?_)
    | split)

theorem Dev.actStop_sound (h : d.Sound p₀ n₀) :
  (Dev.actStop d).Sound p₀ n₀ := by
  unfold Dev.actStop
  repeat' (first
    | with_reducible assumption
    | with_reducible apply Dev.safeStop_sound
    | with_reducible apply Dev.graceNone_sound)

theorem Dev.react_sound (s : Nat) (level : Nat) (inst : Nat) (inst2 : Nat) (kind : Nat) (injected : Bool) (h : d.Sound p₀ n₀) :
  (Dev.react d s level inst inst2 kind injected).2.Sound p₀ n₀ := by
  unfold Dev.react
  repeat' (first
    | with_reducible assumption
    | with_reducible apply Dev.log_sound
    | with_reducible apply Dev.tryExpel_sound
    | with_reducible apply Dev.setB_sound
    | with_reducible apply Dev.set_sound
    | with_reducible apply Dev.updBur_sound
    | with_reducible apply Dev.actStop_sound
    | with_reducible apply Dev.act_sound
    | with_reducible refine Dev.sound_ite_snd (fun _ => ?_) (fun _ => ?_)
    | with_reducible refine Dev.sound_ite (fun _ => ?_) (fun _ => ?_)
    | split)

theorem Dev.reactAlone_sound (s : Nat) (level : Nat) (inst : Nat) (h : d.Sound p₀ n₀) :
  (Dev.reactAlone d s level inst).Sound p₀ n₀ := by
  unfold Dev.reactAlone
  repeat' (first
    | with_reducible assumption
    | with_reducible apply Dev.safeStop_sound
    | with_reducible apply Dev.isolateLane_sound
    | with_reducible apply Dev.forceDown_sound
    | with_reducible apply Dev.act_sound
    | with_reducible apply Dev.meshFail_sound
    | with_reducible apply Dev.engineDown_sound
    | with_reducible refine Dev.sound_snd (by assumption) ?_
    | with_reducible refine Dev.sound_ite (fun _ => ?_) (fun _ => ?_)
    | split)

theorem Dev.trip_sound (s : Nat) (inst : Nat) (inst2 : Nat) (injected : Bool) (h : d.Sound p₀ n₀) :
  (Dev.trip d s inst inst2 injected).Sound p₀ n₀ := by
  unfold Dev.trip
  have h1 : (d.set F.BUR_SRC.LAST s d.now).Sound p₀ n₀ := Dev.set_sound _ _ _ h
  generalize d.set F.BUR_SRC.LAST s d.now = e at h1
  extract_lets d1 held x level
  have hd : d1.Sound p₀ n₀ := h1
  clear_value level x held d1
  have h2 := Dev.react_sound s level inst inst2 0 injected hd
  generalize d1.react s level inst inst2 0 injected = q at h2 ⊢
  obtain ⟨l, e'⟩ := q
  exact Dev.sound_ite (fun _ => Dev.reactAlone_sound _ _ _ hd) (fun _ =>
    Dev.sound_ite (fun _ => h2) (fun _ => Dev.graceSet_sound _ _ h2))

theorem Dev.bureauEvent_sound (s : Nat) (inst : Nat) (inst2 : Nat) (injected : Bool) (h : d.Sound p₀ n₀) :
  (Dev.bureauEvent d s inst inst2 injected).Sound p₀ n₀ := by
  unfold Dev.bureauEvent
  repeat' (first
    | with_reducible assumption
    | with_reducible apply Dev.trip_sound
    | with_reducible apply Dev.set_sound
    | split
    | with_reducible apply Dev.sound_regsFilter
    | with_reducible refine Dev.sound_mk ?_ rfl rfl rfl)

theorem Dev.silence_sound (u : Nat) (h : d.Sound p₀ n₀) :
  (Dev.silence d u).Sound p₀ n₀ := by
  unfold Dev.silence
  repeat' (first
    | with_reducible assumption
    | with_reducible apply Dev.raise_sound
    | split)

theorem Dev.graceExpire_sound (u : Nat) (cls : Nat) (h : d.Sound p₀ n₀) :
  (Dev.graceExpire d u cls).Sound p₀ n₀ := by
  unfold Dev.graceExpire
  repeat' (first
    | with_reducible assumption
    | with_reducible apply Dev.updBur_sound
    | with_reducible apply Dev.react_sound
    | with_reducible apply Dev.graceSet_sound
    | dsimp only
    | split)

theorem Dev.acknowledge_sound (n : Nat) (h : d.Sound p₀ n₀) :
  (Dev.acknowledge d n).Sound p₀ n₀ := by
  unfold Dev.acknowledge
  repeat' (first
    | with_reducible assumption
    | with_reducible apply Dev.set_sound
    | with_reducible apply Dev.setB_sound
    | with_reducible apply Dev.updBur_sound
    | with_reducible refine Dev.sound_ite (fun _ => ?_) (fun _ => ?_)
    | split)

theorem Dev.burAct_sound (desk : Nat) (v : Word) (h : d.Sound p₀ n₀) :
  (Dev.burAct d desk v).Sound p₀ n₀ := by
  unfold Dev.burAct
  repeat' (first
    | with_reducible assumption
    | with_reducible apply Dev.writeRw_sound
    | with_reducible apply Dev.log_sound
    | with_reducible apply Dev.actStop_sound
    | with_reducible apply Dev.act_sound
    | with_reducible apply Dev.irq_sound
    | with_reducible apply Dev.set_sound
    | split)

theorem Dev.dieBack_sound (n : Nat) (h : d.Sound p₀ n₀) :
  (Dev.dieBack d n).Sound p₀ n₀ := by
  unfold Dev.dieBack
  repeat' (first
    | with_reducible assumption
    | with_reducible apply Dev.backIn_sound
    | with_reducible apply Dev.unitGo_sound
    | with_reducible apply Dev.each_sound
    | with_reducible apply Dev.releaseDown_sound
    | with_reducible apply Dev.setMaster_sound
    | with_reducible apply Dev.domainRequest_sound
    | with_reducible refine Dev.sound_ite (fun _ => ?_) (fun _ => ?_)
    | intro _)

theorem Dev.instBack_sound (i : Inst) (h : d.Sound p₀ n₀) :
  (Dev.instBack d i).Sound p₀ n₀ := by
  unfold Dev.instBack
  repeat' (first
    | with_reducible assumption
    | with_reducible apply Dev.dieBack_sound
    | with_reducible apply Dev.backIn_sound
    | with_reducible apply Dev.setRole_sound
    | with_reducible apply Dev.releaseDown_sound
    | with_reducible apply Dev.set_sound
    | with_reducible refine Dev.sound_snd (by assumption) ?_
    | with_reducible refine Dev.sound_ite (fun _ => ?_) (fun _ => ?_)
    | split)

theorem Dev.quietExpire_sound (inst : Nat) (ok : Bool) (h : d.Sound p₀ n₀) :
  (Dev.quietExpire d inst ok).Sound p₀ n₀ := by
  unfold Dev.quietExpire
  repeat' (first
    | with_reducible assumption
    | with_reducible apply Dev.log_sound
    | with_reducible apply Dev.bumpSat_sound
    | with_reducible apply Dev.instBack_sound
    | with_reducible apply Dev.updBur_sound
    | with_reducible apply Dev.set_sound
    | with_reducible refine Dev.sound_ite (fun _ => ?_) (fun _ => ?_)
    | split)

theorem Dev.unitWrite_sound (n : Nat) (v : Word) (h : d.Sound p₀ n₀) :
  (Dev.unitWrite d n v).Sound p₀ n₀ := by
  unfold Dev.unitWrite
  repeat' (first
    | with_reducible assumption
    | with_reducible apply Dev.dieBack_sound
    | with_reducible refine Dev.sound_ite (fun _ => ?_) (fun _ => ?_))

theorem Dev.rejoin_sound (n : Nat) (delay : Nat) (h : d.Sound p₀ n₀) :
  (Dev.rejoin d n delay).Sound p₀ n₀ := by
  unfold Dev.rejoin
  repeat' (first
    | with_reducible assumption
    | with_reducible apply Dev.dieClear_sound
    | with_reducible apply Dev.each_sound
    | with_reducible apply Dev.set_sound
    | with_reducible apply Dev.setB_sound
    | with_reducible apply Dev.updBur_sound
    | with_reducible refine Dev.sound_ite (fun _ => ?_) (fun _ => ?_)
    | intro _)

theorem Dev.takeover_sound (k : Nat) (h : d.Sound p₀ n₀) :
  (Dev.takeover d k).Sound p₀ n₀ := by
  unfold Dev.takeover
  repeat' (first
    | with_reducible assumption
    | with_reducible apply Dev.updBur_sound
    | with_reducible apply Dev.deskLeave_sound
    | with_reducible refine Dev.sound_ite (fun _ => ?_) (fun _ => ?_))

theorem Dev.resetAlign_sound (delays : List Nat) (h : d.Sound p₀ n₀) :
  (Dev.resetAlign d delays).Sound p₀ n₀ := by
  unfold Dev.resetAlign
  repeat' (first
    | with_reducible assumption
    | with_reducible apply Dev.rawZero_sound
    | with_reducible rfl
    | with_reducible apply Dev.setB_sound
    | with_reducible apply Dev.setRef_sound
    | with_reducible apply Dev.updTime_sound
    | with_reducible apply Dev.updCore_sound
    | with_reducible apply Dev.each_sound
    | with_reducible apply Dev.set_sound
    | with_reducible refine Dev.sound_ite (fun _ => ?_) (fun _ => ?_)
    | intro _)

theorem Dev.budgetExpire_sound (n : Nat) (scope : Nat) (h : d.Sound p₀ n₀) :
  (Dev.budgetExpire d n scope).Sound p₀ n₀ := by
  unfold Dev.budgetExpire
  repeat' (first
    | with_reducible assumption
    | with_reducible apply Dev.updBur_sound
    | split)

theorem Dev.shadowDigest_sound (prim : Nat) (h : d.Sound p₀ n₀) :
  (Dev.shadowDigest d prim).Sound p₀ n₀ := by
  unfold Dev.shadowDigest
  repeat' (first
    | with_reducible assumption
    | with_reducible apply Dev.updCab_sound
    | with_reducible apply Dev.set_sound
    | with_reducible apply Dev.setB_sound
    | with_reducible apply Dev.dropShadow_sound
    | with_reducible apply Dev.raise_sound
    | dsimp only
    | split)

theorem Dev.spineClear_sound (h : d.Sound p₀ n₀) :
  (Dev.spineClear d).Sound p₀ n₀ := by
  unfold Dev.spineClear
  repeat' (first
    | with_reducible assumption
    | with_reducible apply Dev.setB_sound)

theorem Dev.standin_sound (desk : Nat) (v : Word) (h : d.Sound p₀ n₀) :
  (Dev.standin d desk v).Sound p₀ n₀ := by
  unfold Dev.standin
  repeat' (first
    | with_reducible assumption
    | with_reducible apply Dev.writeRw_sound
    | with_reducible apply Dev.setB_sound
    | with_reducible apply Dev.set_sound
    | with_reducible apply Dev.irq_sound
    | with_reducible refine Dev.sound_ite_snd (fun _ => ?_) (fun _ => ?_)
    | with_reducible refine Dev.sound_ite (fun _ => ?_) (fun _ => ?_))

theorem Dev.applyFault_sound (r : InjRun) (h : d.Sound p₀ n₀) :
  (Dev.applyFault d r).Sound p₀ n₀ := by
  unfold Dev.applyFault
  repeat' (first
    | with_reducible assumption
    | with_reducible apply Dev.raise_sound
    | with_reducible apply Dev.updBur_sound
    | with_reducible apply Dev.silence_sound
    | with_reducible apply Dev.flagFrom_sound
    | intro _
    | with_reducible refine Dev.sound_snd (by assumption) ?_
    | with_reducible refine Dev.sound_ite (fun _ => ?_) (fun _ => ?_)
    | split)

theorem Dev.inject_sound (e : Nat) (h : d.Sound p₀ n₀) :
  (Dev.inject d e).Sound p₀ n₀ := by
  unfold Dev.inject
  repeat' (first
    | with_reducible assumption
    | with_reducible apply Dev.count_sound
    | with_reducible apply Dev.log_sound
    | with_reducible apply Dev.applyFault_sound
    | with_reducible apply Dev.updBur_sound
    | with_reducible refine Dev.sound_ite (fun _ => ?_) (fun _ => ?_))

theorem Dev.injCmd_sound (v : Word) (h : d.Sound p₀ n₀) :
  (Dev.injCmd d v).Sound p₀ n₀ := by
  unfold Dev.injCmd
  repeat' (first
    | with_reducible assumption
    | with_reducible apply Dev.writeRw_sound
    | with_reducible apply Dev.inject_sound
    | with_reducible refine Dev.sound_ite (fun _ => ?_) (fun _ => ?_))

theorem Dev.injectNext_sound (e : Nat) (h : d.Sound p₀ n₀) :
  (Dev.injectNext d e).Sound p₀ n₀ := by
  unfold Dev.injectNext
  repeat' (first
    | with_reducible assumption
    | with_reducible apply Dev.applyFault_sound
    | with_reducible apply Dev.updBur_sound
    | split)

end Sys2Proof.Machine
end

