-- ==== Sys2Proof/Laws/SoundLaunch.lean ====
section
/-! SUPPORT. Every operation of Machine/Launch.lean keeps the device sound (Safety.lean): one lemma per operation. -/
namespace Sys2Proof.Machine

variable {p₀ : List Out} {n₀ : Nat} {d : Dev}

theorem Dev.launchAction_sound (action : Nat) (arg : Nat) (l : Nat) (h : d.Sound p₀ n₀) :
  (Dev.launchAction d action arg l).Sound p₀ n₀ := by
  unfold Dev.launchAction
  repeat' (first
    | with_reducible assumption
    | with_reducible apply Dev.routeSwap_sound
    | with_reducible apply Dev.count_sound
    | with_reducible apply Dev.sbdSwapFire_sound
    | with_reducible apply Dev.releaseDrawer_sound
    | with_reducible apply Dev.cwinLaunch_sound
    | with_reducible apply Dev.inject_sound
    | split)

theorem Dev.launchFire_sound (e : Nat) (h : d.Sound p₀ n₀) :
  (Dev.launchFire d e).Sound p₀ n₀ := by
  unfold Dev.launchFire
  repeat' (first
    | with_reducible assumption
    | with_reducible apply Dev.count_sound
    | with_reducible apply Dev.launchEnd_sound
    | with_reducible apply Dev.irqBoth_sound
    | with_reducible apply Dev.launchAction_sound
    | split)

end Sys2Proof.Machine
end

