-- ==== Sys2Proof/Laws/SoundDesk.lean ====
section
/-! SUPPORT. Every operation of Machine/Desk.lean keeps the device sound (Safety.lean): one lemma per operation. -/
namespace Sys2Proof.Machine

variable {p₀ : List Out} {n₀ : Nat} {d : Dev}

theorem Dev.irqMaskWrite_sound (k : Nat) (v : Word) (h : d.Sound p₀ n₀) :
  (Dev.irqMaskWrite d k v).Sound p₀ n₀ := by
  unfold Dev.irqMaskWrite
  repeat' (first
    | with_reducible assumption
    | with_reducible apply Dev.each_sound
    | with_reducible apply Dev.wr_sound
    | with_reducible apply Dev.emit_sound
    | with_reducible refine Dev.sound_ite (fun _ => ?_) (fun _ => ?_)
    | intro _)

theorem Dev.doorbell_sound (k : Nat) (v : Word) (h : d.Sound p₀ n₀) :
  (Dev.doorbell d k v).Sound p₀ n₀ := by
  unfold Dev.doorbell
  repeat' (first
    | with_reducible assumption
    | with_reducible apply Dev.irq_sound
    | with_reducible apply Dev.wr_sound
    | with_reducible refine Dev.sound_ite (fun _ => ?_) (fun _ => ?_))

theorem Dev.semTake_sound (k : Nat) (n : Nat) (token : Nat) (h : d.Sound p₀ n₀) :
  (Dev.semTake d k n token).Sound p₀ n₀ := by
  unfold Dev.semTake
  repeat' (first
    | with_reducible assumption
    | with_reducible apply Dev.set_sound
    | with_reducible apply Dev.setB_sound
    | with_reducible refine Dev.sound_ite (fun _ => ?_) (fun _ => ?_))

theorem Dev.semFree_sound (k : Nat) (n : Nat) (token : Nat) (h : d.Sound p₀ n₀) :
  (Dev.semFree d k n token).Sound p₀ n₀ := by
  unfold Dev.semFree
  repeat' (first
    | with_reducible assumption
    | with_reducible apply Dev.irqBoth_sound
    | with_reducible apply Dev.wr_sound
    | with_reducible refine Dev.sound_ite (fun _ => ?_) (fun _ => ?_))

theorem Dev.flashPut_sound (k : Nat) (addr : Nat) (bs : List Byte) (h : d.Sound p₀ n₀) :
  (Dev.flashPut d k addr bs).Sound p₀ n₀ := by
  exact ⟨⟨h.1.1, h.1.2.1, flashPut_wf h.1.2.2.1 k addr _, h.1.2.2.2⟩, h.2⟩

theorem Dev.flashRun_sound (k : Nat) (op : Nat) (h : d.Sound p₀ n₀) :
  (Dev.flashRun d k op).2.Sound p₀ n₀ := by
  unfold Dev.flashRun
  repeat' (first
    | with_reducible assumption
    | with_reducible apply Dev.each_sound
    | with_reducible apply Dev.wr_sound
    | with_reducible apply Dev.flashPut_sound
    | with_reducible refine Dev.sound_ite_snd (fun _ => ?_) (fun _ => ?_)
    | intro _
    | split)

theorem flashEnd_sound (k : Nat) (r : Nat × Dev) (hr : r.2.Sound p₀ n₀) :
  (flashEnd k r).Sound p₀ n₀ := by
  unfold flashEnd
  repeat' (first
    | with_reducible assumption
    | with_reducible apply Dev.irq_sound
    | with_reducible apply Dev.set_sound)

theorem Dev.flashCmd_sound (k : Nat) (op : Nat) (h : d.Sound p₀ n₀) :
  (Dev.flashCmd d k op).Sound p₀ n₀ := by
  unfold Dev.flashCmd
  repeat' (first
    | with_reducible assumption
    | with_reducible apply Dev.set_sound
    | with_reducible apply flashEnd_sound
    | with_reducible apply Dev.flashRun_sound
    | with_reducible refine Dev.sound_ite (fun _ => ?_) (fun _ => ?_))

theorem Dev.setRun_sound (k : Nat) (r : RunImg) (h : d.Sound p₀ n₀) :
  (Dev.setRun d k r).Sound p₀ n₀ := by
  unfold Dev.setRun
  repeat' (first
    | with_reducible assumption
    | with_reducible apply Dev.sound_regsFilter
    | with_reducible refine Dev.sound_mk ?_ rfl rfl rfl)

theorem Dev.svnCommit_sound (h : d.Sound p₀ n₀) :
  (Dev.svnCommit d).Sound p₀ n₀ := by
  unfold Dev.svnCommit
  repeat' (first
    | with_reducible assumption
    | with_reducible apply Dev.set_sound
    | with_reducible refine Dev.sound_ite (fun _ => ?_) (fun _ => ?_))

theorem Dev.attestPut_sound (k : Nat) (off : Nat) (bs : List Byte) (h : d.Sound p₀ n₀) :
  (Dev.attestPut d k off bs).Sound p₀ n₀ := by
  unfold Dev.attestPut
  repeat' (first
    | with_reducible assumption
    | with_reducible apply Dev.each_sound
    | with_reducible apply Dev.wr_sound
    | intro _)

theorem Dev.certify_sound (k : Nat) (h : d.Sound p₀ n₀) :
  (Dev.certify d k).Sound p₀ n₀ := by
  unfold Dev.certify
  repeat' (first
    | with_reducible assumption
    | with_reducible apply Dev.draw_sound
    | with_reducible apply Dev.attestPut_sound)

theorem Dev.attest_sound (k : Nat) (h : d.Sound p₀ n₀) :
  (Dev.attest d k).Sound p₀ n₀ := by
  unfold Dev.attest
  repeat' (first
    | with_reducible assumption
    | with_reducible apply Dev.set_sound
    | with_reducible apply Dev.draw_sound
    | with_reducible apply Dev.attestPut_sound
    | with_reducible refine Dev.sound_ite (fun _ => ?_) (fun _ => ?_))

theorem Dev.fwEnd_sound (k : Nat) (st : Nat) (code : Nat) (h : d.Sound p₀ n₀) :
  (Dev.fwEnd d k st code).Sound p₀ n₀ := by
  unfold Dev.fwEnd
  repeat' (first
    | with_reducible assumption
    | with_reducible apply Dev.irq_sound
    | with_reducible apply Dev.set_sound)

theorem Dev.showMismatch_sound (h : d.Sound p₀ n₀) :
  (Dev.showMismatch d).Sound p₀ n₀ := by
  unfold Dev.showMismatch
  repeat' (first
    | with_reducible assumption
    | with_reducible apply Dev.setB_sound)

theorem Dev.hitless_sound (t : Nat) (slot : Nat) (h : d.Sound p₀ n₀) :
  (Dev.hitless d t slot).2.Sound p₀ n₀ := by
  unfold Dev.hitless
  repeat' (first
    | with_reducible assumption
    | with_reducible apply Dev.deskReturn_sound
    | with_reducible apply Dev.setRun_sound
    | with_reducible apply Dev.deskReset_sound
    | with_reducible apply Dev.deskLeave_sound
    | with_reducible apply Dev.certify_sound
    | with_reducible apply Dev.showMismatch_sound
    | with_reducible refine Dev.sound_ite_snd (fun _ => ?_) (fun _ => ?_))

theorem hitlessEnd_sound (k : Nat) (r : Nat × Dev) (hr : r.2.Sound p₀ n₀) :
  (hitlessEnd k r).Sound p₀ n₀ := by
  unfold hitlessEnd
  repeat' (first
    | with_reducible assumption
    | with_reducible apply Dev.fwEnd_sound)

theorem Dev.fwSet_sound (k : Nat) (op : Nat) (slot : Nat) (t : Nat) (h : d.Sound p₀ n₀) :
  (Dev.fwSet d k op slot t).Sound p₀ n₀ := by
  unfold Dev.fwSet
  repeat' (first
    | with_reducible assumption
    | with_reducible apply Dev.set_sound)

theorem Dev.fwVerify_sound (k : Nat) (slot : Nat) (h : d.Sound p₀ n₀) :
  (Dev.fwVerify d k slot).Sound p₀ n₀ := Dev.fwEnd_sound _ _ _ h

theorem Dev.fwPin_sound (k : Nat) (slot : Nat) (h : d.Sound p₀ n₀) :
  (Dev.fwPin d k slot).Sound p₀ n₀ := Dev.fwEnd_sound _ _ _ (Dev.flashPut_sound _ _ _ h)

theorem Dev.fwUnpin_sound (k : Nat) (h : d.Sound p₀ n₀) :
  (Dev.fwUnpin d k).Sound p₀ n₀ := Dev.fwEnd_sound _ _ _ (Dev.flashPut_sound _ _ _ h)

theorem Dev.fwHitless_sound (k : Nat) (slot : Nat) (t : Nat) (h : d.Sound p₀ n₀) :
  (Dev.fwHitless d k slot t).Sound p₀ n₀ := hitlessEnd_sound _ _ (Dev.hitless_sound _ _ h)

theorem Dev.fwCmd_sound (k : Nat) (op : Nat) (slot : Nat) (t : Nat) (h : d.Sound p₀ n₀) :
  (Dev.fwCmd d k op slot t).Sound p₀ n₀ := by
  unfold Dev.fwCmd
  repeat' (first
    | with_reducible assumption
    | with_reducible apply Dev.fwSet_sound
    | with_reducible apply Dev.fwVerify_sound
    | with_reducible apply Dev.fwPin_sound
    | with_reducible apply Dev.fwUnpin_sound
    | with_reducible apply Dev.fwHitless_sound
    | with_reducible apply Dev.deviceReset_sound
    | split)

theorem Dev.dropHandle_sound (h' : Nat) (h : d.Sound p₀ n₀) :
  (Dev.dropHandle d h').Sound p₀ n₀ := by
  unfold Dev.dropHandle
  repeat' (first
    | with_reducible assumption
    | with_reducible apply Dev.dropShadow_sound
    | with_reducible apply Dev.dropRecords_sound
    | with_reducible apply Dev.delCtx_sound
    | with_reducible apply Dev.abortCtx_sound
    | with_reducible apply Dev.updCab_sound
    | with_reducible apply Dev.steer_sound
    | with_reducible apply Dev.setState_sound
    | split)

theorem Dev.cancelReleases_sound (hs : List Nat) (h : d.Sound p₀ n₀) :
  (Dev.cancelReleases d hs).Sound p₀ n₀ := by
  unfold Dev.cancelReleases
  repeat' (first
    | with_reducible assumption
    | with_reducible rfl
    | with_reducible apply Dev.updTime_sound
    | with_reducible apply Dev.each_sound
    | with_reducible apply Dev.setB_sound
    | intro _)

theorem Dev.teardown_sound (r : JobCtl) (h : d.Sound p₀ n₀) :
  (Dev.teardown d r).Sound p₀ n₀ := by
  unfold Dev.teardown
  repeat' (first
    | with_reducible assumption
    | with_reducible apply Dev.jobDone_sound
    | with_reducible apply Dev.genBump_sound
    | with_reducible apply Dev.updFwd_sound
    | with_reducible apply Dev.wr_sound
    | with_reducible apply Dev.cancelReleases_sound
    | with_reducible apply Dev.each_sound
    | with_reducible apply Dev.dropHandle_sound
    | with_reducible apply Dev.setB_sound
    | with_reducible apply Dev.poolTeardown_sound
    | with_reducible refine Dev.sound_ite (fun _ => ?_) (fun _ => ?_)
    | intro _)

end Sys2Proof.Machine
end

