-- ==== Sys2Proof/Laws/SoundRegisters.lean ====
section
/-! SUPPORT. Every operation of Machine/Registers.lean keeps the device sound (Safety.lean): one lemma per operation. -/
namespace Sys2Proof.Machine

variable {p₀ : List Out} {n₀ : Nat} {d : Dev}

theorem Dev.writeW1c_sound (r : Reg) (i : Nat) (w : Nat) (v : Word) (h : d.Sound p₀ n₀) :
  (Dev.writeW1c d r i w v).Sound p₀ n₀ := by
  unfold Dev.writeW1c
  repeat' (first
    | with_reducible assumption
    | with_reducible apply Dev.wr_sound)

theorem Dev.writeBoot_sound (a : Access) (r : Reg) (i : Nat) (w : Nat) (v : Word) (h : d.Sound p₀ n₀) :
  (Dev.writeBoot d a r i w v).Sound p₀ n₀ := by
  unfold Dev.writeBoot
  repeat' (first
    | with_reducible assumption
    | with_reducible apply Dev.wr_sound
    | with_reducible apply Dev.lockedWrite_sound
    | with_reducible refine Dev.sound_ite (fun _ => ?_) (fun _ => ?_))

theorem Dev.writePlain_sound (a : Access) (r : Reg) (i : Nat) (w : Nat) (v : Word) (h : d.Sound p₀ n₀) :
  (Dev.writePlain d a r i w v).Sound p₀ n₀ := by
  unfold Dev.writePlain
  repeat' (first
    | with_reducible assumption
    | with_reducible apply Dev.writeBoot_sound
    | with_reducible apply Dev.writeW1c_sound
    | with_reducible apply Dev.writeRw_sound)

theorem Dev.portCfgWrite_sound (port : Nat) (v : Word) (h : d.Sound p₀ n₀) :
  (Dev.portCfgWrite d port v).Sound p₀ n₀ := by
  unfold Dev.portCfgWrite
  repeat' (first
    | with_reducible assumption
    | with_reducible apply Dev.set_sound
    | with_reducible apply Dev.writeRw_sound
    | with_reducible apply Dev.breakoutApply_sound
    | with_reducible apply Dev.each_sound
    | with_reducible apply Dev.adminWrite_sound
    | with_reducible refine Dev.sound_ite (fun _ => ?_) (fun _ => ?_)
    | intro _)

theorem Dev.engCfgWrite_sound (oe : Nat) (v : Word) (h : d.Sound p₀ n₀) :
  (Dev.engCfgWrite d oe v).Sound p₀ n₀ := by
  unfold Dev.engCfgWrite
  repeat' (first
    | with_reducible assumption
    | with_reducible apply Dev.writeRw_sound
    | with_reducible apply Dev.setB_sound
    | with_reducible apply Dev.engineEnable_sound
    | with_reducible apply Dev.engineDisable_sound
    | with_reducible apply Dev.feedForce_sound
    | with_reducible refine Dev.sound_ite (fun _ => ?_) (fun _ => ?_))

theorem Dev.indCmd_sound (k : Nat) (v : Nat) (h : d.Sound p₀ n₀) :
  (Dev.indCmd d k v).Sound p₀ n₀ := by
  unfold Dev.indCmd
  repeat' (first
    | with_reducible assumption
    | with_reducible apply Dev.indRead_sound
    | with_reducible apply Dev.indWrite_sound
    | with_reducible apply Dev.indInsert_sound
    | with_reducible apply Dev.indDelete_sound
    | with_reducible apply Dev.indSearch_sound
    | with_reducible apply Dev.indDone_sound
    | with_reducible refine Dev.sound_snd (by assumption) ?_
    | split)

theorem Dev.shaperWord0_sound (i : Nat) (v : Word) (h : d.Sound p₀ n₀) :
  (Dev.shaperWord0 d i v).Sound p₀ n₀ := by
  unfold Dev.shaperWord0
  repeat' (first
    | with_reducible assumption
    | with_reducible apply Dev.writeRw_sound
    | with_reducible apply Dev.updTm_sound)

theorem Dev.wredWord0_sound (i : Nat) (v : Word) (h : d.Sound p₀ n₀) :
  (Dev.wredWord0 d i v).Sound p₀ n₀ := by
  unfold Dev.wredWord0
  repeat' (first
    | with_reducible assumption
    | with_reducible apply Dev.writeRw_sound
    | with_reducible apply Dev.updTm_sound)

theorem Dev.sbdCtlWrite_sound (v : Word) (h : d.Sound p₀ n₀) :
  (Dev.sbdCtlWrite d v).Sound p₀ n₀ := by
  unfold Dev.sbdCtlWrite
  repeat' (first
    | with_reducible assumption
    | with_reducible apply Dev.writeRw_sound
    | with_reducible apply Dev.sbdCheckCmd_sound
    | with_reducible apply Dev.sbdClear_sound
    | with_reducible refine Dev.sound_ite (fun _ => ?_) (fun _ => ?_))

theorem Dev.i2cFree_sound (oe : Nat) (v : Word) (h : d.Sound p₀ n₀) :
  (Dev.i2cFree d oe v).Sound p₀ n₀ := by
  unfold Dev.i2cFree
  repeat' (first
    | with_reducible assumption
    | with_reducible apply Dev.draw_sound
    | with_reducible apply Dev.i2cCmd_sound)

theorem Dev.writeWord_sound (a : Access) (r : Reg) (i : Nat) (w : Nat) (v : Word) (h : d.Sound p₀ n₀) :
  (Dev.writeWord d a r i w v).Sound p₀ n₀ := by
  unfold Dev.writeWord
  repeat' (first
    | with_reducible assumption
    | with_reducible apply Dev.svnCommit_sound
    | with_reducible apply Dev.irqMaskWrite_sound
    | with_reducible apply Dev.doorbell_sound
    | with_reducible apply Dev.semTake_sound
    | with_reducible apply Dev.semFree_sound
    | with_reducible apply Dev.flashCmd_sound
    | with_reducible apply Dev.writeRw_sound
    | with_reducible apply Dev.fwCmd_sound
    | with_reducible apply Dev.attest_sound
    | with_reducible apply Dev.portCfgWrite_sound
    | with_reducible apply Dev.swapCmd_sound
    | with_reducible apply Dev.laneCfgWrite_sound
    | with_reducible apply Dev.engCfgWrite_sound
    | with_reducible apply Dev.i2cFree_sound
    | with_reducible apply Dev.feedRet_sound
    | with_reducible apply Dev.ringModeWrite_sound
    | with_reducible apply Dev.sbdCtlWrite_sound
    | with_reducible apply Dev.shadowWrite_sound
    | with_reducible apply Dev.count_sound
    | with_reducible apply Dev.jobCommit_sound
    | with_reducible apply Dev.rankMapPut_sound
    | with_reducible apply Dev.withdrawWrite_sound
    | with_reducible apply Dev.routeSwap_sound
    | with_reducible apply Dev.indCmd_sound
    | with_reducible apply Dev.policerWord0_sound
    | with_reducible apply Dev.shaperWord0_sound
    | with_reducible apply Dev.wredWord0_sound
    | with_reducible apply Dev.genBump_sound
    | with_reducible apply Dev.weightWrite_sound
    | with_reducible apply Dev.cfgWrite_sound
    | with_reducible apply Dev.cfgWriteFree_sound
    | with_reducible apply Dev.drwCmd_sound
    | with_reducible apply Dev.releaseDrawer_sound
    | with_reducible apply Dev.winCmd_sound
    | with_reducible apply Dev.winWrite_sound
    | with_reducible apply Dev.set_sound
    | with_reducible apply Dev.mntCtlWrite_sound
    | with_reducible apply Dev.rateWrite_sound
    | with_reducible apply Dev.launchTime_sound
    | with_reducible apply Dev.launchWord1_sound
    | with_reducible apply Dev.ptpSend_sound
    | with_reducible apply Dev.pmcCmd_sound
    | with_reducible apply Dev.alignCheck_sound
    | with_reducible apply Dev.cwinWrite_sound
    | with_reducible apply Dev.pmcCfgWrite_sound
    | with_reducible apply Dev.spineClear_sound
    | with_reducible apply Dev.writeBoot_sound
    | with_reducible apply Dev.standin_sound
    | with_reducible apply Dev.burAct_sound
    | with_reducible apply Dev.injCmd_sound
    | with_reducible apply Dev.acknowledge_sound
    | with_reducible apply Dev.unitWrite_sound
    | with_reducible apply Dev.resumeWrite_sound
    | with_reducible apply Dev.pdWrite_sound
    | with_reducible apply Dev.refSwitch_sound
    | with_reducible apply Dev.writePlain_sound
    | with_reducible refine Dev.sound_snd (by assumption) ?_
    | with_reducible refine Dev.sound_ite (fun _ => ?_) (fun _ => ?_)
    | split)

theorem Dev.stage64_sound (r : Reg) (i : Nat) (v : Word) (h : d.Sound p₀ n₀) :
  (Dev.stage64 d r i v).Sound p₀ n₀ := by
  unfold Dev.stage64
  repeat' (first
    | with_reducible assumption
    | with_reducible apply Dev.sound_regsFilter
    | with_reducible refine Dev.sound_mk ?_ rfl rfl rfl)

theorem Dev.commit64_sound (a : Access) (r : Reg) (i : Nat) (v : Word) (h : d.Sound p₀ n₀) :
  (Dev.commit64 d a r i v).Sound p₀ n₀ := by
  unfold Dev.commit64
  repeat' (first
    | with_reducible assumption
    | with_reducible apply Dev.stepCommit_sound
    | with_reducible apply Dev.takeStaged_sound
    | with_reducible apply Dev.writePlain_sound
    | with_reducible refine Dev.sound_ite (fun _ => ?_) (fun _ => ?_))

theorem Dev.writeReg_sound (a : Access) (r : Reg) (i : Nat) (w : Nat) (v : Word) (h : d.Sound p₀ n₀) :
  (Dev.writeReg d a r i w v).Sound p₀ n₀ := by
  unfold Dev.writeReg
  repeat' (first
    | with_reducible assumption
    | with_reducible apply Dev.stage64_sound
    | with_reducible apply Dev.commit64_sound
    | with_reducible apply Dev.writeWord_sound
    | with_reducible refine Dev.sound_ite (fun _ => ?_) (fun _ => ?_))

theorem Dev.writeTo_sound (a : Access) (addr : Nat) (v : Word) (h : d.Sound p₀ n₀) :
  (Dev.writeTo d a addr v).Sound p₀ n₀ := by
  unfold Dev.writeTo
  repeat' (first
    | with_reducible assumption
    | with_reducible apply Dev.onWrite_sound
    | with_reducible apply Dev.writeReg_sound
    | intro _
    | split)

theorem Dev.writeBytes_sound (a : Access) (addr : Nat) (be : Nat) (v : Word) (h : d.Sound p₀ n₀) :
  (Dev.writeBytes d a addr be v).Sound p₀ n₀ := by
  unfold Dev.writeBytes
  repeat' (first
    | with_reducible assumption
    | with_reducible apply Dev.writeTo_sound
    | with_reducible apply Dev.onWrite_sound
    | with_reducible apply Dev.accErr_sound
    | intro _
    | split)

theorem Dev.viewFree_sound (k : Nat) (r : Reg) (i : Nat) (w : Nat) (h : d.Sound p₀ n₀) :
  (Dev.viewFree d k r i w).2.Sound p₀ n₀ := by
  unfold Dev.viewFree
  repeat' (first
    | with_reducible assumption
    | with_reducible apply Dev.draw_sound
    | with_reducible refine Dev.sound_snd (by assumption) ?_
    | with_reducible refine Dev.sound_ite_snd (fun _ => ?_) (fun _ => ?_)
    | split)

theorem Dev.clearRc_sound (r : Reg) (i : Nat) (w : Nat) (h : d.Sound p₀ n₀) :
  (Dev.clearRc d r i w).Sound p₀ n₀ := by
  unfold Dev.clearRc
  repeat' (first
    | with_reducible assumption
    | with_reducible apply Dev.wr_sound
    | with_reducible refine Dev.sound_ite (fun _ => ?_) (fun _ => ?_))

theorem Dev.readLow_sound (a : Access) (r : Reg) (i : Nat) (h : d.Sound p₀ n₀) :
  (Dev.readLow d a r i).2.Sound p₀ n₀ := by
  unfold Dev.readLow
  repeat' (first
    | with_reducible assumption
    | with_reducible apply Dev.latch_sound
    | with_reducible apply Dev.clearRc_sound)

theorem Dev.readReg_sound (a : Access) (r : Reg) (i : Nat) (w : Nat) (h : d.Sound p₀ n₀) :
  (Dev.readReg d a r i w).2.Sound p₀ n₀ := by
  unfold Dev.readReg
  repeat' (first
    | with_reducible assumption
    | with_reducible apply Dev.coatPop_sound
    | with_reducible apply Dev.readLow_sound
    | with_reducible apply Dev.latch_sound
    | with_reducible apply Dev.viewFree_sound
    | with_reducible apply Dev.clearRc_sound
    | with_reducible refine Dev.sound_snd (by assumption) ?_
    | with_reducible refine Dev.sound_ite_snd (fun _ => ?_) (fun _ => ?_))

theorem Dev.readFrom_sound (a : Access) (addr : Nat) (h : d.Sound p₀ n₀) :
  (Dev.readFrom d a addr).2.Sound p₀ n₀ := by
  unfold Dev.readFrom
  repeat' (first
    | with_reducible assumption
    | with_reducible apply Dev.accErr_sound
    | with_reducible apply Dev.readReg_sound
    | split)

theorem Dev.answer_sound (a : Access) (addr : Nat) (h : d.Sound p₀ n₀) :
  (Dev.answer d a addr).Sound p₀ n₀ := by
  unfold Dev.answer
  repeat' (first
    | with_reducible assumption
    | with_reducible apply Dev.readFrom_sound
    | with_reducible apply Dev.emit_sound
    | with_reducible refine Dev.sound_ite (fun _ => ?_) (fun _ => ?_))

theorem Dev.readWords_sound (a : Access) (addr : Nat) (x1 : Nat) (h : d.Sound p₀ n₀) :
  (Dev.readWords d a addr x1).2.Sound p₀ n₀ := by
  induction x1 generalizing d a addr with
  | zero => exact h
  | succ k ih =>
    unfold Dev.readWords
    try dsimp only
    repeat' (first
      | with_reducible assumption
      | with_reducible apply ih
      | with_reducible apply Dev.readFrom_sound
      | with_reducible refine Dev.sound_ite_snd (fun _ => ?_) (fun _ => ?_))

theorem Dev.writeWords_sound (a : Access) (addr : Nat) (x1 : List Word) (h : d.Sound p₀ n₀) :
  (Dev.writeWords d a addr x1).Sound p₀ n₀ := by
  induction x1 generalizing d a addr with
  | nil => exact h
  | cons y l ih =>
    unfold Dev.writeWords
    try dsimp only
    repeat' (first
      | with_reducible assumption
      | with_reducible apply ih
      | with_reducible apply Dev.writeTo_sound
      | with_reducible refine Dev.sound_ite (fun _ => ?_) (fun _ => ?_))

theorem Dev.ethReply_sound (k : Nat) (q : EthReq) (status : Nat) (data : List Nat) (h : d.Sound p₀ n₀) :
  (Dev.ethReply d k q status data).Sound p₀ n₀ := by
  unfold Dev.ethReply
  repeat' (first
    | with_reducible assumption
    | with_reducible apply Dev.emit_sound
    | with_reducible apply Dev.sound_regsFilter
    | with_reducible refine Dev.sound_mk ?_ rfl rfl rfl)

theorem Dev.ethServe_sound (k : Nat) (q : EthReq) (f : Dev → Dev) (h : d.Sound p₀ n₀) (hf : ∀ e, Dev.Sound p₀ n₀ e → (f e).Sound p₀ n₀) :
  (Dev.ethServe d k q f).Sound p₀ n₀ := by
  unfold Dev.ethServe
  repeat' (first
    | with_reducible assumption
    | with_reducible apply hf
    | with_reducible apply Dev.emit_sound
    | split)

theorem Dev.ethRead_sound (k : Nat) (q : EthReq) (h : d.Sound p₀ n₀) :
  (Dev.ethRead d k q).Sound p₀ n₀ := by
  unfold Dev.ethRead
  repeat' (first
    | with_reducible assumption
    | with_reducible apply Dev.ethReply_sound
    | with_reducible apply Dev.readWords_sound
    | with_reducible refine Dev.sound_ite (fun _ => ?_) (fun _ => ?_))

theorem Dev.ethWrite_sound (k : Nat) (q : EthReq) (h : d.Sound p₀ n₀) :
  (Dev.ethWrite d k q).Sound p₀ n₀ := by
  unfold Dev.ethWrite
  repeat' (first
    | with_reducible assumption
    | with_reducible apply Dev.ethReply_sound
    | with_reducible apply Dev.writeWords_sound
    | with_reducible refine Dev.sound_ite (fun _ => ?_) (fun _ => ?_))

end Sys2Proof.Machine
end

