-- ==== Sys2Proof/Laws/SoundBoot.lean ====
section
/-! SUPPORT. Every operation of Machine/Boot.lean keeps the device sound (Safety.lean): one lemma per operation. -/
namespace Sys2Proof.Machine

variable {p₀ : List Out} {n₀ : Nat} {d : Dev}

theorem Dev.bootFail_sound (code : Nat) (sec : Nat) (h : d.Sound p₀ n₀) :
  (Dev.bootFail d code sec).Sound p₀ n₀ := by
  unfold Dev.bootFail
  repeat' (first
    | with_reducible assumption
    | with_reducible apply Dev.faultPin_sound
    | with_reducible apply Dev.stageGo_sound
    | with_reducible apply Dev.set_sound)

theorem Dev.bootWord_sound (addr : Nat) (v : Word) (h : d.Sound p₀ n₀) :
  (Dev.bootWord d addr v).2.Sound p₀ n₀ := by
  unfold Dev.bootWord
  repeat' (first
    | with_reducible assumption
    | with_reducible apply Dev.writeReg_sound
    | with_reducible refine Dev.sound_ite_snd (fun _ => ?_) (fun _ => ?_)
    | split)

theorem thenBoot_sound (r : Nat × Dev) (f : Dev → Nat × Dev) (hr : r.2.Sound p₀ n₀) (hf : ∀ e, Dev.Sound p₀ n₀ e → (f e).2.Sound p₀ n₀) :
  (thenBoot r f).2.Sound p₀ n₀ := by
  exact Dev.sound_ite_snd (fun _ => hr) (fun _ => hf r.2 hr)

theorem Dev.bootWords_sound (addr : Nat) (x1 : List Word) (h : d.Sound p₀ n₀) :
  (Dev.bootWords d addr x1).2.Sound p₀ n₀ := by
  induction x1 generalizing d addr with
  | nil => exact h
  | cons y l ih =>
    unfold Dev.bootWords
    try dsimp only
    repeat' (first
      | with_reducible assumption
      | with_reducible apply ih
      | with_reducible apply thenBoot_sound
      | with_reducible apply Dev.bootWord_sound
      | intro _)

theorem Dev.bootInd_sound (index : Word) (ws : List Word) (h : d.Sound p₀ n₀) :
  (Dev.bootInd d index ws).2.Sound p₀ n₀ := by
  unfold Dev.bootInd
  repeat' (first
    | with_reducible assumption
    | with_reducible apply thenBoot_sound
    | with_reducible apply Dev.bootWord_sound
    | with_reducible apply Dev.bootWords_sound
    | intro _)

theorem Dev.bootRecords_sound (x1 : Nat) (x2 : List Word) (h : d.Sound p₀ n₀) :
  (Dev.bootRecords d x1 x2).2.Sound p₀ n₀ := by
  induction x1 generalizing x2 d with
  | zero => simpa only [Dev.bootRecords] using h
  | succ k ih =>
    rcases x2 with _ | ⟨w0, _ | ⟨w1, rest⟩⟩
    · exact h
    · exact h
    · unfold Dev.bootRecords
      extract_lets count addr
      split
      · exact Dev.sound_ite_snd (fun _ => h) fun _ =>
          thenBoot_sound _ _ (Dev.bootWords_sound _ _ h) fun _ he => ih _ he
      · split
        · exact h
        · exact thenBoot_sound _ _ (Dev.bootWords_sound _ _ h) fun _ he => ih _ he
      · exact Dev.sound_ite_snd (fun _ => h) fun _ =>
          thenBoot_sound _ _ (Dev.bootInd_sound _ _ h) fun _ he => ih _ he
      · exact h
      · exact h

theorem Dev.bootSection_sound (b : List Byte) (h : d.Sound p₀ n₀) :
  (Dev.bootSection d b).2.Sound p₀ n₀ := by
  unfold Dev.bootSection
  repeat' (first
    | with_reducible assumption
    | with_reducible apply Dev.bootRecords_sound)

theorem Dev.bootConfig_sound (since : Tbl Nat) (x1 : List (List Byte × Nat)) (h : d.Sound p₀ n₀) :
  (Dev.bootConfig d since x1).2.Sound p₀ n₀ := by
  induction x1 generalizing d since with
  | nil => exact h
  | cons y l ih =>
    unfold Dev.bootConfig
    try dsimp only
    repeat' (first
      | with_reducible assumption
      | with_reducible apply ih
      | with_reducible apply Dev.bootSection_sound
      | with_reducible refine Dev.sound_ite_snd (fun _ => ?_) (fun _ => ?_))

theorem Dev.setPlace_sound (p : Place) (h : d.Sound p₀ n₀) :
  (Dev.setPlace d p).Sound p₀ n₀ := by
  unfold Dev.setPlace
  repeat' (first
    | with_reducible assumption
    | with_reducible apply Dev.set_sound
    | with_reducible apply Dev.setB_sound
    | split
    | with_reducible apply Dev.sound_regsFilter
    | with_reducible refine Dev.sound_mk ?_ rfl rfl rfl)

theorem Dev.setPartition_sound (p : Place) (h : d.Sound p₀ n₀) :
  (Dev.setPartition d p).Sound p₀ n₀ := by
  unfold Dev.setPartition
  repeat' (first
    | with_reducible assumption
    | with_reducible apply Dev.set_sound
    | with_reducible apply Dev.each_sound
    | with_reducible apply Dev.updCore_sound
    | intro _
    | dsimp only
    | with_reducible refine Dev.sound_mk ?_ rfl rfl rfl)

theorem Dev.calRegs_sound (b : List Byte) (h : d.Sound p₀ n₀) :
  (Dev.calRegs d b).Sound p₀ n₀ := by
  unfold Dev.calRegs
  repeat' (first
    | with_reducible assumption
    | with_reducible apply Dev.each_sound
    | with_reducible apply Dev.writeRw_sound
    | intro _)

theorem Dev.calMark_sound (h' : List Byte) (h : d.Sound p₀ n₀) :
  (Dev.calMark d h').Sound p₀ n₀ := by
  unfold Dev.calMark
  repeat' (first
    | with_reducible assumption
    | with_reducible apply Dev.sound_regsFilter
    | with_reducible refine Dev.sound_mk ?_ rfl rfl rfl)

theorem Dev.calLoad_sound (b : List Byte) (h : d.Sound p₀ n₀) :
  (Dev.calLoad d b).Sound p₀ n₀ := by
  unfold Dev.calLoad
  repeat' (first
    | with_reducible assumption
    | with_reducible apply Dev.calMark_sound
    | with_reducible apply Dev.setB_sound
    | with_reducible apply Dev.calRegs_sound)

theorem Dev.calSection_sound (h : d.Sound p₀ n₀) :
  (Dev.calSection d).Sound p₀ n₀ := by
  unfold Dev.calSection
  repeat' (first
    | with_reducible assumption
    | with_reducible apply Dev.calLoad_sound
    | with_reducible refine Dev.sound_ite (fun _ => ?_) (fun _ => ?_))

theorem Dev.enginesDue_sound (h : d.Sound p₀ n₀) :
  (Dev.enginesDue d).Sound p₀ n₀ := by
  unfold Dev.enginesDue
  repeat' (first
    | with_reducible assumption
    | with_reducible apply Dev.sound_regsFilter
    | with_reducible refine Dev.sound_mk ?_ rfl rfl rfl)

theorem Dev.bootLock_sound (p : Place) (h : d.Sound p₀ n₀) :
  (Dev.bootLock d p).Sound p₀ n₀ := by
  unfold Dev.bootLock
  repeat' (first
    | with_reducible assumption
    | with_reducible apply Dev.wr_sound
    | with_reducible apply Dev.certify_sound
    | with_reducible apply Dev.stageGo_sound
    | with_reducible apply Dev.setB_sound
    | with_reducible apply Dev.bootEngines_sound
    | with_reducible apply Dev.enginesDue_sound)

theorem bootEnd_sound (p : Place) (r : (Nat × Nat) × Dev) (hr : r.2.Sound p₀ n₀) :
  (bootEnd p r).Sound p₀ n₀ := by
  unfold bootEnd
  repeat' (first
    | with_reducible assumption
    | with_reducible apply Dev.stageGo_sound
    | with_reducible apply Dev.bootFail_sound
    | with_reducible apply Dev.bootLock_sound
    | with_reducible apply Dev.calSection_sound
    | split)

theorem Dev.bootImage_sound (a : Place) (b : Place) (mismatch : Bool) (h : d.Sound p₀ n₀) :
  (Dev.bootImage d a b mismatch).Sound p₀ n₀ := by
  unfold Dev.bootImage
  repeat' (first
    | with_reducible assumption
    | with_reducible apply Dev.setB_sound
    | with_reducible apply Dev.setRun_sound
    | with_reducible apply Dev.stageGo_sound
    | with_reducible apply Dev.bootFail_sound
    | with_reducible apply Dev.setPlace_sound
    | with_reducible apply Dev.setPartition_sound
    | with_reducible apply Dev.bootConfig_sound
    | with_reducible apply bootEnd_sound
    | split
    | dsimp only)

theorem Dev.enrol_sound (p : Place) (h : d.Sound p₀ n₀) :
  (Dev.enrol d p).Sound p₀ n₀ := by
  unfold Dev.enrol
  repeat' (first
    | with_reducible assumption
    | with_reducible apply Dev.each_sound
    | with_reducible apply Dev.wr_sound
    | with_reducible apply Dev.setB_sound
    | with_reducible apply Dev.stageGo_sound
    | intro _
    | with_reducible apply Dev.sound_regsFilter
    | with_reducible refine Dev.sound_mk ?_ rfl rfl rfl)

theorem Dev.bootAgreed_sound (r : Option (Place × Place × Bool)) (h : d.Sound p₀ n₀) :
  (Dev.bootAgreed d r).Sound p₀ n₀ := by
  unfold Dev.bootAgreed
  repeat' (first
    | with_reducible assumption
    | with_reducible apply Dev.enrol_sound
    | with_reducible apply Dev.bootImage_sound
    | with_reducible apply Dev.stageGo_sound
    | with_reducible apply Dev.bootFail_sound
    | split)

theorem Dev.bootStart_sound (h : d.Sound p₀ n₀) :
  (Dev.bootStart d).Sound p₀ n₀ := by
  unfold Dev.bootStart
  repeat' (first
    | with_reducible assumption
    | with_reducible apply Dev.stageGo_sound
    | with_reducible apply Dev.faultPin_sound)

theorem Dev.bootRun_sound (h : d.Sound p₀ n₀) :
  (Dev.bootRun d).Sound p₀ n₀ := by
  unfold Dev.bootRun
  repeat' (first
    | with_reducible assumption
    | with_reducible apply Dev.bootAgreed_sound
    | with_reducible apply Dev.bootStart_sound
    | with_reducible refine Dev.sound_ite (fun _ => ?_) (fun _ => ?_))

end Sys2Proof.Machine
end

