-- ==== Sys2Proof/WellFormed.lean ====
section
/-! DEFINITION. Which commands are well formed: their operands agree with one another and with the command's own encoding.
Every command has an effect in the model whether it is well formed or not; a statement may ask for this. -/
namespace Sys2Proof

/-- A register word lies at a multiple of four (R9). -/
def aligned (addr : BitVec 26) : Bool := addr.toNat % 4 == 0

/-- An OPCODE, its RETRY bit aside, is operation `n` of Table 12.5. -/
def opIs (opcode : BitVec 8) (n : Nat) : Bool := opcode.toNat % 128 == n

/-- An OPCODE, its RETRY bit aside, is atomic `k` of Table 12.5 on 32 or 64 bits. -/
def atomicIs (opcode : BitVec 8) (k : Nat) : Bool :=
  opcode.toNat % 128 == 0x10 + 2 * k || opcode.toNat % 128 == 0x11 + 2 * k

/-- An OPCODE that Table 12.5 reserves; its request comes with GN_READ (R278). -/
def opReserved (opcode : BitVec 8) : Bool :=
  let o := opcode.toNat % 128
  o == 0 || decide (8 ≤ o ∧ o < 0x10) || decide (0x24 ≤ o)

/-- The job-control commands of Table 5.9. -/
def jobCmds : List Nat := [0x01, 0x02, 0x03, 0x04, 0x10, 0x11, 0x12]

/-- The temperature sensors of a die, by its index of BUR_UNIT (Table 17.8). -/
def sensorCount (die : Nat) : Nat :=
  if die < 16 then 10 else if die < 24 then 4 else if die < 28 then 2 else if die < 44 then 20 else 4

/-- The operands of a command agree with its row. -/
def Instr.wf (i : Instr) : Bool :=
  match i with
  | .registerWrite _ addr _ _ => aligned addr
  | .lowWordRead _ addr => aligned addr
  | .highWordRead _ addr => aligned addr
  | .lowWordWrite _ addr _ => aligned addr
  | .highWordWrite _ addr _ => aligned addr
  | .rcRead _ addr => aligned addr
  | .linkControlReceived _ flit _ _ => flit.length == 320
  | .dataFlitReceived _ flit _ _ => flit.length == 320
  | .oeFeedRetWrite _ _ v => decide (v.toNat < 2 ^ 16)
  | .sbdShadowWrite _ addr _ => aligned addr
  | .sbdLiveWrite _ addr _ => aligned addr
  | .jobCtlUnknownCmd r => !jobCmds.contains r.cmd.toNat
  | .setController r => r.cmd == 0x11
  | .rankMapWrite r => r.cmd == 0x12
  | .contribReceived _ c => decide (c.payload.length + 52 ≤ 4352)
  | .drawerAbort r => r.cmd == 0x02
  | .drwCfgWrite _ addr _ => aligned addr
  | .reform r => r.cmd == 0x01
  | .gnRead r => opIs r.opcode 1 || opReserved r.opcode
  | .gnWrite r => opIs r.opcode 2
  | .gnWritePart r => opIs r.opcode 3
  | .gnFwrite r => opIs r.opcode 4
  | .gnSync r => opIs r.opcode 5
  | .gnMwrite r => opIs r.opcode 6
  | .gnMread r => opIs r.opcode 7
  | .gnAtomicAdd r => atomicIs r.opcode 0
  | .gnAtomicSwap r => atomicIs r.opcode 1
  | .gnAtomicCas r => atomicIs r.opcode 2
  | .gnAtomicAnd r => atomicIs r.opcode 3
  | .gnAtomicOr r => atomicIs r.opcode 4
  | .gnAtomicXor r => atomicIs r.opcode 5
  | .gnAtomicSmin r => atomicIs r.opcode 6
  | .gnAtomicSmax r => atomicIs r.opcode 7
  | .gnAtomicUmin r => atomicIs r.opcode 8
  | .gnAtomicUmax r => atomicIs r.opcode 9
  | .resetAlignment delays => delays.length == 28
  | .counterRead r => r.cmd == 0x03
  | .digestRead r => r.cmd == 0x04
  | .ethMgmtRead _ q => q.data.isEmpty
  | .jobTeardown r => r.cmd == 0x10
  | .thermalSensorUpdate die sensor _ => decide (sensor.val < sensorCount die.val)
  | .adminUpWrite _ _ _ | .laneCfgWrite _ _ _ _ | .lightPresent _ | .ringsLockedAlign _ | .fecLock _
  | .laneMarkerReceived _ _ _ _ | .trainTimeout _ | .retrainTimeout _ | .markerLockLoss _ _
  | .lmapGenMismatchTimeout _ | .replayReqReceived _ _ | .senderReplayTimeout _ | .receiverReplayTimeout _
  | .egressFlitSlot _ | .fastReacquire _ _ | .fastReacqTimeout _ | .spareLight _ _ | .spareReady _ _
  | .mirror _ _ | .mirrorAck _ _ | .switchDone _ _ | .laneFault _ _ | .drop _ _ | .dropAck _ _ | .add _ _
  | .addAck _ _ | .nak _ _ | .lanectlTimeout _ | .mirrorBegin _ | .mirrorSwitch _ | .dropApply _ | .addApply _
  | .lnkSwapCmdSwap _ _ _ _ | .lnkSwapCmdDrop _ _ _ | .lnkSwapCmdAdd _ _ _ | .laneLossOfLight _ _
  | .ringLockinUpdate _ _ _ | .ringWindowEval _ _ _ | .preheatDone _ _ | .sweepComplete _ _ _
  | .captureTimeout _ _ | .outRetryTimer _ _ | .reacqMarkerTimeout _ _ | .symbolErrorCheck _ _ _ _
  | .feedRejectTimeout _ _ | .combFailDetect _ _ | .feedForceWrite _ _ _ | .engineEnable _ _
  | .engineDisable _ _ | .combModuleReady _ _ _ | .engineReady _ | .enginePowerupTimeout _
  | .linePowerReading _ _ _ _ | .calibrationTask _ _ _ _ _ | .laneRotation _ | .modulePoll _ _ _ _
  | .oeI2cCmd _ _ _ _ _ | .ringModeWrite _ _ _ _ | .sbdCheck _ | .sbdClear _ | .sbdSwapTakeEffect | .slotGuard
  | .slotBoundary | .slotDarkEnd | .sbdDriveLost _ | .sbdCalibration _ | .ingressFrame _ _ _
  | .rankMapRegWrite _ _ _ | .jobEntryCommit _ _ _ | .loadLevelPublish _ | .lpWithdraw _ _ | .learnHitReport _
  | .learnMoveRequest _ | .learnInsertRequest _ | .learnUpdateApply _ | .ageSweep _ | .swapNow _
  | .drainComplete | .drainTimeout | .fwdIndRead _ _ _ | .fwdIndWrite _ _ _ | .fwdIndInsert _ _
  | .fwdIndDelete _ _ | .fwdIndSearch _ _ | .meshFrameReceived _ _ _ _ | .meshReplayRequest _ _
  | .meshRetrainDone _ _ _ _ | .meshRepairRequest _ _ | .meshLaneSwitch _ _ | .cellPromotion _ _ _
  | .reseqRelease _ _ _ _ _ | .reseqTimeout _ _ _ _ | .poisonMark _ _ | .spillReadback _ _ _ | .refillInstant _
  | .policerWord0Write _ _ _ _ | .sampleInstant _ | .outputStageDone _ | .allocationGrant _ | .chunkSpill _
  | .chunkSpillReturn _ | .shelfUncorrectedError _ _ _ | .drawerLevelReplay _ _ | .drwOpen _ _ | .drwClose _ _
  | .drwAbort _ _ | .drwShadowOpen _ _ | .drwShadowClose _ _ | .weightWrite _ _ _ _ | .drawerMirrorRecord _
  | .failoverReplace _ | .shadowStreamReceived _ | .stragglerTimeout _ _ | .reformApply _ | .reformClearDone _
  | .drwRelease _ _ | .noticeResendTimeout _ _ _ | .lineHomeExecute _ _ _ | .lineHomeCompletion _
  | .gnRespConsumed _ _ | .gapTimeout _ _ | .rcEntryExpire _ _ _ | .tombstoneFree _ _ _
  | .sourceTrackerFree _ _ | .mirrorResend _ _ _ | .mirrorBusyRetry _ _ _ | .mirrorTimeout _ | .poolWinOpen _ _
  | .poolWinOpenMirror _ _ | .poolWinClose _ _ | .poolWinResilverPush _ _ | .poolWinResilverPull _ _
  | .poolWinMarkLost _ _ | .windowZeroDone _ | .resilverGranuleDone _ | .poolWinWrite _ _ _ _
  | .mantelSyncRecord _ _ | .rateWrite _ _ | .paramUpdate | .stepCommit _ _ | .stepArm _ | .timeSnap _
  | .holdoverTimeout | .coatRackPop _ _ | .mgmtPtpRx _ _ | .ptpTx _ _ | .ppsInEdge | .ppsOutPulse
  | .launchWord1Write _ _ _ | .launchArm _ | .launchCancel _ | .launchFire _ | .dieRejoin _ _ | .alignCheck _
  | .alignCheckSample _ | .pmcOpen _ _ | .pmcClose _ _ | .pmcSnap _ | .pmcSnapCapture | .counterWindowOpen _
  | .counterWindowClose _ | .bureauEvent _ _ _ _ | .sourceWindowExpire _ | .heartbeatMiss _ | .graceExpire _ _
  | .pendingAck _ _ | .burAct _ _ | .quietExpire _ _ | .unitStateWrite _ _ _ | .shadowDigestReceived _
  | .spineShadowClear _ | .standin _ _ | .injectionCmd _ _ | .injectionRepeat _ | .deskTakeover _ | .boot
  | .enrolSelfReset | .flashRead _ | .flashErase _ | .flashProgram _ | .fwVerify _ _ _ | .fwPin _ _ _
  | .fwUnpin _ _ | .fwHitless _ _ _ | .fwReboot _ | .svnCommit _ | .attest _ | .doorbellWrite _ _
  | .semAcquire _ _ _ | .semRelease _ _ _ | .irqMaskWrite _ _ | .ethMgmtWrite _ _ | .powerOnResetRelease _
  | .deviceReset _ | .perst _ | .supplyWarn _ | .supplyWarnClear _ | .safeStop _ | .powerLoss | .resumeWrite _
  | .autoResume | .resumeComplete | .domainSwitchWrite _ _ | .domainOnComplete | .limiterStep1 _ _
  | .limiterStep2 | .limiterRelease _ | .vrHotAssert | .vrHotDeassert | .refClockLoss _ | .refSwitch _
  | .meshFrameSend _ _ | .refClockReturn _ | .budgetWindowExpiry _ _ | .ringFailWindowExpiry _ _
  | .polarisationLockChange _ _ _ _ _ | .vinAonInTolerance _ => true

end Sys2Proof
end

