-- ==== Sys2Proof/Tests/Slice0.lean ====
section
/-! SUPPORT. The model's own tests: ill-formed terms, values that the spec gives, and for each statement a state and operands
that meet its hypotheses (test_wit_<statement>, clause by clause). -/
namespace Sys2Proof.Machine

set_option Elab.async false

/-- The reset device with the lock set and every domain on. -/
def tOn : Dev := (({} : Dev).setB F.DESK_PROT_LOCK.LOCKED 0 true).set F.PWR_PD_STAT.ON 0 0x3FFFFFFF

/-- Desk A's PCIe path. -/
def tA : Access := { deskB := false, eth := false }

/-- Logical port 0 in a link state. -/
def tLp (st : Nat) : Dev := tOn.set F.LNK_LP_STATE.STATE 0 st

/-- A lane message that names lane 0 and spare 16. -/
def tMsg : LaneMsg := { txn := 1, lane := 0, spare := 16, cw := 100, reason := 0, status := 0 }

/-- An open lane transaction of an operation, answered. -/
def tTxn (op : Nat) : LaneTxn := { op := op, txn := 1, lane := 0, spare := 16, cw := 100, reason := 0, phase := 1 }

/-- Logical port 0 ACTIVE with an open transaction. -/
def tOpen (op : Nat) : Dev := (tLp 4).updLp 0 fun l => { l with txTxn := some (tTxn op) }

/-- Ring 0 of engine 0 in a state, commissioned. -/
def tRing (st : Nat) : Dev := (tOn.set F.OE_RING_CTL.MODE 0 1).ringGo 0 st

/-- A frame of a kind to a destination, with its payload. -/
def tFrame (kind dst : Nat) (p : List Byte) : List Byte := mkFrame kind 0 0 dst 0 1 0 p

/-- A frame of class 3 that passes the checks. -/
def tGood : List Byte := tFrame 0x13 0 (5 :: List.replicate 23 0)

/-- Job 1 is valid and may use every class. -/
def tJobOn : Dev := ((tLp 4).wr .FWD_JOB 1 0 0x80FF0000).updFwd fun x => { x with job := x.job.put 0 (key2 1 0) 0x80FF0000 }

/-- Source 0 is a source of infrastructure. -/
def tInfra : Dev := tOn.setB F.FWD_INFRA_SRC.VALID 0 true

/-- A JOB_CTL request of source 0 for a job. -/
def tReq (job : Nat) : JobCtl :=
  { srcType := 0, src := 0, job := 0, cmd := 0, reqId := 7, target := Fin.ofNat 4096 job, arg := 0, payload := [] }

/-- A learned entry for VID 1 and MAC address 2. -/
def tEnt : LearnEnt := ⟨1, 2, false, false, true, false, 0⟩

/-- Tile 0 with a learned entry and a learning request of a kind: an insert names another key. -/
def tLearn (kind : Nat) : Dev :=
  (tOn.learnChange 0 (learnIdx 0 1 2) (some tEnt)).updFwd fun w => { w with
    learnQ := w.learnQ.put [] 0 [⟨kind, 1, if kind = 2 then 3 else 2, 5⟩] }

/-- A frame of one cell held at tile 0. -/
def tFrm : Machine.Frm := { bytes := tGood, cls := 3 }

/-- Handle 0 configured for job 1: FP32 sums of 1,024 elements, one chunk, one member of rank 0. -/
def tDrw : Dev :=
  ((((((tJobOn.updFwd fun x => { x with job := x.job.put 0 (key2 1 3) 1 }).set F.DRW_CFG.JOB 0 1).set
    F.DRW_CFG.OP_CHUNKS 0 1).set F.DRW_CFG.ARITH 0 (3 * 2 ^ 32)).setB F.DRW_MEMBER.VALID (memberIx 0 0) true).set
    F.DRW_CFG.STATE 0 0)

/-- A context of handle 0 with chunk 0 open. -/
def tCtx : DrwCtx := { state := 3, members := [0], limit := 1, chunks := [(0, {})] }

/-- Handle 0 in a state, with a context on die 0. -/
def tHeld (st : Nat) (c : DrwCtx) : Dev := (tDrw.set F.DRW_CFG.STATE 0 st).putCtx 0 0 c

/-- A contribution of eight zero bytes to chunk 0 of handle 0. -/
def tCon : Contrib :=
  { srcType := 0, src := 0, job := 1, drawer := 0, epoch := 0, contrib := 0, tag := 0, chunk := 0, last := true,
    count := false, replay := false, attempt := 0, fmt := 0, op := 0, offset := 0, payload := List.replicate 8 0,
    fcsOk := true, poisoned := false, stamp := 0 }

/-- An output of chunk 0 of handle 0. -/
def tOut : OutItem := ⟨0, 0, 0, 0, 0, {}, 1, 0, false⟩

/-- A Gnoari request of source 0 to offset 0 of window 0. -/
def tGn (op seq : Nat) (p : List Byte) : GnReq :=
  { srcType := 0, src := 0, job := 0, opcode := BitVec.ofNat 8 op, tag := 1, seq := BitVec.ofNat 32 seq, addr := 0,
    rackV := false, rackTag := 0, payload := p, poisoned := false }

/-- A device whose tracker of source 0 is as given. -/
def tTrk (t : Tracker) : Dev := tOn.putTrk (srcKey 0 0) t

/-- A tracker in step at watermark 5. -/
def tSync : Tracker := { synced := true, w := 5 }

/-- Window 0 of one GiB in a state, shared, with atomics. -/
def tWin (st : Nat) : Dev :=
  (((tOn.set F.POOL_WIN.SIZE_GIB 0 1).setB F.POOL_WIN.SHARED 0 true).setB F.POOL_WIN.ATOMIC_EN 0 true).set F.POOL_WIN.STATE 0 st

/-- A mirror item in flight. -/
def tItem (busy : Bool) : MItem := ⟨1, false, 0, 0, [], none, none, false, busy⟩

/-- A Gnoari response to a mirror write of line home 1. -/
def tResp : GnResp :=
  { dst := 1, srcType := 1, src := 0x20000, opcode := 6, status := 0, tag := 0, seq := 1, addr := 0, ackSeq := 1,
    payload := [], poisoned := false }

/-! ## Values that the spec gives -/

/-- The codes of the *Example* after R222 (chapter 9): 1.0, 5.75 and −41 / 4096 in one MXFP8 block, for a draw u of the
last two. -/
theorem test_mx_example : ∀ x ∈ [(0x3FFFFF, 0x7C, 0xB3), (0x400000, 0x7C, 0xB2), (0x7FFFFF, 0x7C, 0xB2), (0x800000, 0x7B, 0xB2)],
    (fpFmt 5).map (fun f => mxBlock f [.sr x.1, .sr x.1, .sr x.1] [.num false 1 1, .num false 23 4, .num true 41 4096]) =
      some (0x79, [0x68, x.2.1, x.2.2], 0) := by decide +kernel

/-- The arithmetic descriptor of that example (chapter 9). -/
theorem test_descriptor_example : descOf (0x0941807F * 2 ^ 32) = ⟨1, 5, 0, true, 2, false, 32768, 0, 0⟩ ∧
    (descOf (0x0941807F * 2 ^ 32)).shelves = 20 := by decide +kernel

/-- The noise key of that example. -/
theorem test_noise_key (s : Nat) : noiseOf (s % 1) 0x2A7 0x1C05 7 6150 = noise 0x2A70000070001806 0x1C05 := by
  rw [Nat.mod_one]; decide +kernel

/-- Order dependence in fast mode (the *Example* after R208). -/
theorem test_fast_order : (fp32Add (fp32Val 0xCB800000) (fp32Add (fp32Val 0x3F800000) 0x4B800000) = 0) ∧
    (fp32Add (fp32Val 0x3F800000) (fp32Add (fp32Val 0xCB800000) 0x4B800000) = 0x3F800000) := by decide +kernel

/-- The same in exact mode: bit 160 alone. -/
theorem test_exact_order : exactAdd (fp32Val 0xCB800000) (exactAdd (fp32Val 0x3F800000) (exactAdd (fp32Val 0x4B800000) 0)) =
    BitVec.ofNat 320 (2 ^ 160) := by decide +kernel

/-- The page, the flag and the writer of the *Example* of chapter 12. -/
theorem test_pool_example : stackOf (513 * 2 ^ 30) = 12 ∧ homeOf (513 * 2 ^ 30) = 6 ∧ stackOf (512 * 2 ^ 30 + 0x40) = 4 ∧
    homeOf (512 * 2 ^ 30 + 0x40) = 2 ∧ orderTile 0 0x1E4017 = 13 := by decide +kernel

/-- Addresses of the *Examples* of chapters 3, 8, 14, 15 and 18. -/
theorem test_address_examples : (decodeAddr 0 0x01682590 = some (.OE_RING_CTL, 576 * 6 + 345, 0)) ∧
    (decodeAddr 0 0x0106C004 = some (.TM_PORT_POL, 1, 0)) ∧
    (decodeAddr 0 0x010640AC = some (.TM_POL, 5, 3)) ∧ (decodeAddr 0 0x000C2210 = some (.BUR_SRC, 0x221, 0)) ∧
    (decodeAddr 0 0x01649610 = some (.LNK_CW_UNCORR, 422, 0)) ∧ (decodeAddr 0 0x01649608 = some (.LNK_CW_CORR, 422, 0)) ∧
    (decodeAddr 0 0x000000D0 = some (.DESK_GSTAT, 0, 0)) ∧
    (decodeAddr 0 0x016F5320).map (fun x => (x.1, x.2.2)) = some (.XBAR_PMC_PWIN_RX, 0) := by decide +kernel

/-- DESK_GSTAT of the *Example* of chapter 18. -/
theorem test_gstat_example : ((((tOn.stageGo 8).setB F.CLK_ALIGN_CTL.ALIGNED 0 true).set F.FWD_PLACE.PLACE 0 0x17).gstat) =
    0x82900017 := by decide +kernel

/-- BUR_SRC word 0 of source 0x221 at reset (the *Example* of chapter 15). -/
theorem test_bur_src_example : tOn.rd .BUR_SRC 0x221 0 = 0x01914480 := by decide +kernel

/-- The increment of the *Example* of chapter 13. -/
theorem test_rate_example : ({ rate := 13743895 } : TimeSt).inc = 351848118934720 := by decide

/-- SHA3-256 of no bytes, as FIPS 202 gives it. -/
theorem test_sha3_empty : beNat (sha3 []) = 0xa7ffc6f8bf1ed76651c14756a061d662f580ff4de43b49fa82d80a4b80f8434a := by decide +kernel

/-- The published check values of the CRCs over the digits 1 to 9. -/
theorem test_crcs : let b : List Byte := [0x31, 0x32, 0x33, 0x34, 0x35, 0x36, 0x37, 0x38, 0x39]
    crc16 b = 0x29B1 ∧ crc32c b = 0xE3069283 ∧ crc64 b = 0x6C40DF5F0B497347 := by decide +kernel

/-! ## Ill-formed terms -/

/-- Every check of Instr.wf refuses a term: an address that is no multiple of four. -/
theorem test_ill_formed_registers : ∀ i ∈ [Instr.registerWrite tA 1 15 0, .lowWordRead tA 2, .highWordRead tA 3, .lowWordWrite tA 1 0,
    .highWordWrite tA 1 0, .rcRead tA 1, .sbdShadowWrite tA 1 0, .sbdLiveWrite tA 1 0, .drwCfgWrite tA 1 0], i.wf = false := by
  decide +kernel

theorem test_ill_formed_requests : ∀ i ∈ [Instr.setController (tReq 1), .rankMapWrite (tReq 1), .drawerAbort (tReq 1), .reform (tReq 1),
    .counterRead (tReq 1), .digestRead (tReq 1), .jobTeardown (tReq 1), .jobCtlUnknownCmd { tReq 1 with cmd := 1 },
    .gnRead (tGn 2 0 []), .gnWrite (tGn 1 0 []), .gnWritePart (tGn 1 0 []), .gnFwrite (tGn 1 0 []), .gnSync (tGn 1 0 []),
    .gnMwrite (tGn 1 0 []), .gnMread (tGn 1 0 []), .gnAtomicAdd (tGn 0x12 0 []), .gnAtomicSwap (tGn 0x10 0 []),
    .gnAtomicCas (tGn 0x10 0 []), .gnAtomicAnd (tGn 0x10 0 []), .gnAtomicOr (tGn 0x10 0 []), .gnAtomicXor (tGn 0x10 0 []),
    .gnAtomicSmin (tGn 0x10 0 []), .gnAtomicSmax (tGn 0x10 0 []), .gnAtomicUmin (tGn 0x10 0 []), .gnAtomicUmax (tGn 0x24 0 [])],
    i.wf = false := by decide +kernel

theorem test_ill_formed_operands : (Instr.linkControlReceived 0 [] false []).wf = false ∧
    (Instr.dataFlitReceived 0 [] false []).wf = false ∧ (Instr.oeFeedRetWrite tA 0 0x10000).wf = false ∧ (Instr.resetAlignment []).wf = false ∧
    (Instr.thermalSensorUpdate 27 2 0).wf = false ∧ (Instr.contribReceived 0 { tCon with payload := List.replicate 4301 0 }).wf = false ∧
    (Instr.ethMgmtRead false { mac := 0, dst := 0, version := 1, seq := 0, addr := 0, count := 1, data := [0] }).wf = false := by
  decide +kernel

/-- The address of a register word. -/
def tAddr (r : Reg) (i w : Nat) : Nat := (BitVec.ofNat 26 (regAddr r i w)).toNat / 4 * 4

theorem test_wit_RegisterWrites :
    decodeAddr 0 ((0x3FFFFFC#26).toNat / 4 * 4) = none ∧
    (decodeAddr 0 (tAddr .MNT_RATE 0 0) = some (.MNT_RATE, 0, 0) ∧ tOn.Reaches tA .MNT_RATE 0 0) ∧
    (decodeAddr 0 (tAddr .DESK_SEM 31 0) = some (.DESK_SEM, 31, 0) ∧ tOn.Reaches tA .DESK_SEM 31 0) ∧
    ((Reg.MNT_RATE.masks 0).boot = 0 ∧ tOn.bit F.DESK_PROT_LOCK.LOCKED 0 = true) := by decide +kernel

/-- The reset device with every domain on and the lock open. -/
def tOpenLock : Dev := ({} : Dev).set F.PWR_PD_STAT.ON 0 0x3FFFFFFF

theorem test_wit_AccessesWithoutEffect :
    (decodeAddr 0 (tAddr .CAB_NAN_IN 0 0) = some (.CAB_NAN_IN, 0, 0) ∧
      (tOn.set F.PWR_PD_STAT.ON 0 0).gate tA (tAddr .CAB_NAN_IN 0 0) = .cause 3) ∧
    (let d := tOn.wr .BUR_ACT 0 0 0x80000000
     decodeAddr 0 (tAddr .BUR_ACT 0 0) = some (.BUR_ACT, 0, 0) ∧ d.gate tA (tAddr .BUR_ACT 0 0) = .ok ∧
     Reg.BUR_ACT.isCmd = true ∧ bitAt (d.rd .BUR_ACT 0 0).toNat 31 = true) ∧
    (decodeAddr 0 (tAddr .MNT_RATE 0 0) = some (.MNT_RATE, 0, 0) ∧ tOpenLock.gate tA (tAddr .MNT_RATE 0 0) = .silent ∧
      tOpenLock.deskUp 0 = true ∧ tOpenLock.bit F.DESK_PROT_LOCK.LOCKED 0 = false ∧ preLock (tAddr .MNT_RATE 0 0) = false ∧
      tA.eth = false) := by decide +kernel

theorem test_wit_AccessesWithoutEffect_gate :
    (tOpenLock.deskUp 0 = true ∧ tOpenLock.bit F.DESK_PROT_LOCK.LOCKED 0 = false ∧ preLock (tAddr .MNT_RATE 0 0) = false) ∧
    (let d := tOn.set F.PWR_PD_STAT.ON 0 0
     let x := tAddr .CAB_NAN_IN 0 0
     d.deskUp 0 = true ∧ d.bit F.DESK_PROT_LOCK.LOCKED 0 = true ∧ d.blockDies x = some [16] ∧ d.blockOff x = true) ∧
    (let d := tOn.set F.BUR_UNIT.STATE 0 5
     let x := tAddr .CAB_NAN_IN 0 0
     d.deskUp 0 = true ∧ d.bit F.DESK_PROT_LOCK.LOCKED 0 = true ∧ d.blockDies x = some [16] ∧ d.blockOff x = false ∧
     ∀ m ∈ [16], d.deskReaches 0 m = false) := by decide +kernel

theorem test_wit_WideRegisters :
    (Reg.MNT_PTP_MAC.wide = true ∧ decodeAddr 0 (tAddr .MNT_PTP_MAC 0 0) = some (.MNT_PTP_MAC, 0, 0) ∧
      decodeAddr 0 (tAddr .MNT_PTP_MAC 0 1) = some (.MNT_PTP_MAC, 0, 1) ∧ tOn.Reaches tA .MNT_PTP_MAC 0 0 ∧
      tOn.Reaches tA .MNT_PTP_MAC 0 1) ∧
    (Reg.MNT_SNAP_TIME.is64 = true ∧ decodeAddr 0 (tAddr .MNT_SNAP_TIME 0 0) = some (.MNT_SNAP_TIME, 0, 0) ∧
      decodeAddr 0 (tAddr .MNT_SNAP_TIME 0 1) = some (.MNT_SNAP_TIME, 0, 1) ∧ tOn.gate tA (tAddr .MNT_SNAP_TIME 0 0) = .ok ∧
      tOn.gate tA (tAddr .MNT_SNAP_TIME 0 1) = .ok ∧ tOn.bus.staged.find (rkey .MNT_SNAP_TIME 0 0) = none) ∧
    (∀ i ∈ [0, 15], decodeAddr 0 (tAddr .FWD_HCRC_ERR i 0) = some (.FWD_HCRC_ERR, i, 0) ∧
      tOn.gate tA (tAddr .FWD_HCRC_ERR i 0) = .ok) ∧
    (decodeAddr 0 ((0x3FFFFFC#26).toNat / 4 * 4) = none ∧ tOn.deskUp 0 = true ∧
      tOn.bit F.DESK_PROT_LOCK.LOCKED 0 = true) := by decide +kernel

theorem test_wit_LinkBringUp :
    (let d := ((({} : Dev).set F.LNK_PORT_CFG.ADMIN_UP 0 1).set F.OE_ENG_STAT.PHASE 0 5).updLp 0 fun l =>
        { l with light := true }
     d.lpState 0 = 0 ∧ d.adminUp 0 = true ∧ (d.lp 0).light = true ∧ (d.lp 0).forced = false ∧ d.mapInvalid 0 = false ∧
      lpSub 0 < lpsOfBreakout (d.breakout (lpPort 0)) ∧ d.engineReady 0 = true ∧ tOn.Reaches tA .LNK_PORT_CFG 0 0) ∧
    (tLp 1).lpState 0 = 1 ∧ (tLp 2).lpState 0 = 2 ∧ (tLp 3).lpState 0 = 3 := by decide

theorem test_wit_LinkRetrain : (tLp 4).lpState 0 = 4 ∧ (tLp 6).lpState 0 = 6 ∧ (tLp 7).lpState 0 = 7 ∧
    (((tLp 6).updLp 0 fun l => { l with fast := true }).lp 0).fast = true := by decide

theorem test_wit_LinkManagement :
    (let d := ((tLp 4).set F.LNK_PORT_CFG.ADMIN_UP 0 (withBit ((tLp 4).get F.LNK_PORT_CFG.ADMIN_UP 0) 0 false)).heldBack (instLp 0)
     (tLp 4).Reaches tA .LNK_PORT_CFG 0 0 ∧ (d.updLp 0 fun l => { l with forced := d.isOut (instLp 0) }).lpState 0 ≠ 0) ∧
    (let s := ((tOn.set F.OE_ENG_STAT.PHASE 0 5).updLp 0 fun l => { l with light := true })
     let d := s.set F.LNK_PORT_CFG.ADMIN_UP 0 (withBit (s.get F.LNK_PORT_CFG.ADMIN_UP 0) 0 true)
     s.Reaches tA .LNK_PORT_CFG 0 0 ∧ d.lpState 0 = 0 ∧ d.adminUp 0 = true ∧ (d.lp 0).forced = false ∧ d.mapInvalid 0 = false ∧
       lpSub 0 < lpsOfBreakout (d.breakout (lpPort 0)) ∧ (d.lp 0).light = true ∧ d.engineReady 0 = true) ∧
    (tOn.Reaches tA .LNK_LANE_CFG 17 0 ∧ tOn.role 0 17 false = 4 ∧ bitsOf (0x1010 : Word).toNat 14 12 = 1 ∧
      ∀ y < 4, tOn.lpState (4 * 0 + y) = 0) := by decide +kernel

/-- A lane marker of lane 3 with all other fields zero. -/
def tMark : Nat := 0x4B1DE27C93A605F8 * 2 ^ 96 + 3 * 2 ^ 83

theorem test_wit_LinkReceive_marker :
    let m : BitVec 160 := BitVec.ofNat 160 (tMark + crc16 (beBytes 18 (tMark / 65536)))
    m.toNat / 2 ^ 96 = 0x4B1DE27C93A605F8 ∧ crc16 (beBytes 18 (m.toNat / 65536)) = m.toNat % 65536 ∧
      bitsOf m.toNat 87 83 = 3 := by decide +kernel

/-- A flit of a type with SEQ 0. -/
def tFlit (ty : Nat) : List Byte := mkFlit ((tLp 4).mkHdr 0 ty 0 0 0 0 0) []

set_option maxRecDepth 100000 in
theorem test_wit_LinkReceive_flit : (tLp 4).bur.nextCw.at 0 0 = 0 ∧ (tLp 4).lpState 0 = 4 ∧ flitOk (tFlit 1) = true ∧
    byteAt (tFlit 1) 0 / 16 = 1 ∧ beAt (tFlit 1) 4 2 = ((((tLp 4).flitHeader 0 (tFlit 1)).lp 0).rxAck + 1) % 65536 ∧
    ((tLp 4).flitHeader 0 (tFlit 1)).lpState 0 = 4 ∧ flitOk [] = false := by decide +kernel

set_option maxRecDepth 100000 in
theorem test_wit_LinkReceive_control : flitOk (tFlit 2) = true ∧ byteAt (tFlit 2) 0 / 16 = 2 ∧
    ((tLp 4).codewords 0 [] false).lpState 0 = 4 ∧ ((tLp 4).codewords 0 [15] true).lpState 0 = 4 := by decide +kernel

theorem test_wit_LinkReplay :
    (((tLp 4).updLp 0 fun l => { l with window := [{ seq := 1, cls := 0, first := 0, fill := 0, payload := [] }] }).lp 0).window ≠ []
      ∧ (((tLp 4).updLp 0 fun l => { l with rxDisc := true }).lp 0).rxDisc = true := by decide

theorem test_wit_EgressFlitSlot :
    (∀ st < 9, (tLp st).lpState 0 = st ∧ ((tLp st).lp 0).burst = 0 ∧ ((tLp st).lp 0).slot % 148 ≠ 147) ∧
    (let f : Flit := { seq := 1, cls := 0, first := 0, fill := 0, payload := [] }
     let d := (tLp 4).updLp 0 fun l => { l with window := [f], replay := some 0 }
     d.lpState 0 = 4 ∧ (d.lp 0).burst = 0 ∧ (d.lp 0).slot % 148 ≠ 147 ∧ (d.lp 0).replay = some 0 ∧ (d.lp 0).window[0]? = some f) ∧
    (((tLp 4).updLp 0 fun l => { l with slot := 147 }).lp 0).slot % 148 = 147 ∧
    0 < (((tLp 6).updLp 0 fun l => { l with burst := 4 }).lp 0).burst := by decide

theorem test_wit_LaneControlReceiver :
    (let d := (tLp 4).updLane 0 fun l => { l with spareGood := 2 }
     d.qualified 0 0 = true ∧ d.repeated 0 4 1 = none ∧ d.lpState 0 = 4 ∧ d.holds 0 0 true = true ∧ d.role 0 16 true = 4 ∧
     d.cwAheadOk 0 100 = true ∧ d.repeated 0 8 1 = none) ∧
    ((tLp 4).lpState 0 = 4 ∧ (tLp 4).repeated 0 4 1 = none ∧ (tLp 4).holds 0 17 true = false) ∧
    (let d := (tLp 4).updLane 16 fun l => { l with spareGood := 2 }
     4 ≤ d.role 0 16 true ∧ d.qualified 0 16 = true ∧ d.repeated 0 10 1 = none) ∧
    (let d := (tLp 4).updLp 0 fun l => { l with rxTxn := some (tTxn 3) }
     (d.lp 0).rxTxn = some (tTxn 3) ∧ (tTxn 3).op = 3 ∧ (tTxn 3).lane < 18 ∧ (tTxn 3).spare < 18 ∧
     (tTxn 3).lane ≠ (tTxn 3).spare) ∧
    ((tLp 4).qualified 0 16 = false ∧ ((tLp 4).updLane 16 fun l => { l with spareGood := 2 }).qualified 0 16 = true) := by decide

/-- Logical port 0 ACTIVE with an open transaction that has its acknowledgement. -/
def tAcked (op : Nat) : Dev := (tLp 4).updLp 0 fun l => { l with txTxn := some { tTxn op with acked := true } }

theorem test_wit_LaneControlSender :
    (∀ op ∈ [3, 7, 9], ((tOpen op).lp 0).txTxn = some (tTxn op) ∧ (tTxn op).txn = tMsg.txn.toNat ∧ (tTxn op).op = op ∧
      (tTxn op).acked = false ∧ ((tOpen op).lp 0).rxTxn = none ∧ ((tOpen op).lp 0).todo = []) ∧
    (∀ op ∈ [7, 9], ((tAcked op).lp 0).txTxn = some { tTxn op with acked := true } ∧ ((tAcked op).lp 0).rxTxn = none) ∧
    (tMsg.status = 0 ∧ (tOpen 3).oe.rotating.at 0 0 = 0 ∧ (tTxn 3).lane ≠ (tTxn 3).spare) ∧
    (∀ n ∈ [0, 2, 3],
      let d := if n = 2 ∨ n = 3 then (tLp 4).selectOut 0 0 else tLp 4
      let e := d.unqualify 0 0
      d.role 0 0 false ≠ 4 ∧ e.txOwner 0 0 = 0 ∧ e.laneNamed (4 * 0 + 0) 0 = false) := by decide

theorem test_wit_LaneChanges_swap :
    (tLp 4).Reaches tA .LNK_SWAP_CMD 0 0 ∧
    (let d := (tLp 4).wr .LNK_SWAP_CMD 0 0 (BitVec.ofNat 32 (2 ^ 31 + 16 * 2 ^ 18 + (tLp 4).get F.LNK_SWAP_CMD.RESULT 0 * 256))
     d.role 0 0 false = 0 ∧ d.role 0 16 false = 4 ∧ d.lpState 0 = 4 ∧ (d.lp 0).txTxn = none ∧ d.cwOk 0 5248 = true) ∧
    (let d := (tLp 4).wr .LNK_SWAP_CMD 0 0 (BitVec.ofNat 32 (2 ^ 31 + 2 ^ 28 + (tLp 4).get F.LNK_SWAP_CMD.RESULT 0 * 256))
     d.role 0 0 false = 0 ∧ d.lpState 0 = 4 ∧ (d.lp 0).txTxn = none ∧ d.cwOk 0 384 = true) ∧
    (∀ op ∈ [3, 7, 9], (tLp 4).cwOk 0 (cwAhead op) = true) := by decide

theorem test_wit_LaneChanges_add :
    let s := (tLp 4).set F.LNK_LP_STATE.NOMINAL_LANES 0 17
    let d := s.wr .LNK_SWAP_CMD 0 0 (BitVec.ofNat 32 (2 ^ 31 + 2 * 2 ^ 28 + 16 * 2 ^ 23 + s.get F.LNK_SWAP_CMD.RESULT 0 * 256))
    s.Reaches tA .LNK_SWAP_CMD 0 0 ∧ 4 ≤ d.role 0 16 false ∧ d.lpState (4 * 0) = 4 ∧
      d.stripes (4 * 0) < d.get F.LNK_LP_STATE.NOMINAL_LANES (4 * 0) ∧
      (d.lp (4 * 0)).txTxn = none ∧ d.cwOk (4 * 0) 384 = true := by decide

theorem test_wit_LaneChanges_faults :
    (tLp 4).portBypassed 0 = false ∧ (tLp 4).role 0 0 true = 0 ∧
    (((tLp 4).setB F.LNK_LANE_STAT.MARKER_OK 0 false).updLane 0 fun l => { l with good := 0, spareGood := 0 }).lpState 0 = 4 ∧
    (1 * 1000 ≤ 1000 ∧ 999 < 1 * 1000) ∧
    (let d := (tLp 4).add64 .LNK_LANE_SYMERR 0 1
     d.role 0 0 true = 0 ∧ d.lpState 0 = 4) := by decide

theorem test_wit_RingStates : (∀ st ∈ [1, 2, 3, 6], (tRing st).ringState (oeRing 0 0) = st) ∧ (tRing 6).ringMode (oeRing 0 0) = 1 ∧
    (let d := (tOn.ringGo (ringIx 0 0 1) 4).updRing (ringIx 0 0 1) fun x => { x with reacq := true }
     d.ringState (ringIx 0 0 1) = 4 ∧ (d.ring (ringIx 0 0 1)).reacq = true ∧ (d.lane 0).good < 2 ∧ (d.lane 0).spareGood < 2 ∧
     (d.ringFail (ringIx 0 0 1)).ringState (ringIx 0 0 0) ≠ 4) ∧
    2 ≤ (tOn.set F.OE_RING_STAT.FAIL_CNT 0 2).get F.OE_RING_STAT.FAIL_CNT 0 := by decide

/-- Ring 0 of engine 0, LOCKED and commissioned at code 1,000, at heater code 0 and 40.0 °C. -/
def tFar : Dev := (((tRing 4).set F.OE_RING_CAL.COMM_CODE 0 1000).set F.OE_RING_CAL.T_COMM 0 80).updRing 0 fun y => { y with temp := 400 }

theorem test_wit_RingLoops :
    (let d := ((tRing 3).set F.OE_RING_STAT.ERROR 0 20).updRing 0 fun y => { y with ok := 1 }
     (tRing 3).ringState 0 = 3 ∧ d.ringMode 0 = 1 ∧
       (if (toSigned 16 20).natAbs ≤ 20 then min 10 ((((tRing 3).set F.OE_RING_STAT.ERROR 0 20).ring 0).ok + 1) else 0) = 1) ∧
    ((tRing 3).updRing 0 fun y => { y with temp := 40 }).ringState 0 ≠ 5 ∧
    (((tRing 3).updRing 0 fun y => { y with temp := 40 }).setB F.OE_RING_STAT.IN_WINDOW 0 false).ringState 0 ≠ 4 ∧
    (tFar.ringState 0 = 4 ∧ tFar.uncommissioned 0 = false ∧ tFar.inWindow 0 400 = false) ∧
    tOn.Reaches tA .OE_RING_CTL 0 0 ∧ (∀ n < 4, bitsOf (n * 2 ^ 14) 15 14 = n) ∧
    (tOn.set F.OE_RING_CTL.MODE 0 0).ringMode 0 ≠ 1 ∧
    ((tOn.set F.OE_RING_CTL.MODE 0 1).heldBack (instLane (ringPort 0) (ringLane 0))).ringState 0 ≠ 7 ∧
    (((tRing 7).set F.OE_RING_CTL.MODE 0 1).heldBack (instLane (ringPort 0) (ringLane 0))).ringState 0 = 7 := by decide +kernel

theorem test_wit_CombFeeds :
    (let d := (tOn.setB F.OE_PC_STAT.LOCKED 1 true).setB F.OE_ENG_CFG.AUTO_FEED 0 true
     d.onStandby 0 0 = false ∧ d.pcLocked 0 0 1 = true ∧ d.bit F.OE_ENG_CFG.AUTO_FEED 0 = true) ∧
    8 ≤ popBits 0xFF 16 ∧ tOn.Reaches tA .OE_FEED_RET 0 0 ∧ tOn.Reaches tA .OE_ENG_CFG 0 0 := by decide

theorem test_wit_EnginePower :
    (tOn.Reaches tA .OE_ENG_CFG 0 0 ∧ tOn.domainRefused = false ∧
      (tOn.setB F.OE_ENG_CFG.ENABLE 0 false).bit F.OE_ENG_CFG.ENABLE 0 = false ∧
      (tOn.setB F.OE_ENG_CFG.ENABLE 0 true).bit F.OE_ENG_CFG.ENABLE 0 = true) ∧
    (let d := tOn.set F.PWR_STAT.STATE 0 3
     d.Reaches tA .OE_ENG_CFG 0 0 ∧ d.domainRefused = true) ∧
    (∀ n ∈ [1, 2],
     let d := tOn.set F.OE_ENG_STAT.PHASE 0 n
     let b := d.setB F.OE_ENG_STAT.COMB_P_OK 0 true
     let e := ({ b with oe := { b.oe with combS := b.oe.combS.put false 0 true } }).showCombS 0
     d.phase 0 ≠ 0 ∧ d.phase 0 ≠ 7 ∧ e.phase 0 = n) ∧
    (tOn.set F.OE_ENG_STAT.PHASE 0 4).phase 0 = 4 := by decide

/-- Line 16 of port 0 measured, its commissioned power, and the readings below it. -/
def tFade : Dev := ((tOn.ringGo (ringIx 0 16 0) 4).set F.OE_LINE_PWR.COMM 16 500).updLane 16 fun l => { l with warn := 2 }

theorem test_wit_EngineMonitors :
    (let d := (tOn.ringGo (ringIx 0 16 0) 4).set F.OE_LINE_PWR.NOW 16 5
     d.ringState (ringIx 0 16 0) = 4 ∧ 4 ≤ d.role 0 16 false ∧ d.get F.OE_LINE_PWR.COMM 16 = 0x8000) ∧
    (tFade.ringState (ringIx 0 16 0) = 4 ∧ 4 ≤ tFade.role 0 16 false ∧
      (∀ p ∈ [251, 400], let d := tFade.set F.OE_LINE_PWR.NOW 16 p
        d.get F.OE_LINE_PWR.COMM 16 ≠ 0x8000 ∧ -250 < toSigned 16 p - toSigned 16 (d.get F.OE_LINE_PWR.COMM 16) ∧
        toSigned 16 p - toSigned 16 (d.get F.OE_LINE_PWR.COMM 16) ≤ -100 ∧ (d.lane 16).warn = 2 ∧
        d.bit F.LNK_LANE_STAT.FADE_WARN 16 = false)) ∧
    (let d := (((tOn.set F.OE_ENG_STAT.PHASE 0 5).ringGo (ringIx 0 16 0) 4).ringGo (ringIx 0 16 1) 4)
     d.phase 0 = 5 ∧ ∀ b ∈ [false, true], d.calLane 0 16 .gainCheck b = true ∧ d.calLane 0 16 .darkOffset b = true ∧
       d.calLane 0 16 .windowSweep b = true) ∧
    (let d := ((((tOn.set F.OE_ENG_STAT.PHASE 0 5).set F.SBD_STAT.STATE 0 2).set F.SBD_LIVE_N.N 0 1).wr .SBD_LIVE_SLOT 0 0
       (BitVec.ofNat 32 200000)).takePositions [(0, 0)]
     d.phase 0 = 5 ∧ d.longSlot 0 = true) ∧
    (let d := ((((tLp 4).setB F.OE_CAL_CFG.ROTATE 0 true).set F.OE_ENG_STAT.PHASE 0 5)).updLp 0 fun l => { l with spareOk := [16, 17] }
     d.bit F.OE_CAL_CFG.ROTATE 0 = true ∧ d.phase 0 = 5 ∧ d.rotLane 0 = some 0) ∧
    (let d := ({ tOn with oe := { tOn.oe with polls := tOn.oe.polls.put 0 0 2 } } : Dev).setB F.OE_ENG_CFG.ENABLE 0 true
     d.bit F.OE_ENG_CFG.ENABLE 0 = true ∧ d.oe.polls.at 0 0 = 2) ∧
    (tOn.Reaches tA .OE_I2C_CMD 0 0 ∧ bitAt 0x80000000 31 = true) := by decide +kernel

theorem test_wit_SideboardTables :
    tOn.Reaches tA .SBD_CTL 0 0 ∧ tOn.bit F.SBD_STAT.ARMED 0 = false ∧
    (tOn.setB F.SBD_STAT.ARMED 0 true).bit F.SBD_STAT.ARMED 0 = true ∧
    (tOn.setB F.SBD_STAT.ARMED 0 true).Reaches tA .SBD_CTL 0 0 ∧
    (∀ n ∈ [0, 1, 64, 65], (tOn.set F.SBD_SHADOW_N.N 0 n).get F.SBD_SHADOW_N.N 0 = n) ∧
    (let d := (tOn.wr .SBD_SHADOW_SLOT 0 0 10).wr .SBD_SHADOW_SLOT 1 0 9
     10 ≤ d.slotLen .SBD_SHADOW_SLOT 0 ∧ d.slotLen .SBD_SHADOW_SLOT 1 < 10) ∧
    (decodeAddr 0 (regAddr .SBD_SHADOW_SLOT 63 0) = some (.SBD_SHADOW_SLOT, 63, 0) ∧ tOn.Reaches tA .SBD_SHADOW_SLOT 63 0) ∧
    (decodeAddr 0 (regAddr .SBD_LIVE_SLOT 63 0) = some (.SBD_LIVE_SLOT, 63, 0) ∧ tOn.Reaches tA .SBD_LIVE_SLOT 63 0) := by
  decide +kernel

theorem test_wit_SideboardRuns :
    (∀ n ∈ [0, 1], let d := { tOn.set F.SBD_SHADOW_N.N 0 n with sbd := { tOn.sbd with swapAt := some 0 } }
     d.sbd.swapAt = some 0 ∧ d.get F.SBD_SHADOW_N.N 0 = n) ∧
    (tOn.set F.SBD_STAT.STATE 0 2).sbdRunning = true ∧
    ((tOn.set F.SBD_STAT.STATE 0 1).get F.SBD_STAT.STATE 0 = 1 ∧ (tOn.set F.SBD_STAT.STATE 0 2).get F.SBD_STAT.STATE 0 = 2 ∧
      ∀ x ∈ [1, 16, 32],
        ((List.range 4).filter fun n => bitAt x n || (decide (n < 2) && bitAt x 4) || (decide (2 ≤ n) && bitAt x 5)) ≠ []) ∧
    (let d := tOn.set F.SBD_STAT.STATE 0 3
     d.Reaches tA .SBD_CTL 0 0 ∧ d.get F.SBD_STAT.STATE 0 = 3 ∧ d.sbdPowered = true ∧
     ∀ n ∈ d.sbd.noDrive, bitAt (d.get F.SBD_DIE_MASK.MASK 0) n = true) ∧
    (tOn.bit F.SBD_CTL.AUTO_CAL 0 = true ∧ tOn.sbd.lit.at 0 0 = 0) := by decide

/-- A frame in reception on logical port 0 in class 3, its first 260 bytes here. -/
def tPart (b : List Byte) : Dev :=
  (tLp 4).updLp 0 fun l => { l with rx := l.rx.put {} 3 { buf := b.take 260, skip := false } }

/-- Two cells for leaf entry 0, and the same size as a response to a unit of the device. -/
def tLong : List Byte := tFrame 0x13 0 (5 :: List.replicate 300 0)
def tOwn : List Byte := mkFrame 0x21 1 0 0 0 1 0 (5 :: List.replicate 300 0)

set_option maxRecDepth 20000 in
theorem test_wit_IngressChecks_good :
    (let d := tJobOn.pulse 0 0x001 1 (some 0) (some 3) (some (fJob tGood))
     hcrcOk tGood = true ∧ kindOk 2 tGood = false ∧ kindOk 3 tGood = true ∧ fFormat tGood = 0 ∧ fKind tGood ≠ 0x03 ∧
     fJob tGood = 1 ∧ d.placeBad 0 tGood = false ∧ d.srcSpoof 0 tGood = false ∧ d.jobAllows 1 3 = true) ∧
    ((tLp 4).pulse 0 0x001 1 (some 0) (some 3) (some 1)).jobAllows 1 3 = false := by decide +kernel

set_option maxRecDepth 100000 in
theorem test_wit_IngressChecks_take :
    ((tLp 0).takeRx 0 3 tGood).1 = none ∧
    (∀ b ∈ [tLong, tOwn], (((tPart b).takeRx 0 3 b).1.map fun x => decide (x.cells < cellsOf x.bytes)) = some true) ∧
    ((((tPart tLong).takeRx 0 3 tLong).2).ptpTrapped tLong = false ∧
      (((tPart tLong).takeRx 0 3 tLong).2).ownFrame tLong = false) ∧
    ((((tPart tOwn).takeRx 0 3 tOwn).2).ownFrame tOwn = true ∧ fKind tOwn = 0x21) ∧
    ((tLp 4).lpState 0 = 4 ∧ hcrcOk [] = false ∧ ((tLp 4).lp 0).rxq = [] ∧ (((tLp 4).lp 0).rx.at {} 3).buf = []) := by
  decide +kernel

theorem test_wit_JobTables : tInfra.JobReaches (tReq 1) ∧ (tOn.jobTaken (tReq 1)).jobAllowed (tReq 1) = false ∧
    (tOn.Reaches tA .FWD_JOB 4095 0 ∧
      bitsOf (tOn.rd .FWD_JOB 4095 2).toNat 17 0 + bitsOf (tOn.rd .FWD_JOB 4095 3).toNat 18 0 ≤ 262144) ∧
    tOn.Reaches tA .FWD_RANK_MAP 262143 0 := by decide

theorem test_wit_LearningAndWithdrawal :
    (tOn.Reaches tA .FWD_LP_WITHDRAW 0 0 ∧ (tLp 4).withdrawn 0 = false ∧ (tLp 4).lpState 0 = 4) ∧
    (∀ k ∈ [0, 1], ((tLearn k).fwd.learnQ.at [] 0 = [⟨k, 1, 2, 5⟩]) ∧
      (((tLearn k).ownerFind 1 2).map fun e => e.2.static) = some false) ∧
    ((tLearn 2).ownerFind 1 3 = none ∧ (tLearn 2).learnPlace 1 3 = some (learnIdx 0 1 3)) ∧
    (tOn.updFwd fun w => { w with learnUpd := w.learnUpd.put [] 0 [(9, none)] }).fwd.learnUpd.at [] 0 = [(9, none)] := by
  decide +kernel

/-- Leaf entry 0 of bank 0 names logical port 0, which is ACTIVE. -/
def tLeaf : Dev := (tLp 4).updFwd fun w =>
  { w with leaf := w.leaf.put {} (key2 0 0) { hdr := 2 ^ 31, slots := [(0, 0x8000)] } }

set_option maxRecDepth 20000 in
theorem test_wit_LearningAndWithdrawal_moved :
    (tOn.Reaches tA .FWD_LP_WITHDRAW 0 0 ∧ tOn.withdrawn 0 = false) ∧
    fFormat tFrm.bytes = 0 ∧ fDstType tFrm.bytes = 0 ∧ fDst tFrm.bytes / 4096 = 0 ∧
    (tLeaf.memberChoice 0 tFrm.gen 0 tFrm.cls true tFrm.bytes).1 = .lp 0 := by decide +kernel

theorem test_wit_RouteBanks : tOn.Reaches tA .FWD_BANK_CTL 0 0 ∧ tOn.bit F.FWD_BANK_CTL.DRAINING 0 = false ∧
    (let d := tOn.setB F.FWD_BANK_CTL.DRAINING 0 true
     d.Reaches tA .FWD_BANK_CTL 0 0 ∧ d.bit F.FWD_BANK_CTL.DRAINING 0 = true ∧
     ∀ m < 24, d.drainCells m (1 - d.liveBank) = 0) := by decide

theorem test_wit_IndirectBlock : tOn.Reaches tA .FWD_IND_CMD 0 0 ∧ (indSize 5 = some 4096 ∧
      (tOn.set F.FWD_IND_INDEX.INDEX 0 4095).get F.FWD_IND_INDEX.INDEX 0 < 4096) ∧ indSize 6 = none ∧
    (let d := tOn.wr .FWD_IND_DATA 2 0 0x40000000
     let e := { learnOfWords (d.indData 0 0) (d.indData 0 1) (d.indData 0 2) with static := true, hit := true, stale := false }
     bitAt (d.indData 0 2) 30 = true ∧ d.ownerFind e.vid e.mac = none ∧ d.learnPlace e.vid e.mac = some (learnIdx 0 0 0)) := by
  decide +kernel

/-- The frame of one mesh link direction, on the wire from die 1 to die 0. -/
def tMesh : MeshFrame := { num := 0, cells := [], credits := [], replay := some 0, repair := none }

theorem test_wit_MeshFrames : meshNbr 0 1 = some 1 ∧
    (tOn.set F.XBAR_MESH_STAT.STATE (meshReg 1 (meshOpp 1)) 2).get F.XBAR_MESH_STAT.STATE (meshReg 1 (meshOpp 1)) = 2 ∧
    (let d := tOn.updCore fun x => { x with wire := x.wire.put [] (key2 1 (meshOpp 1)) [tMesh] }
     d.core.wire.at [] (key2 1 (meshOpp 1)) = [tMesh] ∧ d.bur.nextMesh.contains (key2 0 1) = false) ∧
    (let d := tOn.updEnd 0 1 fun e => { e with replayAsked := some 3 }
     (d.meshEnd 0 1).replayAsked = some 3 ∧ (d.meshEnd 0 1).lastReq ≠ some 3) := by decide

/-- A repair of lane 5, with a spare or without one. -/
def tRepair (spare : Option Nat) : MeshRepair := { lane := 5, spare := spare, at' := 16 }

theorem test_wit_MeshRepairs :
    (∀ l ∈ [[], List.range 20],
      let d := (tOn.set F.XBAR_MESH_STAT.STATE (meshReg 0 1) 3).updEnd 0 1 fun e => { e with retired := l }
      d.get F.XBAR_MESH_STAT.STATE (meshReg 0 1) = 3 ∧ 21 - (d.meshEnd 0 1).retired.length ≠ 0) ∧
    meshNbr 0 1 = some 1 ∧
    (∀ l ∈ [0, 1343], tOn.laneIsBad (meshReg 0 1) l = false ∧ l < 1344 ∧ (tOn.meshEnd 0 1).failing = [] ∧
      (tOn.meshEnd 0 1).repairOut = none ∧ (tOn.meshEnd 0 1).repair = none) ∧
    ((tOn.updEnd 0 1 fun e => { e with repairAsked := some (tRepair none) }).meshEnd 0 1).repairAsked = some (tRepair none) ∧
    (∀ x ∈ [none, some 1344],
      let s := (tOn.set F.XBAR_MESH_STAT.GROUPS (meshReg 0 1) 21).updEnd 0 1 fun e => { e with repair := some (tRepair x) }
      let p := (s.meshEnd 0 1).placeOf 5
      let d := (((((s.updEnd 0 1 fun e => { e with repair := none, steer := e.steer.erase 5 }).updEnd 1 (meshOpp 1)
        fun e => { e with repair := none }).count .XBAR_MESH_REPAIR (meshReg 0 1)).raise (meshUnit 0) 5 (instMesh 0 1)).laneBad
        (meshReg 0 1) 5 1)
      (s.meshEnd 0 1).repair = some (tRepair x) ∧ (s.meshEnd 0 1).retired.contains (p / 64) = false ∧
      1 < ((d.laneBad (meshReg 0 1) (p / 64 * 64) 64).updEnd 0 1 fun e => { e with retired := e.retired ++ [p / 64] }).get
        F.XBAR_MESH_STAT.GROUPS (meshReg 0 1)) := by decide +kernel

theorem test_wit_CellBuffers_reseq :
    (let d := tOn.updTriple 0 111 21 7 fun t => { t with cells := [(0, 4, 0)] }
     ((d.xbarTo 0 111 21 7).triple 0 111 21 7).cellAt ((d.xbarTo 0 111 21 7).triple 0 111 21 7).relSeq = some (4, 0)) ∧
    ((tOn.xbarTo 0 111 21 7).triple 0 111 21 7).cellAt ((tOn.xbarTo 0 111 21 7).triple 0 111 21 7).relSeq = none ∧
    (let s := tOn.updTriple 0 0 0 0 fun t => { t with cells := [(0, 4, 0), (1, 4, 1)] }
     let d := s.xbarRun (max 1 (s.get F.XBAR_CFG.RESEQ_TO 0))
     (d.triple 0 0 0 0).cells.any (fun x => x.1 != (d.triple 0 0 0 0).relSeq) = true ∧ d.awaited 0 0 0 0 = some (4, 0)) ∧
    (let c : CoreSt := { lanes := Tbl.put [] [] (key2 0 111) [⟨21, 7, 4, 0⟩] }
     c.pick 0 111 0 = some ⟨21, 7, 4, 0⟩) := by decide +kernel

theorem test_wit_CellBuffers_frames :
    (let d := (tOn.putFrm 4 { tFrm with here := 1 }).updAcct 0 0 8 fun a => { a with order := [4] }
     (d.acct 0 0 8).order = [4] ∧ (d.frm 4).map (fun f => decide (f.prom < f.here)) = some true ∧
     (d.acct 0 0 8).shared < d.limit 0 4 ∧ d.sharedUsed 0 < d.sharedSize 0) ∧
    (let d := (tOn.putFrm 4 { tFrm with die := 16, here := 1 }).updAcct 16 64 2 fun a => { a with order := [4] }
     (d.acct 16 64 2).order = [4] ∧ d.bufFull 16 = false ∧ (d.acct 16 64 2).shared < d.limit 16 2 ∧
     d.sharedUsed 16 < d.sharedSize 16) ∧
    (∀ f ∈ [{ tFrm with outq := 63, sent := 1 }, { tFrm with outq := 64, sent := 1 }, { tFrm with outq := 64 }],
      let d := (tOn.putFrm 4 f).raise (meshUnit f.die) (if f.die < 16 then 1 else 12) (instDie f.die)
      (tOn.putFrm 4 f).frm 4 = some f ∧ f.sent ≤ 1 ∧ f.lost = false ∧ d.begun f 4 = decide (f.sent = 1)) ∧
    (∀ st ∈ [0, 4],
      let f := { tFrm with released := 1 }
      let d := ((tLp st).putFrm 4 f).updQueue 0 0 3 fun q => { q with spill := [4] }
      (d.lpQueue 0 3).spill = [4] ∧ d.frm 4 = some f ∧ d.earlierComing 4 f = false ∧ d.lpUp 0 = decide (st = 4) ∧
      (d.lpQueue 0 3).depth = 0) := by decide +kernel

theorem test_wit_TrafficManagement : tOn.Reaches tA .TM_POL 16383 0 ∧ tOn.tm.polPend.at [] (key2 0 0) = [] ∧
    (keysOf tOn.tm.polPend 0 = [] ∧ keysOf tOn.tm.polCfg 0 = [] ∧ keysOf tOn.tm.shpPend 0 = [] ∧ keysOf tOn.tm.shpCfg 0 = [] ∧
      keysOf tOn.core.queues 0 = []) := by decide +kernel

/-- The device after it has looked for the frame of a contribution. -/
def tRecv (d : Dev) (c : Contrib) : Dev := (d.takeInbox 16 1 fun f => contribOf f == c).2

theorem test_wit_Contributions :
    (let d := tRecv tDrw { tCon with fcsOk := false }
     d.cabUp 0 = true ∧ d.namesOpen 0 { tCon with fcsOk := false } = false) ∧
    (let d := tRecv (tDrw.updTime fun t => { t with baseT := 800000 * 2 ^ 48 }) tCon
     d.cabUp 0 = true ∧ d.namesOpen 0 tCon = false ∧ tCon.fcsOk = true ∧ d.tooOld 0 = true) ∧
    (let d := tRecv tDrw tCon
     d.cabUp 0 = true ∧ d.tooOld 0 = false ∧ tCon.poisoned = false ∧ d.ctx 0 0 = none ∧ d.get F.DRW_CFG.STATE 0 ≠ 5) ∧
    (∀ x ∈ [{ tCtx with state := 4 }, { tCtx with epoch := 1 }],
     let d := tRecv (tHeld 3 x) tCon
     d.cabUp 0 = true ∧ d.tooOld 0 = false ∧ d.ctx 0 0 = some x ∧ x.shadow = false ∧ (x.state = 4 ∨ x.epoch ≠ tCon.epoch.toNat)) :=
  by decide +kernel

theorem test_wit_Contributions_data :
    (let d := tRecv (tHeld 3 tCtx) tCon
     d.cabUp 0 = true ∧ d.tooOld 0 = false ∧ d.ctx 0 0 = some tCtx ∧ tCtx.shadow = false ∧ tCtx.state = 3 ∧
     tCtx.epoch = tCon.epoch.toNat ∧ d.get F.DRW_CFG.JOB 0 = tCon.job ∧ tCtx.members.contains tCon.contrib.val = true ∧
     tCon.count = false ∧ d.formatOk 0 tCtx tCon = true ∧ tCtx.tag = tCon.tag.toNat ∧
     tCtx.actMin.at 0 tCon.contrib.val ≤ tCon.attempt.val ∧ tCtx.phase = 0 ∧ tCtx.start ≤ 0 ∧ 0 < tCtx.limit ∧
     0 < d.opChunks 0 tCtx ∧ tCtx.chunks.find 0 = some {} ∧ ({} : Chunk).retry = false ∧ (d.desc 0).op ≠ 10 ∧
     0 + tCon.payload.length ≤ (d.partOf 0 tCtx 0 0).2 - (d.partOf 0 tCtx 0 0).1 ∧
     d.bur.nextShelf.contains 0 = false ∧ d.bur.nextUe.contains 0 = false) ∧
    (let c := { tCtx with actMin := [(0, 1)] }
     tCon.attempt.val < c.actMin.at 0 tCon.contrib.val) := by decide +kernel

/-- An IDLE context of handle 0. -/
def tIdle : DrwCtx := { state := 2, members := [0] }

theorem test_wit_Contributions_claims :
    (∀ l ∈ [none, some 0],
      let x := { tIdle with lastTag := l }
      let d := tRecv ((tHeld 2 x).set F.CAB_RANK_QUOTA.DRW_MAX 0 0) tCon
      d.cabUp 0 = true ∧ d.tooOld 0 = false ∧ d.ctx 0 0 = some x ∧ x.epoch = tCon.epoch.toNat ∧ d.get F.DRW_CFG.JOB 0 = tCon.job ∧
      x.members.contains tCon.contrib.val = true ∧ d.formatOk 0 x tCon = true ∧ (x.lastTag = some tCon.tag.toNat ∨
        (l = none ∧ (d.claim 0 tCon).grantedTag 0 tCon = false))) ∧
    (let d := tRecv (tHeld 3 tCtx) { tCon with tag := 9 }
     d.ctx 0 0 = some tCtx ∧ d.formatOk 0 tCtx { tCon with tag := 9 } = true ∧ tCtx.tag ≠ (9 : Nat)) ∧
    (tHeld 2 tIdle).waitingClaims 0 = [] ∧
    (let d := tHeld 2 tIdle
     d.ctx 0 0 = some tIdle ∧ d.claimFits 0 0 0 tIdle = true ∧
     (d.set F.CAB_RANK_QUOTA.DRW_MAX 0 0).claimFits 0 0 0 tIdle = false) ∧
    (let x := { tIdle with pendTag := some 0, pendMin := [(0, 0)] }
     (tHeld 2 x).ctx 0 0 = some x ∧ x.pendTag = some tCon.tag.toNat ∧ x.pendMin.at 0 0 ≤ tCon.attempt.val) := by decide +kernel

theorem test_wit_DrawerCommands : tDrw.Reaches tA .DRW_CMD 0 0 ∧
    (tDrw.drwState 0 = 0 ∧ tDrw.deskChecks 0 = none ∧ tDrw.dieChecks (tDrw.drwDie 0) 0 = none ∧
      tDrw.freeSlot (tDrw.drwDie 0) = some 0) ∧
    ((tHeld 2 tIdle).drwState 0 = 2 ∧ (tHeld 3 tCtx).drwState 0 ≠ 2 ∧ (tHeld 3 tCtx).drwState 0 ≠ 6) ∧
    (∀ st ∈ [2, 3],
      let c := { tCtx with state := st }
      let d := (tHeld st c).set F.DRW_CFG.SHADOW_DIE 0 1
      d.drwState 0 = st ∧ d.bit F.DRW_CFG.SHADOWED 0 = false ∧ d.get F.DRW_CFG.SHADOW_DIE 0 = 1 ∧ 1 ≠ d.drwDie 0 ∧
      d.cabReach 1 = true ∧ d.tooLarge 1 0 = false ∧ d.window 0 * d.chunkShelves 0 ≤ d.shelfFree 1 (d.desc 0).exact ∧
      d.freeSlot 1 = some 0 ∧ d.ctx (d.drwDie 0) 0 = some c) ∧
    (let d := tHeld 3 tCtx
     d.drwState 0 = 3 ∧ d.ctx (d.drwDie 0) 0 = some tCtx ∧ d.epochFree tCtx = true) ∧
    (decodeAddr 0 (regAddr .DRW_CFG 4095 15) = some (.DRW_CFG, 4095, 15) ∧ tOn.Reaches tA .DRW_CFG 4095 15 ∧
      tOn.drwState 4095 ≠ 6) ∧
    tOn.Reaches tA .CAB_WEIGHT 65535 0 := by decide +kernel

theorem test_wit_DrawerRecovery :
    ((tHeld 3 tCtx).ctx 0 0 = some tCtx ∧ tCtx.shadow = false ∧
      ((tHeld 3 tCtx).outChunks 0 0).find? (fun o => o.chunk == 0) = none ∧ tCtx.chunks.find 0 = some {} ∧
      ({} : Chunk).failed = false ∧ tCtx.begun ≠ 1 ∧ tCtx.state = 3) ∧
    (let c := { tCtx with chunks := [(0, { failed := true })] }
     (tHeld 3 c).ctx 0 0 = some c ∧ c.chunks.find 0 = some { failed := true } ∧
       ((tHeld 3 c).outChunks 0 0).find? (fun o => o.chunk == 0) = none) ∧
    (let c := { tCtx with replayWait := true }
     (tHeld 3 c).ctx 0 0 = some c ∧ (tHeld 3 c).epochFree c = true ∧ c.state = 3 ∧ c.phase = 0) ∧
    (let m : MirRec := ⟨0, 0, 0, 0, 1, 2, false, true⟩
     (tDrw.updCab fun k => { k with mir := k.mir.put [] 0 [m] }).cab.mir.at [] 0 = [m] ∧
     (tHeld 3 tCtx).get F.DRW_CFG.STATE m.handle = 3 ∧ (tHeld 3 tCtx).drwDie m.handle = 0) ∧
    (tDrw.updCab fun k => { k with stream := k.stream.put [] 0 [⟨0, 0, .close⟩] }).cab.stream.at [] 0 = [⟨0, 0, .close⟩] := by
  decide +kernel

theorem test_wit_CabinetEngine_arbiter :
    (let d := (tHeld 3 { tCtx with limit := 0, chunks := [] }).updCab fun k => { k with allocQ := k.allocQ.put [] 0 [0] }
     (d.allocOrder 0).find? (fun h => d.allocFits 0 h) = some 0 ∧
     d.ctx 0 0 = some { tCtx with limit := 0, chunks := [] }) ∧
    (let d := (tHeld 3 tCtx).updCab fun k => { k with outQ := k.outQ.put [] 0 [tOut] }
     d.cab.outQ.at [] 0 = [tOut] ∧ d.ctx 0 tOut.handle = some tCtx ∧ tCtx.shadow = false ∧ tOut.status = 0) ∧
    (let c := { tCtx with chunks := [(0, { spilled := true })] }
     (tHeld 3 c).spillBack 0 = some (0, 0)) ∧
    tOn.Reaches tA .DRW_RELEASE 0 0 := by decide +kernel

theorem test_wit_CabinetEngine_spill :
    let d := (((((tHeld 3 tCtx).setB F.CAB_SPILL_CFG.SPILL_EN 0 true).set F.CAB_SHELF_PART.FAST_PART 0 1).updTime fun t =>
      { t with raw := 2 ^ 40 }).updCab fun k => { k with allocQ := k.allocQ.put [] 0 [0] })
    let e : Dev := { d with boot := { d.boot with spillGib := 1 } }
    e.bit F.CAB_SPILL_CFG.SPILL_EN 0 = true ∧ e.spillFor 0 = some 0 ∧
      longestIdle (e.spillCands 0 (e.ctxRank 0 0) (e.desc 0).exact) = some (2 ^ 40, 0, 0, 0) ∧
      e.spillUsed 0 + e.chunkShelves 0 ≤ e.spillRegion := by decide +kernel

theorem test_wit_CabinetEngine_notices :
    (let c := { tCtx with strag := some 0 }
     let d := ((tHeld 3 c).set F.DRW_COLL.STRAG_TO 0 50).updFwd fun x => { x with job := x.job.put 0 (key2 1 1) 0x80000000 }
     d.ctx 0 0 = some c ∧ c.state = 3 ∧ c.shadow = false ∧ c.strag ≠ none ∧ d.get F.DRW_COLL.STRAG_TO 0 ≠ 0 ∧ c.phase = 0) ∧
    ((tHeld 3 tCtx).ctx 0 (⟨0, 1, 1, 0, 0, List.replicate 20 0, 1⟩ : Notice).drawer = some tCtx ∧
      20 ≤ (List.replicate 20 (0 : Byte)).length ∧ tCtx.shadow = false) ∧
    (let n : Notice := ⟨0, 1, 1, 0, 0, List.replicate 20 0, 1⟩
     let d := tHeld 3 tCtx
     (d.originateFenced 0 3 (d.noticeFrame 0 9 opFWrite n)).1 = false) ∧
    (∀ n ∈ [99, 100],
      let s : NStream := { held := [⟨0, 1, 1, 0, 0, [], n⟩] }
      let d := tOn.updNotes 0 9 fun _ => s
      d.nstream 0 9 = s ∧ s.sync = false ∧ s.held.find? (fun n => n.seq == 1) = some ⟨0, 1, 1, 0, 0, [], n⟩) := by
  decide +kernel

theorem test_wit_DrawerJobControl :
    (tInfra.JobReaches (tReq 1) ∧ (tInfra.jobTaken (tReq 1)).jobHandle (tReq 1) = none) ∧
    (let d := (tHeld 3 { tCtx with members := [0] }).setB F.FWD_INFRA_SRC.VALID 0 true
     d.JobReaches (tReq 1) ∧ (d.jobTaken (tReq 1)).jobHandle (tReq 1) = some 0 ∧
     ((d.jobTaken (tReq 1)).abortDrawer 0).1 = (0, 1)) ∧
    (∀ st ∈ [2, 3],
      let c := { tCtx with state := st }
      let r := { tReq 1 with payload := beBytes 2 0 }
      let s := ((tHeld st c).setB F.FWD_INFRA_SRC.VALID 0 true).setB F.DRW_MEMBER.VALID (memberIx 0 1023) true
      let d := s.jobTaken r
      s.JobReaches r ∧ d.jobHandle r = some 0 ∧ d.drwState 0 = st ∧ d.ctx (d.drwDie 0) 0 = some c ∧ d.epochFree c = true ∧
      d.cab.reforms.find 0 = none ∧ reformList r.payload = some [0] ∧
      [0].all (d.deskMembers 0).contains = true ∧ (d.deskMembers 0).all [0].contains = false) ∧
    (∀ b ∈ [false, true],
      let q : ReformReq := ⟨tReq 1, [0], b, 3⟩
      let c := { tCtx with state := if b then 4 else 3 }
      let d := (tHeld 4 c).updCab fun k => { k with reforms := k.reforms.insert 0 q }
      d.cab.reforms.find 0 = some q ∧ d.ctx (d.drwDie 0) 0 = some c ∧ d.epochFree c = true) ∧
    (∀ p ∈ [1, 2], ({ tCtx with phase := p } : DrwCtx).phase = p) := by decide +kernel

theorem test_wit_PoolArrivals_reads : tOn.GnReaches (tGn 1 0 []) ∧ tOn.GnReaches (tGn 7 0 []) ∧ tOn.GnReaches (tGn 6 0 []) ∧
    GnOp.sync.formOk (tGn 5 9 []) = true ∧ (tOn.gnTaken (tGn 5 9 [])).needTrk (tGn 5 9 []) = some { created := tOn.raw } ∧
    (tOn.gnTaken (tGn 2 9 [])).trk (tGn 2 9 []).key = none ∧
    (let q : HomeReq := { r := tGn 1 0 [] }
     tOn.unreachable q.r.tile (tOn.homeTile q.r) = false ∧ (tTrk tSync).trk q.r.key = some tSync) := by decide +kernel

theorem test_wit_PoolArrivals_writes :
    (∀ q ∈ [5, 6, 7, 1029, 1030], let r := tGn 2 q []
      (tTrk tSync).GnReaches r ∧ ((tTrk tSync).gnTaken r).trk r.key = some tSync ∧ tSync.synced = true ∧
      tSync.covers r.seq.toNat = decide (q = 5) ∧ tSync.marks.contains r.seq.toNat = false ∧
      (∀ h ∈ tSync.held, h.r.seq ≠ r.seq) ∧ (decide ((r.seq.toNat + 2 ^ 32 - tSync.w) % 2 ^ 32 ≤ 1024) = decide (q ≠ 1030)) ∧
      (decide (r.seq.toNat ≠ (tSync.w + 1) % 2 ^ 32) = decide (q ≠ 6))) ∧
    (let d := (tTrk tSync).set F.POOL_CFG2.MIRROR_RSV 0 1
     ((d.trkHolders 0).filter (·.isMirror)).length < d.mirrorRsv) := by decide +kernel

theorem test_wit_PoolArrivals_atomics : let r := tGn 0x10 0 (List.replicate 8 0)
    (tTrk tSync).GnReaches r ∧ ((tTrk tSync).gnTaken r).needTrk r = some tSync ∧
    (let d := ((tTrk tSync).gnTaken r).putTrk r.key { tSync with job := r.job.val, last := ((tTrk tSync).gnTaken r).raw }
     d.pool.rc.find (rcKey 0 0 1) = none ∧ tSync.evictHi = none ∧ r.retry = false ∧ d.rcOfSrc 0 0 < d.rcPerSrc ∧
     d.rcUsed r.tile < 8192 ∧ d.atomicInFlight r = false ∧
     (d.updPool fun p => { p with rc := p.rc.insert (rcKey 0 0 1) ⟨some (0, [1]), 0, 0⟩ }).pool.rc.find (rcKey 0 0 1) =
       some ⟨some (0, [1]), 0, 0⟩) := by decide +kernel

/-- With every mesh link of tile 0 failed, a read of source 0 does not reach a home on another tile. -/
theorem test_wit_PoolArrivals_cut :
    let d := tOn.each (List.range 4) fun d k => d.set F.XBAR_MESH_STAT.STATE (meshReg 0 k) 4
    ((List.range 64).map fun n => { tGn 1 0 [] with addr := BitVec.ofNat 64 (n * 2 ^ 30) }).any
      (fun r => d.unreachable r.tile (d.homeTile r)) = true := by decide +kernel

theorem test_wit_PoolCompletion :
    (let c : GnDone := ⟨tGn 2 6 [], 0, []⟩
     (tOn.updPool fun p => { p with comp := p.comp.put [] 15 [c] }).pool.comp.at [] 15 = [c] ∧
     gnOp c.r.opcode.toNat = some .write ∧ GnOp.write.sequenced = true ∧ retires c.status = true ∧
     (tTrk tSync).trk c.r.key = some tSync ∧ tSync.covers c.r.seq.toNat = false ∧ tSync.marks.contains c.r.seq.toNat = false) ∧
    (gnOp 0x11 = some (.atomic 0 true) ∧ gnOp 0x22 = some (.atomic 9 false)) ∧
    ((tTrk { tSync with gap := some 0 }).trk (srcKey 0 0) = some { tSync with gap := some 0 }) ∧
    (∀ x ∈ [none, some (0, [1])], (tOn.updPool fun p => { p with rc := p.rc.insert (rcKey 0 0 1) ⟨x, 0, 0⟩ }).pool.rc.find
      (rcKey 0 0 1) = some ⟨x, 0, 0⟩) ∧
    (tSync.held = [] ∧ tSync.flight = [] ∧ (tTrk tSync).rcOfSrc 0 0 = 0) := by decide +kernel

theorem test_wit_PoolCompletion_free :
    tSync.held = [] ∧ tSync.flight = [] ∧ (tTrk tSync).rcOfSrc 0 0 = 0 ∧ (tTrk tSync).since tSync.last < (tTrk tSync).srcIdle ∧
    (let d := (tTrk tSync).updTime fun t => { t with raw := 2 ^ 40 }
     d.srcIdle ≤ d.since tSync.last) := by decide +kernel

theorem test_wit_LineHome :
    (let q : HomeReq := { r := tGn 1 0 [] }
     let d := (tWin 2).updPool fun p => { p with home := p.home.put [] 15 [q] }
     (d.pool.home.at [] 15)[0]? = some q ∧ atomicWaits (d.pool.home.at [] 15) 0 = false ∧ (d.homeRun 15 q false).1 = true) ∧
    (tOn.gnCheck (tGn 1 0 []) = some 3 ∧ (tWin 2).gnCheck (tGn 1 0 []) = none ∧ gnOp 1 = some .read ∧
      (tWin 2).heldByCopy (tGn 1 0 []) = false) ∧
    ((tWin 2).bur.nextRead.contains (stackOf ((tWin 2).winPos 0 0)) = false ∧ (tGn 1 0 []).poisoned = false ∧
      (tWin 2).pool.bad.at false 0 = false) := by decide +kernel

theorem test_wit_PoolBytesKept : let q : HomeReq := { r := tGn 2 0 (List.replicate 128 1) }
    let d := (tWin 2).updPool fun p => { p with home := p.home.put [] 15 [q] }
    (d.pool.home.at [] 15)[0]? = some q ∧ d.gnCheck q.r = none ∧ gnOp q.r.opcode.toNat = some .write ∧
      GnOp.write.writes = true ∧ d.winPos q.r.win q.r.off + q.r.payload.length ≤ 128 := by decide +kernel

theorem test_wit_MirrorStreams :
    (∀ n ∈ [1, 15], n ≠ 0 ∧ n < 16) ∧ ((0x5#8 = 5#8) ∧ tResp.opcode = 6#8) ∧
    (∀ n ∈ [4096, 4103], (tOn.noticeResp (n % 4096) { tResp with dst := BitVec.ofNat 16 n }).1 = false) ∧
    (16 / 4096 ≠ 1 ∧ 8192 / 4096 ≠ 1) ∧
    (∀ l ∈ [[tItem false], []],
     let d := tOn.updMst 1 2 fun x => { x with next := 3, out := l }
     tResp.src.toNat / 2 ^ 16 = 2 ∧ tResp.srcType = 1 ∧ tResp.opcode = 6#8 ∧ tResp.status = 0#8 ∧
     (d.pool.mst.find (key2 1 2)).isSome = true ∧ (d.mstream 1 2).sync = false ∧
     (d.mstream 1 2).out.find? (fun m => !m.read && m.seq == tResp.seq.toNat && m.addr == tResp.addr.toNat) = l.head? ∧
     (d.mstream 1 2).out.find? (fun m => m.seq == 1 && !m.busy) = l.head?) ∧
    ((tOn.updMst 1 2 fun x => { x with sync := true }).mstream 1 2).sync = true ∧
    (∀ b ∈ [false, true], let d := tOn.updMst 1 2 fun x => { x with out := [tItem true], sync := b }
      (d.mstream 1 2).out.find? (fun m => m.seq == 1 && m.busy) = some (tItem true) ∧ (tItem true).read = false ∧
      (d.mstream 1 2).sync = b) := by decide +kernel

theorem test_wit_MirrorStreams_lost :
    (∀ st ∈ [3, 6], ((tWin st).updMst 1 2 fun x => { x with out := [tItem false] }).winState 0 = st) ∧
    ((((tWin 7).count .POOL_SRC_GIVEUP 1).orphanItems 0 fun _ => true).updPool fun p => { p with resil := p.resil.erase 0 }).winState 0
      = 7 ∧
    ((tWin 3).updMst 1 2 fun x => { x with out := [tItem false] }).unanswered 0 = [1] := by
  refine ⟨by decide, by decide, ?_⟩
  have h : (tWin 3).pool.mst = [] := by decide
  simp [Dev.unanswered, Dev.updMst, Dev.updPool, h, Tbl.upd, Tbl.put, Tbl.insert, Tbl.at, Tbl.find, key2, tItem, Nat.unpair_pair]

set_option maxRecDepth 100000 in
theorem test_wit_WindowCommands :
    (tOn.Reaches tA .POOL_WIN_CMD 0 0 ∧ tOn.bit F.POOL_WIN_CMD.GO 0 = false ∧
      (tOn.setB F.POOL_WIN_CMD.GO 0 true).bit F.POOL_WIN_CMD.GO 0 = true) ∧
    ((tWin 0).winState 0 = 0 ∧ (tWin 0).bit F.POOL_WIN.MIRROR_V 0 = false ∧ (tWin 0).rangeOk 0 = true) ∧
    (let d := ((tWin 0).setB F.POOL_WIN.MIRROR_V 0 true).set F.POOL_WIN.PARTNER_PLACE 0 9
     d.mirrorOk 0 = true) ∧
    ((tWin 2).winState 0 ≠ 0 ∧ (tWin 2).winState 0 ≠ 1 ∧ (tWin 2).pool.closing.find 0 = none ∧ (tWin 5).winState 0 = 5) ∧
    ((tWin 1).winState 0 = 1 ∧ tOn.Reaches tA .POOL_WIN 4095 7) ∧
    (let d := ((tWin 6).set F.POOL_WIN.COPY_PTR 0 (2 ^ 18 - 1)).updResil 0 fun _ => { cur := some 0, lines := List.range 32 }
     (d.resilOf 0).cur = some 0 ∧ 32 ≤ (d.resilOf 0).lines.length ∧
     d.get F.POOL_WIN.SIZE_GIB 0 * 2 ^ 18 ≤ d.get F.POOL_WIN.COPY_PTR 0 + 1 ∧
     (d.set F.POOL_WIN.COPY_PTR 0 (d.get F.POOL_WIN.COPY_PTR 0 + 1)).get F.POOL_WIN.SIZE_GIB 0 = 1) := by decide +kernel

/-- CLOSE of a window of a mirrored write that its partner has not answered, and of one without. -/
theorem test_wit_WindowCommands_close :
    ((tWin 4).winRun 0 2 0).1 = 0 ∧ ((tWin 4).winRun 0 2 0).2.pool.closing.find 0 = none ∧
    (let d := (tWin 4).updMst 1 2 fun x => { x with out := [{ tItem false with waiter := some ⟨tGn 2 1 [], 0, []⟩ }] }
     (d.winRun 0 2 0).1 = 0 ∧ ((d.winRun 0 2 0).2.pool.closing.find 0).isSome = true ∧
     ((d.forceHeld 0 3).orphanItems 0 fun m => m.copy.isSome).mirrorOpen 0 = true) ∧
    (((tWin 4).forceHeld 0 3).orphanItems 0 fun m => m.copy.isSome).mirrorOpen 0 = false := by decide +kernel

theorem test_wit_MantelTime :
    (let u : TimeUpd := { at' := 1600, rate := some 5, step := 0 }
     tOn.Reaches tA .MNT_RATE 0 0 ∧ tOn.time.upd = none ∧ (tOn.updTime fun t => { t with upd := some u }).time.upd = some u) ∧
    (∀ u ∈ [none, some ⟨1600, none, 0⟩], let s := tOn.updTime fun t => { t with upd := u }
      let d := ((s.takeStaged .MNT_STEP 0 0).2.wr .MNT_STEP 0 0 7).wr .MNT_STEP 0 1 8
      s.Reaches tA .MNT_STEP 0 1 ∧ d.time.upd = u) ∧
    tOn.Reaches tA .MNT_CTL 0 0 ∧
    (let d := (tOn.updTime fun t => { t with watch := some 0 }).set F.MNT_CTL.SERVO_TO 0 1
     d.time.watch ≠ none ∧ d.get F.MNT_CTL.SERVO_TO 0 ≠ 0 ∧ d.bit F.MNT_CTL.HOLDOVER 0 = false) := by decide +kernel

/-- Edges 799,999 and 800,000 ticks (1 ms) after the accepted one. -/
theorem test_wit_PulseInput : ∀ n ∈ [799999, 800000], let d := tOn.updTime fun t => { t with raw := n, ppsIn := some 0 }
    d.time.ppsIn = some 0 ∧ d.since 0 = n := by decide +kernel

theorem test_pps_in_edge : ∀ n ∈ [799999, 800000],
    (match Machine.execPpsInEdge { pending := [], dev := tOn.updTime fun t => { t with raw := n, ppsIn := some 0 } } with
     | .next t => t.dev.rd .MNT_PPS_IN_CNT 0 | _ => 9) = if n = 800000 then 1 else 0 := by decide +kernel

theorem test_wit_StampsAndPulses :
    (let e : CoatEnt := { port := 3, tsId := 1, time := 7 }
     let d := tOn.updTime fun x => { x with coat := x.coat.put [] 15 (List.replicate 64 e) }
     64 ≤ (d.time.coat.at [] 15).length ∧ d.time.coat.at [] 15 = e :: List.replicate 63 e ∧ d.Reaches tA .MNT_CR_POP 15 0) ∧
    (tOn.Reaches tA .MNT_CR_POP 0 0 ∧ tOn.time.coat.at [] 0 = [] ∧ tOn.deskUp 1 = true) ∧
    beAt (List.replicate 12 0 ++ [0x88, 0xF7]) 12 2 = 0x88F7 ∧
    (∀ n ∈ [64, 1522], let d := tOn.set F.MNT_PTP_TX_LEN.LEN 0 n
      let v : Word := 0x84000007#32
      d.Reaches tA .MNT_PTP_TX 0 0 ∧ (d.writeRw .MNT_PTP_TX 0 0 v).get F.MNT_PTP_TX_LEN.LEN 0 = n ∧ bitAt v.toNat 31 = true ∧
        bitsOf v.toNat 26 16 = 0x400) := by decide +kernel

/-- An armed or cancelled launch entry 255 on its way, and one armed for time 10. -/
theorem test_wit_LaunchTable :
    (tOn.Reaches tA .MNT_LAUNCH 255 1 ∧ bitAt (0 : Word).toNat 31 = false ∧ tOn.launchValid 255 = false ∧
      bitsOf (0x85000000#32).toNat 27 24 = 5 ∧ bitAt (0x86000000#32).toNat 31 = true ∧ 5 < bitsOf (0x86000000#32).toNat 27 24) ∧
    (∀ b ∈ [false, true],
      let u : LaunchUpd := { at' := 0, entry := 255, arm := b, time := 0, irq := false, action := 0, arg := 0 }
      (tOn.updTime fun t => { t with launchUpd := [u] }).time.launchUpd.find? (fun u => u.entry == 255) = some u ∧ u.arm = b) ∧
    (∀ p : Nat × Nat × Bool, p ∈ [(0, 0, true), (1, 0, false), (2 ^ 31, 0, false), (2 ^ 31 + 1, 0, true), (0, 2, true)] →
      let l : Launch := { time := p.1, irq := true, action := 0, arg := 0, past := false }
      let d := (tOn.updTime fun t => { t with launch := t.launch.insert 255 l }).set F.PWR_STAT.STATE 0 p.2.1
      d.time.launch.find 255 = some l ∧ d.launchDue l.time = p.2.2 ∧ d.get F.PWR_STAT.STATE 0 = p.2.1) := by
  decide +kernel

/-- Counter window 255 on tile 0 in a state. -/
def tCw (st : Nat) : Dev := (((tOn.setB F.DESK_CWIN.VALID 255 true).set F.DESK_CWIN_STAT.STATE 255 st).set F.DESK_CWIN.DIE_MASK 255 1)

theorem test_wit_CounterWindows :
    (tOn.Reaches tA .DESK_PMC_CMD 0 0 ∧ tOn.pmc.snap = none ∧ tOn.cwinRefused 255 = some 3 ∧ (tCw 0).cwinRefused 255 = none ∧
      (tCw 2).cwinRefused 255 = some 2 ∧ (((tCw 0).set F.DESK_CWIN_STAT.STATE 254 2).set F.DESK_CWIN.DIE_MASK 254 1).cwinRefused 255 =
        some 1) ∧
    ((tCw 2).bit F.DESK_CWIN.VALID 255 = true ∧ (tCw 2).cwin 255 = 2 ∧ (tCw 1).cwin 255 = 1) ∧
    (∀ k ∈ [0, 1], (tOn.updPmc fun p => { p with snap := some k }).pmc.snap = some k) := by decide +kernel

/-- A JOB_CTL request of source 0 for job 1 with an argument. -/
def tArg (n : Nat) : JobCtl := { tReq 1 with arg := BitVec.ofNat 64 n }

/-- The device once it has taken that request: source 0 is infrastructure, counter window 255 in a state. -/
def tCwTaken (st n : Nat) : Dev := ((tCw st).setB F.FWD_INFRA_SRC.VALID 0 true).jobTaken (tArg n)

theorem test_wit_ReadsAndAlignment :
    (∀ st ∈ [0, 2, 3], ((tCw st).setB F.FWD_INFRA_SRC.VALID 0 true).JobReaches (tArg 255) ∧
      (tCwTaken st 255).infra (tArg 255) = true ∧ (tCwTaken st 255).bit F.DESK_CWIN.VALID 255 = true ∧
      (tCwTaken st 255).get F.DESK_CWIN.FIRST 255 < (tCwTaken st 255).cwinLen 255 ∧ (tCwTaken st 255).cwin 255 = st) ∧
    (((tCw 0).setB F.FWD_INFRA_SRC.VALID 0 true).JobReaches (tArg 256) ∧ (tArg 256).arg.toNat = 256) := by decide +kernel

theorem test_wit_ReadsAndAlignment_check :
    tOn.Reaches tA .CLK_ALIGN_CTL 0 0 ∧ (tOn.setB F.CLK_ALIGN_CTL.CHECK 0 true).bit F.CLK_ALIGN_CTL.CHECK 0 = true := by
  decide +kernel

/-- Source 0 counts to N = 2 and has counted one; another of its unit and class is pending at a level. -/
def tSrc (l : Nat) : Dev :=
  ((((tOn.setB F.BUR_SRC.EN 0 true).set F.BUR_SRC.N 0 2).set F.BUR_SRC.CEIL 0 4).setB F.BUR_SRC.PENDING 12 true).set
    F.BUR_SRC.LEVEL_NOW 12 l

theorem test_wit_BureauSources :
    (srcValid 0 = true ∧ (tSrc 1).bit F.BUR_SRC.EN 0 = true ∧ (tSrc 1).get F.BUR_SRC.COUNT 0 + 1 < max 1 ((tSrc 1).get F.BUR_SRC.N 0)) ∧
    ((((tSrc 1).set F.BUR_SRC.LAST 0 0).set F.BUR_SRC.CLASS 0 ((tSrc 1).srcClass 12)).pendingOf 0 ((tSrc 1).srcClass 12) = [12]) ∧
    ((tSrc 1).someDesk = true ∧ (((tSrc 1).set F.BUR_UNIT.STATE 26 5).set F.BUR_UNIT.STATE 27 5).someDesk = false) ∧
    (unitDie 0 = some 0 ∧ unitDie 42 = some 27) ∧
    (tOn.bur.grace.at 0 (graceKey 43 15) = 0) ∧
    (∀ l ∈ [1, 3],
      let d := (tSrc l).updBur fun b => { b with grace := b.grace.put 0 (graceKey 0 3) 13 }
      let e := d.updBur fun b => { b with grace := b.grace.erase (graceKey 0 3) }
      d.bur.grace.at 0 (graceKey 0 3) = 12 + 1 ∧ e.pending 12 = true ∧ e.someDesk = true ∧ e.get F.BUR_SRC.LEVEL_NOW 12 = l ∧
      e.get F.BUR_SRC.LEVEL_NOW 12 + 1 ≤ (e.set F.BUR_SRC.CEIL 12 4).srcCeil 12) ∧
    tOn.Reaches tA .BUR_SRC 1023 1 := by decide +kernel

theorem test_wit_BureauActions :
    (let d := tOn.set F.BUR_ACT_INST.INST 0 45
     d.Reaches tA .BUR_ACT 0 0 ∧ instOf ((d.writeRw .BUR_ACT 0 0 0x80000000).get F.BUR_ACT_INST.INST 0) = none) ∧
    (∀ l ∈ [0, 4, 5], let d := tOn.set F.BUR_ACT_INST.INST 0 44
      let e := d.writeRw .BUR_ACT 0 0 (BitVec.ofNat 32 (2 ^ 31 + l * 2 ^ 28))
      d.Reaches tA .BUR_ACT 0 0 ∧ instOf (e.get F.BUR_ACT_INST.INST 0) = some (.die 44) ∧ e.get F.BUR_ACT.LEVEL 0 = l) ∧
    (tOn.bur.outs.find 3 = none ∧ instOf 3 = some (.die 3) ∧ tOn.someDesk = true) ∧
    (let o : OutInst := { state := 3, src := 0, auto := true }
     (tOn.updBur fun b => { b with outs := b.outs.insert 3 o }).bur.outs.find 3 = some o) ∧
    (tOn.Reaches tA .BUR_UNIT 44 0 ∧ (tOn.set F.BUR_UNIT.STATE 44 5).unitState 44 = 5 ∧ (0x1FFFFFFF#32).toNat / 2 ^ 29 = 0) := by
  decide +kernel

/-- Injection entry 0 valid for a die, with three applications. -/
def tInj : Dev := ((tOn.setB F.BUR_CTL.INJ_EN 0 true).setB F.BUR_INJ.VALID 0 true).set F.BUR_INJ.REPEAT 0 3

theorem test_wit_BureauShadowing :
    tOn.cab.shadowD.at [] 7 = [] ∧
    (let x : ChunkD := ⟨1, 0, 0, 0, 5⟩
     let y : ChunkD := ⟨0, 0, 0, 0, 5⟩
     let s := tOn.updCab fun k => { k with shadowD := k.shadowD.put [] 7 [x], primD := k.primD.put [] 7 [y] }
     let d := s.updCab (fun k => { k with shadowD := k.shadowD.upd [] 7 (·.drop 1) })
     s.cab.shadowD.at [] 7 = [x] ∧
     (d.cab.primD.at [] 7).find? (fun z => z.handle == x.handle && z.epoch == x.epoch && z.chunk == x.chunk) = some y ∧
     (let e := (d.setB F.BUR_SHADOW_CFG.FAST_CMP 0 true).updCab (fun k => { k with primD := k.primD.upd [] 7 fun l => l.erase y })
      (summing (e.desc 0).op && !(e.desc 0).exact && !e.bit F.BUR_SHADOW_CFG.FAST_CMP 0) = false)) ∧
    tOn.Reaches tA .BUR_CTL 0 0 ∧
    (∀ b ∈ [false, true],
      let d := ((tOn.setB F.BUR_CTL.SPARE 0 b).setB F.BUR_GROUP.VALID 15 true).set F.BUR_GROUP.PLACE 15 9
      let e := d.writeRw .BUR_STANDIN 0 0 0x80000009
      d.Reaches tA .BUR_STANDIN 0 0 ∧ e.get F.BUR_STANDIN.PLACE 0 = 9 ∧ e.bit F.BUR_CTL.SPARE 0 = b ∧
      (List.range 16).any (fun n => e.bit F.BUR_GROUP.VALID n && e.get F.BUR_GROUP.PLACE n == 9) = true) ∧
    (tInj.Reaches tA .BUR_INJ_CMD 0 0 ∧
      (let e := tInj.writeRw .BUR_INJ_CMD 0 0 0x80000000
       e.bit F.BUR_CTL.INJ_EN 0 && e.bit F.BUR_INJ.VALID 0 && e.injectable (e.get F.BUR_INJ.TYPE 0) (e.get F.BUR_INJ.INST 0)) = true ∧
      tInj.bur.inj.find 1023 = none) ∧
    (let r : InjRun := { type := 0, src := 0, inst := 0, param := 0, dry := false, left := 2 }
     (tOn.updBur fun b => { b with inj := b.inj.insert 1023 r }).bur.inj.find 1023 = some r) := by decide +kernel

theorem test_wit_BureauShadowing_fault :
    (let r : InjRun := { type := 2, src := 0, inst := 16, param := 0, dry := false, left := 0 }
     r.type = 2 ∧ instOf r.inst = some (.die (16 + 0)) ∧ r.dry = false) ∧
    (let d := (((tOn.setB F.CAB_DIGEST.VALID 0 true).set F.CAB_DIGEST.JOB 0 1).set F.CAB_DIGEST.TAG 0 7).updBur fun b =>
       { b with nextUe := [0] }
     d.digestEntry 0 1 7 = some 0 ∧ d.bur.nextUe.contains 0 = true) := by decide +kernel

/-- A register-access request to Desk A's management port for one word. -/
def tEth : EthReq := { mac := 5, dst := 0, version := 1, seq := 9, addr := 0, count := 1, data := [0] }

/-- The management port of Desk A answers. -/
def tMgmt : Dev := tOn.setB F.DESK_PROT_POLICY.ETH_MGMT_EN 0 true

theorem test_wit_DeskRegisters :
    (tOn.Reaches tA .DESK_DOORBELL 0 0 ∧ tOn.Reaches { tA with deskB := true } .DESK_DOORBELL 1 0 ∧
      tOn.Reaches tA .DESK_IRQ_MASK 0 0) ∧
    (tOn.bit F.DESK_PROT_POLICY.ETH_MGMT_EN 0 = false ∧ tEth.dst.toNat ≠ tMgmt.deskMac 1) ∧
    (tMgmt.deskUp 0 = true ∧ tMgmt.bit F.DESK_PROT_LOCK.LOCKED 0 = true ∧ tMgmt.bit F.DESK_PROT_POLICY.ETH_MGMT_EN 0 = true ∧
      tEth.dst.toNat = tMgmt.deskMac 0 ∧ tEth.version = 1 ∧
      (tMgmt.boot.eth.at [] 0).find? (fun e => e.mac == tEth.mac.toNat && e.seq == tEth.seq.toNat) = none ∧
      (let e : EthSeen := ⟨5, 9, [1]⟩
       let d := { tMgmt with boot := { tMgmt.boot with eth := tMgmt.boot.eth.put [] 0 [e] } }
       (d.boot.eth.at [] 0).find? (fun e => e.mac == tEth.mac.toNat && e.seq == tEth.seq.toNat) = some e)) ∧
    (tInfra.JobReaches (tReq 0) ∧ tInfra.JobReaches (tReq 1) ∧ (tReq 1).target.val ≠ 0 ∧
      (tInfra.jobTaken (tReq 1)).jobValid 1 = false) ∧
    ((tJobOn.setB F.FWD_INFRA_SRC.VALID 0 true).JobReaches (tReq 1) ∧
      ((tJobOn.setB F.FWD_INFRA_SRC.VALID 0 true).jobTaken (tReq 1)).jobValid 1 = true) := by decide +kernel

theorem test_wit_FlashAndFirmware :
    (∀ n ∈ [0, 1, 0x3000000], (tOn.set F.DESK_FLASH_ADDR.ADDR 0 n).Reaches tA .DESK_FLASH_CMD 0 0 ∧
      ((tOn.set F.DESK_FLASH_ADDR.ADDR 0 n).set F.DESK_FLASH_CMD.OP 0 2).get F.DESK_FLASH_ADDR.ADDR 0 = n) ∧
    (tOn.Reaches tA .DESK_SVN 0 0 ∧ tOn.Reaches tA .DESK_FW_CMD 0 0 ∧ tOn.Reaches tA .DESK_ATTEST_CMD 0 0) ∧
    (tOn.fused ≤ 64 ∧ (tOn.set F.DESK_SVN.F 0 64).fused = 64) ∧
    ((tOn.stageGo 8).stage = 8 ∧ (tOn.stageGo 8).supply = 0 ∧
      ({ tOn with boot := { tOn.boot with run := [(0, { svn := 65 })] } }.runOf tOn.master).svn = 65) := by decide +kernel

/-- SVN_COMMIT stops at the 64 fuses. -/
theorem test_svn_commit : ({ tOn.stageGo 8 with boot := { tOn.boot with run := [(0, { svn := 65 })] } }.svnCommit).fused = 64 := by
  decide +kernel

/-- Desk A's flash with bytes at addresses. -/
def tFlash (l : List (Nat × Byte)) : Dev :=
  { tOn with boot := { tOn.boot with flash := l.map fun e => (key2 0 e.1, e.2) } }

/-- An image with a section table of two entries: the partition of sizes 71 + p, and the place table, whose entry is zero but for
its first byte. -/
def tImg (p v : Byte) : Dev := tFlash ([(18, 0), (19, 2), (4096, 4), (4100, 0), (4101, 0), (4102, 0x20), (4103, 0),
  (4104, 0), (4105, 0), (4106, 0), (4107, 3), (4144, 5), (4148, 0), (4149, 0), (4150, 0x30), (4151, 0), (4152, 0), (4153, 0),
  (4154, 0), (4155, 16), (8192, 71), (8193, p), (8194, 0), (12288, v)] ++ (List.range 15).map fun i => (12289 + i, 0))

/-- Slot 0 of Desk A. -/
def tSlot : Machine.Place := { desk := 0, slot := 0 }

/-- That flash at STAGE 3. -/
def tStage3 (p v : Byte) : Dev :=
  let d := tImg p v
  (((d.setRun 0 (d.imageOf tSlot)).setRun 1 (d.imageOf tSlot)).setB F.DESK_BOOT_STAT.FLASH_MISMATCH 0 false).stageGo 3

set_option maxRecDepth 100000 in
theorem test_wit_BootOrder : tOn.stage = 0 ∧ (tOn.stageGo 1).stage = 1 ∧ (tStage3 0 0).placeOk tSlot = false ∧
    (tStage3 1 0x80).placeOk tSlot = true ∧ (tStage3 1 0x80).partitionOk tSlot = false ∧
    (tStage3 0 0x80).placeOk tSlot = true ∧ (tStage3 0 0x80).partitionOk tSlot = true := by decide +kernel

/-- A device in a supply state. -/
def tSup (st : Nat) : Dev := tOn.set F.PWR_STAT.STATE 0 st

theorem test_wit_SupplyAndSafeStop :
    ((tOn.vinMain 5300).supply = 0 ∧ ((tSup 1).vinMain 65535).supply = 1 ∧ (tSup 2).supply = 2 ∧ (tSup 3).supply = 3) ∧
    tOn.Reaches tA .PWR_CTL 0 0 ∧
    ((tSup 2).supply = 2 ∧ (tSup 2).pwr.causes = [] ∧ ((tSup 2).updPwr fun p => { p with causes := [1] }).pwr.causes ≠ []) ∧
    (∀ c ∈ [1, 2], let d := ((tSup 2).set F.PWR_STAT.SAFE_CAUSE 0 c).setB F.PWR_CTL.AUTO_RESUME 0 true
      d.supply = 2 ∧ d.get F.PWR_STAT.SAFE_CAUSE 0 = c ∧ d.bit F.PWR_CTL.AUTO_RESUME 0 = true ∧ d.pwr.causes = []) := by
  decide +kernel

theorem test_wit_ResetsAndDomains :
    (∀ st ∈ [0, 1, 2, 3], (tSup st).Reaches tA .PWR_PD_CTL 0 0 ∧ (tSup st).domainRefused = decide (2 ≤ st)) ∧
    tOn.pwr.pdq = [] ∧ (tOn.updPwr fun p => { p with pdq := [29] }).pwr.pdq = [29] ∧
    (Reg.MNT_RATE ≠ .DESK_MSIX ∧ Reg.MNT_RATE ≠ .DESK_MSIX_PBA) := by decide +kernel

/-- Each kind of die at its first and last sensor, and past it. -/
theorem test_wit_LimiterThermalClocks :
    (∀ p ∈ [(0, 10), (15, 10), (16, 4), (23, 4), (24, 2), (27, 2), (28, 20), (43, 20), (44, 4)], sensorsOf p.1 = p.2) ∧
    (((tOn.set F.PWR_LIMIT.SHORT_A 0 100).set F.PWR_LIMIT.LONG_A 0 90).longA = 90) ∧
    (tOn.refOk false = true ∨ (tOn.setRef false true).refOk false = true) ∧ (tOn.setRef false false).refOk false = false ∧
    tOn.Reaches tA .CLK_REF_CTL 0 0 := by decide +kernel

/-- Semaphore 31 held by Desk A with token 0x8001. -/
def tSem : Dev :=
  ((tOn.setB F.DESK_SEM.HELD 31 true).set F.DESK_SEM.OWNER 31 1).set F.DESK_SEM.TOKEN 31 0x8001

theorem test_wit_Semaphores :
    (tOn.Reaches tA .DESK_SEM 31 0 ∧ tOn.bit F.DESK_SEM.HELD 31 = false) ∧
    (tSem.Reaches tA .DESK_SEM 31 0 ∧ tSem.bit F.DESK_SEM.HELD 31 = true ∧ tSem.get F.DESK_SEM.OWNER 31 = tA.deskB.toNat + 1 ∧
      tSem.get F.DESK_SEM.TOKEN 31 = (0x8001#16).toNat ∧ tSem.get F.DESK_SEM.OWNER 31 ≠ 2) ∧
    (match step { pending := [.semAcquire tA 31 7, .semAcquire { tA with deskB := true } 31 8], dev := tOn } with
     | .next t => t.dev.get F.DESK_SEM.OWNER 31 | _ => 0) = 1 := by decide +kernel

theorem test_wit_Canon : tOn.Canon :=
  ((Dev.set_sound _ _ _ (Dev.setB_sound _ _ _
    (p₀ := []) (n₀ := 0) ⟨⟨⟨List.Pairwise.nil, by simp⟩, ⟨List.Pairwise.nil, by simp⟩, ⟨List.Pairwise.nil, by simp⟩, by decide⟩,
      List.nil_prefix, Nat.zero_le _⟩)).1)

theorem test_wit_CounterSaturation :
    ((tOn.wr .MNT_LATE_WR 0 0 0xFFFFFFFF).rd .MNT_LATE_WR 0 = 0xFFFFFFFF#32) ∧
    (F.BUR_SRC.RECOV.lo ≤ F.BUR_SRC.RECOV.hi ∧ F.BUR_SRC.RECOV.hi / 32 = F.BUR_SRC.RECOV.lo / 32) ∧
    ¬(Reg.MNT_RATE = .MNT_LATE_WR ∧ (0 : Nat) = 0 ∧ 0 < 2) := by decide +kernel

theorem test_wit_StepRunsFront :
    ({ pending := [.boot], dev := tOn } : State).pending = .boot :: [] ∧ Machine.State.reset.pending = [] ∧
      Machine.State.reset.dev.core.crossing = false := by decide

theorem test_wit_EveryStepKeepsCanon : ∃ t, step { pending := [.ppsInEdge], dev := tOn } = .next t := ⟨_, rfl⟩

theorem test_wit_RunsAreSafe : ∃ t, runSteps 1 { pending := [.ppsInEdge], dev := tOn } = some t := ⟨_, rfl⟩

end Sys2Proof.Machine
end

section
/-! Register words of several words, and event counters (R10): what a wide store leaves in each word, and what a counter
reads after it has counted. -/
namespace Sys2Proof.Machine

/-! ## Stores of several words -/

/-- A word outside those stored reads as before. -/
theorem Dev.rd_wrWide_ne (d : Dev) {r q : Reg} {i j a u n : Nat} (v : Nat) (h : ¬(q = r ∧ j = i ∧ a ≤ u ∧ u < a + n)) :
    (d.wrWide r i a v n).rd q j u = d.rd q j u := by
  induction n generalizing d a v with
  | zero => rfl
  | succ n ih =>
    have hrest : ¬(q = r ∧ j = i ∧ a + 1 ≤ u ∧ u < a + 1 + n) := fun ⟨hq, hj, hl, hu⟩ =>
      h ⟨hq, hj, by omega, by omega⟩
    have hfirst : ¬(q = r ∧ j = i ∧ u = a) := fun ⟨hq, hj, hu⟩ => h ⟨hq, hj, by omega, by omega⟩
    rw [Dev.wrWide, ih _ _ hrest, Dev.rd_wr_ne _ _ hfirst]

/-- The words stored read back as the number stored, as far as they hold it. -/
theorem Dev.rdWide_wrWide_same (d : Dev) (r : Reg) (i a v n : Nat) :
    (d.wrWide r i a v n).rdWide r i a n = v % 2 ^ (32 * n) := by
  induction n generalizing d a v with
  | zero => simp [Dev.rdWide, Nat.mod_one]
  | succ n ih =>
    have hfirst : ((d.wr r i a (BitVec.ofNat 32 v)).wrWide r i (a + 1) (v / 2 ^ 32) n).rd r i a = BitVec.ofNat 32 v := by
      rw [Dev.rd_wrWide_ne _ _ (by omega), Dev.rd_wr_same]
    have hpow : 2 ^ (32 * (n + 1)) = 2 ^ 32 * 2 ^ (32 * n) := by rw [← pow_add]; congr 1; omega
    rw [Dev.wrWide, Dev.rdWide, hfirst, ih, BitVec.toNat_ofNat, hpow, Nat.mod_mul]

/-! ## Counters -/

theorem Dev.rd_count_ne (d : Dev) {r q : Reg} {i j u : Nat} (h : ¬(q = r ∧ j = i ∧ u = 0)) :
    (d.count r i).rd q j u = d.rd q j u :=
  Dev.rd_wr_ne _ _ h

/-- A counter that has counted reads one more than before, and holds at all ones. -/
theorem Dev.rd_count_same (d : Dev) (r : Reg) (i : Nat) :
    (d.count r i).rd r i = if d.rd r i = 0xFFFFFFFF#32 then 0xFFFFFFFF#32 else d.rd r i + 1 := by
  have hcount : (d.count r i).rd r i = BitVec.ofNat 32 (min ((d.rd r i).toNat + 1) 0xFFFFFFFF) := Dev.rd_wr_same ..
  rw [hcount]
  split
  · rename_i hones
    rw [hones]; rfl
  · rename_i hones
    have hlt : (d.rd r i).toNat + 1 ≤ 0xFFFFFFFF := by bv_omega
    rw [Nat.min_eq_left hlt, BitVec.ofNat_add, BitVec.ofNat_toNat, BitVec.setWidth_eq]
    rfl

theorem Dev.rd_add64_ne (d : Dev) {r q : Reg} {i j u : Nat} (n : Nat) (h : ¬(q = r ∧ j = i ∧ u < 2)) :
    (d.add64 r i n).rd q j u = d.rd q j u :=
  Dev.rd_wrWide_ne _ _ fun ⟨hq, hj, _, hu⟩ => h ⟨hq, hj, by omega⟩

/-- A counter of 64 bits reads the sum, and saturates. -/
theorem Dev.rdWide_add64_same (d : Dev) (r : Reg) (i n : Nat) :
    (d.add64 r i n).rdWide r i 0 2 = min (d.rdWide r i 0 2 + n) (2 ^ 64 - 1) := by
  rw [Dev.add64, Dev.rdWide_wrWide_same]
  exact Nat.mod_eq_of_lt (by omega)

/-- A field's value fits its width. -/
theorem Dev.get_lt (d : Dev) {f : Fld} (h : f.lo ≤ f.hi) (i : Nat) : d.get f i < 2 ^ (f.hi + 1 - f.lo) := by
  have hwidth : f.hi - 32 * (f.lo / 32) + 1 - (f.lo - 32 * (f.lo / 32)) = f.hi + 1 - f.lo := by omega
  rw [← hwidth]
  exact Nat.mod_lt _ (by positivity)

/-- A count kept in a field of one word reads one more than before, and holds at all ones. -/
theorem Dev.get_bumpSat_same (d : Dev) {f : Fld} (h : f.One) (i : Nat) :
    (d.bumpSat f i).get f i = if d.get f i = 2 ^ (f.hi + 1 - f.lo) - 1 then d.get f i else d.get f i + 1 := by
  have hlt := d.get_lt h.1 i
  have hfits : min (d.get f i + 1) (2 ^ (f.hi + 1 - f.lo) - 1) < 2 ^ (f.hi + 1 - f.lo) := by omega
  rw [Dev.bumpSat, Dev.get_set_same _ h, Nat.mod_eq_of_lt hfits]
  split <;> omega

/-- Settles O56 (R10): each kind of counter by the law of its own operation. -/
theorem counterSaturation : Obligations.CounterSaturation := by
  unfold Obligations.CounterSaturation
  refine ⟨?count, ?add64, ?field, ?others⟩
  case count => exact fun d r i _ => d.rd_count_same r i
  case add64 => exact fun d r i n _ => d.rdWide_add64_same r i n
  case field => exact fun d f i _ hle hword => d.get_bumpSat_same ⟨hle, hword⟩ i
  case others =>
    intro d r q i j w n hother
    exact ⟨d.rd_count_ne fun ⟨hq, hj, hw⟩ => hother ⟨hq, hj, by omega⟩, d.rd_add64_ne n hother⟩

end Sys2Proof.Machine
end

section
/-! Register accesses: what a write and a read at an address do once the address is decoded and the gate has let the access
through (R8, R9, R360, R416, R421). -/
namespace Sys2Proof.Machine

/-! ## Writes -/

theorem Dev.writeTo_unassigned (d : Dev) {a : Access} {addr : Nat} (v : Word)
    (h : decodeAddr a.deskB.toNat (addr / 4 * 4) = none) : d.writeTo a addr v = d := by
  simp [Dev.writeTo, h]

theorem Dev.writeTo_reaches {d : Dev} {a : Access} {addr : Nat} {r : Reg} {i w : Nat} (v : Word)
    (h : decodeAddr a.deskB.toNat (addr / 4 * 4) = some (r, i, w)) (hr : d.Reaches a r i w) :
    d.writeTo a addr v = d.writeReg a r i w v := by
  simp [Dev.writeTo, h, Dev.onWrite_reaches hr]

theorem Dev.writeBytes_whole (d : Dev) (a : Access) (addr : Nat) (v : Word) : d.writeBytes a addr 15 v = d.writeTo a addr v :=
  rfl

theorem Dev.writeBytes_unassigned (d : Dev) {a : Access} {addr : Nat} (be : Nat) (v : Word)
    (h : decodeAddr a.deskB.toNat (addr / 4 * 4) = none) : d.writeBytes a addr be v = d := by
  simp [Dev.writeBytes, Dev.writeTo, h]

theorem Dev.writeBytes_partial {d : Dev} {a : Access} {addr be : Nat} {r : Reg} {i w : Nat} (v : Word) (hbe : be ≠ 15)
    (h : decodeAddr a.deskB.toNat (addr / 4 * 4) = some (r, i, w)) (hr : d.Reaches a r i w) :
    d.writeBytes a addr be v = d.accErr a 1 (addr / 4 * 4) true := by
  simp [Dev.writeBytes, hbe, h, Dev.onWrite_reaches hr]

/-! ## Writes under the access types (Table 0.5) -/

@[simp] theorem Dev.lockedWrite_rd (d : Dev) (a : Access) (q : Reg) (j u : Nat) : (d.lockedWrite a).rd q j u = d.rd q j u := rfl

theorem Dev.writeBoot_of_no_boot (d : Dev) (a : Access) {r : Reg} {w : Nat} (i : Nat) (v : Word) (h : (r.masks w).boot = 0) :
    d.writeBoot a r i w v = d := by
  simp [Dev.writeBoot, h]

/-- After the lock a write of BOOT bits is at most a locked-write event. -/
theorem Dev.writeBoot_locked {d : Dev} (a : Access) (r : Reg) (i w : Nat) (v : Word)
    (h : d.bit F.DESK_PROT_LOCK.LOCKED 0 = true) : d.writeBoot a r i w v = d ∨ d.writeBoot a r i w v = d.lockedWrite a := by
  simp only [Dev.writeBoot, h, Bool.not_true, Bool.false_eq_true, if_false]
  split
  · exact .inl rfl
  · split
    · exact .inl rfl
    · exact .inr rfl

theorem Dev.rd_writeBoot_ne (d : Dev) (a : Access) {r q : Reg} {i j w u : Nat} (v : Word) (h : ¬(q = r ∧ j = i ∧ u = w)) :
    (d.writeBoot a r i w v).rd q j u = d.rd q j u := by
  simp only [Dev.writeBoot]
  split
  · rfl
  · split
    · exact Dev.rd_wr_ne _ _ h
    · split
      · rfl
      · exact d.lockedWrite_rd a q j u

theorem Dev.rd_writePlain_ne (d : Dev) (a : Access) {r q : Reg} {i j w u : Nat} (v : Word) (h : ¬(q = r ∧ j = i ∧ u = w)) :
    (d.writePlain a r i w v).rd q j u = d.rd q j u := by
  rw [Dev.writePlain, Dev.rd_writeBoot_ne _ _ _ h, Dev.writeW1c, Dev.rd_wr_ne _ _ h, Dev.writeRw, Dev.rd_wr_ne _ _ h]

/-- In a word without BOOT bits the RW bits take the value written, and then the W1C bits written 1 are cleared. -/
theorem Dev.rd_writePlain_same (d : Dev) (a : Access) {r : Reg} {w : Nat} (i : Nat) (v : Word) (h : (r.masks w).boot = 0) :
    (d.writePlain a r i w v).rd r i w =
      ((d.rd r i w &&& ~~~(r.masks w).rw) ||| (v &&& (r.masks w).rw)) &&& ~~~(v &&& (r.masks w).w1c) := by
  rw [Dev.writePlain, Dev.writeBoot_of_no_boot _ _ _ _ h, Dev.writeW1c, Dev.rd_wr_same, Dev.writeRw, Dev.rd_wr_same]

/-- Settles O1 (R8, R9, R416, Table 0.5): the three outcomes of a write at an address, and the law of each access type. -/
theorem registerWrites : Obligations.RegisterWrites := by
  unfold Obligations.RegisterWrites
  refine ⟨?unassigned, ?partialWord, ?taken, ?same, ?others, ?locked⟩
  case unassigned =>
    intro s a addr be v hdec
    rw [exec_registerWrite, Dev.writeBytes_unassigned _ _ _ hdec]
  case partialWord =>
    intro s a addr be v r i w hbe hdec hr
    have hne : be.toNat ≠ 15 := fun h => hbe (BitVec.eq_of_toNat_eq h)
    rw [exec_registerWrite, Dev.writeBytes_partial v hne hdec hr]
  case taken =>
    intro s a addr v r i w hdec hr
    have hall : (15#4).toNat = 15 := rfl
    rw [exec_registerWrite, hall, Dev.writeBytes_whole, Dev.writeTo_reaches v hdec hr]
  case same => exact fun d a r i w v _ hboot => d.rd_writePlain_same a i v hboot
  case others => exact fun d a r q i j w u v hne => d.rd_writePlain_ne a v hne
  case locked => exact fun d a r i w v hlock => Dev.writeBoot_locked a r i w v hlock

/-! ## Writes of 64-bit registers (R11) -/

theorem Dev.writeReg_wide_low (d : Dev) (a : Access) {r : Reg} (i : Nat) (v : Word) (h : r.wide = true) :
    d.writeReg a r i 0 v = d.stage64 r i v := by
  simp [Dev.writeReg, h]

theorem Dev.writeReg_wide_high (d : Dev) (a : Access) {r : Reg} {w : Nat} (i : Nat) (v : Word) (h : r.wide = true)
    (hw : w ≠ 0) : d.writeReg a r i w v = d.commit64 a r i v := by
  simp [Dev.writeReg, h, hw]

/-- A high-word write stores both words, the low one as staged, or as stored where none is staged. -/
theorem Dev.commit64_of_ne_step (d : Dev) (a : Access) {r : Reg} (i : Nat) (v : Word) (h : r ≠ .MNT_STEP) :
    d.commit64 a r i v =
      ((({ d with bus := { d.bus with staged := d.bus.staged.erase (rkey r i 0) } } : Dev).writePlain a r i 0
        ((d.bus.staged.find (rkey r i 0)).getD (d.rd r i 0)))).writePlain a r i 1 v := by
  simp [Dev.commit64, Dev.takeStaged, h]

/-! ## Reads -/

/-- The Desk of an access that passes the gate answers reads on that path. -/
theorem Dev.answers_of_gate_ok {d : Dev} {a : Access} {addr : Nat} (h : d.gate a addr = .ok) :
    (d.deskUp a.deskB.toNat && (!a.eth || d.bit F.DESK_PROT_LOCK.LOCKED 0)) = true := by
  have hup : d.deskUp a.deskB.toNat = true := by
    cases hdown : d.deskUp a.deskB.toNat with
    | true => rfl
    | false => simp [Dev.gate, hdown] at h
  have hpath : a.eth = false ∨ d.bit F.DESK_PROT_LOCK.LOCKED 0 = true := by
    by_contra hclosed
    simp [Dev.gate, not_or.1 hclosed] at h
  rcases hpath with hpcie | hlock
  · simp [hup, hpcie]
  · simp [hup, hlock]

/-- A read that passes the gate leaves the block as one answer with the value of its register. -/
theorem Dev.answer_of_gate_ok {d : Dev} {a : Access} {addr : Nat} {r : Reg} {i w : Nat}
    (hdec : decodeAddr a.deskB.toNat (addr / 4 * 4) = some (r, i, w)) (hgate : d.gate a (addr / 4 * 4) = .ok) :
    d.answer a addr =
      (d.readReg a r i w).2.emit (.read a.deskB a.eth (addr / 4 * 4) (d.readReg a r i w).1) := by
  simp only [Dev.answer, Dev.answers_of_gate_ok hgate, if_true, Dev.readFrom, hdec, hgate]

theorem Dev.answer_unassigned {d : Dev} {a : Access} {addr : Nat} (hdec : decodeAddr a.deskB.toNat (addr / 4 * 4) = none)
    (hup : d.deskUp a.deskB.toNat = true) (hlock : d.bit F.DESK_PROT_LOCK.LOCKED 0 = true) :
    d.answer a addr = d.emit (.read a.deskB a.eth (addr / 4 * 4) 0) := by
  simp [Dev.answer, Dev.readFrom, hdec, hup, hlock]

theorem Dev.readReg_low (d : Dev) (a : Access) {r : Reg} (i : Nat) (h : r.is64 = true) (hp : r ≠ .MNT_CR_POP)
    (hq : r ≠ .MNT_CR_POP_DESK) : d.readReg a r i 0 = d.readLow a r i := by
  simp [Dev.readReg, h, hp, hq]

/-- A low-word read with no word staged returns the word as it reads, latches the high word and clears RC bits. -/
theorem Dev.readLow_unstaged {d : Dev} (a : Access) {r : Reg} {i : Nat} (h : d.bus.staged.find (rkey r i 0) = none) :
    d.readLow a r i = (d.view a.deskB.toNat r i 0,
      ((d.latch a (rkey r i 0) (d.view a.deskB.toNat r i 1)).clearRc r i 0).clearRc r i 1) := by
  simp [Dev.readLow, h]

theorem Dev.readReg_high (d : Dev) (a : Access) {r : Reg} {w : Nat} (i : Nat) (h : r.is64 = true) (hp : r ≠ .MNT_CR_POP)
    (hq : r ≠ .MNT_CR_POP_DESK) (hw : w ≠ 0) :
    d.readReg a r i w = ((d.latched a r i).getD (d.view a.deskB.toNat r i 1), d) := by
  simp [Dev.readReg, h, hp, hq, hw]

/-- FWD_HCRC_ERR is RC in every bit: a read returns the count and leaves zero. -/
theorem Dev.readReg_hcrcErr (d : Dev) (a : Access) (i : Nat) :
    d.readReg a .FWD_HCRC_ERR i 0 = (d.rd .FWD_HCRC_ERR i, d.wr .FWD_HCRC_ERR i 0 0) := by
  have hrc : (Reg.masks .FWD_HCRC_ERR 0).rc = 0xFFFFFFFF#32 := rfl
  have hreadable : ~~~(Reg.masks .FWD_HCRC_ERR 0).wo = BitVec.allOnes 32 := rfl
  have hview : d.viewFree a.deskB.toNat .FWD_HCRC_ERR i 0 = (d.rd .FWD_HCRC_ERR i, d) := by
    simp only [Dev.viewFree, Dev.view, hreadable, BitVec.and_allOnes, BitVec.ofNat_toNat, BitVec.setWidth_eq]
  have hclear : d.clearRc .FWD_HCRC_ERR i 0 = d.wr .FWD_HCRC_ERR i 0 0 := by simp [Dev.clearRc, hrc]
  simp [Dev.readReg, Reg.is64, hview, hclear]

/-- Settles O3 (R9, R11, R421): each access reaches its register, and there is the write or the read of that word. -/
theorem wideRegisters : Obligations.WideRegisters := by
  unfold Obligations.WideRegisters
  refine ⟨?lowWrite, ?highWrite, ?lowRead, ?highRead, ?rcRead, ?unassigned⟩
  case lowWrite =>
    intro s a addr v r i hwide hdec hr
    rw [exec_lowWordWrite, Dev.writeTo_reaches v hdec hr, Dev.writeReg_wide_low _ _ _ _ hwide, Dev.stage64]
  case highWrite =>
    intro s a addr v r i w hwide hw hstep hdec hr
    rw [exec_highWordWrite, Dev.writeTo_reaches v hdec hr, Dev.writeReg_wide_high _ _ _ _ hwide hw,
      Dev.commit64_of_ne_step _ _ _ _ hstep]
  case lowRead =>
    intro s a addr r i h64 hpop hpopDesk hdec hgate hstaged
    rw [exec_lowWordRead, Dev.answer_of_gate_ok hdec hgate, Dev.readReg_low _ _ _ h64 hpop hpopDesk,
      Dev.readLow_unstaged _ hstaged]
  case highRead =>
    intro s a addr r i w h64 hpop hpopDesk hw hdec hgate
    rw [exec_highWordRead, Dev.answer_of_gate_ok hdec hgate, Dev.readReg_high _ _ _ h64 hpop hpopDesk hw]
  case rcRead =>
    intro s a addr i hdec hgate
    rw [exec_rcRead, Dev.answer_of_gate_ok hdec hgate, Dev.readReg_hcrcErr]
  case unassigned =>
    intro s a addr hdec hup hlock
    rw [exec_lowWordRead, Dev.answer_unassigned hdec hup hlock]

end Sys2Proof.Machine
end

section
/-! Frames on the mesh links (R18, R171, R172): what sending, receiving and replaying a frame do when the direction has a
neighbour and the command finds what it acts on. -/
namespace Sys2Proof.Machine

/-- A direction in service sends the cells chosen for it as one frame, stored for replay and put on the wire. -/
theorem Dev.meshSend_inService {d e : Dev} {die dir c : Nat} {cells : List WireCell} {m : MeshFrame}
    (hn : meshNbr die dir = some c) (hst : d.get F.XBAR_MESH_STAT.STATE (meshReg c (meshOpp dir)) = 2)
    (hfill : (cells, e) = d.meshFill die dir [] (meshCap (d.get F.XBAR_MESH_STAT.GROUPS (meshReg c (meshOpp dir)))))
    (hm : m = { num := (e.meshEnd die dir).txNum, cells := cells, credits := (e.meshEnd die dir).credOut,
                replay := (e.meshEnd die dir).req, repair := (e.meshEnd die dir).repairOut }) :
    d.meshSend die dir = (e.updEnd die dir fun x =>
      { x with txNum := (x.txNum + 1) % 65536, req := none, repairOut := none,
               store := (x.store ++ [m]).drop ((x.store.length + 1) - 64) }).updCore fun k =>
        { k with wire := k.wire.upd [] (key2 die dir) (· ++ [m]) } := by
  subst hm
  simp only [Dev.meshSend, hn, hst, ← hfill, ne_eq, not_true_eq_false, if_false]

/-- A frame whose CRC fails is counted, and the frame expected is asked for. -/
theorem Dev.meshRecv_crcBad {d e : Dev} {die dir c : Nat} {m : MeshFrame} {rest : List MeshFrame} {par : List Nat}
    (hn : meshNbr die dir = some c) (hw : d.core.wire.at [] (key2 c (meshOpp dir)) = m :: rest)
    (he : e = (d.updCore fun x => { x with wire := x.wire.put [] (key2 c (meshOpp dir)) rest }).meshParity die dir par)
    (hhit : e.bur.nextMesh.contains (key2 die dir) = false) :
    d.meshRecv die dir true par = (e.count .XBAR_MESH_CRC_ERR (meshReg die dir)).updEnd die dir fun x =>
      { x with rxDisc := true, req := some x.rxNum } := by
  simp only [Dev.meshRecv, hn, hw, ← he, hhit, Bool.false_eq_true, if_false, true_or, if_true]

/-- The end of a link direction once it has taken the frame expected: its credits and its requests. -/
def MeshEnd.taking (e : MeshEnd) (m : MeshFrame) : MeshEnd :=
  { e with rxNum := (e.rxNum + 1) % 65536, rxDisc := false, req := none, returned := m.credits,
           replayAsked := (match m.replay with | some r => some r | none => e.replayAsked),
           repairAsked := (match m.repair with | some r => some r | none => e.repairAsked) }

/-- A frame whose CRC holds is the one expected, or is discarded; one beyond a missing frame asks for that, once. -/
theorem Dev.meshRecv_crcOk {d e : Dev} {die dir c : Nat} {m : MeshFrame} {rest : List MeshFrame} {par : List Nat}
    (hn : meshNbr die dir = some c) (hw : d.core.wire.at [] (key2 c (meshOpp dir)) = m :: rest)
    (he : e = (d.updCore fun x => { x with wire := x.wire.put [] (key2 c (meshOpp dir)) rest }).meshParity die dir par)
    (hhit : e.bur.nextMesh.contains (key2 die dir) = false) :
    d.meshRecv die dir false par =
      if m.num ≠ (e.meshEnd die dir).rxNum then
        if (e.meshEnd die dir).rxDisc ∨ ((e.meshEnd die dir).rxNum + 65536 - m.num) % 65536 < 32768 then e
        else e.updEnd die dir fun x => { x with rxDisc := true, req := some x.rxNum }
      else (e.updEnd die dir (·.taking m)).each m.cells fun d w => d.meshCell die dir w := by
  simp only [Dev.meshRecv, hn, hw, ← he, hhit, Bool.false_eq_true, if_false, or_self]
  rfl

/-- A replay request for a frame other than the one asked for last sends every stored frame from that one on. -/
theorem Dev.meshReplay_first {d : Dev} {die dir c n : Nat} (hn : meshNbr die dir = some c)
    (hask : (d.meshEnd die dir).replayAsked = some n) (hlast : (d.meshEnd die dir).lastReq ≠ some n) :
    d.meshReplay die dir =
      ((((d.count .XBAR_MESH_REPLAY (meshReg c (meshOpp dir))).pulse c 0x00B 1 (some (meshOpp dir)) none none).updEnd die dir
        fun x => { x with replayAsked := none, lastReq := some n, noProg := 1 }).updCore fun x =>
          { x with wire := x.wire.upd [] (key2 die dir) fun w =>
              w ++ (d.meshEnd die dir).store.dropWhile fun m => m.num != n }) := by
  have hfew : ¬ 16 ≤ 1 := by decide
  simp only [Dev.meshReplay, hn, hask, if_neg hlast, if_neg hfew]

/-- Settles O25 (R18, R171, R172): a frame sent, received and replayed, each by the law of its own operation. -/
theorem meshFrames : Obligations.MeshFrames := by
  unfold Obligations.MeshFrames
  refine ⟨?send, ?receive, ?replay⟩
  case send =>
    intro s die dir c r cells d e m hn hr hst hfill he hm
    subst hr he
    rw [exec_meshFrameSend, Dev.meshSend_inService hn hst hfill hm]
  case receive =>
    intro s die dir par c m rest d hn hw hd hhit
    exact ⟨by rw [exec_meshFrameReceived, Dev.meshRecv_crcBad hn hw hd hhit],
      by rw [exec_meshFrameReceived, Dev.meshRecv_crcOk hn hw hd hhit]; rfl⟩
  case replay =>
    intro s die dir c n r d hn hask hr hd hlast
    rw [exec_meshReplayRequest, Dev.meshReplay_first hn hask hlast, hd, hr]

end Sys2Proof.Machine
end

section
/-! Which register words the discard of frames, the loss of a Cabinet die and the failure of a mesh link leave (R19, R174,
R246): every one but those of the registers named. -/
namespace Sys2Proof

/-- A table with entries of other keys discarded holds the same entry of this key. -/
theorem Tbl.find_filter {α : Type} (t : Tbl α) {p : Nat × α → Bool} {k : Nat} (h : ∀ v, p (k, v) = true) :
    Tbl.find (t.filter p) k = t.find k := by
  induction t with
  | nil => rfl
  | cons a t ih =>
    obtain ⟨k', v⟩ := a
    by_cases hk : k = k'
    · subst hk; simp [h, Tbl.find]
    · cases hp : p (k', v) <;> simp [hp, Tbl.find, hk, ih]

namespace Machine

/-! ## Shared operations -/

/-- A field reads as before where its register's words do. -/
theorem Dev.get_of_rd {d e : Dev} {f : Fld} {i : Nat} (h : ∀ u, e.rd f.reg i u = d.rd f.reg i u) : e.get f i = d.get f i := by
  have hwide : ∀ n a, e.rdWide f.reg i a n = d.rdWide f.reg i a n := by
    intro n
    induction n with
    | zero => exact fun _ => rfl
    | succ n ih => intro a; simp only [Dev.rdWide, h, ih]
  simp only [Dev.get, hwide]

/-- What each step of a run over a list keeps, the run keeps. -/
theorem Dev.each_keeps {α β : Type} (g : Dev → β) (d : Dev) (l : List α) {f : Dev → α → Dev} (h : ∀ e a, g (f e a) = g e) :
    g (d.each l f) = g d := by
  induction l generalizing d with
  | nil => rfl
  | cons a l ih => exact (ih (f d a)).trans (h d a)

variable {q : Reg} {j u : Nat}

theorem Dev.wr_rd_reg (d : Dev) {r : Reg} (i w : Nat) (v : Word) (h : q ≠ r) : (d.wr r i w v).rd q j u = d.rd q j u :=
  Dev.rd_wr_ne _ _ fun e => h e.1

theorem Dev.set_rd_reg (d : Dev) {f : Fld} (i v : Nat) (h : q ≠ f.reg) : (d.set f i v).rd q j u = d.rd q j u :=
  d.rd_wrWide_ne _ fun e => h e.1

theorem Dev.setB_rd_reg (d : Dev) {f : Fld} (i : Nat) (b : Bool) (h : q ≠ f.reg) : (d.setB f i b).rd q j u = d.rd q j u :=
  d.set_rd_reg i b.toNat h

theorem Dev.add_rd_reg (d : Dev) {r : Reg} (i n : Nat) (h : q ≠ r) : (d.add r i n).rd q j u = d.rd q j u :=
  d.wr_rd_reg i 0 _ h

theorem Dev.count_rd_reg (d : Dev) {r : Reg} (i : Nat) (h : q ≠ r) : (d.count r i).rd q j u = d.rd q j u :=
  d.add_rd_reg i 1 h

/-- Discarding words of one register leaves those of every other. -/
theorem Dev.filterRegs_rd_reg (d : Dev) {r : Reg} {p : Nat × Word → Bool} (h : q ≠ r)
    (hp : ∀ e, (Nat.unpair e.1).1 ≠ r.num → p e = true) : ({ d with regs := d.regs.filter p } : Dev).rd q j u = d.rd q j u := by
  have hkey : (Nat.unpair (rkey q j u)).1 ≠ r.num := by
    rw [rkey, key3, Nat.unpair_pair]
    exact fun e => h (Reg.num_inj e)
  simp only [Dev.rd, Tbl.at, Tbl.find_filter d.regs fun v => hp (rkey q j u, v) hkey]

/-! ## Frames -/

@[simp] theorem Dev.updEnd_rd (d : Dev) (die dir : Nat) (f : MeshEnd → MeshEnd) : (d.updEnd die dir f).rd q j u = d.rd q j u := rfl

@[simp] theorem Dev.returnCredit_rd (d : Dev) (die src ci n : Nat) : (d.returnCredit die src ci n).rd q j u = d.rd q j u := by
  simp only [Dev.returnCredit]
  repeat' split
  all_goals rfl

theorem Dev.freeCells_rd_reg (d : Dev) (die src ci k r c : Nat) (h : q ≠ .XBAR_SHARED_USED) :
    (d.freeCells die src ci k r c).rd q j u = d.rd q j u := by
  rw [Dev.freeCells, Dev.returnCredit_rd, Dev.set_rd_reg _ _ _ h]
  rfl

theorem Dev.removeFrm_rd_reg (d : Dev) (fid : Nat) (h : q ≠ .XBAR_SHARED_USED) :
    (d.removeFrm fid).rd q j u = d.rd q j u := by
  simp only [Dev.removeFrm]
  split
  · rfl
  · split
    · rfl
    · exact d.freeCells_rd_reg _ _ _ _ _ _ h

theorem Dev.cutFrm_rd_reg (d : Dev) (fid : Nat) (h : q ≠ .XBAR_SHARED_USED) : (d.cutFrm fid).rd q j u = d.rd q j u := by
  simp only [Dev.cutFrm]
  split
  · rfl
  · split
    · rfl
    · exact d.removeFrm_rd_reg fid h

theorem Dev.linkDrop_rd_reg (d : Dev) (hs : q ≠ .XBAR_SHARED_USED) (hl : q ≠ .XBAR_LINK_DROP) :
    d.linkDrop.rd q j u = d.rd q j u := by
  refine Dev.each_keeps (·.rd q j u) d _ fun e x => ?_
  have hstep : ∀ hit : Bool, (if hit then (e.add .XBAR_LINK_DROP x.2.die (x.2.here - x.2.sent)).removeFrm x.1 else e).rd q j u =
      e.rd q j u
    | true => (Dev.removeFrm_rd_reg _ _ hs).trans (e.add_rd_reg _ _ hl)
    | false => rfl
  exact hstep _

theorem Dev.orphanPass_rd_reg (d : Dev) (link : Bool) (hs : q ≠ .XBAR_SHARED_USED) (hl : q ≠ .XBAR_LINK_DROP)
    (hp : q ≠ .XBAR_POISON) : (d.orphanPass link).rd q j u = d.rd q j u := by
  refine Dev.each_keeps (·.rd q j u) d _ fun e x => (Dev.cutFrm_rd_reg _ _ hs).trans ?_
  split
  · exact e.add_rd_reg _ _ hl
  · exact e.count_rd_reg _ hp

theorem Dev.orphans_rd_reg (d : Dev) (link : Bool) (hs : q ≠ .XBAR_SHARED_USED) (hl : q ≠ .XBAR_LINK_DROP)
    (hp : q ≠ .XBAR_POISON) : (d.orphans link).rd q j u = d.rd q j u :=
  Dev.each_keeps (·.rd q j u) d _ fun e _ => e.orphanPass_rd_reg link hs hl hp

/-! ## The loss of a Cabinet die -/

theorem Dev.takeRecord_rd_reg (d : Dev) (die : Nat) (m : MirRec) (h : q ≠ .DRW_CFG) :
    (d.takeRecord die m).rd q j u = d.rd q j u := by
  simp only [Dev.takeRecord]
  split
  · rfl
  · rw [Dev.updCab_rd, Dev.set_rd_reg _ _ _ h, Dev.set_rd_reg _ _ _ h, Dev.set_rd_reg _ _ _ h, Dev.set_rd_reg _ _ _ h]
    split
    · rfl
    · exact d.set_rd_reg _ _ h

@[simp] theorem Dev.delCtx_rd (d : Dev) (die h : Nat) : (d.delCtx die h).rd q j u = d.rd q j u := rfl

@[simp] theorem Dev.updCtx_rd (d : Dev) (die h : Nat) (f : DrwCtx → DrwCtx) : (d.updCtx die h f).rd q j u = d.rd q j u := by
  simp only [Dev.updCtx]
  split <;> rfl

@[simp] theorem Dev.creditShadow_rd (d : Dev) (die k n : Nat) : (d.creditShadow die k n).rd q j u = d.rd q j u := rfl

theorem Dev.dropShadow_rd_reg (d : Dev) (h : Nat) (hq : q ≠ .DRW_CFG) : (d.dropShadow h).rd q j u = d.rd q j u := by
  simp only [Dev.dropShadow]
  split
  · rfl
  · rw [Dev.updCtx_rd, Dev.setB_rd_reg _ _ _ hq, Dev.updCab_rd, Dev.each_keeps (·.rd q j u) _ _ fun e _ => e.creditShadow_rd ..]
    split
    · split <;> rfl
    · rfl

theorem Dev.cabEmpty_rd_reg (d : Dev) (die : Nat) {f : Dev → Nat → Dev} (hf : ∀ e h, (f e h).rd q j u = e.rd q j u)
    (hd : q ≠ .DRW_CFG) (hg : q ≠ .CAB_DIGEST) (hw : q ≠ .CAB_DIGEST_WPTR) :
    (d.cabEmpty die f).rd q j u = d.rd q j u := by
  have hctx : ∀ (e : Dev) (x : Nat × DrwCtx),
      (if x.2.shadow then (e.dropShadow x.1).delCtx die x.1 else f (e.delCtx die x.1) x.1).rd q j u = e.rd q j u := by
    intro e x
    split
    · exact e.dropShadow_rd_reg x.1 hd
    · exact hf _ _
  rw [Dev.cabEmpty, Dev.wr_rd_reg _ _ _ _ hw, Dev.filterRegs_rd_reg _ hg (by simp +contextual), Dev.updCore_rd,
    Dev.updCab_rd, Dev.each_keeps (·.rd q j u) _ _ hctx, Dev.updCab_rd,
    Dev.each_keeps (·.rd q j u) _ _ fun e m => e.takeRecord_rd_reg die m hd]

theorem Dev.cabLost_rd_reg (d : Dev) (die : Nat) (hd : q ≠ .DRW_CFG) (hg : q ≠ .CAB_DIGEST) (hw : q ≠ .CAB_DIGEST_WPTR)
    (hp : q ≠ .DRW_PLACE_CFG) : (d.cabLost die).rd q j u = d.rd q j u := by
  have hempty : (d.cabEmpty die fun d h => d.setState h 5).rd q j u = d.rd q j u :=
    d.cabEmpty_rd_reg die (fun e h => e.set_rd_reg h 5 hd) hd hg hw
  simp only [Dev.cabLost]
  split
  · exact (Dev.setB_rd_reg _ _ _ hp).trans hempty
  · exact hempty

end Machine

end Sys2Proof
end

section
/-! Retraining and repair of the mesh links (R16, R19, R172 to R174): what each command of a link direction does, and what of
XBAR_MESH_STAT it leaves. -/
namespace Sys2Proof.Machine

@[simp] theorem Dev.meshEnd_updEnd_same (d : Dev) (die dir : Nat) (f : MeshEnd → MeshEnd) :
    (d.updEnd die dir f).meshEnd die dir = f (d.meshEnd die dir) :=
  Tbl.at_put_same _ _ _ _

theorem meshState_one : Fld.One F.XBAR_MESH_STAT.STATE := ⟨by decide, by decide⟩

theorem meshGroups_one : Fld.One F.XBAR_MESH_STAT.GROUPS := ⟨by decide, by decide⟩

/-- STATE reads as it was written, whatever is then written to GROUPS. -/
theorem Dev.get_state_set_groups (d : Dev) (r v n : Nat) :
    ((d.set F.XBAR_MESH_STAT.STATE r v).set F.XBAR_MESH_STAT.GROUPS r n).get F.XBAR_MESH_STAT.STATE r = v % 16 :=
  (Dev.get_set_bits _ meshGroups_one meshState_one r n rfl rfl (.inr (by decide))).trans
    (d.get_set_same meshState_one r v)

/-! ## Lanes found failing -/

/-- A field of XBAR_MESH_STAT above SPARES: GROUPS and STATE. -/
abbrev Fld.AboveSpares (f : Fld) : Prop := f.reg = .XBAR_MESH_STAT ∧ 6 < f.lo ∧ f.lo ≤ f.hi ∧ f.hi < 32

theorem Dev.get_set_spares {f : Fld} (hf : f.AboveSpares) (d : Dev) (r v : Nat) :
    (d.set F.XBAR_MESH_STAT.SPARES r v).get f r = d.get f r := by
  obtain ⟨hreg, hlo, hle, hhi⟩ := hf
  have hword : f.lo / 32 = 0 := by omega
  have hone : f.One := ⟨hle, by omega⟩
  exact d.get_set_bits ⟨by decide, by decide⟩ hone r v hreg hword (.inr hlo)

theorem Dev.laneBad_rd_reg {q : Reg} {j u : Nat} (d : Dev) (r l n : Nat) (h : q ≠ .XBAR_MESH_LANE_BAD) :
    (d.laneBad r l n).rd q j u = d.rd q j u :=
  Dev.each_keeps (·.rd q j u) d _ fun e _ => e.wr_rd_reg _ _ _ h

@[simp] theorem Dev.nameLane_rd {q : Reg} {j u : Nat} (d : Dev) (die dir : Nat) :
    (d.nameLane die dir).rd q j u = d.rd q j u := by
  simp only [Dev.nameLane]
  split
  · rfl
  · split <;> rfl

/-- A lane found failing changes no field of XBAR_MESH_STAT but SPARES. -/
theorem Dev.laneFails_get {f : Fld} (hf : f.AboveSpares) (d : Dev) (die dir l : Nat) :
    (d.laneFails die dir l).get f (meshReg die dir) = d.get f (meshReg die dir) := by
  have hreg : f.reg ≠ .XBAR_MESH_LANE_BAD := by rw [hf.1]; decide
  simp only [Dev.laneFails]
  split
  · rfl
  · split
    · rw [Dev.get_set_spares hf]
      exact Dev.get_of_rd fun u => d.laneBad_rd_reg _ _ _ hreg
    · exact Dev.get_of_rd fun u => Dev.nameLane_rd ..

/-- The lane named first is asked to be repaired where no repair of the direction is asked for or agreed. -/
theorem Dev.nameLane_of_failing {d : Dev} {die dir l : Nat} {rest : List Nat} (hf : (d.meshEnd die dir).failing = l :: rest)
    (hout : (d.meshEnd die dir).repairOut = none) (hrep : (d.meshEnd die dir).repair = none) :
    d.nameLane die dir = d.updEnd die dir fun e =>
      { e with failing := rest
               repairOut := some { lane := l, spare := d.freeSpare die dir, at' := (e.rxNum + 16) % 65536 } } := by
  simp only [Dev.nameLane, hf, hout, hrep, and_self, if_true]

/-- Which spare is free depends on the registers and on the spares steered alone. -/
theorem Dev.freeSpare_updEnd (d : Dev) (die dir : Nat) {f : MeshEnd → MeshEnd}
    (h : (f (d.meshEnd die dir)).steer = (d.meshEnd die dir).steer) :
    (d.updEnd die dir f).freeSpare die dir = d.freeSpare die dir := by
  have hget : (d.updEnd die dir f).get F.XBAR_MESH_STAT.SPARES (meshReg die dir) =
      d.get F.XBAR_MESH_STAT.SPARES (meshReg die dir) := Dev.get_of_rd fun _ => d.updEnd_rd ..
  simp only [Dev.freeSpare, hget, Dev.laneIsBad, Dev.updEnd_rd, Dev.meshEnd_updEnd_same, h]

/-- A lane in use, found failing while no other waits, is named with a free spare and the frame 16 ahead. -/
theorem Dev.laneFails_names {d : Dev} {die dir l : Nat} (hbad : d.laneIsBad (meshReg die dir) l = false) (hl : l < 1344)
    (hf : (d.meshEnd die dir).failing = []) (hout : (d.meshEnd die dir).repairOut = none)
    (hrep : (d.meshEnd die dir).repair = none) :
    (d.laneFails die dir l).meshEnd die dir = { d.meshEnd die dir with
      failing := []
      repairOut := some { lane := l, spare := d.freeSpare die dir, at' := ((d.meshEnd die dir).rxNum + 16) % 65536 } } := by
  have hwaits : d.laneFails die dir l =
      (d.updEnd die dir fun e => { e with failing := e.failing ++ [l] }).nameLane die dir := by
    simp [Dev.laneFails, hbad, hf, hout, hrep, hl]
  rw [hwaits, Dev.nameLane_of_failing (l := l) (rest := []) (by simp [hf]) (by simp [hout]) (by simp [hrep]),
    Dev.meshEnd_updEnd_same, Dev.freeSpare_updEnd _ _ _ rfl, Dev.meshEnd_updEnd_same]

/-! ## The end of a retrain -/

/-- The sender of a direction sends again from the frame last asked for. -/
def Dev.meshResend (d : Dev) (die dir : Nat) : Dev :=
  match (d.meshEnd die dir).lastReq with
  | some n => d.updCore fun x => { x with
      wire := x.wire.upd [] (key2 die dir) fun w => w ++ (d.meshEnd die dir).store.dropWhile fun (m : MeshFrame) => m.num != n }
  | none => d

@[simp] theorem Dev.meshResend_rd {q : Reg} {j u : Nat} (d : Dev) (die dir : Nat) :
    (d.meshResend die dir).rd q j u = d.rd q j u := by
  simp only [Dev.meshResend]
  split <;> rfl

/-- A link direction back in service with `left` groups. -/
def Dev.meshUp (d : Dev) (die dir left : Nat) : Dev :=
  ((d.set F.XBAR_MESH_STAT.STATE (meshReg die dir) 2).set F.XBAR_MESH_STAT.GROUPS (meshReg die dir) left).updEnd die dir
    fun e => { e with retraining := false }

theorem Dev.meshRetrained_ok {d : Dev} {die dir c : Nat} (bad : List Nat)
    (hst : d.get F.XBAR_MESH_STAT.STATE (meshReg die dir) = 3) (hleft : 21 - (d.meshEnd die dir).retired.length ≠ 0)
    (hn : meshNbr die dir = some c) :
    d.meshRetrained die dir true bad =
      ((d.meshUp die dir (21 - (d.meshEnd die dir).retired.length)).meshResend c (meshOpp dir)).each bad fun d l =>
        d.laneFails die dir l := by
  simp only [Dev.meshRetrained, hst, hleft, hn, ne_eq, not_true_eq_false, not_false_eq_true, and_self, if_false, if_true]
  rfl

/-- What a direction back in service resends and names leaves STATE and GROUPS. -/
theorem Dev.get_resend_laneFails {f : Fld} (hf : f.AboveSpares) (d : Dev) (die dir a b : Nat) (bad : List Nat) :
    ((d.meshResend a b).each bad fun d l => d.laneFails die dir l).get f (meshReg die dir) = d.get f (meshReg die dir) :=
  (Dev.each_keeps (·.get f (meshReg die dir)) _ bad fun e l => e.laneFails_get hf die dir l).trans
    (Dev.get_of_rd fun _ => d.meshResend_rd ..)

theorem Dev.meshUp_state (d : Dev) (die dir left : Nat) :
    (d.meshUp die dir left).get F.XBAR_MESH_STAT.STATE (meshReg die dir) = 2 :=
  (Dev.get_of_rd fun _ => Dev.updEnd_rd ..).trans (d.get_state_set_groups _ 2 left)

theorem Dev.meshUp_groups (d : Dev) (die dir : Nat) {left : Nat} (h : left < 32) :
    (d.meshUp die dir left).get F.XBAR_MESH_STAT.GROUPS (meshReg die dir) = left :=
  ((Dev.get_of_rd fun _ => Dev.updEnd_rd ..).trans (Dev.get_set_same _ meshGroups_one _ left)).trans (Nat.mod_eq_of_lt h)

/-- A failed retrain is noted; the third within 1 s fails the link, and another is retried and counted. -/
theorem Dev.meshRetrained_failed {d e : Dev} {die dir : Nat} {ts : List Nat} (bad : List Nat)
    (hst : d.get F.XBAR_MESH_STAT.STATE (meshReg die dir) = 3)
    (hts : ts = ((d.meshEnd die dir).failTimes.filter fun t => decide (d.since t ≤ 800000000)) ++ [d.raw])
    (he : e = d.updEnd die dir fun x => { x with failTimes := ts }) :
    d.meshRetrained die dir false bad =
      if 3 ≤ ts.length then (e.forceExpel 3 0 (instMesh die dir)).meshFail die dir
      else e.count .XBAR_MESH_RETRAIN (meshReg die dir) := by
  simp only [Dev.meshRetrained, hst, ne_eq, not_true_eq_false, if_false, Bool.false_eq_true, false_and, ← hts, ← he]

/-- A link direction marked failed, with what it carried lost. -/
def Dev.linkCleared (d : Dev) (die dir : Nat) : Dev :=
  let d := ((d.set F.XBAR_MESH_STAT.STATE (meshReg die dir) 4).set F.XBAR_MESH_STAT.GROUPS (meshReg die dir) 0).updEnd die dir
    fun e => { e with retraining := false, repair := none, repairOut := none, failing := [], store := [] }
  match meshNbr die dir with
  | some c =>
    (d.updCore fun x => { x with wire := (x.wire.erase (key2 c (meshOpp dir))).erase (key2 die dir) }).updEnd c
      (meshOpp dir) fun e => { e with store := [] }
  | none => d

theorem Dev.linkFail_eq (d : Dev) (die dir : Nat) : d.linkFail die dir =
    (((d.linkCleared die dir).linkDrop).orphans true).raise (meshUnit die) 6 (instMesh die dir) := rfl

theorem Dev.linkCleared_state (d : Dev) (die dir : Nat) :
    (d.linkCleared die dir).get F.XBAR_MESH_STAT.STATE (meshReg die dir) = 4 := by
  have hmarked : (d.linkCleared die dir).get F.XBAR_MESH_STAT.STATE (meshReg die dir) =
      ((d.set F.XBAR_MESH_STAT.STATE (meshReg die dir) 4).set F.XBAR_MESH_STAT.GROUPS (meshReg die dir) 0).get
        F.XBAR_MESH_STAT.STATE (meshReg die dir) := by
    refine Dev.get_of_rd fun u => ?_
    simp only [Dev.linkCleared]
    split
    · rw [Dev.updEnd_rd, Dev.updCore_rd, Dev.updEnd_rd]
    · rw [Dev.updEnd_rd]
  exact hmarked.trans (d.get_state_set_groups _ 4 0)

/-- Nothing that a link discards as it fails changes XBAR_MESH_STAT. -/
theorem Dev.linkFail_state (d : Dev) (die dir : Nat) :
    (d.linkFail die dir).get F.XBAR_MESH_STAT.STATE (meshReg die dir) = 4 := by
  have hkept : (d.linkFail die dir).get F.XBAR_MESH_STAT.STATE (meshReg die dir) =
      (d.linkCleared die dir).get F.XBAR_MESH_STAT.STATE (meshReg die dir) := by
    refine Dev.get_of_rd fun u => ?_
    rw [Dev.linkFail_eq, Dev.raise_rd, Dev.orphans_rd_reg _ _ (by decide) (by decide) (by decide),
      Dev.linkDrop_rd_reg _ (by decide) (by decide)]
  exact hkept.trans (d.linkCleared_state die dir)

/-- A failed link is in STATE 4, whether or not it attached a Cabinet die. -/
theorem Dev.meshFail_state (d : Dev) (die dir : Nat) :
    (d.meshFail die dir).get F.XBAR_MESH_STAT.STATE (meshReg die dir) = 4 := by
  simp only [Dev.meshFail]
  split
  · rw [Dev.get_of_rd fun _ => Dev.cabLost_rd_reg _ _ (by decide) (by decide) (by decide) (by decide)]
    exact d.linkFail_state die dir
  · exact d.linkFail_state die dir

/-- A failed retrain leaves the direction in training, or the link failed. -/
theorem Dev.failedRetrain_state {e : Dev} {die dir : Nat} (n : Nat)
    (hst : e.get F.XBAR_MESH_STAT.STATE (meshReg die dir) = 3) :
    (if 3 ≤ n then (e.forceExpel 3 0 (instMesh die dir)).meshFail die dir
      else e.count .XBAR_MESH_RETRAIN (meshReg die dir)).get F.XBAR_MESH_STAT.STATE (meshReg die dir) =
      if 3 ≤ n then 4 else 3 := by
  split
  · exact Dev.meshFail_state _ die dir
  · exact (Dev.get_of_rd fun _ => e.count_rd_reg _ (by decide)).trans hst

/-! ## Repairs -/

/-- A repair asked for is agreed by both ends where the budget of the direction allows it. -/
theorem Dev.meshRepair_asked {d e : Dev} {die dir c : Nat} {m : MeshRepair} {ok : Bool} (hn : meshNbr die dir = some c)
    (hask : (d.meshEnd die dir).repairAsked = some m)
    (htry : (ok, e) = (d.updEnd die dir fun x => { x with repairAsked := none }).tryExpel 2 (meshReg c (meshOpp dir))
      (instMesh c (meshOpp dir))) :
    d.meshRepair die dir =
      if ok then (e.updEnd die dir fun x => { x with repair := some m }).updEnd c (meshOpp dir) fun x =>
        { x with repair := some m }
      else e := by
  simp only [Dev.meshRepair, hn, hask, ← htry]

/-- At the agreed frame the repair of both ends is done with, counted and raised, and its lane is marked failed. -/
def Dev.repairTaken (d : Dev) (die dir c : Nat) (m : MeshRepair) : Dev :=
  (((((d.updEnd die dir fun e => { e with repair := none, steer := e.steer.erase m.lane }).updEnd c (meshOpp dir)
    fun e => { e with repair := none }).count .XBAR_MESH_REPAIR (meshReg die dir)).raise (meshUnit die) 5
      (instMesh die dir)).laneBad (meshReg die dir) m.lane 1)

theorem Dev.meshSwitch_spare {d : Dev} {die dir c x : Nat} {m : MeshRepair} (hn : meshNbr die dir = some c)
    (hrep : (d.meshEnd die dir).repair = some m) (hspare : m.spare = some x) :
    d.meshSwitch die dir =
      (((d.repairTaken die dir c m).updEnd die dir fun e =>
        { e with steer := e.steer.insert x ((d.meshEnd die dir).placeOf m.lane + 1) }).set F.XBAR_MESH_STAT.SPARES
          (meshReg die dir) ((d.repairTaken die dir c m).get F.XBAR_MESH_STAT.SPARES (meshReg die dir) - 1)).nameLane
            die dir := by
  simp only [Dev.meshSwitch, hn, hrep, hspare]
  rfl

/-- A group of 64 lanes is retired from a link direction. -/
def Dev.retireGroup (d : Dev) (die dir g : Nat) : Dev :=
  (d.laneBad (meshReg die dir) (g * 64) 64).updEnd die dir fun e => { e with retired := e.retired ++ [g] }

theorem Dev.meshSwitch_retire {d e : Dev} {die dir c g : Nat} {m : MeshRepair} (hn : meshNbr die dir = some c)
    (hrep : (d.meshEnd die dir).repair = some m) (hspare : m.spare = none)
    (hg : g = (d.meshEnd die dir).placeOf m.lane / 64) (hnew : (d.meshEnd die dir).retired.contains g = false)
    (he : e = (d.repairTaken die dir c m).retireGroup die dir g)
    (hmore : 1 < e.get F.XBAR_MESH_STAT.GROUPS (meshReg die dir)) :
    d.meshSwitch die dir = (e.set F.XBAR_MESH_STAT.GROUPS (meshReg die dir)
      (e.get F.XBAR_MESH_STAT.GROUPS (meshReg die dir) - 1)).nameLane die dir := by
  have hserves : e.get F.XBAR_MESH_STAT.GROUPS (meshReg die dir) - 1 ≠ 0 := by omega
  subst he hg
  simp only [Dev.meshSwitch, hn, hrep, hspare, hnew, Bool.false_eq_true, if_false]
  exact if_neg hserves

/-- Settles O26 (R16, R19, R172 to R174): the end of a retrain, the lane named, the repair agreed and the lane switched, each
by the law of its own operation; STATE and GROUPS by what those leave of XBAR_MESH_STAT. -/
theorem meshRepairs : Obligations.MeshRepairs := by
  unfold Obligations.MeshRepairs
  refine ⟨?retrained, ?failed, ?named, ?agreed, ?switched⟩
  case retrained =>
    intro s die dir bad r c left d hr hst hl hleft hn hd
    subst hr hl
    refine ⟨_, by rw [exec_meshRetrainDone, Dev.meshRetrained_ok _ hst hleft hn], ?_, ?_, ?_⟩
    · rw [hd]; rfl
    · exact (Dev.get_resend_laneFails (by decide) _ _ _ _ _ _).trans (s.dev.meshUp_state _ _ _)
    · exact (Dev.get_resend_laneFails (by decide) _ _ _ _ _ _).trans (s.dev.meshUp_groups _ _ (by omega))
  case failed =>
    intro s die dir bad r ts d hr hst hts hd
    subst hr
    have hst' : d.get F.XBAR_MESH_STAT.STATE (meshReg die dir) = 3 := by
      rw [hd, Dev.get_of_rd fun _ => Dev.updEnd_rd .., hst]
    exact ⟨_, by rw [exec_meshRetrainDone, Dev.meshRetrained_failed _ hst hts hd], rfl, Dev.failedRetrain_state _ hst'⟩
  case named =>
    intro d e die dir l hbad hl hf hout hrep he
    rw [he, Dev.laneFails_names hbad hl hf hout hrep]
    exact ⟨rfl, rfl⟩
  case agreed =>
    intro s die dir c m ok d hn hask htry
    rw [exec_meshRepairRequest, Dev.meshRepair_asked hn hask htry]
  case switched =>
    intro s die dir c r p m d hn hrep hr hp hd
    subst hr hp hd
    refine ⟨fun x hspare => ?_, fun hspare hnew hmore => ?_⟩
    · rw [exec_meshLaneSwitch, Dev.meshSwitch_spare hn hrep hspare]
      rfl
    · rw [exec_meshLaneSwitch, Dev.meshSwitch_retire hn hrep hspare rfl hnew rfl hmore]
      rfl

end Sys2Proof.Machine
end

section
/-! What an operation writes: the register fields that may change from a device to a later one, all others, the events raised
and what has left the block staying in their place. -/
namespace Sys2Proof.Machine

/-! ## Fields that share no bit -/

/-- Two register fields share no bit. -/
abbrev Fld.Apart (g f : Fld) : Prop := g.reg ≠ f.reg ∨ g.hi < f.lo ∨ f.hi < g.lo

/-- A field of one word that shares no bit with any of a list. -/
abbrev Fld.Clear (g : Fld) (l : List Fld) : Prop := g.lo ≤ g.hi ∧ g.hi / 32 = g.lo / 32 ∧ ∀ f ∈ l, g.Apart f

/-- Word 0 of a register. -/
abbrev Reg.word (r : Reg) : Fld := ⟨r, 31, 0⟩

/-- Words 0 and 1 of a register. -/
abbrev Reg.pair (r : Reg) : Fld := ⟨r, 63, 0⟩

theorem Dev.get_word (d : Dev) (r : Reg) (i : Nat) : d.get r.word i = (d.rd r i).toNat := by
  simp [Dev.get_one d (f := r.word) ⟨by simp, by simp⟩, bitsOf, Nat.mod_eq_of_lt (d.rd r i 0).isLt]

theorem Dev.get_set_apart (d : Dev) {f g : Fld} (hf : f.One) (hg : g.One) (h : g.Apart f) (i j v : Nat) :
    (d.set f i v).get g j = d.get g j := by
  by_cases hsame : g.reg = f.reg ∧ j = i ∧ g.lo / 32 = f.lo / 32
  · obtain ⟨hreg, rfl, hword⟩ := hsame
    exact d.get_set_bits hf hg j v hreg hword (h.resolve_left (absurd hreg))
  · exact d.get_set_word hf hg v hsame

/-- A field outside the words stored reads as before. -/
theorem Dev.get_wrWide_apart (d : Dev) {r : Reg} {g : Fld} (hg : g.One) (i a v n j : Nat)
    (h : ¬(g.reg = r ∧ a ≤ g.lo / 32 ∧ g.lo / 32 < a + n)) : (d.wrWide r i a v n).get g j = d.get g j := by
  rw [Dev.get_one _ hg, Dev.get_one _ hg, Dev.rd_wrWide_ne _ _ fun ⟨hr, _, ha⟩ => h ⟨hr, ha⟩]

/-! ## The frame of an operation -/

/-- From `d` to `e` no register field changes but those listed, and what was raised and what had left the block stay. -/
structure Dev.Writes (l : List Fld) (d e : Dev) : Prop where
  /-- a field apart from those listed -/
  get : ∀ {g : Fld}, g.Clear l → ∀ j, e.get g j = d.get g j
  /-- events raised -/
  raised : d.raised <+: e.raised
  /-- what has left the block -/
  out : d.out <+: e.out

namespace Dev.Writes

variable {l m : List Fld} {a b c d e : Dev}

theorem bit (h : Writes l d e) {g : Fld} (hg : g.Clear l) (j : Nat) : e.bit g j = d.bit g j := by
  simp only [Dev.bit, h.get hg]

theorem rd (h : Writes l d e) {r : Reg} (hr : r.word.Clear l) (j : Nat) : e.rd r j = d.rd r j := by
  apply BitVec.eq_of_toNat_eq
  rw [← Dev.get_word, ← Dev.get_word, h.get hr]

/-- An operation that leaves the registers, the events raised and what has left the block. -/
theorem same (hr : e.regs = d.regs) (hv : e.raised = d.raised) (ho : e.out = d.out) : Writes l d e where
  get _ := Dev.get_congr d e hr _
  raised := hv ▸ List.prefix_rfl
  out := ho ▸ List.prefix_rfl

theorem refl (d : Dev) : Writes l d d := same rfl rfl rfl

theorem mono (h : Writes l d e) (hl : l ⊆ m) : Writes m d e where
  get hg := h.get ⟨hg.1, hg.2.1, fun f hf => hg.2.2 f (hl hf)⟩
  raised := h.raised
  out := h.out

theorem trans (h : Writes l a b) (k : Writes l b c) : Writes l a c where
  get hg j := (k.get hg j).trans (h.get hg j)
  raised := h.raised.trans k.raised
  out := h.out.trans k.out

theorem ite {p : Prop} [Decidable p] (ha : p → Writes l d a) (hb : ¬p → Writes l d b) :
    Writes l d (if p then a else b) := by
  split
  · exact ha ‹_›
  · exact hb ‹_›

theorem each {α : Type} (x : List α) {f : Dev → α → Dev} (h : ∀ e a, Writes l e (f e a)) : Writes l d (d.each x f) := by
  induction x generalizing d with
  | nil => exact refl d
  | cons y x ih => exact (h d y).trans ih

/-! ### Stores -/

theorem wrWide {r : Reg} {i w v n : Nat} (h : (⟨r, 32 * (w + n) - 1, 32 * w⟩ : Fld) ∈ l) : Writes l d (d.wrWide r i w v n) where
  get := by
    intro g hg j
    obtain ⟨hle, hword, hapart⟩ := hg
    refine Dev.get_wrWide_apart d ⟨hle, hword⟩ i w v n j fun ⟨hreg, hlow, hhigh⟩ => ?_
    have hout : g.hi < 32 * w ∨ 32 * (w + n) - 1 < g.lo := (hapart _ h).resolve_left (absurd hreg)
    omega
  raised := by rw [Dev.wrWide_raised]
  out := by rw [Dev.wrWide_out]

theorem set {f : Fld} {i v : Nat} (hf : f.lo ≤ f.hi ∧ f.hi / 32 = f.lo / 32 ∧ f ∈ l) : Writes l d (d.set f i v) where
  get hg j := d.get_set_apart ⟨hf.1, hf.2.1⟩ ⟨hg.1, hg.2.1⟩ (hg.2.2 f hf.2.2) i j v
  raised := by rw [Dev.set_raised]
  out := by rw [Dev.set_out]

theorem setB {f : Fld} {i : Nat} {x : Bool} (hf : f.lo ≤ f.hi ∧ f.hi / 32 = f.lo / 32 ∧ f ∈ l) : Writes l d (d.setB f i x) :=
  set hf

theorem add {r : Reg} {i n : Nat} (h : r.word ∈ l) : Writes l d (d.add r i n) := wrWide (n := 1) (w := 0) h

theorem count {r : Reg} {i : Nat} (h : r.word ∈ l) : Writes l d (d.count r i) := add h

theorem addWrap64 {r : Reg} {i n : Nat} (h : r.pair ∈ l) : Writes l d (d.addWrap64 r i n) := wrWide (n := 2) (w := 0) h

theorem updLp {n : Nat} {f : Lp → Lp} : Writes l d (d.updLp n f) := same rfl rfl rfl

theorem updLane {n : Nat} {f : LaneSt → LaneSt} : Writes l d (d.updLane n f) := same rfl rfl rfl

theorem updCore {f : CoreSt → CoreSt} : Writes l d (d.updCore f) := same rfl rfl rfl

theorem updRing {x : Nat} {f : RingSt → RingSt} : Writes l d (d.updRing x f) := same rfl rfl rfl

theorem raise {u k i j : Nat} : Writes l d (d.raise u k i j) where
  get _ := d.raise_get u k i j _
  raised := List.prefix_append ..
  out := List.prefix_rfl

theorem emit {o : Out} : Writes l d (d.emit o) where
  get _ := d.emit_get o _
  raised := List.prefix_rfl
  out := List.prefix_append ..

end Dev.Writes

/-! ## Records of logical ports and lanes -/

@[simp] theorem Dev.lp_updLp_same (d : Dev) (n : Nat) (f : Lp → Lp) : (d.updLp n f).lp n = f (d.lp n) := Tbl.at_put_same ..

theorem Dev.lp_updLp_ne (d : Dev) {n m : Nat} (f : Lp → Lp) (h : m ≠ n) : (d.updLp n f).lp m = d.lp m :=
  Tbl.at_put_ne _ _ _ _ h

/-- What a change of a logical port's record keeps of each record, it keeps at every port. -/
theorem Dev.lp_updLp_keeps {β : Type} (g : Lp → β) (d : Dev) (n m : Nat) {f : Lp → Lp} (h : ∀ x, g (f x) = g x) :
    g ((d.updLp n f).lp m) = g (d.lp m) := by
  by_cases hm : m = n
  · rw [hm, Dev.lp_updLp_same, h]
  · rw [Dev.lp_updLp_ne d f hm]

theorem Dev.lp_congr {d e : Dev} (h : e.lps = d.lps) (n : Nat) : e.lp n = d.lp n := by simp only [Dev.lp, h]

@[simp] theorem Dev.lp_set (d : Dev) (f : Fld) (i v n : Nat) : (d.set f i v).lp n = d.lp n := Dev.lp_congr (d.set_lps f i v) n

@[simp] theorem Dev.lp_setB (d : Dev) (f : Fld) (i : Nat) (b : Bool) (n : Nat) : (d.setB f i b).lp n = d.lp n :=
  d.lp_set f i b.toNat n

@[simp] theorem Dev.lp_count (d : Dev) (r : Reg) (i n : Nat) : (d.count r i).lp n = d.lp n := rfl

@[simp] theorem Dev.lp_raise (d : Dev) (u k i j n : Nat) : (d.raise u k i j).lp n = d.lp n := rfl

@[simp] theorem Dev.lp_updLane (d : Dev) (m : Nat) (f : LaneSt → LaneSt) (n : Nat) : (d.updLane m f).lp n = d.lp n := rfl

/-! ## Pulse events -/

/-- The counters that a pulse event adds to. -/
abbrev pulseFields : List Fld := [Reg.XBAR_PMC_VAL.pair, Reg.CAB_PMC_VAL.pair]

theorem Dev.pmcAdd_writes (d : Dev) (n k m : Nat) : d.Writes pulseFields (d.pmcAdd n k m) := by
  unfold Dev.pmcAdd
  split
  · exact .addWrap64 (by simp)
  · exact .addWrap64 (by simp)

theorem Dev.pulse_writes (d : Dev) (n e m : Nat) (sel cls job : Option Nat) :
    d.Writes pulseFields (d.pulse n e m sel cls job) := by
  refine .ite (fun _ => .refl d) fun _ => .each _ fun x k => .ite (fun _ => ?_) fun _ => .refl x
  split
  · exact x.pmcAdd_writes n k m
  · exact .same rfl rfl rfl
  · exact .refl x

end Sys2Proof.Machine
end

section
/-! Lane maps and lane-control transactions (R31 to R34, R61 to R66): what reading a role or a position returns after a change
of the map, what opening and closing a transaction writes, and which of the link's records they leave. -/
namespace Sys2Proof.Machine

/-! ## Roles and positions -/

/-- The role fields of a lane. -/
abbrev roleFields : List Fld := [F.LNK_LANE_CFG.TX_ROLE, F.LNK_LANE_CFG.RX_ROLE]

/-- The position fields of a lane. -/
abbrev posFields : List Fld := [F.LNK_LANE_CFG.TX_POS, F.LNK_LANE_CFG.RX_POS]

/-- The lane map. -/
abbrev mapFields : List Fld := roleFields ++ posFields

theorem roleField_one (rx : Bool) : Fld.One (if rx then F.LNK_LANE_CFG.RX_ROLE else F.LNK_LANE_CFG.TX_ROLE) := by
  cases rx <;> exact ⟨by decide, by decide⟩

theorem posField_one (rx : Bool) : Fld.One (if rx then F.LNK_LANE_CFG.RX_POS else F.LNK_LANE_CFG.TX_POS) := by
  cases rx <;> exact ⟨by decide, by decide⟩

theorem laneIx_inj {port i j : Nat} : laneIx port i = laneIx port j ↔ i = j := by simp [laneIx]

/-- The lane map sees the register words of LNK_LANE_CFG alone. -/
theorem Dev.role_of_rd {d e : Dev} (h : ∀ i, e.rd .LNK_LANE_CFG i = d.rd .LNK_LANE_CFG i) (port lane : Nat) (rx : Bool) :
    e.role port lane rx = d.role port lane rx ∧ e.pos port lane rx = d.pos port lane rx := by
  have hget : ∀ f : Fld, f.One → f.reg = .LNK_LANE_CFG → f.lo / 32 = 0 → ∀ i, e.get f i = d.get f i := by
    intro f hone hreg hword i
    rw [Dev.get_one _ hone, Dev.get_one _ hone, hreg, hword, h]
  cases rx <;> exact ⟨hget _ ⟨by decide, by decide⟩ rfl rfl _, hget _ ⟨by decide, by decide⟩ rfl rfl _⟩

theorem Dev.Writes.role {l : List Fld} {d e : Dev} (h : Dev.Writes l d e) (hl : Reg.LNK_LANE_CFG.word.Clear l)
    (port lane : Nat) (rx : Bool) : e.role port lane rx = d.role port lane rx ∧ e.pos port lane rx = d.pos port lane rx :=
  Dev.role_of_rd (h.rd hl) port lane rx

@[simp] theorem Dev.role_updLane (d : Dev) (n : Nat) (f : LaneSt → LaneSt) (port lane : Nat) (rx : Bool) :
    (d.updLane n f).role port lane rx = d.role port lane rx := d.updLane_get ..

@[simp] theorem Dev.pos_updLane (d : Dev) (n : Nat) (f : LaneSt → LaneSt) (port lane : Nat) (rx : Bool) :
    (d.updLane n f).pos port lane rx = d.pos port lane rx := d.updLane_get ..

theorem Dev.role_setRole_same (d : Dev) (port lane : Nat) (rx : Bool) {r : Nat} (h : r < 8) :
    (d.setRole port lane rx r).role port lane rx = r := by
  refine (d.get_set_same (roleField_one rx) _ r).trans ?_
  cases rx <;> exact Nat.mod_eq_of_lt h

theorem Dev.role_setRole_ne (d : Dev) (port : Nat) {i j : Nat} (rx : Bool) (r : Nat) (h : i ≠ j) :
    (d.setRole port j rx r).role port i rx = d.role port i rx :=
  d.get_set_word (roleField_one rx) (roleField_one rx) r fun ⟨_, hix, _⟩ => h (laneIx_inj.1 hix)

@[simp] theorem Dev.pos_setRole (d : Dev) (port i j : Nat) (rx : Bool) (r : Nat) :
    (d.setRole port j rx r).pos port i rx = d.pos port i rx := by
  cases rx <;> exact d.get_set_apart (roleField_one _) (posField_one _) (by decide) _ _ _

@[simp] theorem Dev.role_setPos (d : Dev) (port i j : Nat) (rx : Bool) (p : Nat) :
    (d.setPos port j rx p).role port i rx = d.role port i rx := by
  cases rx <;> exact d.get_set_apart (posField_one _) (roleField_one _) (by decide) _ _ _

theorem Dev.pos_setPos_same (d : Dev) (port lane : Nat) (rx : Bool) {p : Nat} (h : p < 16) :
    (d.setPos port lane rx p).pos port lane rx = p := by
  refine (d.get_set_same (posField_one rx) _ p).trans ?_
  cases rx <;> exact Nat.mod_eq_of_lt h

theorem Dev.pos_lt (d : Dev) (port lane : Nat) (rx : Bool) : d.pos port lane rx < 16 := by
  cases rx <;> exact d.get_lt (by decide) _

theorem lpSub_lt (lp : Nat) : lpSub lp < 4 := Nat.mod_lt _ (by decide)

theorem Dev.setRole_writes (d : Dev) (port lane : Nat) (rx : Bool) (r : Nat) :
    d.Writes roleFields (d.setRole port lane rx r) := by
  cases rx <;> exact .set (by decide)

theorem Dev.setPos_writes (d : Dev) (port lane : Nat) (rx : Bool) (p : Nat) :
    d.Writes posFields (d.setPos port lane rx p) := by
  cases rx <;> exact .set (by decide)

@[simp] theorem Dev.setRole_lps (d : Dev) (port lane : Nat) (rx : Bool) (r : Nat) :
    (d.setRole port lane rx r).lps = d.lps := d.set_lps ..

@[simp] theorem Dev.setPos_lps (d : Dev) (port lane : Nat) (rx : Bool) (p : Nat) :
    (d.setPos port lane rx p).lps = d.lps := d.set_lps ..

/-! ## Positions given up -/

theorem Dev.closeGap_writes (d : Dev) (lp : Nat) (rx : Bool) (p : Nat) : d.Writes posFields (d.closeGap lp rx p) :=
  .each _ fun e _ => .ite (fun _ => e.setPos_writes ..) fun _ => .refl e

@[simp] theorem Dev.closeGap_lps (d : Dev) (lp : Nat) (rx : Bool) (p : Nat) : (d.closeGap lp rx p).lps = d.lps :=
  Dev.each_keeps Dev.lps d _ fun e j => by
    split
    · exact e.setPos_lps ..
    · rfl

theorem Dev.giveUp_writes (d : Dev) (lp lane : Nat) (rx : Bool) : d.Writes posFields (d.giveUp lp lane rx) :=
  Dev.Writes.updLane.trans (Dev.closeGap_writes ..)

@[simp] theorem Dev.giveUp_lps (d : Dev) (lp lane : Nat) (rx : Bool) : (d.giveUp lp lane rx).lps = d.lps :=
  Dev.closeGap_lps ..

theorem Dev.releaseHeld_writes (d : Dev) (lp : Nat) : d.Writes posFields (d.releaseHeld lp) :=
  (Dev.Writes.each _ fun e j => e.giveUp_writes lp j false).trans (.each _ fun e j => e.giveUp_writes lp j true)

@[simp] theorem Dev.releaseHeld_lps (d : Dev) (lp : Nat) : (d.releaseHeld lp).lps = d.lps :=
  (Dev.each_keeps Dev.lps _ _ fun e j => e.giveUp_lps lp j true).trans
    (Dev.each_keeps Dev.lps d _ fun e j => e.giveUp_lps lp j false)

/-! ## Positions moved, dropped and added -/

theorem Dev.movePos_writes (d : Dev) (lp lane spare reason : Nat) (rx : Bool) :
    d.Writes mapFields (d.movePos lp lane spare reason rx) := by
  refine .trans (b := (d.setRole (lpPort lp) spare rx (lpSub lp)).setPos (lpPort lp) spare rx (d.pos (lpPort lp) lane rx)) ?_
    (.trans (.ite (fun _ => (Dev.setRole_writes ..).mono (by simp)) fun _ => .refl _) .updLane)
  exact ((Dev.setRole_writes ..).mono (by simp)).trans ((Dev.setPos_writes ..).mono (by simp))

@[simp] theorem Dev.movePos_lps (d : Dev) (lp lane spare reason : Nat) (rx : Bool) :
    (d.movePos lp lane spare reason rx).lps = d.lps := by
  simp only [Dev.movePos, Dev.updLane_lps]
  split <;> simp only [Dev.setRole_lps, Dev.setPos_lps]

/-- The role and the position that a spare takes; another lane that is not the one replaced keeps its role. -/
theorem Dev.movePos_spare (d : Dev) (lp : Nat) {lane spare : Nat} (reason : Nat) (rx : Bool) (h : lane ≠ spare) :
    (d.movePos lp lane spare reason rx).role (lpPort lp) spare rx = lpSub lp ∧
    (d.movePos lp lane spare reason rx).pos (lpPort lp) spare rx = d.pos (lpPort lp) lane rx := by
  have hsub : lpSub lp < 8 := (lpSub_lt lp).trans (by decide)
  have hrole := d.role_setRole_same (lpPort lp) spare rx hsub
  have hpos := (d.setRole (lpPort lp) spare rx (lpSub lp)).pos_setPos_same (lpPort lp) spare rx (d.pos_lt (lpPort lp) lane rx)
  simp only [Dev.movePos, Dev.role_updLane, Dev.pos_updLane]
  split
  · rw [Dev.role_setRole_ne _ _ _ _ (Ne.symm h), Dev.pos_setRole, Dev.role_setPos]
    exact ⟨hrole, hpos⟩
  · rw [Dev.role_setPos]
    exact ⟨hrole, hpos⟩

theorem Dev.dropPos_writes (d : Dev) (lp lane reason : Nat) (rx : Bool) :
    d.Writes mapFields (d.dropPos lp lane reason rx) :=
  .trans (.ite (fun _ => (Dev.setRole_writes ..).mono (by simp)) fun _ => .refl _)
    (.trans ((Dev.giveUp_writes ..).mono (by simp)) .updLane)

theorem Dev.addPos_writes (d : Dev) (lp lane : Nat) (rx : Bool) : d.Writes mapFields (d.addPos lp lane rx) :=
  (((Dev.setRole_writes ..).mono (by simp)).trans ((Dev.setPos_writes ..).mono (by simp))).trans .updLane

/-! ## Opening and closing a transaction -/

/-- The field that shows an open transaction. -/
abbrev busyFields : List Fld := [F.LNK_LP_STATE.SWAP_BUSY]

theorem Dev.showBusy_writes (d : Dev) (lp : Nat) : d.Writes busyFields (d.showBusy lp) := .setB (by decide)

@[simp] theorem Dev.lp_showBusy (d : Dev) (lp n : Nat) : (d.showBusy lp).lp n = d.lp n := Dev.lp_setB ..

theorem Dev.bit_setB_same (d : Dev) {f : Fld} (h : f.One) (hw : f.hi = f.lo) (i : Nat) (b : Bool) : (d.setB f i b).bit f i = b := by
  have hread : (d.setB f i b).get f i = b.toNat := by
    refine (d.get_set_same h i b.toNat).trans (Nat.mod_eq_of_lt ?_)
    have hbit : b.toNat < 2 := b.toNat_lt
    simpa [hw] using hbit
  rw [Dev.bit, hread]
  cases b <;> rfl

/-- SWAP_BUSY reads whether a transaction of either direction is open. -/
theorem Dev.bit_showBusy (d : Dev) (lp : Nat) :
    (d.showBusy lp).bit F.LNK_LP_STATE.SWAP_BUSY lp = ((d.lp lp).txTxn.isSome || (d.lp lp).rxTxn.isSome) :=
  d.bit_setB_same ⟨by decide, by decide⟩ rfl lp _

theorem Dev.openTxn_writes (d : Dev) (lp op lane spare reason : Nat) (mgmt : Bool) :
    d.Writes busyFields (d.openTxn lp op lane spare reason mgmt) :=
  .ite (fun _ => .updLp) fun _ => Dev.Writes.updLp.trans (Dev.showBusy_writes ..)

theorem Dev.txAgain_writes (d : Dev) (lp lane reason : Nat) : d.Writes busyFields (d.txAgain lp lane reason) := by
  refine .ite (fun _ => .refl d) fun _ => ?_
  split
  · exact d.openTxn_writes ..
  · exact .ite (fun _ => .updLp) fun _ => d.openTxn_writes ..

theorem Dev.nextTodo_writes (d : Dev) (lp : Nat) : d.Writes busyFields (d.nextTodo lp) := by
  refine .ite (fun _ => .refl d) fun _ => ?_
  split
  · exact .refl d
  · exact Dev.Writes.updLp.trans (.ite (fun _ => Dev.txAgain_writes ..) fun _ => Dev.openTxn_writes ..)

theorem Dev.endRotation_writes {l : List Fld} (d : Dev) (port lane : Nat) : d.Writes l (d.endRotation port lane) :=
  .ite (fun _ => .same rfl rfl rfl) fun _ => .refl d

@[simp] theorem Dev.lp_endRotation (d : Dev) (port lane n : Nat) : (d.endRotation port lane).lp n = d.lp n := by
  unfold Dev.endRotation
  split <;> rfl

theorem Dev.closeTx_writes (d : Dev) (lp : Nat) : d.Writes busyFields (d.closeTx lp) := by
  unfold Dev.closeTx
  split
  · exact .refl d
  · exact (((d.endRotation_writes ..).trans .updLp).trans (Dev.showBusy_writes ..)).trans (Dev.nextTodo_writes ..)

/-- Where nothing waits, no transaction is open once the open one is closed. -/
theorem Dev.closeTx_none {d : Dev} {lp : Nat} (h : (d.lp lp).todo = []) : ((d.closeTx lp).lp lp).txTxn = none := by
  unfold Dev.closeTx
  split
  · assumption
  · simp [Dev.nextTodo, h]

/-- The fields that the end of a transaction writes. -/
abbrev finishFields : List Fld := [F.LNK_SWAP_CMD.RESULT, F.LNK_SWAP_CMD.GO, F.LNK_LP_STATE.SWAP_BUSY]

theorem Dev.finishTx_writes (d : Dev) (lp status : Nat) : d.Writes finishFields (d.finishTx lp status) :=
  (Dev.Writes.set (by decide)).trans <|
    (Dev.Writes.ite (fun _ => .setB (by decide)) fun _ => .refl _).trans <|
      (Dev.closeTx_writes ..).mono (by decide)

/-! ## Spares known qualified -/

@[simp] theorem Dev.openTxn_spareOk (d : Dev) (lp op lane spare reason : Nat) (mgmt : Bool) (n : Nat) :
    ((d.openTxn lp op lane spare reason mgmt).lp n).spareOk = (d.lp n).spareOk := by
  simp only [Dev.openTxn]
  split
  · exact Dev.lp_updLp_keeps Lp.spareOk _ _ _ fun _ => rfl
  · rw [Dev.lp_showBusy]
    exact Dev.lp_updLp_keeps Lp.spareOk _ _ _ fun _ => rfl

@[simp] theorem Dev.txAgain_spareOk (d : Dev) (lp lane reason n : Nat) :
    ((d.txAgain lp lane reason).lp n).spareOk = (d.lp n).spareOk := by
  simp only [Dev.txAgain]
  split
  · rfl
  · split
    · exact d.openTxn_spareOk ..
    · split
      · exact Dev.lp_updLp_keeps Lp.spareOk _ _ _ fun _ => rfl
      · exact d.openTxn_spareOk ..

@[simp] theorem Dev.nextTodo_spareOk (d : Dev) (lp n : Nat) : ((d.nextTodo lp).lp n).spareOk = (d.lp n).spareOk := by
  have htaken : ∀ rest, ((d.updLp lp fun l => { l with todo := rest }).lp n).spareOk = (d.lp n).spareOk :=
    fun rest => Dev.lp_updLp_keeps Lp.spareOk _ _ _ fun _ => rfl
  simp only [Dev.nextTodo]
  split
  · rfl
  · split
    · rfl
    · split
      · rw [Dev.txAgain_spareOk, htaken]
      · rw [Dev.openTxn_spareOk, htaken]

end Sys2Proof.Machine
end

section
/-! Leaving and entering the link states (R31, R55, R58, R60, R73, R425): what a logical port that goes to DOWN or FAULT, to
RETRAIN or to ACTIVE writes, and what it keeps. -/
namespace Sys2Proof.Machine

/-! ## Frames discarded -/

theorem Dev.returnCredit_writes {l : List Fld} (d : Dev) (die src ci n : Nat) : d.Writes l (d.returnCredit die src ci n) :=
  .ite (fun _ => .refl d) fun _ => .ite (fun _ => .updLp) fun _ => .ite (fun _ => .updCore) fun _ => .refl d

/-- What the discard of frames writes. -/
abbrev discardFields : List Fld :=
  [F.XBAR_SHARED_USED.CELLS, Reg.XBAR_POISON.word, Reg.XBAR_LINK_DROP.word, Reg.LNK_DOWN_DROP.word]

theorem Dev.freeCells_writes (d : Dev) (die src ci k r c : Nat) : d.Writes discardFields (d.freeCells die src ci k r c) :=
  (Dev.Writes.updCore.trans (.set (by decide))).trans (Dev.returnCredit_writes ..)

theorem Dev.removeFrm_writes (d : Dev) (fid : Nat) : d.Writes discardFields (d.removeFrm fid) := by
  unfold Dev.removeFrm
  split
  · exact .refl d
  · exact (Dev.Writes.ite (fun _ => .refl d) fun _ => d.freeCells_writes ..).trans
      (.trans .updCore (.trans .updCore .updCore))

theorem Dev.cutFrm_writes (d : Dev) (fid : Nat) : d.Writes discardFields (d.cutFrm fid) := by
  unfold Dev.cutFrm
  split
  · exact .refl d
  · exact .ite (fun _ => .updCore) fun _ => d.removeFrm_writes fid

theorem Dev.orphans_writes (d : Dev) (link : Bool) : d.Writes discardFields (d.orphans link) :=
  .each _ fun _ _ => .each _ fun _ _ =>
    (Dev.Writes.ite (fun _ => .add (by decide)) fun _ => .count (by decide)).trans (Dev.cutFrm_writes ..)

theorem Dev.rxCut_writes (d : Dev) (lp cls : Nat) : d.Writes discardFields (d.rxCut lp cls) := by
  unfold Dev.rxCut
  split
  · exact .refl d
  · refine .trans (.each _ fun e _ => ?_) (Dev.orphans_writes ..)
    split
    · exact .updCore
    · exact .refl e

theorem Dev.lpDiscard_writes (d : Dev) (lp : Nat) : d.Writes discardFields (d.lpDiscard lp) :=
  (Dev.Writes.each _ fun _ _ => .trans (.each _ fun e _ => e.removeFrm_writes _) (.add (by decide))).trans
    (.each _ fun e _ => .ite (fun _ => .refl e) fun _ => (e.rxCut_writes ..).trans (.count (by decide)))

/-! ## DOWN and FAULT -/

/-- The queued frames of a logical port that goes down are discarded, and in DOWN the averages of its queues are 0. -/
def Dev.downDiscard (d : Dev) (lp st : Nat) : Dev :=
  let e := if upState (d.lpState lp) then d.lpDiscard lp else d
  if st = 0 then e.clearAvg lp else e

/-- The swap command and the rotations of a logical port that goes down are over. -/
def Dev.swapsEnd (d : Dev) (lp : Nat) : Dev :=
  let e := if (d.lp lp).mgmt then d.setB F.LNK_SWAP_CMD.GO (lpPort lp) false else d
  e.each (e.lpLanes lp false) fun e j => e.endRotation (lpPort lp) j

/-- LNK_LP_STATE of a logical port in DOWN or FAULT. -/
def Dev.showDown (d : Dev) (lp st : Nat) : Dev :=
  (((d.lpGo lp st).set F.LNK_LP_STATE.ACTIVE_LANES lp 0).setB F.LNK_LP_STATE.SWAP_BUSY lp false).setB F.LNK_LP_STATE.EXT_ON lp
    false

/-- The learned entries of a logical port that goes down are flushed, FAULT is raised, and a waiting breakout may apply. -/
def Dev.downEnd (d : Dev) (lp st : Nat) : Dev :=
  let e := d.learnFlush lp
  (if st = 8 then e.portEvent lp else e).breakoutApply (lpPort lp)

theorem Dev.linkDown_eq (d : Dev) (lp st : Nat) : d.linkDown lp st =
    ((((((d.downDiscard lp st).swapsEnd lp).updLp lp Lp.kept).releaseHeld lp).showDown lp st).downEnd lp st) := rfl

/-- What follows DOWN or FAULT shown: the counts of flushed entries, and the lanes that a new breakout sets. -/
abbrev endFields : List Fld := [Reg.FWD_AGE_REMOVE.word, F.LNK_LP_STATE.NOMINAL_LANES]

theorem Dev.learnFlush_writes (d : Dev) (lp : Nat) : d.Writes endFields (d.learnFlush lp) := by
  refine .each _ fun e x => .trans (b := e.learnChange (learnOwner x.2.vid x.2.mac) x.1 none) (.same rfl rfl rfl) ?_
  exact .count (by decide)

@[simp] theorem Dev.learnFlush_lps (d : Dev) (lp : Nat) : (d.learnFlush lp).lps = d.lps :=
  Dev.each_keeps Dev.lps d _ fun _ _ => rfl

theorem Dev.breakoutApply_writes (d : Dev) (port : Nat) : d.Writes endFields (d.breakoutApply port) :=
  .ite (fun _ => Dev.Writes.updCore.trans (.each _ fun _ _ => .set (by decide))) fun _ => .refl d

@[simp] theorem Dev.breakoutApply_lps (d : Dev) (port : Nat) : (d.breakoutApply port).lps = d.lps := by
  simp only [Dev.breakoutApply]
  split
  · exact (Dev.each_keeps Dev.lps _ _ fun e _ => e.set_lps ..).trans (Dev.updCore_lps ..)
  · rfl

theorem Dev.downEnd_writes (d : Dev) (lp st : Nat) : d.Writes endFields (d.downEnd lp st) :=
  ((d.learnFlush_writes lp).trans (.ite (fun _ => .raise) fun _ => .refl _)).trans (Dev.breakoutApply_writes ..)

@[simp] theorem Dev.downEnd_lps (d : Dev) (lp st : Nat) : (d.downEnd lp st).lps = d.lps := by
  rw [Dev.downEnd, Dev.breakoutApply_lps]
  split
  · exact d.learnFlush_lps lp
  · exact d.learnFlush_lps lp

/-- What a logical port that goes down writes. -/
abbrev downFields : List Fld :=
  discardFields ++ posFields ++ endFields ++ [F.LNK_LP_STATE.STATE, F.LNK_LP_STATE.ACTIVE_LANES, F.LNK_LP_STATE.SWAP_BUSY,
    F.LNK_LP_STATE.EXT_ON, F.LNK_SWAP_CMD.GO]

theorem Dev.downDiscard_writes (d : Dev) (lp st : Nat) : d.Writes discardFields (d.downDiscard lp st) :=
  (Dev.Writes.ite (fun _ => d.lpDiscard_writes lp) fun _ => .refl d).trans
    (.ite (fun _ => .each _ fun _ _ => .updCore) fun _ => .refl _)

theorem Dev.swapsEnd_writes (d : Dev) (lp : Nat) : d.Writes [F.LNK_SWAP_CMD.GO] (d.swapsEnd lp) :=
  (Dev.Writes.ite (fun _ => .setB (by decide)) fun _ => .refl d).trans (.each _ fun _ _ => Dev.endRotation_writes ..)

theorem Dev.showDown_writes (d : Dev) (lp st : Nat) : d.Writes downFields (d.showDown lp st) :=
  (((Dev.Writes.set (by decide)).trans (.set (by decide))).trans (.setB (by decide))).trans (.setB (by decide))

@[simp] theorem Dev.showDown_lps (d : Dev) (lp st : Nat) : (d.showDown lp st).lps = d.lps := by
  simp only [Dev.showDown, Dev.lpGo, Dev.setB_lps, Dev.set_lps]

theorem Dev.linkDown_writes (d : Dev) (lp st : Nat) : d.Writes downFields (d.linkDown lp st) := by
  rw [Dev.linkDown_eq]
  have hleft : d.Writes downFields ((((d.downDiscard lp st).swapsEnd lp).updLp lp Lp.kept).releaseHeld lp) :=
    ((((d.downDiscard_writes lp st).mono (by decide)).trans ((Dev.swapsEnd_writes ..).mono (by decide))).trans .updLp).trans
      ((Dev.releaseHeld_writes ..).mono (by decide))
  exact (hleft.trans (Dev.showDown_writes ..)).trans ((Dev.downEnd_writes ..).mono (by decide))

/-- What a logical port in DOWN or FAULT keeps of its record. -/
theorem Dev.lp_linkDown (d : Dev) (lp st : Nat) :
    (d.linkDown lp st).lp lp = (((d.downDiscard lp st).swapsEnd lp).lp lp).kept := by
  rw [Dev.linkDown_eq, Dev.lp_congr (Dev.downEnd_lps ..), Dev.lp_congr (Dev.showDown_lps ..),
    Dev.lp_congr (Dev.releaseHeld_lps ..), Dev.lp_updLp_same]

theorem Dev.showDown_shows (d : Dev) (lp st : Nat) :
    (d.showDown lp st).lpState lp = st % 16 ∧ (d.showDown lp st).get F.LNK_LP_STATE.ACTIVE_LANES lp = 0 ∧
    (d.showDown lp st).bit F.LNK_LP_STATE.SWAP_BUSY lp = false := by
  have hone : ∀ {f : Fld}, f.reg = .LNK_LP_STATE ∧ f.lo ≤ f.hi ∧ f.hi < 32 → f.One := fun ⟨_, hle, hhi⟩ => ⟨hle, by omega⟩
  refine ⟨?_, ?_, ?_⟩
  · rw [Dev.lpState, Dev.showDown, Dev.setB, Dev.setB, Dev.get_set_apart _ (hone (by decide)) (hone (by decide)) (by decide),
      Dev.get_set_apart _ (hone (by decide)) (hone (by decide)) (by decide),
      Dev.get_set_apart _ (hone (by decide)) (hone (by decide)) (by decide)]
    exact d.get_set_same (hone (by decide)) lp st
  · rw [Dev.showDown, Dev.setB, Dev.setB, Dev.get_set_apart _ (hone (by decide)) (hone (by decide)) (by decide),
      Dev.get_set_apart _ (hone (by decide)) (hone (by decide)) (by decide)]
    exact Dev.get_set_same _ (hone (by decide)) lp 0
  · rw [Dev.showDown, Dev.bit, Dev.setB, Dev.get_set_apart _ (hone (by decide)) (hone (by decide)) (by decide)]
    exact Dev.bit_setB_same _ (hone (by decide)) rfl lp false

/-- A logical port that went down shows its state, no active lane and no open transaction. -/
theorem Dev.linkDown_shows (d : Dev) (lp st : Nat) :
    (d.linkDown lp st).lpState lp = st % 16 ∧ (d.linkDown lp st).get F.LNK_LP_STATE.ACTIVE_LANES lp = 0 ∧
    (d.linkDown lp st).bit F.LNK_LP_STATE.SWAP_BUSY lp = false := by
  rw [Dev.linkDown_eq]
  have hend := Dev.downEnd_writes (((((d.downDiscard lp st).swapsEnd lp).updLp lp Lp.kept).releaseHeld lp).showDown lp st) lp st
  rw [Dev.lpState, hend.get (by decide), hend.get (by decide), hend.bit (by decide)]
  exact Dev.showDown_shows ..

/-! ## RETRAIN -/

/-- The record of a logical port that enters RETRAIN. -/
def Lp.retrained (l : Lp) : Lp :=
  { l.suspendTxn with train := [], trainRx := 0, trainTx := 0, trained := false, farZero := false, resume := true,
                      noProg := 0, rxDisc := false, replayReq := false }

/-- Three good markers of each lane of a logical port are due again. -/
def Dev.markersAgain (d : Dev) (lp : Nat) : Dev :=
  d.each (d.lpLanes lp true) fun d j => d.updLane (laneIx (lpPort lp) j) fun x => { x with good := 0 }

theorem Dev.toRetrain_eq (d : Dev) (lp : Nat) : d.toRetrain lp =
    ((((((d.updLp lp Lp.retrained).markersAgain lp).lpGo lp 7).setB F.LNK_LP_STATE.SWAP_BUSY lp false).count
      .LNK_RETRAIN_CNT lp).portEvent lp) := rfl

@[simp] theorem Dev.markersAgain_lps (d : Dev) (lp : Nat) : (d.markersAgain lp).lps = d.lps :=
  Dev.each_keeps Dev.lps d _ fun _ _ => rfl

@[simp] theorem Dev.markersAgain_core (d : Dev) (lp : Nat) : (d.markersAgain lp).core = d.core :=
  Dev.each_keeps Dev.core d _ fun _ _ => rfl

@[simp] theorem Dev.markersAgain_raised (d : Dev) (lp : Nat) : (d.markersAgain lp).raised = d.raised :=
  Dev.each_keeps Dev.raised d _ fun _ _ => rfl

@[simp] theorem Dev.markersAgain_rd (d : Dev) (lp : Nat) (r : Reg) (i w : Nat) : (d.markersAgain lp).rd r i w = d.rd r i w :=
  Dev.each_keeps (·.rd r i w) d _ fun _ _ => rfl

@[simp] theorem Dev.lp_toRetrain (d : Dev) (lp : Nat) : (d.toRetrain lp).lp lp = (d.lp lp).retrained := by
  rw [Dev.toRetrain_eq, Dev.portEvent, Dev.lp_raise, Dev.lp_count, Dev.lp_setB, Dev.lpGo, Dev.lp_set,
    Dev.lp_congr (Dev.markersAgain_lps ..), Dev.lp_updLp_same]

theorem Dev.toRetrain_state (d : Dev) (lp : Nat) : (d.toRetrain lp).lpState lp = 7 := by
  have hcount : ∀ e : Dev, ((e.count .LNK_RETRAIN_CNT lp).portEvent lp).lpState lp = e.lpState lp := fun e =>
    Dev.get_of_rd fun _ => e.count_rd_reg _ (by decide)
  rw [Dev.toRetrain_eq, hcount, Dev.lpState, Dev.setB, Dev.get_set_apart _ ⟨by decide, by decide⟩ ⟨by decide, by decide⟩ (by decide)]
  exact Dev.get_set_same _ ⟨by decide, by decide⟩ lp 7

/-- A counter that reads the same before it counts reads the same after. -/
theorem Dev.rd_count_congr {d e : Dev} {r : Reg} {i : Nat} (h : e.rd r i = d.rd r i) :
    (e.count r i).rd r i = (d.count r i).rd r i := by
  rw [Dev.rd_count_same, Dev.rd_count_same, h]

theorem Dev.toRetrain_counts (d : Dev) (lp : Nat) :
    (d.toRetrain lp).rd .LNK_RETRAIN_CNT lp = (d.count .LNK_RETRAIN_CNT lp).rd .LNK_RETRAIN_CNT lp := by
  rw [Dev.toRetrain_eq, Dev.portEvent, Dev.raise_rd]
  refine Dev.rd_count_congr ?_
  rw [Dev.setB_rd_reg _ _ _ (by decide), Dev.lpGo, Dev.set_rd_reg _ _ _ (by decide), Dev.markersAgain_rd]
  rfl

theorem Dev.toRetrain_raised (d : Dev) (lp : Nat) :
    (d.toRetrain lp).raised = d.raised ++ [{ src := 16 * (lp / 64) + 7, inst := instLp lp, inst2 := 0 }] := by
  rw [Dev.toRetrain_eq, Dev.portEvent, Dev.raise_raised, Dev.count_raised, Dev.setB_raised, Dev.lpGo, Dev.set_raised,
    Dev.markersAgain_raised, Dev.updLp_raised]

theorem Dev.toRetrain_core (d : Dev) (lp : Nat) : (d.toRetrain lp).core = d.core := by
  rw [Dev.toRetrain_eq, Dev.portEvent, Dev.raise_core, Dev.count_core, Dev.setB_core, Dev.lpGo, Dev.set_core,
    Dev.markersAgain_core, Dev.updLp_core]

/-! ## ACTIVE -/

/-- Unacknowledged flits are replayed on entering ACTIVE: a replay of this sender, counted. -/
def Dev.replayCounted (d : Dev) (lp : Nat) (l : Lp) : Dev :=
  if l.window = [] then d
  else (d.count .LNK_REPLAY_CNT lp).pulse (lp / 64) 0x005 1 (some (lp % 64)) none none

/-- The record of a logical port that enters ACTIVE, and what waited for it started. -/
def Dev.active (d : Dev) (lp : Nat) : Dev :=
  ((d.updLp lp fun l =>
    { l with replay := if l.window = [] then none else some 0, oldest := d.raw, back := false, farZero := false }).showBusy
      lp).nextTodo lp

theorem Dev.enterActive_eq (d : Dev) (lp : Nat) : d.enterActive lp =
    (if (d.lp lp).back then (((d.lpGo lp 4).showLanes lp).replayCounted lp (d.lp lp)).count .LNK_REACQ_SLOW lp
      else ((d.lpGo lp 4).showLanes lp).replayCounted lp (d.lp lp)).active lp := rfl

theorem Dev.active_writes (d : Dev) (lp : Nat) : d.Writes busyFields (d.active lp) :=
  (Dev.Writes.updLp.trans (Dev.showBusy_writes ..)).trans (Dev.nextTodo_writes ..)

/-- What entering ACTIVE counts. -/
abbrev replayFields : List Fld := Reg.LNK_REPLAY_CNT.word :: pulseFields

theorem Dev.replayCounted_writes (d : Dev) (lp : Nat) (l : Lp) : d.Writes replayFields (d.replayCounted lp l) :=
  .ite (fun _ => .refl d) fun _ => (Dev.Writes.count (by decide)).trans ((Dev.pulse_writes ..).mono (by decide))

theorem Dev.shown4_writes (d : Dev) (lp : Nat) :
    d.Writes [F.LNK_LP_STATE.STATE, F.LNK_LP_STATE.ACTIVE_LANES] ((d.lpGo lp 4).showLanes lp) :=
  (Dev.Writes.set (by decide)).trans (.set (by decide))

/-- What entering ACTIVE writes. -/
abbrev activeFields : List Fld :=
  [F.LNK_LP_STATE.STATE, F.LNK_LP_STATE.ACTIVE_LANES, Reg.LNK_REACQ_SLOW.word] ++ busyFields ++ replayFields

theorem Dev.enterActive_writes (d : Dev) (lp : Nat) : d.Writes activeFields (d.enterActive lp) := by
  rw [Dev.enterActive_eq]
  have hentered : d.Writes activeFields (((d.lpGo lp 4).showLanes lp).replayCounted lp (d.lp lp)) :=
    ((d.shown4_writes lp).mono (by decide)).trans ((Dev.replayCounted_writes ..).mono (by decide))
  exact .trans (.ite (fun _ => hentered.trans (.count (by decide))) fun _ => hentered)
    ((Dev.active_writes ..).mono (by decide))

theorem Dev.enterActive_state (d : Dev) (lp : Nat) : (d.enterActive lp).lpState lp = 4 := by
  have hshown : ((d.lpGo lp 4).showLanes lp).lpState lp = 4 :=
    (Dev.get_set_apart _ ⟨by decide, by decide⟩ ⟨by decide, by decide⟩ (by decide) _ _ _).trans
      (d.get_set_same ⟨by decide, by decide⟩ lp 4)
  have hentered := ((d.lpGo lp 4).showLanes lp).replayCounted_writes lp (d.lp lp)
  rw [Dev.enterActive_eq, Dev.lpState, (Dev.active_writes ..).get (by decide)]
  split
  · rw [Dev.get_of_rd fun _ => Dev.count_rd_reg _ _ (by decide), hentered.get (by decide)]
    exact hshown
  · rw [hentered.get (by decide)]
    exact hshown

/-- A return that was not fast is counted, and no other. -/
theorem Dev.enterActive_slow (d : Dev) (lp : Nat) : (d.enterActive lp).rd .LNK_REACQ_SLOW lp =
    (if (d.lp lp).back then d.count .LNK_REACQ_SLOW lp else d).rd .LNK_REACQ_SLOW lp := by
  have hentered : (((d.lpGo lp 4).showLanes lp).replayCounted lp (d.lp lp)).rd .LNK_REACQ_SLOW lp = d.rd .LNK_REACQ_SLOW lp := by
    rw [(Dev.replayCounted_writes ..).rd (by decide), (d.shown4_writes lp).rd (by decide)]
  rw [Dev.enterActive_eq, (Dev.active_writes ..).rd (by decide)]
  split
  · exact Dev.rd_count_congr hentered
  · exact hentered

/-! ## The commands that leave ACTIVE -/

/-- Settles O5 (R55, R58, R60): each command by the law of the state that it enters. -/
theorem linkRetrain : Obligations.LinkRetrain := by
  unfold Obligations.LinkRetrain
  refine ⟨?mismatch, ?slow, ?kept, ?down, ?back⟩
  case mismatch =>
    intro s lp hst
    exact ⟨_, by rw [exec_lmapGenMismatchTimeout, Dev.lmapMismatch, if_pos hst], rfl, Dev.toRetrain_state ..⟩
  case slow =>
    intro s lp hst
    exact ⟨_, by rw [exec_fastReacqTimeout, Dev.fastReacqTimeout, if_pos hst], rfl, Dev.toRetrain_state ..⟩
  case kept =>
    intro d e lp he
    subst he
    refine ⟨d.toRetrain_raised lp, d.toRetrain_counts lp, ?_, ?_, ?_, ?_, by rw [Dev.toRetrain_core]⟩ <;>
      rw [Dev.lp_toRetrain] <;> rfl
  case down =>
    intro s lp hst
    have hshows := s.dev.linkDown_shows lp 0
    refine ⟨_, by rw [exec_retrainTimeout, Dev.retrainTimeout, if_pos hst], rfl, hshows.1, hshows.2.1, ?_⟩
    rw [Dev.lp_linkDown]
    rfl
  case back =>
    intro s lp fast hst hfast
    refine ⟨_, by rw [exec_fastReacquire, Dev.fastReacquire, if_pos ⟨hst, hfast⟩], rfl, Dev.enterActive_state .., ?_⟩
    rw [Dev.enterActive_slow, Dev.lp_updLp_same]
    cases fast <;> rfl

end Sys2Proof.Machine
end

section
/-! Management of a logical port (R31, R33, R55, R73): ADMIN_UP and the lane map. -/
namespace Sys2Proof.Machine

/-! ## Rings -/

/-- What entering a ring state and setting a heater write. -/
abbrev ringFields : List Fld := [F.OE_RING_STAT.STATE, F.LNK_LANE_STAT.RX_LOCK, F.OE_RING_CTL.HEATER]

theorem Dev.ringGo_writes (d : Dev) (x st : Nat) : d.Writes ringFields (d.ringGo x st) :=
  (Dev.Writes.set (by decide)).trans (.ite (fun _ => .setB (by decide)) fun _ => .refl _)

theorem Dev.setHeater_writes (d : Dev) (x : Nat) (h : Int) : d.Writes ringFields (d.setHeater x h) := .set (by decide)

theorem Dev.ringSweep_writes (d : Dev) (x : Nat) : d.Writes ringFields (d.ringSweep x) :=
  (d.ringGo_writes x 2).trans (Dev.setHeater_writes ..)

theorem Dev.ringHold_writes (d : Dev) (x : Nat) : d.Writes ringFields (d.ringHold x) := (d.ringGo_writes x 5).trans .updRing

theorem Dev.ringUnlit_writes (d : Dev) (x : Nat) : d.Writes ringFields (d.ringUnlit x) :=
  .ite (fun _ => (d.ringHold_writes x).trans .updRing) fun _ => .refl d

theorem Dev.ringPreheat_writes (d : Dev) (x : Nat) : d.Writes ringFields (d.ringPreheat x) := by
  refine .ite (fun _ => ?_) fun _ => .refl d
  exact .trans ((d.ringGo_writes x 1).trans .updRing) (.ite (fun _ => .refl _) fun _ => Dev.setHeater_writes ..)

/-! ## ADMIN_UP -/

/-- Disabling a logical port that is not in DOWN takes it there. -/
theorem Dev.adminWrite_down {d e f : Dev} {lp : Nat}
    (he : e = (d.set F.LNK_PORT_CFG.ADMIN_UP (lpPort lp)
      (withBit (d.get F.LNK_PORT_CFG.ADMIN_UP (lpPort lp)) (lpSub lp) false)).heldBack (instLp lp))
    (hf : f = e.updLp lp fun l => { l with forced := e.isOut (instLp lp) }) (hst : f.lpState lp ≠ 0) :
    d.adminWrite lp false =
      ((f.linkDown lp 0).setB F.LNK_LP_STATE.MAP_INVALID lp false).setB F.LNK_LP_STATE.MISMATCH lp false := by
  simp only [Dev.adminWrite, Bool.false_eq_true, if_false, ← he, ← hf, hst]

/-- Enabling a logical port writes its bit and lets it acquire. -/
theorem Dev.adminWrite_up (d : Dev) (lp : Nat) : d.adminWrite lp true =
    (d.set F.LNK_PORT_CFG.ADMIN_UP (lpPort lp)
      (withBit (d.get F.LNK_PORT_CFG.ADMIN_UP (lpPort lp)) (lpSub lp) true)).enableLp lp := rfl

/-- An enabled logical port in DOWN with a valid map, with light and with its engine ready acquires its lanes. -/
theorem Dev.enableLp_ready {d : Dev} {lp : Nat} (hst : d.lpState lp = 0) (hup : d.adminUp lp = true)
    (hforced : (d.lp lp).forced = false) (hmap : d.mapInvalid lp = false)
    (hsub : lpSub lp < lpsOfBreakout (d.breakout (lpPort lp))) (hlight : (d.lp lp).light = true)
    (hready : d.engineReady (lp / 64) = true) :
    d.enableLp lp = (d.tryAcquire lp).set F.LNK_LP_STATE.STATE lp 1 := by
  simp [Dev.enableLp, hst, hup, hforced, hmap, Nat.not_le.2 hsub, hlight, hready, Dev.lpGo]

/-! ## The lane map -/

/-- A lane's entry of the map written, the lane with no position held out of service. -/
def Dev.laneAssigned (d : Dev) (port lane : Nat) (v : Word) : Dev :=
  (d.wr .LNK_LANE_CFG (laneIx port lane) 0 (v &&& 0x7F7F)).updLane (laneIx port lane) fun l =>
    { l with txOut := none, rxOut := none, dropped := false }

/-- A lane-map write is applied where every logical port that the lane serves, or is to serve, is in DOWN. -/
theorem Dev.laneCfgWrite_applied {d e : Dev} {port lane : Nat} {v : Word}
    (hdown : ∀ y, y = d.role port lane false ∨ y = d.role port lane true ∨ y = bitsOf v.toNat 14 12 ∨
      y = bitsOf v.toNat 6 4 → y < 4 → d.lpState (4 * port + y) = 0) (he : e = d.laneAssigned port lane v) :
    d.laneCfgWrite port lane v =
      if e.ringState (ringIx port lane 1) = 5 ∧ (e.ring (ringIx port lane 1)).unlit ∧ bitsOf v.toNat 6 4 < 5 then
        (e.updRing (ringIx port lane 1) fun r => { r with unlit := false }).ringSweep (ringIx port lane 1)
      else e := by
  have hall : (d.laneLps port lane ++ ([bitsOf v.toNat 14 12, bitsOf v.toNat 6 4].filter (· < 4)).map (4 * port + ·)).all
      (fun lp => d.lpState lp == 0) = true := by
    simp only [Dev.laneLps, ← List.map_append, ← List.filter_append, List.all_map, List.all_eq_true, List.mem_filter,
      Function.comp_apply, beq_iff_eq, decide_eq_true_eq]
    intro y ⟨hy, hlt⟩
    refine hdown y ?_ hlt
    simpa [or_assoc] using hy
  subst he
  exact if_pos hall

theorem Dev.rd_laneAssigned (d : Dev) (port lane : Nat) (v : Word) :
    (d.laneAssigned port lane v).rd .LNK_LANE_CFG (laneIx port lane) = v &&& 0x7F7F := by
  rw [Dev.laneAssigned, Dev.updLane_rd, Dev.rd_wr_same]

/-- Settles O6 (R31, R33, R55, R73): ADMIN_UP cleared and set, a lane-map write, and what a port that goes down shows. -/
theorem linkManagement : Obligations.LinkManagement := by
  unfold Obligations.LinkManagement
  refine ⟨?disable, ?enable, ?map, ?down⟩
  case disable =>
    intro s a lp d e hr hd he hst
    rw [exec_adminUpWrite, Dev.onWrite_reaches hr, Dev.adminWrite_down hd he hst]
  case enable =>
    intro s a lp d hr hd hst hup hforced hmap hsub hlight hready
    rw [exec_adminUpWrite, Dev.onWrite_reaches hr, Dev.adminWrite_up, ← hd,
      Dev.enableLp_ready hst hup hforced hmap hsub hlight hready]
  case map =>
    intro s a port lane v d hr hdown hd
    refine ⟨_, by rw [exec_laneCfgWrite, Dev.onWrite_reaches hr, Dev.laneCfgWrite_applied hdown hd], ?_, rfl⟩
    have hkept : d.Writes ringFields (if d.ringState (ringIx port lane 1) = 5 ∧ (d.ring (ringIx port lane 1)).unlit ∧
        bitsOf v.toNat 6 4 < 5 then
        (d.updRing (ringIx port lane 1) fun r => { r with unlit := false }).ringSweep (ringIx port lane 1) else d) :=
      .ite (fun _ => Dev.Writes.updRing.trans (Dev.ringSweep_writes ..)) fun _ => .refl d
    refine (hkept.rd (by decide) _).trans ?_
    rw [hd]
    exact s.dev.rd_laneAssigned port lane v
  case down =>
    intro d e lp st hst he
    subst he
    obtain ⟨hstate, hlanes, hbusy⟩ := d.linkDown_shows lp st
    have hmod : st % 16 = st := by omega
    rw [hstate, hlanes, hbusy, Dev.lp_linkDown, hmod]
    exact ⟨rfl, rfl, rfl, rfl, rfl, rfl⟩

end Sys2Proof.Machine
end

section
/-! Markers and flits received, and replay (R39, R45, R46, R51): which records of the link the bytes of a flit leave as they
enter a class stream, and what each command does with what it receives. -/
namespace Sys2Proof.Machine

/-! ## The class streams leave the acknowledgement -/

section
variable (d : Dev) (n : Nat)

@[simp] theorem Dev.returnCredit_rxAck (die src ci k : Nat) :
    ((d.returnCredit die src ci k).lp n).rxAck = (d.lp n).rxAck := by
  simp only [Dev.returnCredit]
  split
  · rfl
  · split
    · exact Dev.lp_updLp_keeps Lp.rxAck _ _ _ fun _ => rfl
    · split <;> rfl

@[simp] theorem Dev.freeCells_rxAck (die src ci k r c : Nat) :
    ((d.freeCells die src ci k r c).lp n).rxAck = (d.lp n).rxAck := by
  rw [Dev.freeCells, Dev.returnCredit_rxAck, Dev.lp_set]
  rfl

@[simp] theorem Dev.removeFrm_rxAck (fid : Nat) : ((d.removeFrm fid).lp n).rxAck = (d.lp n).rxAck := by
  simp only [Dev.removeFrm]
  split
  · rfl
  · split
    · rfl
    · exact d.freeCells_rxAck n ..

@[simp] theorem Dev.cutFrm_rxAck (fid : Nat) : ((d.cutFrm fid).lp n).rxAck = (d.lp n).rxAck := by
  simp only [Dev.cutFrm]
  split
  · rfl
  · split
    · rfl
    · exact d.removeFrm_rxAck n fid

@[simp] theorem Dev.orphans_rxAck (link : Bool) : ((d.orphans link).lp n).rxAck = (d.lp n).rxAck := by
  refine Dev.each_keeps (fun d => (d.lp n).rxAck) d _ fun e _ =>
    Dev.each_keeps (fun d => (d.lp n).rxAck) e _ fun e x => (Dev.cutFrm_rxAck _ n _).trans ?_
  split <;> rfl

@[simp] theorem Dev.rxCut_rxAck (lp cls : Nat) : ((d.rxCut lp cls).lp n).rxAck = (d.lp n).rxAck := by
  unfold Dev.rxCut
  split
  · rfl
  · rw [Dev.orphans_rxAck]
    refine Dev.each_keeps (fun d => (d.lp n).rxAck) d _ fun e x => ?_
    split <;> rfl

@[simp] theorem Dev.rxPut_rxAck (lp cls : Nat) (r : RxStream) : ((d.rxPut lp cls r).lp n).rxAck = (d.lp n).rxAck :=
  Dev.lp_updLp_keeps Lp.rxAck _ _ _ fun _ => rfl

@[simp] theorem Dev.rxPush_rxAck (lp cls stamp : Nat) (b : List Byte) :
    ((d.rxPush lp cls stamp b).lp n).rxAck = (d.lp n).rxAck :=
  Dev.lp_updLp_keeps Lp.rxAck _ _ _ fun _ => rfl

@[simp] theorem Dev.rxRefund_rxAck (lp cls : Nat) (b : List Byte) (k : Nat) :
    ((d.rxRefund lp cls b k).lp n).rxAck = (d.lp n).rxAck := d.returnCredit_rxAck n ..

@[simp] theorem Dev.refundRx_rxAck (lp cls : Nat) (b : List Byte) (l : List Nat) (k : Nat) :
    ((d.refundRx lp cls b l k).lp n).rxAck = (d.lp n).rxAck := by
  simp only [Dev.refundRx]
  split
  · rfl
  · exact d.returnCredit_rxAck n ..

@[simp] theorem Dev.rxFirst_rxAck (lp cls : Nat) : ((d.rxFirst lp cls).lp n).rxAck = (d.lp n).rxAck := by
  simp only [Dev.rxFirst]
  split
  · rw [Dev.rxPut_rxAck, Dev.rxRefund_rxAck]
  · split
    · rfl
    · rw [Dev.rxPut_rxAck, Dev.rxRefund_rxAck, Dev.rxCut_rxAck, Dev.lp_count]

/-! ### Cells that form -/

@[simp] theorem Dev.chargeReserve_lp (fid k : Nat) : (d.chargeReserve fid k).lp n = d.lp n := by
  unfold Dev.chargeReserve
  split <;> rfl

@[simp] theorem Dev.poisonAt_rxAck (fid idx : Nat) : ((d.poisonAt fid idx).lp n).rxAck = (d.lp n).rxAck := by
  simp only [Dev.poisonAt]
  split
  · rfl
  · split
    · rfl
    · split
      · split <;> rfl
      · split
        · rfl
        · exact d.removeFrm_rxAck n fid

@[simp] theorem Dev.freeRide_rxAck (f : Frm) : ((d.freeRide f).lp n).rxAck = (d.lp n).rxAck := by
  simp only [Dev.freeRide]
  split
  · exact d.returnCredit_rxAck n ..
  · rfl

@[simp] theorem Dev.bufNext_rxAck (die : Nat) : ((d.bufNext die).lp n).rxAck = (d.lp n).rxAck := by
  unfold Dev.bufNext
  split
  · rfl
  · split
    · exact d.freeCells_rxAck n ..
    · rfl

@[simp] theorem Dev.deliverCab_rxAck (fid : Nat) (f : Frm) : ((d.deliverCab fid f).lp n).rxAck = (d.lp n).rxAck := by
  unfold Dev.deliverCab
  split
  · exact d.removeFrm_rxAck n fid
  · dsimp only
    split
    · split
      · exact d.removeFrm_rxAck n fid
      · exact d.removeFrm_rxAck n fid
    · exact Dev.each_keeps (fun d => (d.lp n).rxAck) _ _ fun e _ => e.bufNext_rxAck n f.die

/-- A cell that arrives is charged or rides free, joins its frame's cells on the input lane or in the Cabinet die, is marked
where it is poisoned, and may complete a frame for the Cabinet die's unit. -/
@[simp] theorem Dev.laterCell_rxAck (fid idx : Nat) (bytes : List Byte) (fcsBad bad : Bool) :
    ((d.laterCell fid idx bytes fcsBad bad).lp n).rxAck = (d.lp n).rxAck := by
  unfold Dev.laterCell
  split
  · rfl
  · rename_i f0 _
    extract_lets f a b c
    have ha : (a.lp n).rxAck = (d.lp n).rxAck := by
      simp only [a]
      split
      · rw [Dev.chargeReserve_lp]; rfl
      · rw [Dev.freeRide_rxAck]; rfl
    have hb : (b.lp n).rxAck = (a.lp n).rxAck := by
      simp only [b]
      split
      · rfl
      · split <;> rfl
    have hc : (c.lp n).rxAck = (b.lp n).rxAck := by
      simp only [c]
      split
      · exact b.poisonAt_rxAck n ..
      · rfl
    rw [← ha, ← hb, ← hc]
    split
    · split
      · exact c.deliverCab_rxAck n _ _
      · rfl
    · rfl

@[simp] theorem Dev.rxCells_rxAck (lp cls : Nat) (l : List Nat) (stamp old : Nat) (buf : List Byte) (len : Nat) :
    ((d.rxCells lp cls l stamp old buf len).lp n).rxAck = (d.lp n).rxAck := by
  simp only [Dev.rxCells]
  refine (Dev.each_keeps (fun d => (d.lp n).rxAck) _ _ fun e x =>
    (Dev.each_keeps (fun d => (d.lp n).rxAck) _ _ fun e y => e.laterCell_rxAck n ..).trans (e.refundRx_rxAck n ..)).trans ?_
  split <;> rfl

@[simp] theorem Dev.rxWord_rxAck (lp cls : Nat) (w : List Byte) : ((d.rxWord lp cls w).lp n).rxAck = (d.lp n).rxAck := by
  simp only [Dev.rxWord]
  split
  · exact d.rxPut_rxAck n ..
  · split
    · rw [Dev.rxPut_rxAck, Dev.rxPush_rxAck]
    · rw [Dev.rxPut_rxAck]
      split
      · exact d.rxCells_rxAck n ..
      · split
        · exact d.rxPush_rxAck n ..
        · rfl

/-- The payload of a flit enters its class stream and leaves the SEQ acknowledged. -/
@[simp] theorem Dev.rxPayload_rxAck (lp : Nat) (f : List Byte) : ((d.rxPayload lp f).lp n).rxAck = (d.lp n).rxAck := by
  refine Dev.each_keeps (fun d => (d.lp n).rxAck) d _ fun e i => (Dev.rxWord_rxAck _ n ..).trans ?_
  split
  · exact e.rxFirst_rxAck n ..
  · rfl

end

/-! ## Markers -/

/-- What a good marker writes beside MARKER_OK. -/
abbrev markerFields : List Fld :=
  [F.OE_RING_CAL.COMM_CODE, F.OE_RING_CAL.T_COMM, F.LNK_LANE_STAT.DESKEW] ++ roleFields ++ activeFields

theorem Dev.markersGood_writes (d : Dev) (port lane : Nat) : d.Writes markerFields (d.markersGood port lane) :=
  .ite (fun _ => Dev.Writes.updRing.trans
    (.ite (fun _ => (Dev.Writes.set (by decide)).trans (.set (by decide))) fun _ => .refl _)) fun _ => .refl d

theorem Dev.spareQualified_writes (d : Dev) (port lane : Nat) : d.Writes markerFields (d.spareQualified port lane) := by
  refine .trans (.ite (fun _ => (d.setRole_writes ..).mono (by decide)) fun _ => .refl d) (.each _ fun e s => ?_)
  exact .ite (fun _ => .updLp) fun _ => .refl e

theorem Dev.countMarker_writes (d : Dev) (i kind mirrorOf : Nat) : d.Writes markerFields (d.countMarker i kind mirrorOf) := by
  have hdeskew : ∀ e : Dev, e.Writes markerFields (e.draw.2.set F.LNK_LANE_STAT.DESKEW i (Config.freeMeasure e.draw.1).toNat) :=
    fun e => .trans (b := e.draw.2) (.same rfl rfl rfl) (.set (by decide))
  exact .trans .updLane (.ite (fun _ => hdeskew _) fun _ => .refl _)

theorem Dev.zeroMarker_writes (d : Dev) (lp : Nat) : d.Writes activeFields (d.zeroMarker lp) :=
  .ite (fun _ => .refl d) fun _ => .ite (fun _ => d.enterActive_writes lp) fun _ => .updLp

/-- A good marker sets MARKER_OK of its lane; what it then does, as a spare's or as a lane's of a logical port, leaves
LNK_LANE_STAT but for DESKEW. -/
theorem Dev.goodMarker_writes (d : Dev) (port lane m : Nat) (prbsOk : Bool) :
    (d.setB F.LNK_LANE_STAT.MARKER_OK (laneIx port lane) true).Writes markerFields (d.goodMarker port lane m prbsOk) := by
  refine .ite (fun _ => ?spare) fun _ => ?port
  case spare =>
    refine .trans ?_ (.ite (fun _ => Dev.spareQualified_writes ..) fun _ => .refl _)
    exact .trans .updLane (.ite (fun _ => Dev.markersGood_writes ..) fun _ => .refl _)
  case port =>
    refine .trans (.trans (Dev.countMarker_writes ..) (.ite (fun _ => Dev.markersGood_writes ..) fun _ => .refl _))
      (.ite (fun _ => ?_) fun _ => .refl _)
    refine .trans ?_ (.ite (fun _ => (Dev.zeroMarker_writes ..).mono (by decide)) fun _ => .refl _)
    exact .ite (fun _ => .updLp) fun _ => .refl _

/-- A marker with its own SYNC and a right CRC that names its lane is a good one. -/
theorem Dev.laneMarker_good {d : Dev} {port lane m : Nat} {prbsOk : Bool} (hsync : m / 2 ^ 96 = 0x4B1DE27C93A605F8)
    (hcrc : crc16 (beBytes 18 (m / 65536)) = m % 65536) (hlane : bitsOf m 87 83 = lane) :
    d.laneMarker port lane m prbsOk =
      (d.set F.LNK_LANE_STAT.MARKER_LANE (18 * port + lane) lane).goodMarker port lane m prbsOk := by
  have hplain : decide (markerSync = 2 ^ 64 - 1 - markerSync) = false := by decide
  have hown : m / 2 ^ 96 = markerSync := hsync
  simp only [Dev.laneMarker, hown, hplain, Bool.false_eq_true, if_false, ne_eq, not_true_eq_false, hcrc, hlane, laneIx]

/-- The lane that a good marker names, and MARKER_OK. -/
theorem Dev.goodMarker_shows (d : Dev) (port : Nat) {lane : Nat} (m : Nat) (prbsOk : Bool) (h : lane < 32) :
    ((d.set F.LNK_LANE_STAT.MARKER_LANE (18 * port + lane) lane).goodMarker port lane m prbsOk).bit F.LNK_LANE_STAT.MARKER_OK
      (18 * port + lane) = true ∧
    ((d.set F.LNK_LANE_STAT.MARKER_LANE (18 * port + lane) lane).goodMarker port lane m prbsOk).get F.LNK_LANE_STAT.MARKER_LANE
      (18 * port + lane) = lane := by
  have hkept := (d.set F.LNK_LANE_STAT.MARKER_LANE (18 * port + lane) lane).goodMarker_writes port lane m prbsOk
  rw [hkept.bit (by decide), hkept.get (by decide)]
  refine ⟨Dev.bit_setB_same _ ⟨by decide, by decide⟩ rfl _ true, ?_⟩
  rw [Dev.setB, Dev.get_set_apart _ ⟨by decide, by decide⟩ ⟨by decide, by decide⟩ (by decide),
    Dev.get_set_same _ ⟨by decide, by decide⟩]
  exact Nat.mod_eq_of_lt h

/-! ## Flits -/

/-- Where no injected fault is due, a flit's codewords are as received. -/
theorem Dev.withCodeword_plain {d : Dev} {lp : Nat} (bad : Bool) (corrected : List (Fin 16))
    (f : Dev → Bool → List (Fin 16) → Dev) (h : d.bur.nextCw.at 0 lp = 0) :
    d.withCodeword lp bad corrected f = f d bad corrected := by
  simp only [Dev.withCodeword, h]

/-- The DATA flit expected is accepted, its bytes counted, and its payload enters its class stream. -/
theorem Dev.dataFlit_inOrder {d e : Dev} {lp : Nat} {f : List Byte} {c : List (Fin 16)}
    (hst : (d.codewords lp c false).lpState lp = 4) (hok : flitOk f = true) (hty : byteAt f 0 / 16 = 1)
    (he : e = (d.codewords lp c false).flitHeader lp f) (hste : e.lpState lp = 4)
    (hseq : beAt f 4 2 = ((e.lp lp).rxAck + 1) % 65536) :
    d.dataFlit lp f false c =
      ((e.addWrap64 .XBAR_PMC_PORT_RX (8 * lp + byteAt f 0 % 8) (8 * (byteAt f 2 % 64))).updLp lp fun l =>
        { l with rxAck := beAt f 4 2, rxDisc := false, replayReq := false }).rxPayload lp f := by
  simp only [Dev.dataFlit, hst, hok, hty, ← he, hste, hseq, ne_eq, not_true_eq_false, Bool.not_true, Bool.false_eq_true,
    or_self, if_false, if_true]

/-- A flit whose CRC fails is counted, and a replay is asked for. -/
theorem Dev.dataFlit_crcBad {d : Dev} {lp : Nat} {f : List Byte} {c : List (Fin 16)}
    (hst : (d.codewords lp c false).lpState lp = 4) (hok : flitOk f = false) :
    d.dataFlit lp f false c = ((d.codewords lp c false).count .LNK_FLIT_CRC_ERR lp).askReplay lp := by
  simp [Dev.dataFlit, hst, hok]

/-- A flit in a codeword beyond correction asks for a replay. -/
theorem Dev.dataFlit_uncorrected {d : Dev} {lp : Nat} {f : List Byte} {c : List (Fin 16)}
    (hst : (d.codewords lp c true).lpState lp = 4) : d.dataFlit lp f true c = (d.codewords lp c true).askReplay lp := by
  simp [Dev.dataFlit, hst]

/-- A LINK_CONTROL flit of an ACTIVE port gives its credits, its header, its training message and its lane-control message. -/
theorem Dev.linkControl_active {d e : Dev} {lp : Nat} {f : List Byte} {c : List (Fin 16)} {r : Tbl Nat}
    (hst : (d.codewords lp c false).lpState lp = 4) (hok : flitOk f = true) (hty : byteAt f 0 / 16 = 2)
    (hr : r = (List.range 8).foldl (fun t i => Tbl.put t 0 i (if i = 1 then 0 else beAt f (16 + 2 * i) 2)) [])
    (he : e = (((d.codewords lp c false).updLp lp fun l => { l with returned := r }).flitHeader lp f).takeTrain lp
      ((f.drop 64).take 64)) :
    d.linkControl lp f false c =
      match laneMsgOf f with
      | some (op, m) => if op = 0 then e else e.laneMsg lp op m
      | none => e := by
  subst hr he
  simp only [Dev.linkControl, hst, hok, hty]
  rfl

/-- Settles O7 (R39, R45, R46, R51): a marker and each kind of flit by the law of its own reception. -/
theorem linkReceive : Obligations.LinkReceive := by
  unfold Obligations.LinkReceive
  refine ⟨?marker, ?accepted, ?crcBad, ?uncorrected, ?control⟩
  case marker =>
    intro s port lane m prbsOk hsync hcrc hlane
    exact ⟨_, by rw [exec_laneMarkerReceived, Dev.laneMarker_good hsync hcrc hlane], rfl,
      s.dev.goodMarker_shows port m.toNat prbsOk (lane.isLt.trans (by decide))⟩
  case accepted =>
    intro s lp f c d e hinj hd hst hok hty he hste hseq
    subst hd
    refine ⟨_, by rw [exec_dataFlitReceived, Dev.withCodeword_plain _ _ _ hinj, Dev.dataFlit_inOrder hst hok hty he hste hseq],
      rfl, ?_⟩
    rw [Dev.rxPayload_rxAck, Dev.lp_updLp_same]
  case crcBad =>
    intro s lp f c d hinj hd hst hok
    subst hd
    rw [exec_dataFlitReceived, Dev.withCodeword_plain _ _ _ hinj, Dev.dataFlit_crcBad hst hok, Dev.askReplay]
  case uncorrected =>
    intro s lp f c d hinj hd hst
    subst hd
    rw [exec_dataFlitReceived, Dev.withCodeword_plain _ _ _ hinj, Dev.dataFlit_uncorrected hst, Dev.askReplay]
  case control =>
    intro s lp f c d r hinj hst hok hty hr hd
    rw [exec_linkControlReceived, Dev.withCodeword_plain _ _ _ hinj]
    exact congrArg (fun e => Host.Outcome.next (s.withDev e)) (Dev.linkControl_active hst hok hty hr hd)

/-! ## Replay -/

/-- An ACTIVE port with flits in its window replays from the oldest, and retrains at the eighth replay without progress. -/
theorem Dev.startReplay_active {d e : Dev} {lp : Nat} (hst : d.lpState lp = 4) (hwin : (d.lp lp).window ≠ [])
    (he : e = d.pulse (lp / 64) 0x005 1 (some (lp % 64)) none none) :
    d.startReplay lp =
      if 7 ≤ (d.lp lp).noProg then (e.count .LNK_REPLAY_CNT lp).toRetrain lp
      else (e.updLp lp fun l => { l with replay := some 0, noProg := l.noProg + 1, oldest := e.raw }).count
        .LNK_REPLAY_CNT lp := by
  have hgo : ¬(d.lpState lp ≠ 4 ∨ (d.lp lp).window = []) := not_or.2 ⟨not_not.2 hst, hwin⟩
  rw [he]
  exact if_neg hgo

/-- Settles O8 (R51): a replay request, a sender's and a receiver's time-out, each by its own law. -/
theorem linkReplay : Obligations.LinkReplay := by
  unfold Obligations.LinkReplay
  refine ⟨?request, ?sender, ?receiver⟩
  case request =>
    intro s lp ack
    rw [exec_replayReqReceived, Dev.replayReq]
  case sender =>
    intro s lp d hst hwin hd
    rw [exec_senderReplayTimeout, Dev.startReplay_active hst hwin hd]
  case receiver =>
    intro s lp hst hdisc
    rw [exec_receiverReplayTimeout, Dev.receiverTimeout, if_pos ⟨hst, hdisc⟩]

end Sys2Proof.Machine
end

section
/-! The egress flit slot (R42, R43, R50, R51, R59, R60): what leaves on the lanes stays in its place as codewords and markers
follow it, and what a slot sends in each link state. -/
namespace Sys2Proof.Machine

/-! ## Codewords and markers change no register and follow what has left -/

section
variable {l : List Fld} (d : Dev)

theorem Dev.sendCodeword_writes (lp : Nat) (word : List Nat) : d.Writes l (d.sendCodeword lp word) :=
  (Dev.Writes.each _ fun _ _ => .emit).trans .updLp

theorem Dev.sendBits_writes (lp : Nat) (bits : List Bool) : d.Writes l (d.sendBits lp bits) :=
  .ite (fun _ => Dev.Writes.updLp.trans (Dev.sendCodeword_writes ..)) fun _ => .updLp

theorem Dev.putMarker_writes (m : MarkerInfo) : d.Writes l (d.putMarker m) := by
  simp only [Dev.putMarker]
  split
  · exact .emit
  · exact Dev.Writes.emit.trans (.same rfl rfl rfl)

theorem Dev.spareMarkers_writes (lp idx : Nat) : d.Writes l (d.spareMarkers lp idx) :=
  .ite (fun _ => .each _ fun _ _ => (Dev.putMarker_writes ..).trans .emit) fun _ => .refl d

theorem Dev.sendMarkers_writes (lp kind idx : Nat) : d.Writes l (d.sendMarkers lp kind idx) := by
  unfold Dev.sendMarkers
  extract_lets port a b c
  have hlanes : d.Writes l a := .each _ fun _ _ => Dev.putMarker_writes ..
  have hmirror : a.Writes l b := by
    simp only [b]
    split
    · exact a.putMarker_writes _
    · exact .refl a
  have hspares : b.Writes l c := .ite (fun _ => .refl b) fun _ => b.spareMarkers_writes ..
  exact ((hlanes.trans hmirror).trans hspares).trans .updLp

theorem Dev.nextFlitSlot_writes (lp : Nat) (training : Bool) : d.Writes l (d.nextFlitSlot lp training) :=
  .ite (fun _ => (d.sendMarkers_writes ..).trans .updLp) fun _ => .updLp

end

/-- A flit sent leaves the block with the header of the moment. -/
theorem Dev.mem_sendFlit (d : Dev) (lp ty replay cls first fill seq : Nat) (payload : List Byte) :
    Out.flit lp (mkFlit (d.mkHdr lp ty replay cls first fill seq) payload) ∈
      (d.sendFlit lp ty replay cls first fill seq payload).out :=
  (Dev.sendBits_writes (l := []) _ lp _).out.subset (List.mem_append_right _ List.mem_cons_self)

theorem Dev.mem_nextFlitSlot {d : Dev} {o : Out} (lp : Nat) (training : Bool) (h : o ∈ d.out) :
    o ∈ (d.nextFlitSlot lp training).out :=
  (d.nextFlitSlot_writes (l := []) lp training).out.subset h

/-! ## What a slot sends -/

theorem Lp.controlSlot_eq_false {l : Lp} (hb : l.burst = 0) (hs : l.slot % 148 ≠ 147) : l.controlSlot = false := by
  simp [Lp.controlSlot, hb, hs]

theorem Lp.controlSlot_eq_true {l : Lp} (h : 0 < l.burst ∨ l.slot % 148 = 147) : l.controlSlot = true := by
  simpa [Lp.controlSlot] using h

theorem Dev.egressSlot_data {d : Dev} {lp : Nat} (hst : d.lpState lp = 4) (hc : (d.lp lp).controlSlot = false) :
    d.egressSlot lp = (d.dataSlot lp).nextFlitSlot lp false := by
  simp only [Dev.egressSlot, hst, hc, Bool.false_eq_true, if_false]

theorem Dev.egressSlot_idle {d : Dev} {lp : Nat} (hst : d.lpState lp = 6) (hc : (d.lp lp).controlSlot = false) :
    d.egressSlot lp = (d.sendIdle lp).nextFlitSlot lp false := by
  simp only [Dev.egressSlot, hst, hc, Bool.false_eq_true, if_false]

theorem Dev.egressSlot_control {d : Dev} {lp : Nat} (hst : d.lpState lp = 4 ∨ d.lpState lp = 6)
    (hc : (d.lp lp).controlSlot = true) :
    d.egressSlot lp = ((d.updLp lp fun l => { l with burst := l.burst - 1 }).sendControl lp).nextFlitSlot lp false := by
  rcases hst with hst | hst <;> simp only [Dev.egressSlot, hst, hc, if_true]

theorem Dev.egressSlot_train {d : Dev} {lp : Nat} (hst : d.lpState lp = 2 ∨ d.lpState lp = 3 ∨ d.lpState lp = 7) :
    d.egressSlot lp = d.trainSlot lp := by
  rcases hst with hst | hst | hst <;> simp only [Dev.egressSlot, hst]

theorem Dev.egressSlot_hold {d : Dev} {lp : Nat} (hst : d.lpState lp = 5) :
    d.egressSlot lp =
      if 0 < (d.lp lp).burst then ((d.updLp lp fun l => { l with burst := l.burst - 1 }).sendControl lp).flushBits lp else d := by
  simp only [Dev.egressSlot, hst]

theorem Dev.egressSlot_dark {d : Dev} {lp : Nat} (hst : d.lpState lp = 0 ∨ d.lpState lp = 1 ∨ d.lpState lp = 8) :
    d.egressSlot lp = d := by
  rcases hst with hst | hst | hst <;> simp only [Dev.egressSlot, hst]

/-- While a replay runs, the next flit of the window is sent again with its own SEQ. -/
theorem Dev.dataSlot_replay {d : Dev} {lp i : Nat} {f : Flit} (hr : (d.lp lp).replay = some i)
    (hf : (d.lp lp).window[i]? = some f) :
    d.dataSlot lp =
      (((d.sendFlit lp 1 1 f.cls f.first f.fill f.seq f.payload).count .LNK_REPLAY_FLITS lp).updQueue (lp / 64) (lp % 64)
        f.cls fun q => { q with txBytes := q.txBytes + 8 * f.fill }).updLp lp fun l =>
        { l with replay := if l.window.length ≤ i + 1 then none else some (i + 1) } := by
  simp only [Dev.dataSlot, hr, hf]

/-- Settles O9 (R42, R43, R50, R51, R59, R60): the slot of each link state by its own law. -/
theorem egressFlitSlot : Obligations.EgressFlitSlot := by
  unfold Obligations.EgressFlitSlot
  refine ⟨?data, ?replay, ?control, ?idle, ?train, ?hold, ?dark⟩
  case data =>
    intro s lp hst hb hs
    rw [exec_egressFlitSlot, Dev.egressSlot_data hst (Lp.controlSlot_eq_false hb hs)]
  case replay =>
    intro s lp i f hst hb hs hr hf
    refine ⟨_, by rw [exec_egressFlitSlot, Dev.egressSlot_data hst (Lp.controlSlot_eq_false hb hs), Dev.dataSlot_replay hr hf],
      rfl, Dev.mem_nextFlitSlot lp false ?_⟩
    rw [Dev.updLp_out, Dev.updQueue, Dev.updCore_out, Dev.count_out]
    exact s.dev.mem_sendFlit lp 1 1 f.cls f.first f.fill f.seq f.payload
  case control =>
    intro s lp d hst hs hd
    rw [exec_egressFlitSlot, Dev.egressSlot_control hst (Lp.controlSlot_eq_true hs), hd]
  case idle =>
    intro s lp hst hb hs
    exact ⟨_, by rw [exec_egressFlitSlot, Dev.egressSlot_idle hst (Lp.controlSlot_eq_false hb hs), Dev.sendIdle], rfl,
      Dev.mem_nextFlitSlot lp false (s.dev.mem_sendFlit lp 0 0 0 63 0 0 [])⟩
  case train =>
    intro s lp d hst hd
    rw [exec_egressFlitSlot, Dev.egressSlot_train hst, Dev.trainSlot, ← hd]
  case hold =>
    intro s lp hst
    rw [exec_egressFlitSlot, Dev.egressSlot_hold hst]
  case dark =>
    intro s lp hst
    rw [exec_egressFlitSlot, Dev.egressSlot_dark hst]

end Sys2Proof.Machine
end

section
/-! The receiving end of the lane-control messages (R61 to R64, Table 2.11). -/
namespace Sys2Proof.Machine

/-! ## Messages accepted and refused -/

section
variable {d : Dev} {lp : Nat} {m : LaneMsg}

theorem Dev.msgMirror_accepted (hrep : d.repeated lp 4 m.txn.toNat = none) (hst : d.lpState lp = 4)
    (hholds : d.holds lp m.lane true = true) (hrole : d.role (lpPort lp) m.spare true = 4)
    (hcw : d.cwAheadOk lp m.cw.toNat = true) : d.msgMirror lp m = d.acceptTxn lp 3 4 m := by
  simp [Dev.msgMirror, hrep, hst, hholds, hrole, hcw]

theorem Dev.msgMirror_refused (hrep : d.repeated lp 4 m.txn.toNat = none) (hst : d.lpState lp = 4)
    (hholds : d.holds lp m.lane true = false) : d.msgMirror lp m = d.answerLane lp (answerTo m 15 3) := by
  simp [Dev.msgMirror, hrep, hst, hholds, Dev.nakLane]

theorem Dev.msgDrop_accepted (hrep : d.repeated lp 8 m.txn.toNat = none) (hst : d.lpState lp = 4)
    (hholds : d.holds lp m.lane true = true) (hcw : d.cwAheadOk lp m.cw.toNat = true) :
    d.msgDrop lp m = d.acceptTxn lp 7 8 m := by
  simp [Dev.msgDrop, hrep, hst, hholds, hcw]

theorem Dev.msgAdd_accepted (hrep : d.repeated lp 10 m.txn.toNat = none) (hst : d.lpState lp = 4)
    (hrole : 4 ≤ d.role (lpPort lp) m.lane true) (hq : d.qualified (lpPort lp) m.lane = true)
    (hcw : d.cwAheadOk lp m.cw.toNat = true) : d.msgAdd lp m = d.acceptTxn lp 9 10 m := by
  simp [Dev.msgAdd, hrep, hst, Nat.not_lt.2 hrole, hq, hcw]

end

/-- The transaction that a message opens in the receive direction. -/
def rxTxnOf (op : Nat) (m : LaneMsg) : LaneTxn :=
  { op := op, txn := m.txn.toNat, lane := m.lane, spare := m.spare, cw := m.cw.toNat, reason := m.reason.toNat, phase := 1 }

/-- The record of a logical port that accepts a transaction: it is open, and its answer is due once and remembered. -/
theorem Dev.lp_acceptTxn (d : Dev) (lp op ack : Nat) (m : LaneMsg) :
    (d.acceptTxn lp op ack m).lp lp = { d.lp lp with
      rxTxn := some (rxTxnOf op m), laneOut := (d.lp lp).laneOut.filter fun x => x.op != 6 || x.lane != m.lane.val,
      laneAns := (d.lp lp).laneAns ++ [answerTo m ack 0], answered := some (answerTo m ack 0) } := by
  rw [Dev.acceptTxn, Dev.lp_showBusy, Dev.answerLane, Dev.lp_updLp_same, Dev.lp_updLp_same]
  rfl

theorem Dev.acceptTxn_busy (d : Dev) (lp op ack : Nat) (m : LaneMsg) :
    (d.acceptTxn lp op ack m).bit F.LNK_LP_STATE.SWAP_BUSY lp = true := by
  rw [Dev.acceptTxn, Dev.bit_showBusy, Dev.answerLane, Dev.lp_updLp_same, Dev.lp_updLp_same]
  exact Bool.or_true _

/-! ## The switch at the agreed codeword -/

/-- SWITCH_DONE of a transaction with a STATUS. -/
def switchDoneOf (t : LaneTxn) (st : Nat) : LaneOut :=
  { op := 5, txn := t.txn, lane := t.lane, spare := t.spare, cw := t.cw, reason := t.reason, status := st }

/-- The receiving end of a swap is done with it and reports it. -/
def Dev.switchReported (d : Dev) (lp : Nat) (t : LaneTxn) (st : Nat) : Dev :=
  (d.updLp lp fun l => { l with rxTxn := none, laneOut := l.laneOut ++ [switchDoneOf t st] }).showBusy lp

theorem Dev.rxSwitch_qualified {d : Dev} {lp : Nat} {t : LaneTxn} (h : d.qualified (lpPort lp) t.spare = true) :
    d.rxSwitch lp t =
      (((d.movePos lp t.lane t.spare t.reason true).showLanes lp).updLane (laneIx (lpPort lp) t.spare) fun x =>
        { x with spareGood := 0 }).switchReported lp t 0 := by
  simp only [Dev.rxSwitch, h, if_true]
  rfl

theorem Dev.rxSwitch_unqualified {d : Dev} {lp : Nat} {t : LaneTxn} (h : d.qualified (lpPort lp) t.spare = false) :
    d.rxSwitch lp t = d.switchReported lp t 1 := by
  simp only [Dev.rxSwitch, h, Bool.false_eq_true, if_false, Nat.one_ne_zero]
  rfl

theorem Dev.switchReported_writes (d : Dev) (lp : Nat) (t : LaneTxn) (st : Nat) :
    d.Writes busyFields (d.switchReported lp t st) := Dev.Writes.updLp.trans (Dev.showBusy_writes ..)

theorem Dev.lp_switchReported (d : Dev) (lp : Nat) (t : LaneTxn) (st : Nat) :
    (d.switchReported lp t st).lp lp =
      { d.lp lp with rxTxn := none, laneOut := (d.lp lp).laneOut ++ [switchDoneOf t st] } := by
  rw [Dev.switchReported, Dev.lp_showBusy, Dev.lp_updLp_same]

/-- Whether or not the spare is qualified, the transaction is over and reported. -/
theorem Dev.lp_rxSwitch (d : Dev) (lp : Nat) (t : LaneTxn) :
    (d.rxSwitch lp t).lp lp = { d.lp lp with
      rxTxn := none
      laneOut := (d.lp lp).laneOut ++ [switchDoneOf t (if d.qualified (lpPort lp) t.spare then 0 else 1)] } := by
  cases hq : d.qualified (lpPort lp) t.spare with
  | true =>
    have hlp : (((d.movePos lp t.lane t.spare t.reason true).showLanes lp).updLane (laneIx (lpPort lp) t.spare) fun x =>
        { x with spareGood := 0 }).lp lp = d.lp lp := by
      rw [Dev.lp_updLane, Dev.showLanes, Dev.lp_set, Dev.lp_congr (Dev.movePos_lps ..)]
    rw [Dev.rxSwitch_qualified hq, Dev.lp_switchReported, hlp]
    rfl
  | false =>
    rw [Dev.rxSwitch_unqualified hq, Dev.lp_switchReported]
    rfl

/-- A qualified spare takes the role and the position. -/
theorem Dev.rxSwitch_spare {d : Dev} {lp : Nat} {t : LaneTxn} (hne : t.lane ≠ t.spare)
    (h : d.qualified (lpPort lp) t.spare = true) :
    (d.rxSwitch lp t).role (lpPort lp) t.spare true = lpSub lp ∧
    (d.rxSwitch lp t).pos (lpPort lp) t.spare true = d.pos (lpPort lp) t.lane true := by
  have hshown : ∀ e : Dev, e.Writes [F.LNK_LP_STATE.ACTIVE_LANES] (e.showLanes lp) := fun e => .set (by decide)
  rw [Dev.rxSwitch_qualified h, ((Dev.switchReported_writes ..).role (by decide) ..).1,
    ((Dev.switchReported_writes ..).role (by decide) ..).2, Dev.role_updLane, Dev.pos_updLane,
    ((hshown _).role (by decide) ..).1, ((hshown _).role (by decide) ..).2]
  exact d.movePos_spare lp t.reason true hne

/-- Settles O10 (R61 to R64, Table 2.11): each message by its own law, and the switch for a spare that is qualified or not. -/
theorem laneControlReceiver : Obligations.LaneControlReceiver := by
  unfold Obligations.LaneControlReceiver
  refine ⟨?spareLight, ?mirror, ?drop, ?add, ?switch, ?refused, ?accepted, ?switched⟩
  case spareLight =>
    intro s lp m hq
    rw [exec_spareLight, Dev.msgSpareLight]
    simp only [hq, if_true]
  case mirror =>
    intro s lp m hrep hst hholds hrole hcw
    rw [exec_mirror, Dev.msgMirror_accepted hrep hst hholds hrole hcw]
  case drop =>
    intro s lp m hrep hst hholds hcw
    rw [exec_drop, Dev.msgDrop_accepted hrep hst hholds hcw]
  case add =>
    intro s lp m hrep hst hrole hq hcw
    rw [exec_add, Dev.msgAdd_accepted hrep hst hrole hq hcw]
  case switch =>
    intro s lp t ht hop
    rw [exec_mirrorSwitch, Dev.mirrorSwitch]
    simp only [ht, hop, if_true]
  case refused =>
    intro s lp m hrep hst hholds
    refine ⟨_, by rw [exec_mirror, Dev.msgMirror_refused hrep hst hholds], rfl, ?_⟩
    rw [Dev.answerLane, Dev.lp_updLp_same]
  case accepted =>
    intro d e lp op ack m he
    subst he
    rw [Dev.lp_acceptTxn]
    exact ⟨rfl, rfl, rfl, d.acceptTxn_busy lp op ack m⟩
  case switched =>
    intro d e lp t _ _ hne he
    subst he
    rw [Dev.lp_rxSwitch]
    refine ⟨rfl, rfl, fun hq => Dev.rxSwitch_spare hne hq, fun hq j => ?_⟩
    rw [Dev.rxSwitch_unqualified hq, ((Dev.switchReported_writes ..).role (by decide) ..).1]

end Sys2Proof.Machine
end

section
/-! The transmitting end of the lane-control messages (R61 to R66, R73, R77). -/
namespace Sys2Proof.Machine

/-! ## SPARE_READY -/

@[simp] theorem Dev.laneReturn_spareOk (d : Dev) (port lane n : Nat) :
    ((d.laneReturn port lane).lp n).spareOk = (d.lp n).spareOk := by
  have hrole : ((d.setRole port lane false 4).lp n).spareOk = (d.lp n).spareOk := by rw [Dev.lp_congr (Dev.setRole_lps ..)]
  simp only [Dev.laneReturn]
  split
  · split
    · split
      · exact hrole
      · split
        · rfl
        · exact d.openTxn_spareOk ..
    · exact hrole
  · split
    · split
      · split
        · exact d.openTxn_spareOk ..
        · rfl
      · rfl
    · rfl

/-- The far end has qualified a lane: it is known, and its SPARE_LIGHT is answered. -/
def Lp.spareKnown (l : Lp) (lane : Nat) : Lp :=
  { l with spareOk := if l.spareOk.contains lane then l.spareOk else l.spareOk ++ [lane]
           laneOut := l.laneOut.filter fun x => x.op != 1 || x.lane != lane }

theorem Lp.mem_spareKnown (l : Lp) (lane : Nat) : lane ∈ (l.spareKnown lane).spareOk := by
  simp only [Lp.spareKnown]
  split
  · exact List.contains_iff_mem.1 ‹_›
  · simp

theorem Dev.mem_spareOk_msgSpareReady (d : Dev) (lp : Nat) (m : LaneMsg) :
    m.lane.val ∈ ((d.msgSpareReady lp m).lp lp).spareOk := by
  have hknown := (d.lp lp).mem_spareKnown m.lane
  rw [Dev.msgSpareReady, Dev.laneReturn_spareOk, Dev.nextTodo_spareOk, Dev.lp_updLp_same]
  exact hknown

/-! ## Answers to the open transaction -/

/-- The acknowledgement of the open transaction ends its repetition. -/
theorem Dev.msgAck_open {d : Dev} {lp op : Nat} {m : LaneMsg} {t : LaneTxn} (ht : (d.lp lp).txTxn = some t)
    (htxn : t.txn = m.txn.toNat) (hop : t.op = op) :
    d.msgAck lp op m = d.updLp lp fun l =>
      { l with txTxn := some { t with phase := max 1 t.phase, acked := true }
               laneOut := l.laneOut.filter fun x => x.txn != t.txn || x.op != op } := by
  simp only [Dev.msgAck, ht, hop, htxn, and_self, if_true]

theorem Dev.msgNak_open {d : Dev} {lp : Nat} {m : LaneMsg} {t : LaneTxn} (ht : (d.lp lp).txTxn = some t)
    (htxn : t.txn = m.txn.toNat) : d.msgNak lp m = d.finishTx lp m.status.toNat := by
  simp only [Dev.msgNak, ht, htxn, Option.map_some, if_true]

/-! ## The swap done -/

/-- The position of a swap moved, the map's generation raised and shown, and the spare one no more. -/
def Dev.swapped (d : Dev) (lp : Nat) (t : LaneTxn) : Dev :=
  (((d.movePos lp t.lane t.spare t.reason false).lmapBump lp).showLanes lp).updLp lp fun l =>
    { l with spareOk := l.spareOk.filter (· != t.spare) }

theorem Dev.swapDone_noRotation {d : Dev} {lp : Nat} (t : LaneTxn) (h : d.oe.rotating.at 0 (lp / 64) = 0) :
    d.swapDone lp t = d.swapped lp t := by
  have hnot : ¬(t.reason = 0 ∧ d.oe.rotating.at 0 (lp / 64) = 18 * (lpPort lp % 16) + t.lane + 1) := by omega
  simp only [Dev.swapDone, hnot, if_false]
  rfl

/-- SWITCH_DONE with STATUS 0 ends the open swap with its position moved. -/
theorem Dev.msgSwitchDone_done {d : Dev} {lp : Nat} {m : LaneMsg} {t : LaneTxn} (ht : (d.lp lp).txTxn = some t)
    (htxn : t.txn = m.txn.toNat) (hop : t.op = 3) (hst : m.status = 0) (hrot : d.oe.rotating.at 0 (lp / 64) = 0) :
    d.msgSwitchDone lp m = (d.swapped lp t).finishTx lp 0 := by
  have hopen : (d.lp lp).openTx 3 m.txn.toNat = some t := by simp only [Lp.openTx, ht, hop, htxn, and_self, if_true]
  have hzero : m.status.toNat = 0 := by rw [hst]; rfl
  simp only [Dev.msgSwitchDone, hopen, hzero, if_true, Dev.swapDone_noRotation t hrot]

theorem lmapGen_one : Fld.One F.LNK_LP_STATE.LMAP_GEN := ⟨by decide, by decide⟩

theorem Dev.lmapBump_writes (d : Dev) (lp : Nat) : d.Writes [F.LNK_LP_STATE.LMAP_GEN] (d.lmapBump lp) := .set (by decide)

theorem Dev.showLanes_writes (d : Dev) (lp : Nat) : d.Writes [F.LNK_LP_STATE.ACTIVE_LANES] (d.showLanes lp) := .set (by decide)

/-- The generation of a transmit map counts modulo 256. -/
theorem Dev.lmapBump_gen {l : List Fld} {d e : Dev} (h : d.Writes l e) (hl : F.LNK_LP_STATE.LMAP_GEN.Clear l) (lp : Nat) :
    (e.lmapBump lp).get F.LNK_LP_STATE.LMAP_GEN lp = (d.get F.LNK_LP_STATE.LMAP_GEN lp + 1) % 256 := by
  rw [Dev.lmapBump, Dev.get_set_same _ lmapGen_one, h.get hl]
  rfl

theorem Dev.swapped_gen (d : Dev) (lp : Nat) (t : LaneTxn) :
    (d.swapped lp t).get F.LNK_LP_STATE.LMAP_GEN lp = (d.get F.LNK_LP_STATE.LMAP_GEN lp + 1) % 256 := by
  rw [Dev.swapped, Dev.updLp_get, (Dev.showLanes_writes ..).get (by decide)]
  exact Dev.lmapBump_gen (d.movePos_writes ..) (by decide) lp

theorem Dev.swapped_spare (d : Dev) (lp : Nat) {t : LaneTxn} (h : t.lane ≠ t.spare) :
    (d.swapped lp t).role (lpPort lp) t.spare false = lpSub lp ∧
    (d.swapped lp t).pos (lpPort lp) t.spare false = d.pos (lpPort lp) t.lane false := by
  have hkept : (d.movePos lp t.lane t.spare t.reason false).Writes
      [F.LNK_LP_STATE.LMAP_GEN, F.LNK_LP_STATE.ACTIVE_LANES] (d.swapped lp t) :=
    (((Dev.lmapBump_writes ..).mono (by decide)).trans ((Dev.showLanes_writes ..).mono (by decide))).trans .updLp
  rw [(hkept.role (by decide) ..).1, (hkept.role (by decide) ..).2]
  exact d.movePos_spare lp t.reason false h

/-! ## LANE_FAULT -/

theorem Dev.lightSpare_writes (d : Dev) (lp j reason : Nat) : d.Writes ringFields (d.lightSpare lp j reason) :=
  .ite (fun _ => .ite (fun _ => .refl d) fun _ => .updLp) fun _ => .ite (fun _ => d.ringPreheat_writes _) fun _ => .refl d

theorem Dev.txRemove_writes (d : Dev) (lp lane reason : Nat) :
    d.Writes (busyFields ++ ringFields) (d.txRemove lp lane reason) := by
  refine .ite (fun _ => .refl d) fun _ => ?_
  split
  · exact (d.openTxn_writes ..).mono (by decide)
  · split
    · exact ((d.lightSpare_writes ..).mono (by decide)).trans .updLp
    · exact (d.openTxn_writes ..).mono (by decide)

theorem Dev.afterMap_writes (d : Dev) (lp : Nat) : d.Writes downFields (d.afterMap lp) :=
  .ite (fun _ => .ite (fun _ => d.linkDown_writes lp 8) fun _ => (d.showLanes_writes lp).mono (by decide)) fun _ => .refl d

/-- A fault of a lane with a position, that no transaction names yet, is counted against the budget, reported, and removed. -/
theorem Dev.msgLaneFault_owned {d e f : Dev} {lp y : Nat} {m : LaneMsg}
    (he : e = if m.reason = 2 ∨ m.reason = 3 then d.selectOut (lpPort lp) m.lane else d)
    (hrole : e.role (lpPort lp) m.lane false ≠ 4) (hf : f = e.unqualify (lpPort lp) m.lane)
    (hy : y = f.txOwner (lpPort lp) m.lane) (hlt : y < 4) (hnamed : f.laneNamed (4 * lpPort lp + y) m.lane = false) :
    d.msgLaneFault lp m =
      (((f.forceExpel 0 (lpPort lp) (instLane (lpPort lp) m.lane)).raise (16 + lpPort lp / 16) 2
        (instLane (lpPort lp) m.lane)).txRemove (4 * lpPort lp + y) m.lane m.reason.toNat).afterMap (4 * lpPort lp + y) := by
  have hreason : (m.reason.toNat = 2 ∨ m.reason.toNat = 3) ↔ (m.reason = 2 ∨ m.reason = 3) := by
    simp only [← BitVec.toNat_inj]
    rfl
  simp only [Dev.msgLaneFault, hreason, ← he, hrole, if_false, ← hf, ← hy, hlt, hnamed, Bool.not_false, and_self, if_true]

/-! ## A transaction without an answer -/

theorem Dev.lanectlTimeout_unanswered {d : Dev} {lp : Nat} {t : LaneTxn} (ht : (d.lp lp).txTxn = some t)
    (hack : t.acked = false) :
    d.lanectlTimeout lp =
      (if (d.lp lp).mgmt then (d.count .LNK_LANECTL_LOST lp).setB F.LNK_SWAP_CMD.GO (lpPort lp) false
        else d.count .LNK_LANECTL_LOST lp).closeTx lp := by
  simp only [Dev.lanectlTimeout, ht, hack, Bool.false_eq_true, if_false]

/-! ## The agreed codewords -/

theorem Dev.mirrorBegin_tx {d : Dev} {lp : Nat} {t : LaneTxn} (ht : (d.lp lp).txTxn = some t)
    (hrx : (d.lp lp).rxTxn = none) (hop : t.op = 3) :
    d.mirrorBegin lp = d.updLp lp fun l => { l with txTxn := some { t with phase := 2 } } := by
  simp only [Dev.mirrorBegin, ht, hop, if_true, Dev.lp_updLp_same, hrx]

theorem Dev.rxApply_none {d : Dev} {lp : Nat} (op : Nat) (f : Dev → LaneTxn → Dev) (h : (d.lp lp).rxTxn = none) :
    d.rxApply lp op f = d := by
  simp only [Dev.rxApply, h]

theorem Dev.txApply_agreed {d : Dev} {lp op : Nat} {t : LaneTxn} (f : Dev → LaneTxn → Dev) (h : (d.lp lp).txTxn = some t)
    (hack : t.acked = true) (hop : t.op = op) : d.txApply lp op f = ((f d t).lmapBump lp).finishTx lp 0 := by
  simp only [Dev.txApply, h, hop, hack, and_self, if_true]

theorem Dev.dropApply_tx {d : Dev} {lp : Nat} {t : LaneTxn} (ht : (d.lp lp).txTxn = some t) (hrx : (d.lp lp).rxTxn = none)
    (hack : t.acked = true) (hop : t.op = 7) :
    d.dropApply lp = (((d.dropPos lp t.lane t.reason false).lmapBump lp).finishTx lp 0).afterMap lp := by
  rw [Dev.dropApply, Dev.rxApply_none _ _ hrx, Dev.txApply_agreed _ ht hack hop]

theorem Dev.addApply_tx {d : Dev} {lp : Nat} {t : LaneTxn} (ht : (d.lp lp).txTxn = some t) (hrx : (d.lp lp).rxTxn = none)
    (hack : t.acked = true) (hop : t.op = 9) :
    d.addApply lp = (((d.addPos lp t.lane false).lmapBump lp).finishTx lp 0).afterMap lp := by
  rw [Dev.addApply, Dev.rxApply_none _ _ hrx, Dev.txApply_agreed _ ht hack hop]

/-- A change of the transmit map that is applied raises its generation, whatever then starts or faults. -/
theorem Dev.applied_gen {d e : Dev} (h : d.Writes mapFields e) (lp : Nat) :
    (((e.lmapBump lp).finishTx lp 0).afterMap lp).get F.LNK_LP_STATE.LMAP_GEN lp =
      (d.get F.LNK_LP_STATE.LMAP_GEN lp + 1) % 256 := by
  rw [(Dev.afterMap_writes ..).get (by decide), (Dev.finishTx_writes ..).get (by decide)]
  exact Dev.lmapBump_gen h (by decide) lp

/-- Settles O11 (R61 to R66, R73, R77): each message, time-out and agreed codeword by its own law. -/
theorem laneControlSender : Obligations.LaneControlSender := by
  unfold Obligations.LaneControlSender
  refine ⟨?spareReady, ?answers, ?switchDone, ?laneFault, ?timeout, ?mirrorBegin, ?applied⟩
  case spareReady =>
    intro s lp m
    exact ⟨_, by rw [exec_spareReady, Dev.msgSpareReady], rfl, s.dev.mem_spareOk_msgSpareReady lp m⟩
  case answers =>
    intro s lp m t ht htxn
    refine ⟨fun hop => ?_, fun hop => ?_, fun hop => ?_, ?nak⟩
    · rw [exec_mirrorAck, Dev.msgAck_open ht htxn hop]
    · rw [exec_dropAck, Dev.msgAck_open ht htxn hop]
    · rw [exec_addAck, Dev.msgAck_open ht htxn hop]
    case nak =>
      exact ⟨_, by rw [exec_nak, Dev.msgNak_open ht htxn], rfl, (s.dev.finishTx_writes lp _).role (by decide)⟩
  case switchDone =>
    intro s lp m t ht htxn hop hst hrot hne
    have hends := (s.dev.swapped lp t).finishTx_writes lp 0
    obtain ⟨hrole, hpos⟩ := hends.role (by decide) (lpPort lp) t.spare false
    obtain ⟨hrole', hpos'⟩ := s.dev.swapped_spare lp hne
    exact ⟨_, by rw [exec_switchDone, Dev.msgSwitchDone_done ht htxn hop hst hrot]; rfl, rfl, hrole.trans hrole',
      hpos.trans hpos', (hends.get (by decide) lp).trans (s.dev.swapped_gen lp t)⟩
  case laneFault =>
    intro s lp m p y d e hp hd hrole he hy hlt hnamed
    subst hp
    refine ⟨_, by rw [exec_laneFault, Dev.msgLaneFault_owned hd hrole he hy hlt hnamed], rfl, ?_⟩
    refine (Dev.afterMap_writes ..).raised.subset ((Dev.txRemove_writes ..).raised.subset ?_)
    exact List.mem_append_right _ List.mem_cons_self
  case timeout =>
    intro s lp t ht hack
    refine ⟨_, by rw [exec_lanectlTimeout, Dev.lanectlTimeout_unanswered ht hack], rfl, ?_, fun htodo => ?_⟩
    · rw [(Dev.closeTx_writes ..).rd (by decide)]
      split
      · exact Dev.setB_rd_reg _ _ _ (by decide)
      · rfl
    · refine Dev.closeTx_none ?_
      split
      · rw [Dev.lp_setB, Dev.lp_count, htodo]
      · rw [Dev.lp_count, htodo]
  case mirrorBegin =>
    intro s lp t ht hrx hop
    rw [exec_mirrorBegin, Dev.mirrorBegin_tx ht hrx hop]
  case applied =>
    intro s lp t ht hrx hack
    refine ⟨fun hop => ?_, fun hop => ?_⟩
    · exact ⟨_, by rw [exec_dropApply, Dev.dropApply_tx ht hrx hack hop], rfl, Dev.applied_gen (Dev.dropPos_writes ..) lp⟩
    · exact ⟨_, by rw [exec_addApply, Dev.addApply_tx ht hrx hack hop], rfl, Dev.applied_gen (Dev.addPos_writes ..) lp⟩

end Sys2Proof.Machine
end

section
/-! Lanes changed by management's swap command and by faults of the receive lanes (R55, R64, R66, R78, Table 2.17). -/
namespace Sys2Proof.Machine

/-! ## Transactions opened -/

/-- An ACTIVE port with no open transaction and CW before the next guard may open one. -/
structure Dev.MayOpen (d : Dev) (lp ahead : Nat) : Prop where
  state : d.lpState lp = 4
  free : (d.lp lp).txTxn = none
  cw : d.cwOk lp ahead = true

/-- What opening a transaction does to the record of its logical port. -/
def Lp.opened (l : Lp) (op lane spare cw reason : Nat) (mgmt : Bool) : Lp :=
  { l with
    txTxn := some { op := op, txn := l.nextTxn, lane := lane, spare := spare, cw := cw, reason := reason, phase := 0 }
    laneOut := l.laneOut ++ [{ op := op, txn := l.nextTxn, lane := lane, spare := spare, cw := cw, reason := reason }]
    nextTxn := (l.nextTxn + 1) % 256, mgmt := mgmt || l.mgmt }

theorem Dev.openTxn_open {d : Dev} {lp op : Nat} (h : d.MayOpen lp (cwAhead op)) (lane spare reason : Nat) (mgmt : Bool) :
    d.openTxn lp op lane spare reason mgmt =
      (d.updLp lp fun l => l.opened op lane spare (((d.lp lp).cwNow + cwAhead op) % 2 ^ 30) reason mgmt).showBusy lp := by
  have hgo : ¬(d.lpState lp ≠ 4 ∨ (d.lp lp).txTxn.isSome ∨ !d.cwOk lp (cwAhead op)) := by simp [h.state, h.free, h.cw]
  refine (if_neg hgo).trans ?_
  have hrecord : ∀ f g : Lp → Lp, f (d.lp lp) = g (d.lp lp) → d.updLp lp f = d.updLp lp g := fun f g hfg => by
    have hupd : d.lps.upd {} lp f = d.lps.upd {} lp g := congrArg (d.lps.put {} lp) hfg
    simp only [Dev.updLp, hupd]
  exact congrArg (Dev.showBusy · lp) (hrecord _ _ rfl)

/-! ## LNK_SWAP_CMD -/

section
variable {d e : Dev} {port action lane spare lp : Nat}
  (he : e = d.wr .LNK_SWAP_CMD port 0 (BitVec.ofNat 32
    (2 ^ 31 + action * 2 ^ 28 + lane * 2 ^ 23 + spare * 2 ^ 18 + d.get F.LNK_SWAP_CMD.RESULT port * 256)))
include he

/-- ACTION 0: the position of a lane of a logical port moves to a spare. -/
theorem Dev.swapCmd_mirror (ha : action = 0) (hlane : e.role port lane false < 4)
    (hlp : lp = 4 * port + e.role port lane false) (hspare : e.role port spare false = 4) (h : e.MayOpen lp 5248) :
    d.swapCmd port action lane spare = e.openTxn lp 3 lane spare 0 true := by
  obtain ⟨hst, hfree, hcw⟩ := h
  unfold Dev.swapCmd
  rw [← he]
  simp [ha, hlane, ← hlp, hspare, hst, hfree, cwAhead, hcw]

/-- ACTION 1: a lane leaves the map of its logical port. -/
theorem Dev.swapCmd_drop (ha : action = 1) (hlane : e.role port lane false < 4)
    (hlp : lp = 4 * port + e.role port lane false) (h : e.MayOpen lp 384) :
    d.swapCmd port action lane spare = e.openTxn lp 7 lane spare 0 true := by
  obtain ⟨hst, hfree, hcw⟩ := h
  unfold Dev.swapCmd
  rw [← he]
  simp [ha, hlane, ← hlp, hst, hfree, cwAhead, hcw]

omit he in
/-- Sub-port 0 is the lowest that can be short of lanes. -/
theorem Dev.shortLp_zero (hst : d.lpState (4 * port) = 4)
    (hshort : d.stripes (4 * port) < d.get F.LNK_LP_STATE.NOMINAL_LANES (4 * port)) :
    d.shortLp port = some (4 * port) := by
  simp [Dev.shortLp, List.range_succ, hst, hshort]

/-- ACTION 2: a lane of no logical port joins the lowest that is short of lanes. -/
theorem Dev.swapCmd_add (ha : action = 2) (hlane : 4 ≤ e.role port lane false)
    (hshort : e.stripes (4 * port) < e.get F.LNK_LP_STATE.NOMINAL_LANES (4 * port)) (h : e.MayOpen (4 * port) 384) :
    d.swapCmd port action lane spare = e.openTxn (4 * port) 9 lane spare 0 true := by
  obtain ⟨hst, hfree, hcw⟩ := h
  unfold Dev.swapCmd
  rw [← he]
  simp [ha, Nat.not_lt.2 hlane, Dev.shortLp_zero hst hshort, lpSub, hst, hfree, cwAhead, hcw]

end

/-! ## Receive lanes taken out of service -/

theorem Dev.forceExpel_writes {l : List Fld} (d : Dev) (n scope inst : Nat) : d.Writes l (d.forceExpel n scope inst) :=
  (Dev.Writes.ite (fun _ => .raise) fun _ => .refl d).trans (.same rfl rfl rfl)

/-- A forced removal of a receive lane of a logical port. -/
theorem Dev.rxLaneOut_forced {d : Dev} {port lane reason : Nat} (role : Nat) (hs : d.role port lane true < 4)
    (hr : reason ≠ 4) :
    d.rxLaneOut port lane role reason =
      ((d.forceExpel 0 port (instLane port lane)).raise (16 + port / 16) 2 (instLane port lane)).rxTakeOut port lane
        (d.role port lane true) role reason := by
  simp only [Dev.rxLaneOut, hs, hr, if_true, if_false, Bool.not_true, Bool.false_eq_true]

/-- After its role is set, a lane taken out of service writes the count of active lanes at most. -/
theorem Dev.rxTakeOut_writes (d : Dev) (port lane s role reason : Nat) :
    (d.setRole port lane true role).Writes [F.LNK_LP_STATE.ACTIVE_LANES] (d.rxTakeOut port lane s role reason) :=
  .trans .updLane (.ite (fun _ => Dev.Writes.updLp.trans (Dev.showLanes_writes ..)) fun _ => .refl _)

/-- What the removal of a receive lane writes. -/
abbrev takeOutFields : List Fld := roleFields ++ [F.LNK_LP_STATE.ACTIVE_LANES]

theorem Dev.rxLaneOut_forced_writes {d : Dev} {port lane reason : Nat} (role : Nat) (hs : d.role port lane true < 4)
    (hr : reason ≠ 4) : d.Writes takeOutFields (d.rxLaneOut port lane role reason) := by
  rw [Dev.rxLaneOut_forced role hs hr]
  exact (((Dev.forceExpel_writes ..).trans .raise).trans ((Dev.setRole_writes ..).mono (by decide))).trans
    ((Dev.rxTakeOut_writes ..).mono (by decide))

theorem Dev.rxLaneOut_forced_role {d : Dev} {port lane role reason : Nat} (hs : d.role port lane true < 4)
    (hr : reason ≠ 4) (hrole : role < 8) : (d.rxLaneOut port lane role reason).role port lane true = role := by
  rw [Dev.rxLaneOut_forced role hs hr, ((Dev.rxTakeOut_writes ..).role (by decide) ..).1, Dev.role_setRole_same _ _ _ _ hrole]

/-! ## Loss of light -/

/-- A receive lane without light shows it, and has no marker lock. -/
def Dev.unlit (d : Dev) (port lane : Nat) : Dev :=
  ((d.setB F.LNK_LANE_STAT.NO_LIGHT (laneIx port lane) true).setB F.LNK_LANE_STAT.MARKER_OK (laneIx port lane) false).updLane
    (laneIx port lane) fun l => { l with good := 0, spareGood := 0 }

theorem Dev.unlit_shows (d : Dev) (port lane : Nat) :
    (d.unlit port lane).bit F.LNK_LANE_STAT.NO_LIGHT (laneIx port lane) = true ∧
    (d.unlit port lane).bit F.LNK_LANE_STAT.MARKER_OK (laneIx port lane) = false := by
  rw [Dev.unlit, Dev.updLane_bit, Dev.updLane_bit]
  refine ⟨?_, Dev.bit_setB_same _ ⟨by decide, by decide⟩ rfl _ false⟩
  rw [Dev.bit, Dev.setB, Dev.get_set_apart _ ⟨by decide, by decide⟩ ⟨by decide, by decide⟩ (by decide)]
  exact d.bit_setB_same ⟨by decide, by decide⟩ rfl _ true

theorem Dev.unlit_role (d : Dev) (port lane i : Nat) (rx : Bool) :
    (d.unlit port lane).role port i rx = d.role port i rx := by
  have hstat : d.Writes [F.LNK_LANE_STAT.NO_LIGHT, F.LNK_LANE_STAT.MARKER_OK] (d.unlit port lane) :=
    ((Dev.Writes.setB (by decide)).trans (.setB (by decide))).trans .updLane
  exact (hstat.role (by decide) ..).1

/-- A logical port that has lost a receive lane's light goes to DOWN where fewer lanes than MIN_LANES are left. -/
def Dev.downIfShort (d : Dev) (port lp : Nat) : Dev :=
  if d.lpState lp ≠ 0 ∧ d.lpState lp ≠ 8 ∧ (d.lpLanes lp true).length < d.minLanes port then
    (d.updLp lp fun l => { l with light := false }).linkDown lp 0
  else d

theorem Dev.downIfShort_writes (d : Dev) (port lp : Nat) : d.Writes downFields (d.downIfShort port lp) :=
  .ite (fun _ => Dev.Writes.updLp.trans (Dev.linkDown_writes ..)) fun _ => .refl d

/-- Outside a by-pass slot a receive lane of a logical port that loses its light is taken out of service. -/
theorem Dev.lossOfLight_lane {d : Dev} {port lane : Nat} (hbyp : d.portBypassed port = false)
    (hs : d.role port lane true < 4) :
    d.lossOfLight port lane =
      (((d.unlit port lane).ringUnlit (ringIx port lane 1)).rxLaneOut port lane 5 5).downIfShort port
        (4 * port + d.role port lane true) := by
  simp only [Dev.lossOfLight, hbyp, hs, Bool.false_eq_true, if_false, if_true]
  rfl

theorem Dev.lossOfLight_shows {d e : Dev} {port lane : Nat} (hs : d.role port lane true < 4)
    (he : e = ((d.unlit port lane).ringUnlit (ringIx port lane 1)).rxLaneOut port lane 5 5) (lp : Nat) :
    (e.downIfShort port lp).bit F.LNK_LANE_STAT.NO_LIGHT (laneIx port lane) = true ∧
    (e.downIfShort port lp).bit F.LNK_LANE_STAT.MARKER_OK (laneIx port lane) = false ∧
    (e.downIfShort port lp).role port lane true = 5 := by
  have hring := (d.unlit port lane).ringUnlit_writes (ringIx port lane 1)
  have hserves : ((d.unlit port lane).ringUnlit (ringIx port lane 1)).role port lane true < 4 := by
    rw [(hring.role (by decide) ..).1, Dev.unlit_role]
    exact hs
  have hout := Dev.rxLaneOut_forced_writes 5 hserves (reason := 5) (by decide)
  have hkept := ((hring.mono (m := ringFields ++ takeOutFields ++ downFields) (by decide)).trans (hout.mono (by decide))).trans
    ((Dev.downIfShort_writes _ port lp).mono (by decide))
  obtain ⟨hdark, hmarker⟩ := d.unlit_shows port lane
  rw [he, hkept.bit (by decide), hkept.bit (by decide), hdark, hmarker]
  refine ⟨rfl, rfl, ?_⟩
  have hrole := (Dev.downIfShort_writes (((d.unlit port lane).ringUnlit (ringIx port lane 1)).rxLaneOut port lane 5 5) port
    lp).get (g := F.LNK_LANE_CFG.RX_ROLE) (by decide) (laneIx port lane)
  exact hrole.trans (Dev.rxLaneOut_forced_role hserves (by decide) (by decide))

/-! ## Loss of marker lock and symbol errors -/

/-- An active lane that loses marker lock is taken out where a drop of it is possible; otherwise the port retrains. -/
theorem Dev.markerLoss_active {d e : Dev} {port lane : Nat} (hs : d.role port lane true < 4)
    (he : e = (d.setB F.LNK_LANE_STAT.MARKER_OK (laneIx port lane) false).updLane (laneIx port lane) fun l =>
      { l with good := 0, spareGood := 0 }) (hst : e.lpState (4 * port + d.role port lane true) = 4) :
    d.markerLoss port lane =
      if e.minLanes port ≤ (e.lpLanes (4 * port + d.role port lane true) true).length - 1 then e.rxWrongLine port lane 3
      else e.toRetrain (4 * port + d.role port lane true) := by
  simp only [Dev.markerLoss, ← he, hs, hst, and_self, if_true]

/-- Up to one symbol error in a thousand is counted and no more. -/
theorem Dev.symbolCheck_few {d : Dev} {port lane errors symbols : Nat} (h : errors * 1000 ≤ symbols) :
    d.symbolCheck port lane errors symbols = d.add64 .LNK_LANE_SYMERR (laneIx port lane) errors := by
  simp [Dev.symbolCheck, Nat.not_lt.2 h]

/-- More take the lane out with REASON 4. -/
theorem Dev.symbolCheck_many {d e : Dev} {port lane errors symbols : Nat} (h : symbols < errors * 1000)
    (he : e = d.add64 .LNK_LANE_SYMERR (laneIx port lane) errors) (hs : e.role port lane true < 4)
    (hst : e.lpState (4 * port + e.role port lane true) = 4) :
    d.symbolCheck port lane errors symbols = (e.rxLaneOut port lane 6 4).afterMap (4 * port + e.role port lane true) := by
  simp only [Dev.symbolCheck, ← he, hs, h, hst, and_self, if_true]

/-- Settles O12 (Table 2.17, R55, R64, R66, R78): each ACTION of the swap command, each fault, and what a transaction that is
opened leaves in the record of its logical port. -/
theorem laneChanges : Obligations.LaneChanges := by
  unfold Obligations.LaneChanges
  refine ⟨?swap, ?drop, ?add, ?light, ?marker, ?few, ?many, ?opened⟩
  case swap =>
    intro s a port lane spare d lp hr hd hlane hlp hspare hst hfree hcw
    have hd' : d = s.dev.wr .LNK_SWAP_CMD port 0 (BitVec.ofNat 32
        (2 ^ 31 + 0 * 2 ^ 28 + lane * 2 ^ 23 + spare * 2 ^ 18 + s.dev.get F.LNK_SWAP_CMD.RESULT port * 256)) := by
      rw [hd, Nat.zero_mul, Nat.add_zero]
    rw [exec_lnkSwapCmdSwap, Dev.onWrite_reaches hr, Dev.swapCmd_mirror hd' rfl hlane hlp hspare ⟨hst, hfree, hcw⟩]
  case drop =>
    intro s a port lane d lp hr hd hlane hlp hst hfree hcw
    have hd' : d = s.dev.wr .LNK_SWAP_CMD port 0 (BitVec.ofNat 32
        (2 ^ 31 + 1 * 2 ^ 28 + lane * 2 ^ 23 + 0 * 2 ^ 18 + s.dev.get F.LNK_SWAP_CMD.RESULT port * 256)) := by
      rw [hd, Nat.one_mul, Nat.zero_mul, Nat.add_zero]
    rw [exec_lnkSwapCmdDrop, Dev.onWrite_reaches hr, Dev.swapCmd_drop hd' rfl hlane hlp ⟨hst, hfree, hcw⟩]
  case add =>
    intro s a port lane d hr hd hlane hst hshort hfree hcw
    have hd' : d = s.dev.wr .LNK_SWAP_CMD port 0 (BitVec.ofNat 32
        (2 ^ 31 + 2 * 2 ^ 28 + lane * 2 ^ 23 + 0 * 2 ^ 18 + s.dev.get F.LNK_SWAP_CMD.RESULT port * 256)) := by
      rw [hd, Nat.zero_mul, Nat.add_zero]
    rw [exec_lnkSwapCmdAdd, Dev.onWrite_reaches hr, Dev.swapCmd_add hd' rfl hlane hshort ⟨hst, hfree, hcw⟩]
  case light =>
    intro s port lane x y d e hbyp hx hy hlt hd he
    subst hx hy hd
    refine ⟨_, by rw [exec_laneLossOfLight, Dev.lossOfLight_lane hbyp hlt], ?_, ?_⟩
    · rw [he]
      rfl
    · exact Dev.lossOfLight_shows hlt rfl _
  case marker =>
    intro s port lane y d hy hlt hd hst
    subst hy
    rw [exec_markerLockLoss, Dev.markerLoss_active hlt hd hst]
  case few =>
    intro s port lane errors symbols h
    rw [exec_symbolErrorCheck, Dev.symbolCheck_few h]
    rfl
  case many =>
    intro s port lane errors symbols d h hd hs hst
    rw [exec_symbolErrorCheck, Dev.symbolCheck_many h hd hs hst]
  case opened =>
    intro d e lp op lane spare reason mgmt cw hst hfree hcwOk hcw he
    subst hcw he
    rw [Dev.openTxn_open ⟨hst, hfree, hcwOk⟩, Dev.bit_showBusy, Dev.lp_showBusy, Dev.lp_updLp_same]
    exact ⟨rfl, rfl, rfl⟩

end Sys2Proof.Machine
end

section
/-! The checks of a received frame (R48, R55, R112 to R118, R155, R163, R183, Table 8.1). -/
namespace Sys2Proof.Machine

/-! ## A frame at the ingress tile -/

section
variable {d d' : Dev} {lp cls : Nat} {b : List Byte} {x : RxTake}

theorem Dev.ingress_none (h : d.takeRx lp cls b = (none, d')) : d.ingress lp cls b = d' := by
  simp only [Dev.ingress, h]

/-- In reception, a frame for the PTP trap or a response inbox stays where it is (R307, R116). -/
theorem Dev.ingress_waits (h : d.takeRx lp cls b = (some x, d')) (hpart : x.cells < cellsOf x.bytes)
    (hwait : d'.ptpTrapped b = true ∨ (d'.ownFrame b = true ∧ fKind b = 0x21)) : d.ingress lp cls b = d' := by
  simp only [Dev.ingress, h, hpart, decide_true, Bool.true_and, Bool.or_eq_true, Bool.and_eq_true, beq_iff_eq, hwait, if_true]

/-- The credit of a good frame that no record of it will return (R48, R163). -/
def Dev.refunded (d : Dev) (lp cls : Nat) (b : List Byte) (l : List Nat) (k : Nat) : Dev :=
  if hcrcOk b then (d.refundRx lp cls b [] (creditsOf b - cellsOf b)).refundRx lp cls b l k else d

theorem Dev.ingress_checked (h : d.takeRx lp cls b = (some x, d'))
    (hgo : cellsOf x.bytes ≤ x.cells ∨ (d'.ptpTrapped b = false ∧ (d'.ownFrame b = false ∨ fKind b ≠ 0x21))) :
    d.ingress lp cls b =
      let e := d'.ingressFrame lp cls x
      let l := e.recordsSince d'.core.nextFid
      let f := e.refunded lp cls b l x.cells
      if x.cells < cellsOf x.bytes then f.updLp lp fun p => { p with rx := p.rx.upd {} cls fun r => { r with taken := some l } }
      else f := by
  have hgo' : ¬((decide (x.cells < cellsOf x.bytes) && (d'.ptpTrapped b || (d'.ownFrame b && fKind b == 0x21))) = true) := by
    rw [← Nat.not_lt] at hgo
    simpa [Classical.or_iff_not_imp_left] using hgo
  simp only [Dev.ingress, h, hgo', Bool.false_eq_true, if_false, decide_eq_true_eq]
  rfl

/-- No cell of a frame has formed before its first byte. -/
theorem formedCells_zero (hb : 0 < b.length) : formedCells b 0 = 0 := by
  rw [formedCells, if_neg (Nat.not_le.2 hb), Nat.zero_sub, Nat.zero_div]

/-- A frame that is neither queued nor in reception arrives at an ACTIVE port now, whole (R55). -/
theorem Dev.takeRx_fresh (hst : d.lpState lp = 4) (hq : (d.lp lp).rxq = []) (hbuf : ((d.lp lp).rx.at {} cls).buf = []) :
    d.takeRx lp cls b = (some { stamp := d.now, bytes := b, cells := cellsOf b, fresh := true }, d) := by
  have hnone : ¬(0 < formedCells b 0 ∧ 0 < b.length) := fun ⟨hcells, hb⟩ => by
    rw [formedCells_zero hb] at hcells
    exact Nat.lt_irrefl 0 hcells
  simp only [Dev.takeRx, hq, List.find?_nil, hbuf, List.length_nil]
  rw [if_neg fun ⟨_, hcells, hb, _⟩ => hnone ⟨hcells, hb⟩, if_pos hst]

/-! ## The checks in their order -/

/-- The class stream of a frame with a bad header that came whole is skipped up to its next frame. -/
def Dev.skipStream (d : Dev) (lp cls : Nat) : Dev :=
  d.updLp lp fun l => { l with rx := l.rx.upd {} cls fun r => { r with buf := [], skip := true, lost := 0 } }

theorem Dev.skipStream_skip (d : Dev) (lp cls : Nat) : (((d.skipStream lp cls).lp lp).rx.at {} cls).skip = true := by
  rw [Dev.skipStream, Dev.lp_updLp_same, Tbl.upd, Tbl.at_put_same]

theorem Dev.ingressFrame_hcrcBad (h : hcrcOk x.bytes = false) :
    d.ingressFrame lp cls x =
      if x.fresh then (d.count .FWD_HCRC_ERR (lp / 64)).skipStream lp cls else d.count .FWD_HCRC_ERR (lp / 64) := by
  simp only [Dev.ingressFrame, h, Bool.not_false, if_true]
  rfl

theorem Dev.ingressFrame_kindBad (h : hcrcOk x.bytes = true) (hk : kindOk cls x.bytes = false) :
    d.ingressFrame lp cls x = d.count .FWD_KIND_ERR (lp / 64) := by
  simp only [Dev.ingressFrame, h, hk, Bool.not_true, Bool.not_false, Bool.false_eq_true, if_true, if_false]

/-- A fabric frame, with the device that has seen its header. -/
structure Dev.FabricFrame (d : Dev) (lp cls : Nat) (b : List Byte) (e : Dev) : Prop where
  header : hcrcOk b = true
  kind : kindOk cls b = true
  format : fFormat b = 0
  seen : e = d.pulse (lp / 64) 0x001 1 (some (lp % 64)) (some cls) (some (fJob b))

/-- Place before source before job (log entry 75). -/
theorem Dev.ingressFrame_refused (h : d.FabricFrame lp cls x.bytes d')
    (hbad : d'.placeBad lp x.bytes = true ∨ d'.srcSpoof lp x.bytes = true ∨ d'.jobAllows (fJob x.bytes) cls = false) :
    d.ingressFrame lp cls x =
      if d'.placeBad lp x.bytes then d'.count .FWD_PLACE_ERR (lp / 64)
      else if d'.srcSpoof lp x.bytes then d'.count .FWD_SRC_SPOOF (lp / 64)
      else d'.count .FWD_JOB_DENY (lp / 64) := by
  obtain ⟨hheader, hkind, hformat, hseen⟩ := h
  simp only [Dev.ingressFrame, hheader, hkind, hformat, Bool.not_true, Bool.false_eq_true, if_false, beq_self_eq_true, if_true,
    Bool.true_and, ← hseen]
  split
  · rfl
  · split
    · rfl
    · have hdeny : d'.jobAllows (fJob x.bytes) cls = false := by tauto
      rw [hdeny]
      rfl

/-- A fabric frame that passes the checks, of a KIND that bears no stamp of its own and of a class that is not policed. -/
theorem Dev.ingressFrame_passes {f : Frm} (h : d.FabricFrame lp cls x.bytes d') (hkind : fKind x.bytes ≠ 0x03)
    (hplace : d'.placeBad lp x.bytes = false) (hsrc : d'.srcSpoof lp x.bytes = false)
    (hjob : d'.jobAllows (fJob x.bytes) cls = true) (hcls : 2 ≤ cls)
    (hf : f = { bytes := x.bytes, cls := cls, gen := d'.liveBank, stamp := x.stamp, src := lp, die := lp / 64,
                acct := lp % 64, here := x.cells, part := decide (x.cells < cellsOf x.bytes) }) :
    d.ingressFrame lp cls x = if d'.ownFrame x.bytes then d'.consume f else d'.forwardFabric f := by
  obtain ⟨hheader, hkindOk, hformat, hseen⟩ := h
  have htrap : d'.ptpTrapped x.bytes = false := by simp [Dev.ptpTrapped, hkind]
  simp only [Dev.ingressFrame, hheader, hkindOk, hformat, Bool.not_true, Bool.false_eq_true, if_false, beq_self_eq_true, if_true,
    Bool.true_and, ← hseen, hplace, hsrc, hjob, hkind, htrap, Nat.not_lt.2 hcls, ← hf]

theorem Dev.ownFrame_iff (hformat : fFormat b = 0) :
    d.ownFrame b = true ↔ fDstType b = 1 ∧ fDst b / 65536 = d.place ∧ d.bit F.BUR_CTL.SPARE 0 = false := by
  simp [Dev.ownFrame, hformat, and_assoc]

end

/-- A fresh frame with a bad header is counted, and its stream is skipped; no credit of it returns here. -/
theorem Dev.ingress_hcrcBad {d : Dev} {lp cls : Nat} {b : List Byte} (hst : d.lpState lp = 4) (hcrc : hcrcOk b = false)
    (hq : (d.lp lp).rxq = []) (hbuf : ((d.lp lp).rx.at {} cls).buf = []) :
    d.ingress lp cls b = (d.count .FWD_HCRC_ERR (lp / 64)).skipStream lp cls := by
  rw [Dev.ingress_checked (Dev.takeRx_fresh hst hq hbuf) (.inl (Nat.le_refl _)), Dev.ingressFrame_hcrcBad hcrc]
  simp only [Dev.refunded, hcrc, Bool.false_eq_true, if_false, if_true, Nat.lt_irrefl]

/-- Settles O20 (R48, R55, R112 to R118, R155, R163, R183, Table 8.1): the way of a frame by whether and how it is taken, and the
checks in their order. -/
theorem ingressChecks : Obligations.IngressChecks := by
  unfold Obligations.IngressChecks
  refine ⟨?none, ?waits, ?checked, ?fresh, ?hcrc, ?kind, ?refused, ?passes⟩
  case none =>
    intro s lp cls b d h
    rw [exec_ingressFrame, Dev.ingress_none h]
  case waits =>
    intro s lp cls b x d h hpart hwait
    rw [exec_ingressFrame, Dev.ingress_waits h hpart hwait]
  case checked =>
    intro s lp cls b x d e f l h hgo he hl hf
    subst he hl hf
    rw [exec_ingressFrame, Dev.ingress_checked h hgo]
    rfl
  case fresh =>
    intro s lp cls b hst hcrc hq hbuf
    refine ⟨_, by rw [exec_ingressFrame, Dev.ingress_hcrcBad hst hcrc hq hbuf], ?_, ?_, ?_⟩
    · exact Dev.updLp_rd ..
    · exact (Dev.updLp_core ..).trans (Dev.count_core ..)
    · exact Dev.skipStream_skip ..
  case hcrc =>
    intro d lp cls x hcrc hfresh
    rw [Dev.ingressFrame_hcrcBad hcrc, hfresh]
    rfl
  case kind =>
    intro d lp cls x hcrc hkind
    exact Dev.ingressFrame_kindBad hcrc hkind
  case refused =>
    intro d e lp cls x b hb hcrc hkind hformat he hbad
    subst hb
    exact Dev.ingressFrame_refused ⟨hcrc, hkind, hformat, he⟩ hbad
  case passes =>
    intro d e lp cls x b f hb hcrc hkind hformat hstamped he hplace hsrc hjob hcls hf
    subst hb
    rw [Dev.ingressFrame_passes ⟨hcrc, hkind, hformat, he⟩ hstamped hplace hsrc hjob hcls hf]
    simp only [Dev.ownFrame_iff hformat]

end Sys2Proof.Machine
end

section
/-! The states of a ring (Table 3.3, R73 to R75): what entering each state shows, what a failed re-acquisition leads to, and
the commands that move a ring. -/
namespace Sys2Proof.Machine

section
variable (d : Dev) (x : Nat)

/-! ## A state entered, a heater set -/

theorem Dev.ringState_ringGo_same {st : Nat} (h : st < 8) : (d.ringGo x st).ringState x = st := by
  have hset : (d.set F.OE_RING_STAT.STATE x st).ringState x = st :=
    (d.get_set_same ⟨by decide, by decide⟩ x st).trans (Nat.mod_eq_of_lt h)
  have hlock : (d.set F.OE_RING_STAT.STATE x st).Writes [F.LNK_LANE_STAT.RX_LOCK] (d.ringGo x st) :=
    .ite (fun _ => .setB (by decide)) fun _ => .refl _
  exact (hlock.get (by decide) x).trans hset

@[simp] theorem Dev.ringState_setHeater (h : Int) (y : Nat) : (d.setHeater x h).ringState y = d.ringState y :=
  d.get_set_apart ⟨by decide, by decide⟩ ⟨by decide, by decide⟩ (by decide) ..

@[simp] theorem Dev.ringState_updRing (f : RingSt → RingSt) (y : Nat) : (d.updRing x f).ringState y = d.ringState y := rfl

theorem Dev.heater_setHeater_same {h : Nat} (hh : h < 2 ^ 16) : (d.setHeater x h).heater x = h := by
  have hmin : min (Int.toNat h) 65535 = h := by omega
  rw [Dev.heater, Dev.setHeater, hmin, Dev.get_set_same _ ⟨by decide, by decide⟩]
  exact Nat.mod_eq_of_lt hh

/-- A sweep starts in SWEEP. -/
theorem Dev.ringSweep_state : (d.ringSweep x).ringState x = 2 :=
  (Dev.ringState_setHeater ..).trans (d.ringState_ringGo_same x (by decide))

/-! ## A re-acquisition that fails -/

/-- A ring in OUT, to be re-acquired, its lane out of service where it is a spare. -/
def Dev.ringLeft (d : Dev) (x : Nat) : Dev :=
  ((d.ringGo x 6).updRing x fun r => { r with reacq := true, ok := 0 }).spareOut (ringPort x) (ringLane x) (ringDrop x)

theorem Dev.ringOut_eq : d.ringOut x =
    if (d.ringLeft x).get F.OE_RING_STAT.FAIL_CNT x ≤ 1 ∧ (d.ringLeft x).ringMode x = 1 then (d.ringLeft x).ringSweep x
    else d.ringLeft x := rfl

theorem Dev.spareOut_writes (port lane : Nat) (rx : Bool) : d.Writes roleFields (d.spareOut port lane rx) :=
  .ite (fun _ => d.setRole_writes ..) fun _ => .refl d

/-- What a ring that leaves its line writes. -/
abbrev ringLeftFields : List Fld := ringFields ++ roleFields

theorem Dev.ringLeft_writes : d.Writes ringLeftFields (d.ringLeft x) :=
  (((d.ringGo_writes x 6).mono (by decide)).trans .updRing).trans ((Dev.spareOut_writes ..).mono (by decide))

theorem Dev.ringLeft_state : (d.ringLeft x).ringState x = 6 :=
  ((Dev.spareOut_writes ..).get (by decide) x).trans (d.ringState_ringGo_same x (by decide))

/-- A ring that leaves its line sweeps at once up to its first failure in the window, and otherwise waits in OUT (R73). -/
theorem Dev.ringOut_state :
    (d.ringOut x).ringState x = if d.get F.OE_RING_STAT.FAIL_CNT x ≤ 1 ∧ d.ringMode x = 1 then 2 else 6 := by
  have hmode : (d.ringLeft x).ringMode x = d.ringMode x := (d.ringLeft_writes x).get (by decide) x
  rw [Dev.ringOut_eq, (d.ringLeft_writes x).get (by decide), hmode]
  split
  · exact Dev.ringSweep_state ..
  · exact d.ringLeft_state x

/-- A failure counted, in the device's counter and in the ring's window of ten minutes. -/
def Dev.failCounted (d : Dev) (x : Nat) : Dev :=
  (d.count .OE_REACQ_FAIL_CNT (x / 576)).set F.OE_RING_STAT.FAIL_CNT x (min (d.get F.OE_RING_STAT.FAIL_CNT x + 1) 3)

theorem Dev.failCounted_cnt (h : d.get F.OE_RING_STAT.FAIL_CNT x < 2) :
    (d.failCounted x).get F.OE_RING_STAT.FAIL_CNT x = d.get F.OE_RING_STAT.FAIL_CNT x + 1 := by
  refine (Dev.get_set_same _ ⟨by decide, by decide⟩ _ _).trans ?_
  rw [Nat.min_eq_left (by omega)]
  exact Nat.mod_eq_of_lt (Nat.lt_of_le_of_lt h (by decide))

theorem Dev.failCounted_mode : (d.failCounted x).ringMode x = d.ringMode x :=
  have hcounted : d.Writes [Reg.OE_REACQ_FAIL_CNT.word, F.OE_RING_STAT.FAIL_CNT] (d.failCounted x) :=
    (Dev.Writes.count (by decide)).trans (.set (by decide))
  hcounted.get (by decide) x

/-- A first and a second failure in the window leave the ring in OUT. -/
theorem Dev.ringFail_again (h : d.get F.OE_RING_STAT.FAIL_CNT x < 2) : d.ringFail x = (d.failCounted x).ringOut x := by
  have hfew : ¬3 ≤ d.get F.OE_RING_STAT.FAIL_CNT x + 1 := by omega
  exact if_neg hfew

/-- A ring in RETIRED, its heater off. -/
def Dev.ringRetired (d : Dev) (x : Nat) : Dev :=
  ((((d.count .OE_REACQ_FAIL_CNT (x / 576)).set F.OE_RING_STAT.FAIL_CNT x 3).ringGo x 7).setHeater x 0).updRing x
    fun r => { r with reacq := false, ok := 0 }

/-- The third failure in the window retires the ring and its lane (R75). -/
theorem Dev.ringFail_third (h : 2 ≤ d.get F.OE_RING_STAT.FAIL_CNT x) :
    d.ringFail x = (((d.ringRetired x).setRole (ringPort x) (ringLane x) (ringDrop x) 5).count .OE_LANE_RETIRE_CNT
      (x / 576)).raise (16 + x / 576) 3 (ringInst x) := by
  have hthird : 3 ≤ d.get F.OE_RING_STAT.FAIL_CNT x + 1 := by omega
  rw [Dev.ringFail, if_pos hthird, Nat.min_eq_right hthird]
  rfl

theorem Dev.ringRetired_state : (d.ringRetired x).ringState x = 7 := by
  rw [Dev.ringRetired, Dev.ringState_updRing, Dev.ringState_setHeater, Dev.ringState_ringGo_same _ _ (by decide)]

/-- The state after a failure, by the failures before it in the window and by the ring's MODE. -/
theorem Dev.ringFail_state :
    (d.ringFail x).ringState x = if 2 ≤ d.get F.OE_RING_STAT.FAIL_CNT x then 7
      else if d.get F.OE_RING_STAT.FAIL_CNT x = 0 ∧ d.ringMode x = 1 then 2 else 6 := by
  split
  · rename_i hthird
    have hshown : (d.ringRetired x).Writes (roleFields ++ [Reg.OE_LANE_RETIRE_CNT.word]) (d.ringFail x) := by
      rw [d.ringFail_third x hthird]
      exact (((Dev.setRole_writes ..).mono (by decide)).trans (.count (by decide))).trans .raise
    exact (hshown.get (by decide) x).trans (d.ringRetired_state x)
  · rename_i hfew
    have hlt : d.get F.OE_RING_STAT.FAIL_CNT x < 2 := Nat.lt_of_not_le hfew
    have hfirst : d.get F.OE_RING_STAT.FAIL_CNT x + 1 ≤ 1 ↔ d.get F.OE_RING_STAT.FAIL_CNT x = 0 := by omega
    rw [d.ringFail_again x hlt, Dev.ringOut_state, d.failCounted_cnt x hlt, Dev.failCounted_mode]
    simp only [hfirst]

/-! ## The commands that move a ring -/

variable {d x}

theorem Dev.preheatDone_sweeps (h : d.ringState x = 1) : d.preheatDone x = d.ringSweep x := if_pos h

/-- A ring enters CAPTURE at the code of a sweep's peak (R74). -/
def Dev.ringCapture (d : Dev) (x : Nat) (o : SweepObs) : Dev :=
  (((d.ringGo x 3).setHeater x o.heater.toNat).set F.OE_RING_STAT.PEAK_WIDTH x o.width.toNat).updRing x
    fun r => { r with ok := 0 }

theorem Dev.sweepDone_sweeping (h : d.ringState x = 2) (o : SweepObs) :
    d.sweepDone x o = if o.peak then d.ringCapture x o else d.ringFail x := if_pos h

theorem Dev.ringCapture_shows (d : Dev) (x : Nat) (o : SweepObs) :
    (d.ringCapture x o).ringState x = 3 ∧ (d.ringCapture x o).heater x = o.heater.toNat := by
  have hwidth : ((d.ringGo x 3).setHeater x o.heater.toNat).Writes [F.OE_RING_STAT.PEAK_WIDTH] (d.ringCapture x o) :=
    (Dev.Writes.set (by decide)).trans .updRing
  constructor
  · exact (hwidth.get (by decide) x).trans ((Dev.ringState_setHeater ..).trans (d.ringState_ringGo_same x (by decide)))
  · exact (hwidth.get (by decide) x).trans (Dev.heater_setHeater_same _ x o.heater.isLt)

theorem Dev.captureTimeout_fails (h : d.ringState x = 3) : d.captureTimeout x = d.ringFail x := if_pos h

theorem Dev.outRetry_sweeps (h : d.ringState x = 6) (hmode : d.ringMode x = 1) : d.outRetry x = d.ringSweep x :=
  if_pos ⟨h, hmode⟩

/-- A drop ring whose lane delivers no two good markers fails; its select ring is looked at where it is LOCKED. -/
theorem Dev.reacqTimeout_drop {port lane : Nat} (hst : d.ringState (ringIx port lane 1) = 4)
    (hreacq : (d.ring (ringIx port lane 1)).reacq = true) (hgood : (d.lane (laneIx port lane)).good < 2)
    (hspare : (d.lane (laneIx port lane)).spareGood < 2)
    (hselect : (d.ringFail (ringIx port lane 1)).ringState (ringIx port lane 0) ≠ 4) :
    d.reacqTimeout port lane = d.ringFail (ringIx port lane 1) := by
  simp only [Dev.reacqTimeout, hst, hreacq, hgood, hspare, and_self, if_true, hselect, false_and, if_false]

end

/-- Settles O13 (Table 3.3, R73 to R75): each command by the state that the ring is in, and a failure by those before it. -/
theorem ringStates : Obligations.RingStates := by
  unfold Obligations.RingStates
  refine ⟨?preheat, ?sweep, ?capture, ?retry, ?markers, ?expiry, ?third, ?fail⟩
  case preheat =>
    intro s oe r hst
    exact ⟨_, by rw [exec_preheatDone, Dev.preheatDone_sweeps hst], rfl, Dev.ringSweep_state ..⟩
  case sweep =>
    intro s oe r o hst
    refine ⟨_, by rw [exec_sweepComplete, Dev.sweepDone_sweeping hst]; rfl, rfl, fun hpeak => ?_⟩
    rw [if_pos hpeak]
    exact Dev.ringCapture_shows ..
  case capture =>
    intro s oe r hst
    rw [exec_captureTimeout, Dev.captureTimeout_fails hst]
  case retry =>
    intro s oe r hst hmode
    exact ⟨_, by rw [exec_outRetryTimer, Dev.outRetry_sweeps hst hmode], rfl, Dev.ringSweep_state ..⟩
  case markers =>
    intro s port lane hst hreacq hgood hspare hselect
    rw [exec_reacqMarkerTimeout, Dev.reacqTimeout_drop hst hreacq hgood hspare hselect]
  case expiry =>
    intro s oe r
    rw [exec_ringFailWindowExpiry, Dev.failExpire]
  case third =>
    intro d e x hthird he
    rw [d.ringFail_third x hthird, he]
    rfl
  case fail => exact Dev.ringFail_state

end Sys2Proof.Machine
end

section
/-! Power-up and power-down of an optical engine (R89, R90, R394): what the shared operations of the power-up write, and the
commands by the PHASE and the power state in which they come. -/
namespace Sys2Proof.Machine

/-! ## Single bits -/

theorem bitAt_withBit_same (v i : Nat) (b : Bool) : bitAt (withBit v i b) i = b := by
  have hbit : bitsOf (withBits v i i b.toNat) i i = b.toNat := by
    rw [bitsOf_withBits_same le_rfl, Nat.add_sub_cancel_left]
    exact Nat.mod_eq_of_lt b.toNat_lt
  have hat : ∀ n, bitAt n i = (bitsOf n i i == 1) := fun n => by rw [bitAt, bitsOf, Nat.add_sub_cancel_left, pow_one]
  rw [hat, withBit, hbit]
  cases b <;> rfl

section
variable {d : Dev} {oe : Nat}

/-! ## What the power-up writes -/

/-- What enabling a logical port writes. -/
abbrev enableFields : List Fld := downFields ++ ringFields ++ [F.LNK_LP_STATE.MAP_INVALID]

theorem Dev.tryAcquire_writes (d : Dev) (lp : Nat) : d.Writes ringFields (d.tryAcquire lp) :=
  .ite (fun _ => .refl d) fun _ => .ite (fun _ => .each _ fun e _ => .ite (fun _ => e.ringPreheat_writes _) fun _ => .refl e)
    fun _ => .refl d

theorem Dev.enableLp_writes (d : Dev) (lp : Nat) : d.Writes enableFields (d.enableLp lp) := by
  refine .ite (fun _ => .refl d) fun _ => .ite (fun _ => ?fault) fun _ => .ite (fun _ => .refl d) fun _ =>
    .ite (fun _ => ?acquire) fun _ => .refl d
  case fault => exact ((d.linkDown_writes lp 8).mono (by decide)).trans (.setB (by decide))
  case acquire => exact ((d.tryAcquire_writes lp).mono (by decide)).trans (.set (by decide))

/-- What a change of the boot stage writes. -/
abbrev stageFields : List Fld := [F.DESK_BOOT_STAT.STAGE, Reg.DESK_IRQ_STAT.word]

theorem Dev.irq_writes (d : Dev) (desk vec : Nat) : d.Writes stageFields (d.irq desk vec) := by
  have hstat : d.Writes stageFields
      (d.wr .DESK_IRQ_STAT desk 0 (BitVec.ofNat 32 (withBit (d.rd .DESK_IRQ_STAT desk).toNat vec true))) :=
    .wrWide (n := 1) (w := 0) (by decide)
  exact .ite (fun _ => hstat.trans .emit) fun _ => hstat

theorem Dev.stageReady_writes (d : Dev) : d.Writes stageFields d.stageReady :=
  .ite (fun _ => (Dev.Writes.set (by decide)).trans ((Dev.irq_writes ..).trans (Dev.irq_writes ..))) fun _ => .refl d

theorem Dev.moduleControl_writes {l : List Fld} (d : Dev) (oe v : Nat) : d.Writes l (d.moduleControl oe v) :=
  Dev.Writes.emit.trans .emit

theorem Dev.phase_set (d : Dev) (oe : Nat) {n : Nat} (h : n < 16) : (d.set F.OE_ENG_STAT.PHASE oe n).phase oe = n :=
  (d.get_set_same ⟨by decide, by decide⟩ oe n).trans (Nat.mod_eq_of_lt h)

/-! ## Switched domains -/

/-- The queue of requested domains changes, and BUSY with it. -/
theorem Dev.Writes.domainQueue {q : List Nat} {b : Bool} :
    d.Writes [F.PWR_PD_STAT.BUSY] ((d.updPwr fun p => { p with pdq := q }).setB F.PWR_PD_STAT.BUSY 0 b) :=
  .trans (b := d.updPwr fun p => { p with pdq := q }) (.same rfl rfl rfl) (.setB (by decide))

theorem Dev.domainOff_writes (d : Dev) (pd : Nat) : d.Writes [F.PWR_PD_STAT.ON, F.PWR_PD_STAT.BUSY] (d.domainOff pd) :=
  .trans (b := d.set F.PWR_PD_STAT.ON 0 (withBit (d.get F.PWR_PD_STAT.ON 0) pd false)) (.set (by decide))
    (Dev.Writes.domainQueue.mono (by decide))

theorem Dev.domainRequest_writes (d : Dev) (pd : Nat) : d.Writes [F.PWR_PD_STAT.BUSY] (d.domainRequest pd) :=
  .ite (fun _ => .refl d) fun _ => .domainQueue

/-- A domain turned off is off. -/
theorem Dev.domainOff_off (d : Dev) {pd : Nat} (h : pd < 30) : (d.domainOff pd).domainOn pd = false := by
  have hbusy : (d.set F.PWR_PD_STAT.ON 0 (withBit (d.get F.PWR_PD_STAT.ON 0) pd false)).Writes [F.PWR_PD_STAT.BUSY]
      (d.domainOff pd) := .domainQueue
  have hfits : withBit (d.get F.PWR_PD_STAT.ON 0) pd false < 2 ^ (F.PWR_PD_STAT.ON.hi + 1 - F.PWR_PD_STAT.ON.lo) :=
    withBits_lt (d.get_lt (by decide) 0) h le_rfl
  rw [Dev.domainOn, hbusy.get (by decide), Dev.get_set_same _ ⟨by decide, by decide⟩, Nat.mod_eq_of_lt hfits,
    bitAt_withBit_same]

/-- A domain requested is on, or waits for its turn (R394). -/
theorem Dev.domainRequest_waits (d : Dev) (pd : Nat) :
    (d.domainRequest pd).domainOn pd = true ∨ pd ∈ (d.domainRequest pd).pwr.pdq := by
  unfold Dev.domainRequest
  split
  · rename_i h
    rwa [List.contains_iff_mem] at h
  · right
    simp

/-! ## ENABLE -/

theorem Dev.engineEnable_requests (hopen : d.domainRefused = false) (h : d.bit F.OE_ENG_CFG.ENABLE oe = false) :
    d.engineEnable oe = (d.setB F.OE_ENG_CFG.ENABLE oe true).domainRequest oe := by
  simp only [Dev.engineEnable, hopen, h, Bool.false_eq_true, if_false]

theorem Dev.engineDisable_down (hopen : d.domainRefused = false) (h : d.bit F.OE_ENG_CFG.ENABLE oe = true) :
    d.engineDisable oe = (d.setB F.OE_ENG_CFG.ENABLE oe false).engineDown oe (d.bit F.OE_ENG_CFG.KEEP_LASER oe) := by
  simp only [Dev.engineDisable, hopen, h, Bool.not_true, Bool.false_eq_true, if_false]

theorem Dev.engineEnable_refused (h : d.domainRefused = true) (oe : Nat) : d.engineEnable oe = d.count .PWR_PD_REFUSE :=
  if_pos h

theorem Dev.engineDisable_refused (h : d.domainRefused = true) (oe : Nat) : d.engineDisable oe = d.count .PWR_PD_REFUSE :=
  if_pos h

/-! ## Power-down -/

/-- The ports of an engine that powers down go to DOWN, and those in the Sideboard's live table are lost (R90, R107). -/
def Dev.portsDown (d : Dev) (oe : Nat) : Dev :=
  let e := d.each (List.range 64) fun e n => if e.lpState (64 * oe + n) = 0 then e else e.linkDown (64 * oe + n) 0
  if d.phase oe = 5 then e.sbdPortLost oe else e

/-- The rings of an engine that powers down go to OFF but for those RETIRED (R75, R90). -/
def Dev.ringsOff (d : Dev) (oe : Nat) : Dev :=
  d.each (List.range 576) fun e n =>
    if e.ringState (oeRing oe n) = 0 ∨ e.ringState (oeRing oe n) = 7 then e
    else (e.ringGo (oeRing oe n) 0).setHeater (oeRing oe n) 0

/-- The records of an engine's modules and rotation are over. -/
def Dev.modulesForgotten (d : Dev) (oe : Nat) : Dev :=
  { d with oe := { d.oe with combS := d.oe.combS.erase oe, polls := (d.oe.polls.erase (2 * oe)).erase (2 * oe + 1),
                             rotating := d.oe.rotating.erase oe } }

/-- No controller of an engine is locked. -/
def Dev.lasersOff (d : Dev) (oe : Nat) : Dev :=
  (d.modulesForgotten oe).each (List.range 32) fun e c => e.setB F.OE_PC_STAT.LOCKED (32 * oe + c) false

/-- OE_ENG_STAT of an engine without power, and its domain off. -/
def Dev.engineOff (d : Dev) (oe : Nat) : Dev :=
  ((((d.setB F.OE_ENG_STAT.COMB_P_OK oe false).setB F.OE_ENG_STAT.COMB_S_OK oe false).set F.OE_ENG_STAT.FEED_STBY oe 0).set
    F.OE_ENG_STAT.PHASE oe 0).domainOff oe

theorem Dev.engineDown_eq (d : Dev) (oe : Nat) (keep : Bool) : d.engineDown oe keep =
    ((if keep ∨ d.phase oe = 0 then (d.portsDown oe).ringsOff oe
      else ((d.portsDown oe).ringsOff oe).moduleControl oe 0).lasersOff oe).engineOff oe := rfl

/-- What the loss of an engine's ports writes in the Sideboard's registers. -/
abbrev sbdLostFields : List Fld := [F.SBD_PORT_LOST.LOST, F.SBD_PORT_BYP.BYP]

/-- A port is marked lost, and returns to the electrical position. -/
def Dev.portLostShown (d : Dev) (i : Nat) : Dev :=
  let e := d.set F.SBD_PORT_LOST.LOST 0 (withBit (d.get F.SBD_PORT_LOST.LOST 0) i true)
  e.wrWide .SBD_PORT_BYP 0 0 (withBit (e.rdWide .SBD_PORT_BYP 0 0 2) i false) 2

/-- A lost port carries no light of the table, and is kept among those lost. -/
def Dev.portLostKept (d : Dev) (i : Nat) : Dev :=
  { d with sbd := { d.sbd with lit := (d.sbd.lit.erase i).keep fun _ v => v != i + 1
                               lost := if d.sbd.lost.contains i then d.sbd.lost else d.sbd.lost ++ [i] } }

theorem Dev.sbdPortLost_eq (d : Dev) (oe : Nat) : d.sbdPortLost oe =
    if !d.sbdRunning then d
    else d.each (List.range 4) fun e k =>
      if (List.range e.liveN).any (fun n => e.inBypass .SBD_LIVE_SLOT n (4 * oe + k)) then
        ((e.portLostShown (4 * oe + k)).portLostKept (4 * oe + k)).raise 40 3 (instDie 44)
      else e := rfl

theorem Dev.portLostShown_writes (d : Dev) (i : Nat) : d.Writes sbdLostFields (d.portLostShown i) :=
  .trans (b := d.set F.SBD_PORT_LOST.LOST 0 (withBit (d.get F.SBD_PORT_LOST.LOST 0) i true))
    (.wrWide (n := 2) (w := 0) (by decide)) (.wrWide (n := 2) (w := 0) (by decide))

theorem Dev.portLostKept_writes {l : List Fld} (d : Dev) (i : Nat) : d.Writes l (d.portLostKept i) := .same rfl rfl rfl

theorem Dev.sbdPortLost_writes (d : Dev) (oe : Nat) : d.Writes sbdLostFields (d.sbdPortLost oe) := by
  rw [Dev.sbdPortLost_eq]
  exact .ite (fun _ => .refl d) fun _ => .each _ fun e _ =>
    .ite (fun _ => ((e.portLostShown_writes _).trans (Dev.portLostKept_writes ..)).trans .raise) fun _ => .refl e

/-- What the power-down of an engine writes. -/
abbrev engineDownFields : List Fld :=
  downFields ++ sbdLostFields ++ ringFields ++ [F.OE_PC_STAT.LOCKED, F.OE_ENG_STAT.COMB_P_OK, F.OE_ENG_STAT.COMB_S_OK,
    F.OE_ENG_STAT.FEED_STBY, F.OE_ENG_STAT.PHASE, F.PWR_PD_STAT.ON, F.PWR_PD_STAT.BUSY]

theorem Dev.portsDown_writes (d : Dev) (oe : Nat) : d.Writes engineDownFields (d.portsDown oe) := by
  have hports : d.Writes engineDownFields
      (d.each (List.range 64) fun e n => if e.lpState (64 * oe + n) = 0 then e else e.linkDown (64 * oe + n) 0) :=
    .each _ fun e _ => .ite (fun _ => .refl e) fun _ => (e.linkDown_writes ..).mono (by decide)
  exact .ite (fun _ => hports.trans ((Dev.sbdPortLost_writes ..).mono (by decide))) fun _ => hports

theorem Dev.ringsOff_writes (d : Dev) (oe : Nat) : d.Writes ringFields (d.ringsOff oe) :=
  .each _ fun e _ => .ite (fun _ => .refl e) fun _ => (e.ringGo_writes ..).trans (Dev.setHeater_writes ..)

theorem Dev.lasersOff_writes (d : Dev) (oe : Nat) : d.Writes [F.OE_PC_STAT.LOCKED] (d.lasersOff oe) :=
  .trans (b := d.modulesForgotten oe) (.same rfl rfl rfl) (.each _ fun _ _ => .setB (by decide))

theorem Dev.engineOff_writes (d : Dev) (oe : Nat) : d.Writes engineDownFields (d.engineOff oe) :=
  ((((Dev.Writes.setB (by decide)).trans (.setB (by decide))).trans (.set (by decide))).trans (.set (by decide))).trans
    ((Dev.domainOff_writes ..).mono (by decide))

theorem Dev.engineDown_writes (d : Dev) (oe : Nat) (keep : Bool) : d.Writes engineDownFields (d.engineDown oe keep) := by
  rw [Dev.engineDown_eq]
  have hrings : d.Writes engineDownFields ((d.portsDown oe).ringsOff oe) :=
    (d.portsDown_writes oe).trans ((Dev.ringsOff_writes ..).mono (by decide))
  exact (Dev.Writes.ite (fun _ => hrings) fun _ => hrings.trans (Dev.moduleControl_writes ..)).trans
    (((Dev.lasersOff_writes ..).mono (by decide)).trans (Dev.engineOff_writes ..))

/-- An engine without power shows PHASE 0, no primary comb and its domain off. -/
theorem Dev.engineDown_shows (d : Dev) (oe : Nat) (keep : Bool) (h : oe < 30) :
    (d.engineDown oe keep).phase oe = 0 ∧ (d.engineDown oe keep).domainOn oe = false ∧
    (d.engineDown oe keep).bit F.OE_ENG_STAT.COMB_P_OK oe = false := by
  rw [Dev.engineDown_eq]
  generalize Dev.lasersOff _ oe = e
  refine ⟨?phase, Dev.domainOff_off _ h, ?comb⟩
  case phase => exact ((Dev.domainOff_writes ..).get (by decide) oe).trans (Dev.phase_set _ oe (by decide))
  case comb =>
    have hlater : (e.setB F.OE_ENG_STAT.COMB_P_OK oe false).Writes
        [F.OE_ENG_STAT.COMB_S_OK, F.OE_ENG_STAT.FEED_STBY, F.OE_ENG_STAT.PHASE, F.PWR_PD_STAT.ON, F.PWR_PD_STAT.BUSY]
        (e.engineOff oe) :=
      (((Dev.Writes.setB (by decide)).trans (.set (by decide))).trans (.set (by decide))).trans
        ((Dev.domainOff_writes ..).mono (by decide))
    rw [hlater.bit (by decide)]
    exact e.bit_setB_same ⟨by decide, by decide⟩ rfl oe false

/-! ## The steps of the power-up -/

/-- The select rings of an engine preheat, those of spares with HOT_SPARE = 1 (R62, R89). -/
def Dev.selectsPreheat (d : Dev) (oe : Nat) : Dev :=
  d.each (List.range 288) fun e n =>
    let x := oeRing oe (2 * n)
    let p := ringPort x
    if e.ringState x = 0 ∧ (e.role p (ringLane x) false ≠ 4 ∨ e.bit F.LNK_PORT_CFG.HOT_SPARE p) then e.ringPreheat x else e

theorem Dev.toRingLock_eq (d : Dev) (oe : Nat) : d.toRingLock oe =
    if d.phase oe = 3 ∧ d.allLocked oe then (d.set F.OE_ENG_STAT.PHASE oe 4).selectsPreheat oe else d := rfl

theorem Dev.selectsPreheat_writes (d : Dev) (oe : Nat) : d.Writes ringFields (d.selectsPreheat oe) :=
  .each _ fun e _ => .ite (fun _ => e.ringPreheat_writes _) fun _ => .refl e

/-- PHASE 3 leads to PHASE 4 where every controller is locked. -/
theorem Dev.toRingLock_phase (h : d.phase oe = 3) : (d.toRingLock oe).phase oe = if d.allLocked oe then 4 else 3 := by
  simp only [Dev.toRingLock_eq, h, true_and]
  split
  · exact ((Dev.selectsPreheat_writes ..).get (by decide) oe).trans (d.phase_set oe (by decide))
  · exact h

/-- What a report that both comb modules are ready shows. -/
def Dev.combsShown (d : Dev) (oe : Nat) : Dev :=
  let e := d.setB F.OE_ENG_STAT.COMB_P_OK oe true
  ({ e with oe := { e.oe with combS := e.oe.combS.put false oe true } } : Dev).showCombS oe

/-- The shutters of an engine open, and its controllers lock. -/
def Dev.shuttersOpen (d : Dev) (oe : Nat) : Dev := (d.moduleControl oe 1).set F.OE_ENG_STAT.PHASE oe 3

theorem Dev.combReady_opens (hon : d.phase oe ≠ 0) (hfailed : d.phase oe ≠ 7)
    (hstarts : (d.combsShown oe).phase oe = 1 ∨ (d.combsShown oe).phase oe = 2) :
    d.combReady oe true true = ((d.combsShown oe).shuttersOpen oe).toRingLock oe := by
  rw [Dev.combReady, if_neg (by simp [hon, hfailed])]
  exact if_pos ⟨rfl, rfl, hstarts⟩

theorem Dev.shuttersOpen_writes (d : Dev) (oe : Nat) : d.Writes [F.OE_ENG_STAT.PHASE] (d.shuttersOpen oe) :=
  (Dev.moduleControl_writes ..).trans (.set (by decide))

theorem Dev.allLocked_shuttersOpen (d : Dev) (oe : Nat) : (d.shuttersOpen oe).allLocked oe = d.allLocked oe := by
  have hlocked : ∀ i, (d.shuttersOpen oe).bit F.OE_PC_STAT.LOCKED i = d.bit F.OE_PC_STAT.LOCKED i :=
    (d.shuttersOpen_writes oe).bit (by decide)
  simp only [Dev.allLocked, Dev.pcLocked, hlocked]

theorem Dev.shuttersOpen_phase (d : Dev) (oe : Nat) :
    ((d.shuttersOpen oe).toRingLock oe).phase oe = if d.allLocked oe then 4 else 3 := by
  have hphase : (d.shuttersOpen oe).phase oe = 3 := Dev.phase_set _ oe (by decide)
  rw [Dev.toRingLock_phase hphase, Dev.allLocked_shuttersOpen]

/-- An engine in PHASE 5, its enabled ports acquiring. -/
def Dev.engineUp (d : Dev) (oe : Nat) : Dev :=
  ((d.set F.OE_ENG_STAT.PHASE oe 5).each (List.range 64) fun e n => e.enableLp (64 * oe + n)).stageReady

theorem Dev.engineReadyNow_up (h : d.phase oe = 4) : d.engineReadyNow oe = d.engineUp oe := if_pos h

theorem Dev.engineUp_phase (d : Dev) (oe : Nat) : (d.engineUp oe).phase oe = 5 := by
  have hports : (d.set F.OE_ENG_STAT.PHASE oe 5).Writes (enableFields ++ stageFields) (d.engineUp oe) :=
    .trans (.each _ fun e _ => (e.enableLp_writes _).mono (by decide)) ((Dev.stageReady_writes _).mono (by decide))
  exact (hports.get (by decide) oe).trans (d.phase_set oe (by decide))

/-- An engine whose power-up failed: PHASE 7 and OE_COMB_FAIL. -/
def Dev.engineFailed (d : Dev) (oe : Nat) : Dev :=
  (((d.set F.OE_ENG_STAT.PHASE oe 7).setB F.OE_ENG_STAT.COMB_FAIL oe true).raise (16 + oe) 5 (oeInst oe)).stageReady

theorem Dev.powerupTimeout_fails (hlow : 1 ≤ d.phase oe) (hhigh : d.phase oe ≤ 4) :
    d.powerupTimeout oe = d.engineFailed oe := if_pos ⟨hlow, hhigh⟩

theorem Dev.engineFailed_shows (d : Dev) (oe : Nat) :
    (d.engineFailed oe).phase oe = 7 ∧ (d.engineFailed oe).bit F.OE_ENG_STAT.COMB_FAIL oe = true := by
  have hstage : ((d.set F.OE_ENG_STAT.PHASE oe 7).setB F.OE_ENG_STAT.COMB_FAIL oe true).Writes stageFields
      (d.engineFailed oe) := Dev.Writes.raise.trans (Dev.stageReady_writes _)
  rw [Dev.phase, hstage.get (by decide), hstage.bit (by decide)]
  refine ⟨?_, Dev.bit_setB_same _ ⟨by decide, by decide⟩ rfl oe true⟩
  have hfail : (d.set F.OE_ENG_STAT.PHASE oe 7).Writes [F.OE_ENG_STAT.COMB_FAIL]
      ((d.set F.OE_ENG_STAT.PHASE oe 7).setB F.OE_ENG_STAT.COMB_FAIL oe true) := .setB (by decide)
  exact (hfail.get (by decide) oe).trans (d.phase_set oe (by decide))

end

/-- Settles O16 (R89, R90, R394): ENABLE set, cleared and refused, and each step of the power-up by its PHASE. -/
theorem enginePower : Obligations.EnginePower := by
  unfold Obligations.EnginePower
  refine ⟨?enable, ?disable, ?refused, ?combs, ?ready, ?timeout⟩
  case enable =>
    intro s a oe hr hopen hoff
    refine ⟨_, by rw [exec_engineEnable, Dev.onWrite_reaches hr, Dev.engineEnable_requests hopen hoff], rfl, ?_,
      Dev.domainRequest_waits ..⟩
    refine ((Dev.domainRequest_writes ..).bit (by decide) _).trans ?_
    exact s.dev.bit_setB_same ⟨by decide, by decide⟩ rfl _ true
  case disable =>
    intro s a oe hr hopen hon
    refine ⟨_, by rw [exec_engineDisable, Dev.onWrite_reaches hr, Dev.engineDisable_down hopen hon], rfl, ?_,
      Dev.engineDown_shows _ _ _ (oe.isLt.trans (by decide))⟩
    refine ((Dev.engineDown_writes ..).bit (by decide) _).trans ?_
    exact s.dev.bit_setB_same ⟨by decide, by decide⟩ rfl _ false
  case refused =>
    intro s a oe hr hrefused
    rw [exec_engineEnable, exec_engineDisable, Dev.onWrite_reaches hr, Dev.onWrite_reaches hr,
      Dev.engineEnable_refused hrefused, Dev.engineDisable_refused hrefused]
    exact ⟨rfl, rfl⟩
  case combs =>
    intro s oe d e hon hfailed hd he hstarts
    subst hd he
    exact ⟨_, by rw [exec_combModuleReady, Dev.combReady_opens hon hfailed hstarts]; rfl, rfl, Dev.shuttersOpen_phase ..⟩
  case ready =>
    intro s oe hlocked
    exact ⟨_, by rw [exec_engineReady, Dev.engineReadyNow_up hlocked]; rfl, rfl, Dev.engineUp_phase ..⟩
  case timeout =>
    intro s oe hlow hhigh
    exact ⟨_, by rw [exec_enginePowerupTimeout, Dev.powerupTimeout_fails hlow hhigh]; rfl, rfl, Dev.engineFailed_shows ..⟩

end Sys2Proof.Machine
end

section
/-! Monitors, rotation, polls and I²C of an optical engine (R82, R84, R85, R87, R88): each command where it has its effect. -/
namespace Sys2Proof.Machine

section
variable {d e : Dev} {oe k lane : Nat}

/-! ## The power of a line -/

section
variable {port power : Nat} (hport : port = 16 * oe + k) (hst : d.ringState (ringIx port lane 0) = 4)
  (hfree : 4 ≤ d.role port lane false) (he : e = d.set F.OE_LINE_PWR.NOW (laneIx port lane) power)
include hport hst hfree he

/-- The first reading of a line whose lane carries no position is its commissioned power. -/
theorem Dev.lineReading_first (hnone : e.get F.OE_LINE_PWR.COMM (laneIx port lane) = 0x8000) :
    d.lineReading oe k lane power = e.set F.OE_LINE_PWR.COMM (laneIx port lane) power := by
  subst hport he
  simp only [Dev.lineReading, hst, ne_eq, not_true_eq_false, if_false, Nat.not_lt.2 hfree, false_and, hnone, if_true]

/-- The third reading in a row between 1.0 dB and 2.5 dB below the commissioned power warns of a fade (R82). -/
theorem Dev.lineReading_fades {diff : Int} (hcomm : e.get F.OE_LINE_PWR.COMM (laneIx port lane) ≠ 0x8000)
    (hdiff : diff = toSigned 16 power - toSigned 16 (e.get F.OE_LINE_PWR.COMM (laneIx port lane))) (hact : -250 < diff)
    (hwarn : diff ≤ -100) (htwo : (e.lane (laneIx port lane)).warn = 2)
    (hclear : e.bit F.LNK_LANE_STAT.FADE_WARN (laneIx port lane) = false) :
    d.lineReading oe k lane power =
      ((e.updLane (laneIx port lane) fun l => { l with warn := 3, act := 0, clear := 0 }).setB F.LNK_LANE_STAT.FADE_WARN
        (laneIx port lane) true).raise (16 + oe) 1 (instLane port lane) := by
  have hfew : ¬diff ≤ -250 := by omega
  have hlow : ¬-70 < diff := by omega
  have hthird : min 4 3 = 3 := rfl
  subst hport he
  simp only [Dev.lineReading, hst, ne_eq, not_true_eq_false, if_false, Nat.not_lt.2 hfree, false_and, hcomm, ← hdiff, hwarn,
    hfew, hlow, htwo, if_true, Dev.updLane_bit, hclear, Nat.reduceAdd, hthird, Nat.reduceLeDiff, Bool.not_false, and_self]

end

/-! ## Calibration tasks of a ready engine -/

section
variable (hready : d.phase oe = 5) (o : CalObs)
include hready

/-- A gain check that fails raises OE_MONITOR_FAULT (R84). -/
theorem Dev.calibrate_gainCheck_fails (hlane : d.calLane (16 * oe + k) lane .gainCheck o.drop = true) (hfail : o.ok = false) :
    d.calibrate oe .gainCheck k lane o = d.raise (16 + oe) 8 (instLane (16 * oe + k) lane) := by
  simp [Dev.calibrate, hready, hlane, hfail]

theorem Dev.calibrate_tempco :
    d.calibrate oe .tempco k lane o =
      d.refineTempco (ringIx (16 * oe + k) lane o.drop.toNat) (toSigned 16 o.value.toNat) := by
  simp [Dev.calibrate, hready]

theorem Dev.calibrate_darkOffset (hlane : d.calLane (16 * oe + k) lane .darkOffset o.drop = true) :
    d.calibrate oe .darkOffset k lane o =
      d.updRing (ringIx (16 * oe + k) lane o.drop.toNat) fun r => { r with dark := o.value.toNat } := by
  simp [Dev.calibrate, hready, hlane]

theorem Dev.calibrate_windowSweep (hlane : d.calLane (16 * oe + k) lane .windowSweep o.drop = true) (hok : o.ok = true) :
    d.calibrate oe .windowSweep k lane o =
      (d.set F.OE_RING_STAT.PEAK_WIDTH (ringIx (16 * oe + k) lane o.drop.toNat) o.value.toNat).updRing
        (ringIx (16 * oe + k) lane o.drop.toNat) fun r => { r with peak := o.peak.toNat } := by
  simp [Dev.calibrate, hready, hlane, hok]

/-- In a long by-pass slot the drop ring of a lane has its dark offset taken, whatever the lane carries (R85). -/
theorem Dev.calibrate_bypassDark (hlong : d.longSlot (16 * oe + k) = true) :
    d.calibrate oe .bypassDark k lane o =
      d.updRing (ringIx (16 * oe + k) lane 1) fun r => { r with dark := o.value.toNat } := by
  simp [Dev.calibrate, hready, hlong]

/-! ## Rotation, polls and I²C commands -/

omit o in
/-- A rotation opens a MIRROR of the lane it has come to, to the first free spare (R85, log entry 53). -/
theorem Dev.rotate_mirrors {n p : Nat} (hon : d.bit F.OE_CAL_CFG.ROTATE oe = true) (hnext : d.rotLane oe = some n)
    (hp : p = 16 * oe + n / 18)
    (he : e = { d with oe := { d.oe with rot := d.oe.rot.put 0 oe (n + 1), rotating := d.oe.rotating.put 0 oe (n + 1) } }) :
    d.rotate oe = e.openTxn (4 * p + d.role p (n % 18) false) 3 (n % 18) ((e.freeSpares p).headD 0) 0 false := by
  have hgo : ¬((!d.bit F.OE_CAL_CFG.ROTATE oe) = true ∨ d.phase oe ≠ 5) := by simp [hon, hready]
  rw [Dev.rotate, if_neg hgo, hnext, he, hp]

end

/-- The third failed poll of a module in a row is counted and raised, and the count of polls starts again (R87). -/
theorem Dev.modulePoll_third {m : Bool} (hon : d.bit F.OE_ENG_CFG.ENABLE oe = true)
    (htwo : d.oe.polls.at 0 (2 * oe + m.toNat) = 2) (status : Nat) :
    d.modulePoll oe m false status =
      ((({ d with oe := { d.oe with polls := d.oe.polls.put 0 (2 * oe + m.toNat) 0 } } : Dev).count .OE_I2C_ERR_CNT oe).setB
        F.OE_ENG_STAT.I2C_FAIL oe true).raise (16 + oe) 6 (oeInst oe) := by
  simp only [Dev.modulePoll, hon, htwo, Bool.not_true, Bool.false_eq_true, if_false, Nat.reduceAdd, Nat.mod_self, if_true]

end

/-- Settles O17 (R82, R84, R85, R87, R88; log entries 53, 164): each reading, task, rotation, poll and I²C command by the law of
its own operation. -/
theorem engineMonitors : Obligations.EngineMonitors := by
  unfold Obligations.EngineMonitors
  refine ⟨?first, ?gain, ?tempco, ?measured, ?fade, ?rotation, ?poll, ?i2c, ?plain⟩
  case first =>
    intro s oe k lane p i d hi hst hfree hd hnone
    subst hi
    rw [exec_linePowerReading, Dev.lineReading_first rfl hst hfree hd hnone]
    rfl
  case gain =>
    intro s oe k lane o hready hlane hfail
    rw [exec_calibrationTask, Dev.calibrate_gainCheck_fails hready o hlane hfail]
  case tempco =>
    intro s oe k lane o x h old sum hready hx hh hold hsum
    subst hx hh hold hsum
    rw [exec_calibrationTask, Dev.calibrate_tempco hready]
    rfl
  case measured =>
    intro s oe k lane o x hready hx
    subst hx
    refine ⟨fun hlane => ?_, fun hlane hok => ?_, fun hlong => ?_⟩
    · rw [exec_calibrationTask, Dev.calibrate_darkOffset hready o hlane]
    · rw [exec_calibrationTask, Dev.calibrate_windowSweep hready o hlane hok]
    · rw [exec_calibrationTask, Dev.calibrate_bypassDark hready o hlong]
  case fade =>
    intro s oe k lane p i d diff hi hst hfree hd hcomm hdiff hact hwarn htwo hclear
    subst hi
    rw [exec_linePowerReading, Dev.lineReading_fades rfl hst hfree hd hcomm hdiff hact hwarn htwo hclear]
    rfl
  case rotation =>
    intro s oe n p d hon hready hnext hp hd
    rw [exec_laneRotation, Dev.rotate_mirrors hready hon hnext hp hd]
  case poll =>
    intro s oe m st hon htwo
    rw [exec_modulePoll, Dev.modulePoll_third hon htwo]
    rfl
  case i2c =>
    intro s a oe v ok data hr hgo
    rw [exec_oeI2cCmd, Dev.onWrite_reaches hr, if_pos hgo]
    rfl
  case plain =>
    intro s a oe v ok data hr hgo
    rw [exec_oeI2cCmd, Dev.onWrite_reaches hr, hgo, if_neg Bool.false_ne_true]

end Sys2Proof.Machine
end

section
/-! The Sideboard's tables (R94, R98, R99; log entries 24 and 80): what the check finds, and CHECK and the table writes by whether
a swap is armed. -/
namespace Sys2Proof.Machine

variable {d : Dev}

/-! ## The table check (R98) -/

theorem Dev.sbdCheck_empty (h : d.get F.SBD_SHADOW_N.N 0 = 0) : d.sbdCheck = (0, 0, 0) := if_pos h

theorem Dev.sbdCheck_tooMany (h : 64 < d.get F.SBD_SHADOW_N.N 0) : d.sbdCheck = (1, 0, 0) :=
  (if_neg (by omega)).trans (if_pos h)

/-- The search for a short slot finds the first one. -/
theorem find?_short {len : Nat → Nat} {n k : Nat} (hk : k < n) (hlong : ∀ j < k, 10 ≤ len j) (hshort : len k < 10) :
    ((List.range n).find? fun j => decide (((List.range n).map len).getD j 0 < 10)) = some k := by
  have hlen : ∀ j < n, ((List.range n).map len).getD j 0 = len j := fun j hj => by simp [List.getD, hj]
  rw [List.find?_range_eq_some]
  refine ⟨by rwa [hlen k hk, decide_eq_true_eq], List.mem_range.2 hk, fun j hj => ?_⟩
  rw [hlen j (hj.trans hk), Bool.not_eq_true', decide_eq_false_iff_not, Nat.not_lt]
  exact hlong j hj

theorem Dev.sbdCheck_short {k : Nat} (hmost : d.get F.SBD_SHADOW_N.N 0 ≤ 64) (hk : k < d.get F.SBD_SHADOW_N.N 0)
    (hlong : ∀ j < k, 10 ≤ d.slotLen .SBD_SHADOW_SLOT j) (hshort : d.slotLen .SBD_SHADOW_SLOT k < 10) :
    d.sbdCheck = (2, k, 0) := by
  simp only [Dev.sbdCheck, if_neg (Nat.ne_zero_of_lt hk), if_neg (Nat.not_lt.2 hmost), find?_short hk hlong hshort]

/-! ## CHECK and the writes (R99) -/

theorem Dev.sbdCheckCmd_armed (h : d.bit F.SBD_STAT.ARMED 0 = true) : d.sbdCheckCmd = d := if_pos h

theorem Dev.sbdCheckCmd_disarmed {e : Dev} (h : d.bit F.SBD_STAT.ARMED 0 = false)
    (he : e = d.setB F.SBD_STAT.SHADOW_OK 0 (d.sbdCheck.1 == 0)) :
    d.sbdCheckCmd = ((({ e with sbd := { e.sbd with shadowRoute := if d.sbdCheck.1 = 0 then e.shadowRoutes else [] } } : Dev).set
      F.SBD_STAT.CHECK_ERR 0 d.sbdCheck.1).set F.SBD_STAT.BAD_SLOT 0 d.sbdCheck.2.1).set F.SBD_STAT.BAD_PORT 0
      d.sbdCheck.2.2 := by
  subst he
  exact if_neg (Bool.eq_false_iff.1 h)

/-- Settles O18 (R94, R98, R99; log entries 24, 80): CHECK and each write by the law of its own operation. -/
theorem sideboardTables : Obligations.SideboardTables := by
  unfold Obligations.SideboardTables
  refine ⟨?check, ?code, ?ignored, ?shadow, ?live⟩
  case check =>
    intro s a d hr hdisarmed hd
    rw [exec_sbdCheck, Dev.onWrite_reaches hr, Dev.sbdCheckCmd_disarmed hdisarmed hd]
  case code =>
    intro d n hn
    subst hn
    exact ⟨Dev.sbdCheck_empty, Dev.sbdCheck_tooMany, fun k _ hmost hk hlong hshort => Dev.sbdCheck_short hmost hk hlong hshort⟩
  case ignored =>
    intro s a hr harmed
    rw [exec_sbdCheck, Dev.onWrite_reaches hr, Dev.sbdCheckCmd_armed harmed]
  case shadow =>
    intro s a addr v i w hdec hr
    simp only [exec_sbdShadowWrite, hdec, Dev.onWrite_reaches hr]
    rfl
  case live =>
    intro s a addr v i w hdec hr
    simp only [exec_sbdLiveWrite, hdec, Dev.onWrite_reaches hr]

end Sys2Proof.Machine
end

section
/-! The positions of the Sideboard's ports (R97, R101, R107): what taking a position writes, and which ports are in by-pass
afterwards. -/
namespace Sys2Proof.Machine

/-! ## Words of any place -/

/-- A word of a register. -/
abbrev Reg.wordAt (r : Reg) (w : Nat) : Fld := ⟨r, 32 * w + 31, 32 * w⟩

theorem Dev.get_wordAt (d : Dev) (r : Reg) (w i : Nat) : d.get (r.wordAt w) i = (d.rd r i w).toNat := by
  have hplace : 32 * w / 32 = w := by omega
  have htop : 32 * w + 31 - 32 * w = 31 := by omega
  rw [Dev.get_one d (f := r.wordAt w) ⟨by simp, by simp; omega⟩]
  simp [hplace, htop, bitsOf, Nat.mod_eq_of_lt (d.rd r i w).isLt]

/-- The words of a register with no field among those listed read as before. -/
theorem Dev.Writes.rd_reg {l : List Fld} {d e : Dev} (h : d.Writes l e) {r : Reg} (hr : ∀ f ∈ l, r ≠ f.reg) (i w : Nat) :
    e.rd r i w = d.rd r i w := by
  apply BitVec.eq_of_toNat_eq
  rw [← Dev.get_wordAt, ← Dev.get_wordAt, h.get ⟨by simp, by simp; omega, fun f hf => .inl (hr f hf)⟩]

theorem Dev.Writes.bypassed {l : List Fld} {d e : Dev} (h : d.Writes l e) (hr : ∀ f ∈ l, Reg.SBD_PORT_BYP ≠ f.reg) (i : Nat) :
    e.bypassed i = d.bypassed i := by
  simp only [Dev.bypassed, Dev.rdWide, h.rd_reg hr]

/-! ## What taking a position writes -/

/-- The rings and the logical ports of a port that changes its position. -/
abbrev positionFields : List Fld := ringFields ++ [F.LNK_LP_STATE.STATE, F.LNK_LP_STATE.SWAP_BUSY]

theorem Dev.toHold_writes (d : Dev) (lp : Nat) : d.Writes positionFields (d.toHold lp) :=
  .ite (fun _ => .refl d) fun _ => (Dev.Writes.updLp.trans (.set (by decide))).trans (.setB (by decide))

theorem Dev.sendBurst_writes {l : List Fld} (d : Dev) (lp : Nat) : d.Writes l (d.sendBurst lp) :=
  (Dev.Writes.each _ fun _ _ => Dev.sendMarkers_writes ..).trans .updLp

theorem Dev.toReacquire_writes (d : Dev) (lp : Nat) : d.Writes positionFields (d.toReacquire lp) :=
  .ite (fun _ => .ite (fun _ => Dev.Writes.updLp.trans (.set (by decide))) fun _ =>
    ((d.sendBurst_writes lp).trans .updLp).trans (.set (by decide))) fun _ => .refl d

theorem Dev.dropRings_writes {l : List Fld} (d : Dev) (port st : Nat) {f : Dev → Nat → Dev}
    (h : ∀ (e : Dev) x, e.Writes l (f e x)) : d.Writes l (d.dropRings port st f) :=
  .each _ fun e _ => .ite (fun _ => h ..) fun _ => .refl e

theorem Dev.enterBypass_writes (d : Dev) (i : Nat) : d.Writes positionFields (d.enterBypass i) :=
  (Dev.Writes.each _ fun e _ => e.toHold_writes _).trans
    (Dev.dropRings_writes _ _ _ fun e x => (e.ringHold_writes x).mono (by decide))

theorem Dev.leaveBypass_writes (d : Dev) (i : Nat) : d.Writes positionFields (d.leaveBypass i) :=
  .trans (Dev.dropRings_writes d _ _ fun e x => .ite (fun _ => .refl e) fun _ => (e.ringGo_writes x 4).mono (by decide))
    (.each _ fun e _ => e.toReacquire_writes _)

/-- The ports that change their position have changed it, and the cells of other circuits than those given are dark. -/
def Dev.portsMoved (d : Dev) (cs : List (Nat × Nat)) : Dev :=
  let now := d.bypassNow cs
  let was := (List.range 64).filter d.bypassed
  let e := (d.each (now.filter fun i => !was.contains i) Dev.enterBypass).each (was.filter fun i => !now.contains i) Dev.leaveBypass
  { e with sbd := { e.sbd with lit := e.sbd.lit.keep fun o v => cs.contains (o, v - 1) && e.circuitOk (o, v - 1) } }

theorem Dev.takePositions_eq (d : Dev) (cs : List (Nat × Nat)) : d.takePositions cs =
    (d.portsMoved cs).wrWide .SBD_PORT_BYP 0 0 (((d.bypassNow cs).map fun i => 2 ^ i).sum) 2 := rfl

theorem Dev.portsMoved_writes (d : Dev) (cs : List (Nat × Nat)) : d.Writes positionFields (d.portsMoved cs) :=
  ((Dev.Writes.each _ Dev.enterBypass_writes).trans (.each _ Dev.leaveBypass_writes)).trans (.same rfl rfl rfl)

theorem Dev.takePositions_writes (d : Dev) (cs : List (Nat × Nat)) :
    d.Writes (Reg.SBD_PORT_BYP.pair :: positionFields) (d.takePositions cs) := by
  rw [Dev.takePositions_eq]
  exact ((d.portsMoved_writes cs).mono (by decide)).trans (.wrWide (n := 2) (w := 0) (by decide))

/-! ## The ports in by-pass -/

theorem bitAt_eq_testBit (v i : Nat) : bitAt v i = v.testBit i := by
  rw [Nat.testBit_eq_decide_div_mod_eq, bitAt, beq_eq_decide]

/-- The sum of the powers of two of an ascending list has the bits of the list. -/
theorem bitAt_sum_two_pow {l : List Nat} (h : l.SortedLT) (i : Nat) : bitAt ((l.map fun n => 2 ^ n).sum) i = l.contains i := by
  rw [bitAt_eq_testBit, Bool.eq_iff_iff, ← Nat.mem_bitIndices, Nat.bitIndices_sum_map_two_pow h, List.contains_iff_mem]

theorem Dev.bypassNow_sorted (d : Dev) (cs : List (Nat × Nat)) : (d.bypassNow cs).SortedLT :=
  ((List.pairwise_lt_range.filter _).filter _).sortedLT

theorem Dev.contains_bypassNow (d : Dev) (cs : List (Nat × Nat)) {i : Nat} (h : i < 64) :
    (d.bypassNow cs).contains i = ((cs.any fun c => c.1 == i || c.2 == i) && !d.sbd.lost.contains i) := by
  rw [Bool.eq_iff_iff, List.contains_iff_mem, Dev.bypassNow, bypassList, List.mem_filter, List.mem_filter, List.mem_range,
    Bool.and_eq_true]
  simp only [h, true_and]

/-- The ports in by-pass are those of the circuits given but for lost ones. -/
theorem Dev.bypassed_takePositions (d : Dev) (cs : List (Nat × Nat)) {i : Nat} (h : i < 64) :
    (d.takePositions cs).bypassed i = ((cs.any fun c => c.1 == i || c.2 == i) && !d.sbd.lost.contains i) := by
  rw [Dev.bypassed, Dev.takePositions_eq, Dev.rdWide_wrWide_same, bitAt_eq_testBit, Nat.testBit_mod_two_pow,
    decide_eq_true (by omega), Bool.true_and, ← bitAt_eq_testBit, bitAt_sum_two_pow (d.bypassNow_sorted cs),
    d.contains_bypassNow cs h]

theorem Dev.bypassed_allElectrical (d : Dev) {i : Nat} (h : i < 64) : d.allElectrical.bypassed i = false :=
  d.bypassed_takePositions [] h

end Sys2Proof.Machine
end

section
/-! The Sideboard's schedule, its failure and its recovery (R97, R100, R101, R105 to R107; log entries 32, 81, 82 and 156): each
command where it has its effect, and what the states entered show. -/
namespace Sys2Proof.Machine

variable {d : Dev}

/-! ## Swaps -/

/-- The two tables have changed places, and no swap is armed. -/
def Dev.tablesSwapped (d : Dev) : Dev :=
  (((((((d.copyTable d .SBD_SHADOW_SLOT .SBD_LIVE_SLOT).copyTable d .SBD_LIVE_SLOT .SBD_SHADOW_SLOT).set F.SBD_SHADOW_N.N 0
    d.liveN).set F.SBD_LIVE_N.N 0 (d.get F.SBD_SHADOW_N.N 0)).set F.SBD_POS.LIVE_N 0 (d.get F.SBD_SHADOW_N.N 0)).set
    F.SBD_POS.LIVE_SLOT 0 0).setB F.SBD_STAT.SHADOW_OK 0 false).setB F.SBD_STAT.ARMED 0 false

/-- Slot 0 of the new live table begins at extended time `t`, and each table keeps its middle switches (log entry 24). -/
def Dev.scheduleStarts (d : Dev) (t : Nat) : Dev :=
  { d with sbd := { d.sbd with swapAt := none, slotStart := t, guard := d.get F.SBD_CTL.GUARD 0, lost := [],
                               liveRoute := d.sbd.shadowRoute, shadowRoute := d.sbd.liveRoute } }

/-- A swap is counted, with the cycle that it ends where a table was running, and the Desks' configuration is a new one (log
entry 32). -/
def Dev.swapCounted (d : Dev) (running : Bool) : Dev :=
  ((if running then d.addWrap64 .SBD_CYCLE_CNT 0 1 else d).count .SBD_SWAP_CNT).genBump

/-- The swap that fired at extended time `l` is carried out, but for the state and the positions that follow. -/
def Dev.tableLive (d : Dev) (l : Nat) : Dev := (d.tablesSwapped.scheduleStarts (d.swapTime l)).swapCounted d.sbdRunning

section
variable {l : Nat} (hl : d.sbd.swapAt = some l)
include hl

/-- A swap takes effect by the number of slots that become live. -/
theorem Dev.sbdSwap_armed : d.sbdSwap =
    if d.get F.SBD_SHADOW_N.N 0 = 0 then ((d.tableLive l).set F.SBD_STAT.STATE 0 1).allElectrical
    else ((d.tableLive l).set F.SBD_STAT.STATE 0 2).takePositions
      (((d.tableLive l).set F.SBD_STAT.STATE 0 2).circuits .SBD_LIVE_SLOT 0) := by
  rw [Dev.sbdSwap, hl]
  rfl

theorem Dev.sbdSwap_runs (hn : d.get F.SBD_SHADOW_N.N 0 ≠ 0) :
    d.sbdSwap = ((d.tableLive l).set F.SBD_STAT.STATE 0 2).takePositions
      (((d.tableLive l).set F.SBD_STAT.STATE 0 2).circuits .SBD_LIVE_SLOT 0) :=
  (Dev.sbdSwap_armed hl).trans (if_neg hn)

theorem Dev.sbdSwap_idles (hn : d.get F.SBD_SHADOW_N.N 0 = 0) :
    d.sbdSwap = ((d.tableLive l).set F.SBD_STAT.STATE 0 1).allElectrical :=
  (Dev.sbdSwap_armed hl).trans (if_pos hn)

end

/-- What a swap counts. -/
abbrev swapFields : List Fld := [Reg.SBD_CYCLE_CNT.pair, Reg.SBD_SWAP_CNT.word, F.BUR_GEN.DESK_GEN]

theorem Dev.scheduleStarts_writes {l : List Fld} (d : Dev) (t : Nat) : d.Writes l (d.scheduleStarts t) := .same rfl rfl rfl

theorem Dev.genBump_writes (d : Dev) : d.Writes [F.BUR_GEN.DESK_GEN] d.genBump :=
  .trans (b := d.set F.BUR_GEN.DESK_GEN 0 (d.get F.BUR_GEN.DESK_GEN 0 + 1)) (.set (by decide)) (.same rfl rfl rfl)

theorem Dev.swapCounted_writes (d : Dev) (running : Bool) : d.Writes swapFields (d.swapCounted running) :=
  ((Dev.Writes.ite (fun _ => .addWrap64 (by decide)) fun _ => .refl d).trans (.count (by decide))).trans
    ((Dev.genBump_writes _).mono (by decide))

theorem Dev.tableLive_writes (d : Dev) (l : Nat) : d.tablesSwapped.Writes swapFields (d.tableLive l) :=
  (Dev.scheduleStarts_writes ..).trans (Dev.swapCounted_writes ..)

/-- An empty table that becomes live leads to IDLE with no swap armed and every port electrical. -/
theorem Dev.swapIdle_shows (d : Dev) (l : Nat) :
    ((d.tableLive l).set F.SBD_STAT.STATE 0 1).allElectrical.get F.SBD_STAT.STATE 0 = 1 ∧
    ((d.tableLive l).set F.SBD_STAT.STATE 0 1).allElectrical.bit F.SBD_STAT.ARMED 0 = false ∧
    ∀ i < 64, ((d.tableLive l).set F.SBD_STAT.STATE 0 1).allElectrical.bypassed i = false := by
  have hpositions := Dev.takePositions_writes ((d.tableLive l).set F.SBD_STAT.STATE 0 1) []
  have hstate : (d.tableLive l).Writes [F.SBD_STAT.STATE] ((d.tableLive l).set F.SBD_STAT.STATE 0 1) := .set (by decide)
  refine ⟨?state, ?armed, fun i hi => Dev.bypassed_allElectrical _ hi⟩
  case state => exact (hpositions.get (by decide) 0).trans (Dev.get_set_same _ ⟨by decide, by decide⟩ 0 1)
  case armed =>
    refine ((hpositions.bit (by decide) 0).trans (hstate.bit (by decide) 0)).trans ?_
    exact ((d.tableLive_writes l).bit (by decide) 0).trans (Dev.bit_setB_same _ ⟨by decide, by decide⟩ rfl 0 false)

/-! ## Boundaries -/

theorem Dev.slotBoundary_running (h : d.sbdRunning = true) {e : Dev}
    (he : e = ({ d with sbd := { d.sbd with slotStart := d.sbd.slotStart + 100 * d.slotLen .SBD_LIVE_SLOT d.liveSlot } } : Dev).set
      F.SBD_POS.LIVE_SLOT 0 (d.nextSlot d.liveSlot)) :
    d.slotBoundary =
      (if d.nextSlot d.liveSlot = 0 then e.addWrap64 .SBD_CYCLE_CNT 0 1 else e).takePositions
        ((if d.nextSlot d.liveSlot = 0 then e.addWrap64 .SBD_CYCLE_CNT 0 1 else e).circuits .SBD_LIVE_SLOT
          (d.nextSlot d.liveSlot)) := by
  subst he
  exact if_neg (by simp [h])

theorem Dev.darkEnd_running (h : d.sbdRunning = true) : d.darkEnd =
    d.each (d.liveCircuits d.liveSlot) fun d c =>
      if d.sbd.lit.at 0 c.1 = c.2 + 1 then d
      else { d with sbd := { d.sbd with lit := d.sbd.lit.put 0 c.1 (c.2 + 1),
                                        gain := d.sbd.gain.put 0 c.1 (BitVec.ofNat 32 (ofSigned 8 (d.sbdGain c.1))) } } :=
  if_neg (by simp [h])

/-! ## Failure and recovery -/

/-- What failing writes once every port is electrical. -/
abbrev failFields : List Fld :=
  [F.SBD_STAT.ARMED, Reg.SBD_REFUSE_CNT.word, F.SBD_LIVE_N.N, F.SBD_POS.LIVE_N, F.SBD_POS.LIVE_SLOT, Reg.SBD_ABORT_CNT.word]

theorem Dev.sbdDisarm_writes (d : Dev) : d.Writes failFields d.sbdDisarm := by
  have hdisarmed : d.Writes failFields ({ d.setB F.SBD_STAT.ARMED 0 false with sbd := { d.sbd with swapAt := none } } : Dev) :=
    .trans (b := d.setB F.SBD_STAT.ARMED 0 false) (.setB (by decide)) (.same rfl rfl rfl)
  exact .ite (fun _ => (hdisarmed.trans (.count (by decide))).trans .raise) fun _ => .refl d

theorem Dev.sbdNoLive_writes (d : Dev) : d.Writes failFields d.sbdNoLive :=
  ((Dev.Writes.set (by decide)).trans (.set (by decide))).trans (.set (by decide))

theorem Dev.sbdFail_eq (d : Dev) : d.sbdFail =
    ((((d.set F.SBD_STAT.STATE 0 3).allElectrical.sbdDisarm).sbdNoLive).count .SBD_ABORT_CNT).raise 40 2 (instDie 44) := rfl

theorem Dev.sbdFail_writes (d : Dev) : (d.set F.SBD_STAT.STATE 0 3).allElectrical.Writes failFields d.sbdFail :=
  (((Dev.sbdDisarm_writes _).trans (Dev.sbdNoLive_writes _)).trans (.count (by decide))).trans .raise

/-- A failed Sideboard shows FAILED, with every port electrical. -/
theorem Dev.sbdFail_shows (d : Dev) : d.sbdFail.get F.SBD_STAT.STATE 0 = 3 ∧ ∀ i < 64, d.sbdFail.bypassed i = false := by
  constructor
  · rw [d.sbdFail_writes.get (by decide)]
    exact ((Dev.takePositions_writes _ []).get (by decide) 0).trans (d.get_set_same ⟨by decide, by decide⟩ 0 3)
  · intro i hi
    rw [d.sbdFail_writes.bypassed (by decide)]
    exact Dev.bypassed_allElectrical _ hi

theorem Dev.noDriveOn_fails {lost : List Nat} (hst : d.get F.SBD_STAT.STATE 0 = 1 ∨ d.get F.SBD_STAT.STATE 0 = 2)
    (hlost : lost ≠ []) : d.noDriveOn lost =
      ({ d with sbd := { d.sbd with noDrive := d.sbd.noDrive ++ lost.filter fun n => !d.sbd.noDrive.contains n } } : Dev).sbdFail :=
  (if_neg hlost).trans (if_pos hst)

/-- Dies that lose their drive in IDLE or RUNNING fail the Sideboard, and a lost control die is reached no more (log entry 156). -/
theorem Dev.driveLost_fails {dies : Nat} {lost : List Nat} {e : Dev}
    (hst : d.get F.SBD_STAT.STATE 0 = 1 ∨ d.get F.SBD_STAT.STATE 0 = 2) (hlost : lost = drivenBy dies) (hne : lost ≠ [])
    (he : e = ({ d with sbd := { d.sbd with
      noDrive := d.sbd.noDrive ++ lost.filter fun n => !d.sbd.noDrive.contains n } } : Dev).sbdFail) :
    d.driveLost dies = { e with bus := { d.bus with
      sideFail := d.bus.sideFail ++ ((if bitAt dies 4 then [5] else []) ++ if bitAt dies 5 then [10] else []).filter
        fun x => !d.bus.sideFail.contains x } } := by
  rw [Dev.driveLost, ← hlost, Dev.noDriveOn_fails hst hne, he]

theorem Dev.sbdClear_idles (hst : d.get F.SBD_STAT.STATE 0 = 3) (hon : d.sbdPowered = true)
    (hmasked : ∀ n ∈ d.sbd.noDrive, bitAt (d.get F.SBD_DIE_MASK.MASK 0) n = true) :
    d.sbdClear = d.set F.SBD_STAT.STATE 0 1 :=
  if_pos ⟨hst, hon, List.all_eq_true.2 hmasked⟩

/-! ## Calibration -/

/-- A dark level that is too high on an output that is not lit is shown, counted and raised (R105). -/
theorem Dev.sbdCal_leaks {o : SbdCalObs} (hauto : d.bit F.SBD_CTL.AUTO_CAL 0 = true)
    (hst : d.get F.SBD_STAT.STATE 0 = 1 ∨ d.get F.SBD_STAT.STATE 0 = 2) (htask : o.task = .darkLevel) (hhigh : o.ok = false)
    (hdark : d.sbd.lit.at 0 o.port = 0) :
    d.sbdCal o = ((d.setB F.SBD_OUT_STAT.LEAK o.port true).count .SBD_CAL_FAIL_CNT).raise 40 4 (instDie 44) := by
  have hruns : ¬((!d.bit F.SBD_CTL.AUTO_CAL 0) = true ∨ d.get F.SBD_STAT.STATE 0 ≠ 1 ∧ d.get F.SBD_STAT.STATE 0 ≠ 2) := by
    simp only [hauto, Bool.not_true, Bool.false_eq_true, false_or]
    omega
  have hleak : ¬(o.ok = true ∨ d.sbd.lit.at 0 o.port ≠ 0) := by simp [hhigh, hdark]
  simp only [Dev.sbdCal, if_neg hruns, htask, if_neg hleak]

/-- Settles O19 (R97, R100, R101, R105 to R107, Table 4.6; log entries 32, 81, 82, 156): each command by the law of its own
operation, and the ports in by-pass after it by the positions taken. -/
theorem sideboardRuns : Obligations.SideboardRuns := by
  unfold Obligations.SideboardRuns
  refine ⟨?swap, ?guard, ?boundary, ?positions, ?emptied, ?darkEnd, ?driveLost, ?fail, ?failed, ?clear, ?leak⟩
  case swap =>
    intro s l n c d e hl hn hne hc hd he
    subst hn hc hd he
    rw [exec_sbdSwapTakeEffect, Dev.sbdSwap_runs hl hne]
    rfl
  case guard => exact fun s => rfl
  case boundary =>
    intro s d hrun hd
    rw [exec_slotBoundary, Dev.slotBoundary_running hrun hd]
  case positions =>
    intro d e cs i he hi
    rw [he, d.bypassed_takePositions cs hi]
  case emptied =>
    intro s l hl hn
    rw [exec_sbdSwapTakeEffect, Dev.sbdSwap_idles hl hn]
    exact ⟨_, rfl, s.dev.swapIdle_shows l⟩
  case darkEnd =>
    intro s hrun
    rw [exec_slotDarkEnd, Dev.darkEnd_running hrun]
  case driveLost =>
    intro s dies lost dark d hst hlost hne hdark hd
    subst hdark
    rw [exec_sbdDriveLost, Dev.driveLost_fails hst hlost hne hd]
  case fail => exact Dev.sbdFail_eq
  case failed => exact Dev.sbdFail_shows
  case clear =>
    intro s a hr hst hon hmasked
    rw [exec_sbdClear, Dev.onWrite_reaches hr, Dev.sbdClear_idles hst hon hmasked]
  case leak =>
    intro s o hauto hst htask hhigh hdark
    rw [exec_sbdCalibration, Dev.sbdCal_leaks hauto hst htask hhigh hdark]

end Sys2Proof.Machine
end

section
/-! The job table and the rank map (R119, R126, R127, R131): a request denied, and the write that commits a job entry. -/
namespace Sys2Proof.Machine

/-! ## Requests refused and register writes committed -/

/-- A request that its sender may not give is counted, raised and answered DENIED (R126). -/
theorem Dev.onJob_denied {d : Dev} {r : JobCtl} (h : (d.jobTaken r).jobAllowed r = false) (f : Dev → Dev) :
    d.onJob r f =
      (((d.jobTaken r).count .FWD_CTL_DENY).raise (41 + (d.jobTaken r).master) 2
        (instDie (26 + (d.jobTaken r).master))).jobResp r 1 [] := by
  simp only [Dev.onJob, h, Bool.not_false, if_true]

/-- A job entry whose rank range lies inside the rank map is put in force. -/
theorem Dev.jobCommit_fits {d : Dev} {desk j : Nat} {v : Word}
    (h : bitsOf (d.rd .FWD_JOB j 2).toNat 17 0 + bitsOf (d.rd .FWD_JOB j 3).toNat 18 0 ≤ 262144) :
    d.jobCommit desk j v =
      (d.jobPut j [v &&& 0xF0FF0000#32, d.rd .FWD_JOB j 1, d.rd .FWD_JOB j 2, d.rd .FWD_JOB j 3]).genBump :=
  if_pos h

/-- Settles O21 (R119, R126, R127, R131, Table 5.9): the command of a request that is executed, or its denial; the writes of the
two tables by what a write that reaches its register does. -/
theorem jobTables : Obligations.JobTables := by
  unfold Obligations.JobTables
  refine ⟨?unknown, ?controller, ?rankMap, ?denied, ?entry, ?rankReg⟩
  case unknown =>
    intro s r hr
    rw [exec_jobCtlUnknownCmd, Dev.onJob_reaches hr]
  case controller =>
    intro s r v hr hv
    rw [exec_setController, Dev.onJob_reaches hr, hv]
    rfl
  case rankMap =>
    intro s r hr
    rw [exec_rankMapWrite, Dev.onJob_reaches hr]
    rfl
  case denied =>
    intro s r hdeny
    rw [exec_setController, Dev.onJob_denied hdeny]
  case entry =>
    intro s a j v hr hfits
    rw [exec_jobEntryCommit, Dev.onWrite_reaches hr, Dev.jobCommit_fits hfits]
  case rankReg =>
    intro s a e v hr
    rw [exec_rankMapRegWrite, Dev.onWrite_reaches hr]
    rfl

end Sys2Proof.Machine
end

section
/-! Job control of Drawers (R127, R240, R264 to R266): DRAWER_ABORT, and REFORM from the request to its answer. -/
namespace Sys2Proof

/-- A filter that takes no entry of a key leaves the key without one. -/
theorem Tbl.find_filter_eq_none {α : Type} (t : Tbl α) {p : Nat × α → Bool} {k : Nat} (h : ∀ v, p (k, v) = false) :
    Tbl.find (t.filter p) k = none := by
  induction t with
  | nil => rfl
  | cons e t ih =>
    obtain ⟨j, v⟩ := e
    cases hp : p (j, v) with
    | false => rw [List.filter_cons_of_neg (by simp [hp]), ih]
    | true =>
      have hjk : k ≠ j := by
        rintro rfl
        simp [h v] at hp
      rw [List.filter_cons_of_pos hp, Tbl.find, if_neg hjk, ih]

namespace Machine

/-! ## Requests on a handle -/

section
variable {d : Dev} {r : JobCtl} {h : Nat}

theorem Dev.jobAbort_noHandle (hh : d.jobHandle r = none) : d.jobAbort r = d.jobDone r 5 [] := by
  simp only [Dev.jobAbort, hh]

theorem Dev.reform_noHandle (hh : d.jobHandle r = none) : d.reform r = d.jobDone r 5 [] := by
  simp only [Dev.reform, hh]

/-- An abort that the Drawer accepts is answered its new epoch (R240). -/
theorem Dev.jobAbort_aborts {e : Dev} {ep : Nat} (hh : d.jobHandle r = some h) (habort : d.abortDrawer h = ((0, ep), e)) :
    d.jobAbort r = e.jobDone r 0 (beBytes 1 ep) := by
  simp only [Dev.jobAbort, hh, habort]

/-- A REFORM that leaves the Drawer some of its members clears VALID of the others and is not answered yet (R264). -/
theorem Dev.reform_waits {c : DrwCtx} {l : List Nat} (hh : d.jobHandle r = some h) (hst : d.drwState h = 2 ∨ d.drwState h = 3)
    (hc : d.ctx (d.drwDie h) h = some c) (hfree : d.epochFree c = true) (hnone : d.cab.reforms.find h = none)
    (hl : reformList r.payload = some l) (hsub : l.all (d.deskMembers h).contains = true)
    (hrest : (d.deskMembers h).all l.contains = false) :
    d.reform r = (d.each l fun d i => d.setB F.DRW_MEMBER.VALID (memberIx h i) false).updCab fun k =>
      { k with reforms := k.reforms.insert h { req := r, removed := l, applied := false, prev := d.drwState h } } := by
  have hready : ¬((d.drwState h ≠ 2 ∧ d.drwState h ≠ 3) ∨ (!d.epochFree c) = true ∨
      (d.cab.reforms.find h).isSome = true) := by
    simp only [hfree, hnone, Bool.not_true, Option.isSome_none, Bool.false_eq_true, or_false]
    omega
  have hgood : ¬(l.any (fun i => !(d.deskMembers h).contains i) = true ∨ (d.deskMembers h).all l.contains = true) := by
    rw [hrest, ← List.not_all_eq_any_not, hsub]
    simp
  simp only [Dev.reform, hh, hc, if_neg hready, hl, if_neg hgood]

end

/-! ## Members that leave -/

section
variable (d : Dev) (h : Nat) (l : List Nat) (c : DrwCtx)

theorem Dev.dropMembers_contains (i : Nat) :
    (d.dropMembers h l c).members.contains i = (c.members.contains i && !l.contains i) := by
  rw [Bool.eq_iff_iff]
  simp [Dev.dropMembers]

/-- The counts of the data phase are taken over without those of the members that leave. -/
theorem Dev.dropMembers_layout {i : Nat} (hphase : c.phase = 2) (hi : l.contains i = true) (t : Nat) :
    (d.dropMembers h l c).layout.at 0 (key2 t i) = 0 := by
  simp only [Dev.dropMembers, if_pos hphase, Tbl.at]
  rw [Tbl.find_filter_eq_none, Option.getD_none]
  intro v
  simp only [key2, Nat.unpair_pair, hi, Bool.not_true, Bool.false_and]

/-- A count round goes on without the counts of the members that leave. -/
theorem Dev.dropMembers_counts {i : Nat} (hphase : c.phase = 1) (hi : l.contains i = true) (t : Nat) :
    (d.dropMembers h l c).counts.at 0 (key2 t i) = 0 := by
  simp only [Dev.dropMembers, if_pos hphase, Tbl.at]
  rw [Tbl.find_filter_eq_none, Option.getD_none]
  intro v
  simp only [key2, Nat.unpair_pair, hi, Bool.not_true, Bool.false_and, Bool.and_false]

end

/-! ## The application and the end of a reform -/

section
variable {d : Dev} {h : Nat} {q : ReformReq} {c : DrwCtx}

/-- The context of a Drawer once a reform is applied: REFORMING, without the members that leave, its epoch advanced (R264). -/
def Dev.reformed (d : Dev) (h : Nat) (q : ReformReq) (c : DrwCtx) : DrwCtx :=
  { (d.dropMembers h q.removed c).advance d.raw 0 with state := 4, strag := none }

theorem Dev.reformApply_applies (hq : d.cab.reforms.find h = some q) (hc : d.ctx (d.drwDie h) h = some c)
    (hwaits : q.applied = false) (hfree : d.epochFree c = true) (hst : c.state = 2 ∨ c.state = 3) :
    d.reformApply h =
      (((d.feedShadow (d.drwDie h) h (.reform q.removed (d.reformed h q c).epoch)).putCtx (d.drwDie h) h
        (d.reformed h q c)).wantAlloc (d.drwDie h) h).updCab fun k =>
          { k with reforms := k.reforms.insert h { q with applied := true, prev := c.state } } := by
  have hready : ¬((q.applied || !d.epochFree c || (c.state != 2 && c.state != 3)) = true) := by
    rcases hst with hst | hst <;> simp [hwaits, hfree, hst]
  simp only [Dev.reformApply, hq, hc, if_neg hready]
  rfl

theorem Dev.reformClear_answers (hq : d.cab.reforms.find h = some q) (hc : d.ctx (d.drwDie h) h = some c)
    (happlied : q.applied = true) (hst : c.state = 4) :
    d.reformClear h =
      ((((((((d.putCtx (d.drwDie h) h { (c.clearChunks d.raw) with state := q.prev }).statusAll (d.drwDie h) h c.w 6
        c.epoch).count .CAB_REFORM (d.drwDie h)).reformEnd h q 0 (beBytes 1 c.epoch)).settle (d.drwDie h) h).countsDone
          (d.drwDie h) h).wantAlloc (d.drwDie h) h).closeIfDone (d.drwDie h) h) := by
  simp only [Dev.reformClear, hq, hc, happlied, Bool.not_true, Bool.false_eq_true, if_false, hst, ne_eq, not_true_eq_false]

end

/-- Settles O33 (R127, R240, R264 to R266, Table 11.5; log entries 73, 92): each request by its handle, then the steps of a
reform. -/
theorem drawerJobControl : Obligations.DrawerJobControl := by
  unfold Obligations.DrawerJobControl
  refine ⟨?noHandle, ?abort, ?reform, ?apply, ?leave, ?clear⟩
  case noHandle =>
    intro s r d hd hr hh
    subst hd
    rw [exec_drawerAbort, exec_reform, Dev.onJob_reaches hr, Dev.onJob_reaches hr, Dev.jobAbort_noHandle hh,
      Dev.reform_noHandle hh]
    exact ⟨rfl, rfl⟩
  case abort =>
    intro s r d e h ep hd hr hh habort
    subst hd
    rw [exec_drawerAbort, Dev.onJob_reaches hr, Dev.jobAbort_aborts hh habort]
  case reform =>
    intro s r d h c l hd hr hh hst hc hfree hnone hl hsub hrest
    subst hd
    rw [exec_reform, Dev.onJob_reaches hr, Dev.reform_waits hh hst hc hfree hnone hl hsub hrest]
  case apply =>
    intro s h q c c' hq hc hwaits hfree hst hc'
    subst hc'
    rw [exec_reformApply, Dev.reformApply_applies hq hc hwaits hfree hst]
    rfl
  case leave =>
    intro d h l c e he
    subst he
    have hcounts : c.phase = 2 → (d.dropMembers h l c).counts = c.counts := fun hphase => if_neg (by omega)
    exact ⟨d.dropMembers_contains h l c, rfl, rfl,
      fun hphase => ⟨hcounts hphase, fun t _ hi => d.dropMembers_layout h l c hphase hi t⟩,
      fun hphase t _ hi => d.dropMembers_counts h l c hphase hi t⟩
  case clear =>
    intro s h q c k d hq hk hc happlied hst hd
    subst hk hd
    rw [exec_reformClearDone, Dev.reformClear_answers hq hc happlied hst]

end Machine

end Sys2Proof
end

section
/-! Withdrawal of a logical port (R141): the one port that a write of one withdraw bit moves frames from, and the member
that a frame is sent to again. -/
namespace Sys2Proof.Machine

/-! ## One bit of a word -/

theorem bitAt_eq_bitsOf (v i : Nat) : bitAt v i = (bitsOf v i i == 1) := by
  simp [bitAt, bitsOf]

/-- Setting a bit leaves every other as it was. -/
theorem bitAt_withBit_true (v i j : Nat) : bitAt (withBit v i true) j = (bitAt v j || j == i) := by
  simp only [bitAt_eq_bitsOf, withBit]
  rcases lt_trichotomy j i with hlt | rfl | hgt
  · simp [bitsOf_withBits_below le_rfl hlt le_rfl, hlt.ne]
  · simp [bitsOf_withBits_same]
  · simp [bitsOf_withBits_above le_rfl hgt, hgt.ne']

/-- The bits of a word that are new when one bit goes from 0 to 1: that bit alone. -/
theorem bitList_withBit_new {v i : Nat} (hi : i < 32) (hclear : bitAt v i = false) :
    (bitList (withBit v i true) 32).filter (fun n => !bitAt v n) = [i] := by
  have hnew : ∀ n, (!bitAt v n && bitAt (withBit v i true) n) = (n == i) := by
    intro n
    rw [bitAt_withBit_true]
    by_cases hn : n = i
    · simp [hn, hclear]
    · cases hv : bitAt v n <;> simp [hn]
  have honce : (List.range 32).count i = 1 := List.count_eq_one_of_mem List.nodup_range (List.mem_range.2 hi)
  simp only [bitList, List.filter_filter, hnew, List.filter_beq, honce, List.replicate_one]

/-! ## Frames given back -/

/-- A withdraw bit that goes from 0 to 1 is stored, and its port alone gives its frames back. -/
theorem Dev.withdraw_newly (d : Dev) {lp : Nat} (hclear : d.withdrawn lp = false) :
    d.withdraw lp =
      (d.wr .FWD_LP_WITHDRAW (lp / 32) 0 (BitVec.ofNat 32
        (withBit (d.rd .FWD_LP_WITHDRAW (lp / 32)).toNat (lp % 32) true))).withdrawQueues lp := by
  have hbit : lp % 32 < 32 := Nat.mod_lt _ (by decide)
  have hword : withBit (d.rd .FWD_LP_WITHDRAW (lp / 32)).toNat (lp % 32) true < 2 ^ 32 :=
    withBits_lt (d.rd .FWD_LP_WITHDRAW (lp / 32)).isLt hbit le_rfl
  rw [Dev.withdraw, Dev.withdrawWrite, BitVec.toNat_ofNat, Nat.mod_eq_of_lt hword, bitList_withBit_new hbit hclear]
  simp only [Dev.each, List.foldl_cons, List.foldl_nil, Nat.div_add_mod]

/-- A frame to an aggregate whose choice is a port is sent to that port again. -/
theorem Dev.reenqueue_aggregate {d e : Dev} {t old n : Nat} {f : Frm} (hformat : fFormat f.bytes = 0)
    (hdst : fDstType f.bytes = 0)
    (hchoice : d.memberChoice t f.gen (fDst f.bytes / 4096) f.cls true f.bytes = (.lp n, e)) :
    d.reenqueue t old f =
      ((e.count .FWD_REENQ t).sendLp { f with die := t, acct := 69, reenq := true } n).moveRx t old e.core.nextFid := by
  simp only [Dev.reenqueue, hformat, hdst, if_true, hchoice]

end Sys2Proof.Machine
end

section
/-! The learning table (R145, R146, R148): what each learn request does at its owner, the changes that a copy applies, and
the ageing sweep. -/
namespace Sys2Proof.Machine

section

variable {d : Dev} {t kind i : Nat} {r : LearnReq} {rest : List LearnReq} {e : LearnEnt}

/-- The oldest request of a tile, taken where it is of the kind asked for. -/
theorem Dev.takeLearn_oldest (hq : d.fwd.learnQ.at [] t = r :: rest) (hkind : r.kind = kind) :
    d.takeLearn t kind = (some r, d.updFwd fun w => { w with learnQ := w.learnQ.put [] t rest }) := by
  simp only [Dev.takeLearn, hq, if_pos hkind]

variable {taken : Dev}

theorem Dev.learnHit_found (htake : d.takeLearn t 0 = (some r, taken)) (hfind : taken.ownerFind r.vid r.mac = some (i, e)) :
    d.learnHit t = taken.learnChange t i (some { e with hit := true, stale := false }) := by
  simp only [Dev.learnHit, htake, hfind]

theorem Dev.learnMove_found (htake : d.takeLearn t 1 = (some r, taken)) (hfind : taken.ownerFind r.vid r.mac = some (i, e))
    (hstatic : e.static = false) :
    d.learnMove t = (taken.learnChange t i
      (some { e with leaf := false, target := r.lp, hit := true, stale := false })).count .FWD_LEARN_MOVE t := by
  simp only [Dev.learnMove, htake, hfind, hstatic, Bool.false_eq_true, if_false]

theorem Dev.learnInsert_placed (htake : d.takeLearn t 2 = (some r, taken)) (hfind : taken.ownerFind r.vid r.mac = none)
    (hplace : taken.learnPlace r.vid r.mac = some i) :
    d.learnInsert t = taken.learnChange t i (some ⟨r.vid, r.mac, false, true, false, false, r.lp⟩) := by
  simp only [Dev.learnInsert, htake, hfind, hplace]

end

theorem Dev.learnApply_oldest {d : Dev} {t i : Nat} {new : Option LearnEnt} {rest : List (Nat × Option LearnEnt)}
    (h : d.fwd.learnUpd.at [] t = (i, new) :: rest) :
    d.learnApply t = d.updFwd fun w =>
      { w with
        learnUpd := w.learnUpd.put [] t rest
        learnLag := if rest.any (fun u => u.1 == i) then w.learnLag.insert (key2 t i) new
          else w.learnLag.erase (key2 t i) } := by
  simp only [Dev.learnApply, h]

/-- What a sweep does with one entry: HIT is cleared first, STALE set next, and the entry removed last (R148). -/
def Dev.ageEntry (d : Dev) (t : Nat) (e : Nat × LearnEnt) : Dev :=
  if e.2.hit then d.learnChange t e.1 (some { e.2 with hit := false, stale := false })
  else if e.2.stale then (d.learnChange t e.1 none).count .FWD_AGE_REMOVE t
  else d.learnChange t e.1 (some { e.2 with stale := true })

theorem Dev.ageSweep_eq (d : Dev) (t : Nat) :
    d.ageSweep t =
      if d.bit F.FWD_AGE_CFG.AGE_EN 0 then
        d.each (d.fwd.learn.filter fun e => !e.2.static && learnOwner e.2.vid e.2.mac == t) fun d e => d.ageEntry t e
      else d := by
  have hentry : ∀ (d : Dev) (e : Nat × LearnEnt),
      (if e.2.hit then d.learnChange t e.1 (some { e.2 with hit := false, stale := false })
       else if !e.2.stale then d.learnChange t e.1 (some { e.2 with stale := true })
       else (d.learnChange t e.1 none).count .FWD_AGE_REMOVE t) = d.ageEntry t e := by
    intro d e
    cases hstale : e.2.stale <;> simp [Dev.ageEntry, hstale]
  cases hen : d.bit F.FWD_AGE_CFG.AGE_EN 0 <;> simp only [Dev.ageSweep, hen, hentry] <;> rfl

/-- Settles O22 (R138, R141, R145, R146, R148): withdrawal by the one bit that is new, each learn request by what it finds at
its owner, the sweep by what it does with one entry. -/
theorem learningAndWithdrawal : Obligations.LearningAndWithdrawal := by
  unfold Obligations.LearningAndWithdrawal
  refine ⟨?withdraw, ?queues, ?again, ?hit, ?move, ?insert, ?copy, ?sweep⟩
  case withdraw =>
    intro s a lp d hr hd hclear
    rw [exec_lpWithdraw, Dev.onWrite_reaches hr, Dev.withdraw_newly _ hclear, hd]
  case queues => exact fun _ _ => rfl
  case again =>
    intro d e t old e' n f hformat hdst he hchoice
    subst he
    exact Dev.reenqueue_aggregate hformat hdst hchoice
  case hit =>
    intro s t r rest i e d hq hkind hd hfind
    subst hd
    rw [exec_learnHitReport, Dev.learnHit_found (Dev.takeLearn_oldest hq hkind) hfind]
  case move =>
    intro s t r rest i e d hq hkind hd hfind hstatic
    subst hd
    rw [exec_learnMoveRequest, Dev.learnMove_found (Dev.takeLearn_oldest hq hkind) hfind hstatic]
  case insert =>
    intro s t r rest i d hq hkind hd hfind hplace
    subst hd
    rw [exec_learnInsertRequest, Dev.learnInsert_placed (Dev.takeLearn_oldest hq hkind) hfind hplace]
  case copy =>
    intro s t i new rest h
    rw [exec_learnUpdateApply, Dev.learnApply_oldest h]
  case sweep =>
    intro s t
    rw [exec_ageSweep, Dev.ageSweep_eq]
    rfl

end Sys2Proof.Machine
end

section
/-! The route banks (R149 to R152): the swap and its refusal, and the two ends of a drain. -/
namespace Sys2Proof.Machine

theorem liveBank_one : Fld.One F.FWD_BANK_CTL.LIVE_BANK := ⟨by decide, by decide⟩

theorem routeGen_one : Fld.One F.FWD_BANK_CTL.ROUTE_GEN := ⟨by decide, by decide⟩

theorem draining_one : Fld.One F.FWD_BANK_CTL.DRAINING := ⟨by decide, by decide⟩

/-- The device after a swap of the route banks: the other bank live, one generation counted, the drain begun (R149). -/
def Dev.banksSwapped (d : Dev) : Dev :=
  ((d.set F.FWD_BANK_CTL.LIVE_BANK 0 (1 - d.liveBank)).set F.FWD_BANK_CTL.ROUTE_GEN 0
    ((d.set F.FWD_BANK_CTL.LIVE_BANK 0 (1 - d.liveBank)).get F.FWD_BANK_CTL.ROUTE_GEN 0 + 1)).setB
    F.FWD_BANK_CTL.DRAINING 0 true

theorem Dev.liveBank_banksSwapped (d : Dev) : d.banksSwapped.liveBank = 1 - d.liveBank := by
  have hfits : 1 - d.liveBank < 2 := by omega
  calc d.banksSwapped.liveBank
      = (d.set F.FWD_BANK_CTL.LIVE_BANK 0 (1 - d.liveBank)).get F.FWD_BANK_CTL.LIVE_BANK 0 := by
        rw [Dev.liveBank, Dev.banksSwapped, Dev.setB, Dev.get_set_apart _ draining_one liveBank_one (by decide),
          Dev.get_set_apart _ routeGen_one liveBank_one (by decide)]
    _ = 1 - d.liveBank := by rw [Dev.get_set_same _ liveBank_one]; exact Nat.mod_eq_of_lt hfits

theorem Dev.routeGen_banksSwapped (d : Dev) :
    d.banksSwapped.get F.FWD_BANK_CTL.ROUTE_GEN 0 = (d.get F.FWD_BANK_CTL.ROUTE_GEN 0 + 1) % 65536 := by
  rw [Dev.banksSwapped, Dev.setB, Dev.get_set_apart _ draining_one routeGen_one (by decide), Dev.get_set_same _ routeGen_one,
    Dev.get_set_apart _ liveBank_one routeGen_one (by decide)]
  rfl

section

variable {d : Dev}

theorem Dev.routeSwap_idle (h : d.bit F.FWD_BANK_CTL.DRAINING 0 = false) : d.routeSwap = d.banksSwapped := by
  simp only [Dev.routeSwap, h, Bool.false_eq_true, if_false]
  rfl

theorem Dev.routeSwap_draining (h : d.bit F.FWD_BANK_CTL.DRAINING 0 = true) :
    d.routeSwap = (d.count .FWD_SWAP_REFUSE_CNT).raise (41 + d.master) 4 (instDie (26 + d.master)) :=
  if_pos h

/-- A drain ends where no die holds a cell of the old bank (R151). -/
theorem Dev.drainComplete_empty (h : d.bit F.FWD_BANK_CTL.DRAINING 0 = true)
    (hempty : ∀ m < 24, d.drainCells m (1 - d.liveBank) = 0) : d.drainComplete = d.drainClear := by
  have hall : (List.range 24).all (fun m => d.drainCells m (1 - d.liveBank) == 0) = true :=
    List.all_eq_true.2 fun m hm => beq_iff_eq.2 (hempty m (List.mem_range.1 hm))
  exact if_pos ⟨h, hall⟩

theorem Dev.drainTimeout_draining (h : d.bit F.FWD_BANK_CTL.DRAINING 0 = true) :
    d.drainTimeout = (d.each (List.range 24) fun e m => e.dropOld (1 - d.liveBank) d.begunUids m).drainClear :=
  if_pos h

end

/-- Settles O23 (R149 to R152): a swap by whether the banks drain, and the two ends of a drain. -/
theorem routeBanks : Obligations.RouteBanks := by
  unfold Obligations.RouteBanks
  refine ⟨?swap, ?refused, ?drained, ?timeout⟩
  case swap =>
    intro s a hr hidle
    refine ⟨s.withDev s.dev.banksSwapped, ?_, rfl, s.dev.liveBank_banksSwapped, s.dev.routeGen_banksSwapped⟩
    rw [exec_swapNow, Dev.onWrite_reaches hr, Dev.routeSwap_idle hidle]
  case refused =>
    intro s a hr hdrain
    rw [exec_swapNow, Dev.onWrite_reaches hr, Dev.routeSwap_draining hdrain]
  case drained =>
    intro s hdrain hempty
    rw [exec_drainComplete, Dev.drainComplete_empty hdrain hempty, Dev.drainClear]
  case timeout =>
    intro s hdrain
    rw [exec_drainTimeout, Dev.drainTimeout_draining hdrain, Dev.drainClear]

end Sys2Proof.Machine
end

section
/-! Traffic management (R139, R181 to R183, R190, R194): the marking and the refill of a policer, a refill instant with
nothing to refill, and the load level. -/
namespace Sys2Proof.Machine

/-! ## Policers -/

/-- The colour of a frame: red beyond the peak bucket, yellow beyond the committed one or where it came so, else green; what
it takes from the buckets (R181). -/
theorem mark_eq (k : Buckets) (b : Int) (y : Bool) :
    mark k b y =
      if k.p < b then (2, k) else if y = true ∨ k.c < b then (1, { c := k.c, p := k.p - b })
      else (0, { c := k.c - b, p := k.p - b }) := by
  simp only [mark, Bool.or_eq_true, decide_eq_true_eq]

/-- The buckets of a policer after a refill: 256 × CIR and 256 × PIR more, up to the caps (R182). -/
def Dev.polRefilled (d : Dev) (t n : Nat) : Buckets :=
  { c := min (8000 * (256 * bitsOf (d.polWord t n 3) 15 0 : Nat) : Int)
      ((d.polBuckets t n).c + (256 * bitsOf (d.polWord t n 1) 25 0 : Nat))
    p := min (8000 * (256 * bitsOf (d.polWord t n 3) 31 16 : Nat) : Int)
      ((d.polBuckets t n).p + (256 * bitsOf (d.polWord t n 2) 25 0 : Nat)) }

/-- With no words pending EN stays as it is, so that the buckets are refilled and not filled. -/
theorem Dev.refillPol_settled {d : Dev} {t n : Nat} (h : d.tm.polPend.at [] (key2 t n) = []) :
    d.refillPol t n = d.updTm fun m => { m with pol := m.pol.put {} (key2 t n) (d.polRefilled t n) } := by
  simp only [Dev.refillPol, h, if_true, Bool.and_not_self, Bool.false_eq_true, if_false, Dev.polRefilled]

/-- A refill instant of a tile with no policer, shaper or queue takes the overheads alone. -/
theorem Dev.refill_overheads {d : Dev} {t : Nat} (hpolPend : keysOf d.tm.polPend t = []) (hpol : keysOf d.tm.polCfg t = [])
    (hshpPend : keysOf d.tm.shpPend t = []) (hshp : keysOf d.tm.shpCfg t = []) (hqueues : keysOf d.core.queues t = []) :
    d.refill t = d.each (List.range 64) fun d l =>
      d.updTm fun m => { m with ovh := m.ovh.put 0 (key2 t l) (d.rd .TM_LP_OVH (64 * t + l)) } := by
  have hcore : (d.each (List.range 64) fun d l =>
      d.updTm fun m => { m with ovh := m.ovh.put 0 (key2 t l) (d.rd .TM_LP_OVH (64 * t + l)) }).core = d.core :=
    Dev.each_keeps (·.core) d _ fun _ _ => rfl
  have hnone : ∀ (e : Dev) (f : Dev → Nat → Dev), e.each [] f = e := fun _ _ => rfl
  simp only [Dev.refill, hpolPend, hpol, hshpPend, hshp, List.map_nil, List.append_nil, List.eraseDups_nil, hnone, hcore,
    hqueues]

/-! ## Load levels -/

/-- The load level of a depth is its number of bits, at most 15 (R139). -/
theorem levelOf_eq_size (n : Nat) : levelOf n = min 15 n.size := by
  rcases eq_or_ne n 0 with rfl | hn
  · rfl
  · have hsize : n.size = n.log2 + 1 :=
      le_antisymm (Nat.size_le.2 Nat.lt_log2_self) (Nat.lt_size.2 (Nat.log2_self_le hn))
    rw [levelOf, if_neg hn, hsize]

/-- Settles O28 (R139, R181 to R183, R190, R194, Table 8.2): a policer's write, marking and refill, then the instants of a
tile. -/
theorem trafficManagement : Obligations.TrafficManagement := by
  unfold Obligations.TrafficManagement
  refine ⟨?write, mark_eq, ?refillPol, ?instant, ?overheads, ?publish, levelOf_eq_size, ?sample⟩
  case write =>
    intro s a t n v i ws hi hr hws
    subst hi hws
    rw [exec_policerWord0Write, Dev.onWrite_reaches hr]
    rfl
  case refillPol =>
    intro d t n k hpend hc hp
    rw [Dev.refillPol_settled hpend, Dev.polRefilled, ← hc, ← hp]
  case instant => exact fun s t => exec_refillInstant t s
  case overheads =>
    intro s t hpolPend hpol hshpPend hshp hqueues
    rw [exec_refillInstant, Dev.refill_overheads hpolPend hpol hshpPend hshp hqueues]
  case publish =>
    intro s t
    rw [exec_loadLevelPublish]
    rfl
  case sample =>
    intro s t
    rw [exec_sampleInstant]
    rfl

end Sys2Proof.Machine
end

section
/-! Cells inside a die (R157 to R160, R163, R167, R168, R425): the lane pattern and the staged cell sent, the resequencer,
promotion, poison, and the deep buffer read back. -/
namespace Sys2Proof.Machine

/-! ## Crossbar -/

/-- In one cycle no two input lanes feed the same intermediate (R157). -/
theorem stageOne_inj {n i j : Nat} (hi : i < 112) (hj : j < 112) (h : stageOne n i = stageOne n j) : i = j := by
  have hmod : i ≡ j [MOD 112] := Nat.ModEq.add_right_cancel' n h
  exact hmod.eq_of_lt_of_lt hi hj

/-- The cell that an input lane sends lies among its oldest 64, and finds room in the intermediate and in its group's FIFO
(R158). -/
theorem CoreSt.pick_some {c : CoreSt} {t lane m : Nat} {x : Staged} (h : c.pick t lane m = some x) :
    c.midFill t m < 128 ∧ (c.fifo t m x.grp).length < groupCap x.grp ∧ x ∈ (c.lanes.at [] (key2 t lane)).take 64 := by
  unfold CoreSt.pick at h
  split at h
  case isTrue hfill =>
    have hroom : c.room t m x = true := List.find?_some h
    exact ⟨hfill, of_decide_eq_true hroom, List.mem_of_find?_eq_some h⟩
  case isFalse => cases h

/-! ## Resequencer -/

@[simp] theorem Dev.triple_updTriple_same (d : Dev) (die lane grp cls : Nat) (f : Triple → Triple) :
    (d.updTriple die lane grp cls f).triple die lane grp cls = f (d.triple die lane grp cls) :=
  Tbl.at_put_same _ _ _ _

section

variable {d e : Dev} {die lane grp cls : Nat}

/-- The cell next in order is released, and up to `n` more after it (R159). -/
theorem Dev.reseqRelease_here {n : Nat} {x : Nat × Nat} (he : e = d.xbarTo die lane grp cls)
    (hx : (e.triple die lane grp cls).cellAt (e.triple die lane grp cls).relSeq = some x) :
    d.reseqRelease die lane grp cls (n + 1) =
      ((e.updTriple die lane grp cls fun t => { t.take t.relSeq with relSeq := (t.relSeq + 1) % 65536 }).land
        x.1).reseqRelease die lane grp cls n := by
  subst he
  simp only [Dev.reseqRelease, hx]

/-- With the cell next in order not there, nothing is released. -/
theorem Dev.reseqRelease_missing {n : Nat} (he : e = d.xbarTo die lane grp cls)
    (hx : (e.triple die lane grp cls).cellAt (e.triple die lane grp cls).relSeq = none) :
    d.reseqRelease die lane grp cls (n + 1) = e := by
  subst he
  simp only [Dev.reseqRelease, hx]

/-- A cell that has not come in RESEQ_TO, while a later one waits, is lost; the later ones are released (R159). -/
theorem Dev.reseqTimeout_lost {x : Nat × Nat} (he : e = d.xbarRun (max 1 (d.get F.XBAR_CFG.RESEQ_TO die)))
    (hlater : (e.triple die lane grp cls).cells.any (fun y => y.1 != (e.triple die lane grp cls).relSeq) = true)
    (hgone : e.awaited die lane grp cls = some x) :
    d.reseqTimeout die lane grp cls =
      ((((e.loseAwaited die lane grp cls).markLost x.1 x.2).count .XBAR_RESEQ_TO die).raise (meshUnit die) 2
        (instDie die)).reseqRelease die lane grp cls (e.triple die lane grp cls).cells.length := by
  subst he
  simp only [Dev.reseqTimeout, hlater, hgone, if_true]

/-- The cell lost is passed over: the resequencer waits for the SEQ after it. -/
theorem Dev.relSeq_loseAwaited (d : Dev) (die lane grp cls : Nat) :
    ((d.loseAwaited die lane grp cls).triple die lane grp cls).relSeq =
      ((d.triple die lane grp cls).relSeq + 1) % 65536 := by
  rw [Dev.loseAwaited, Dev.triple_updTriple_same]

end

/-! ## Promotion -/

/-- The oldest reserve cell of an account moves to the shared part where that has room for it, and returns one credit, which
a copy does not hold (R163). -/
theorem Dev.promote_oldest {d e : Dev} {die src ci fid : Nat} {rest : List Nat} {f : Frm}
    (horder : (d.acct die src ci).order = fid :: rest) (hf : d.frm fid = some f) (hhere : f.prom < f.here)
    (hbuf : ¬ (16 ≤ die ∧ ci = 2 ∧ d.bufFull die = true))
    (hlimit : (d.acct die src ci).shared < d.limit die (if ci = 8 then 4 else ci))
    (hfree : d.sharedUsed die < d.sharedSize die)
    (he : e = (d.putFrm fid { f with prom := f.prom + 1 }).updAcct die src ci fun a =>
      { a with resv := a.resv - 1, shared := a.shared + 1,
               order := if f.prom + 1 = f.cells then a.order.drop 1 else a.order }) :
    d.promote die src ci =
      if f.copy then e.set F.XBAR_SHARED_USED.CELLS die (e.sharedUsed die + 1)
      else (e.set F.XBAR_SHARED_USED.CELLS die (e.sharedUsed die + 1)).returnCredit die src ci 1 := by
  subst he
  simp only [Dev.promote, if_neg hbuf, horder, hf, if_pos (And.intro hhere (And.intro hlimit hfree))]

/-! ## Poison -/

section

variable {d : Dev} {fid idx : Nat} {f : Frm}

/-- An uncorrectable error raises its event, which changes no frame, and then marks the cell. -/
theorem Dev.poison_eq (hf : d.frm fid = some f) :
    d.poison fid idx = (d.raise (meshUnit f.die) (if f.die < 16 then 1 else 12) (instDie f.die)).poisonAt fid idx := by
  simp only [Dev.poison, hf]

/-- A frame that has not begun has sent no cell. -/
theorem Dev.sent_of_not_begun (h : d.begun f fid = false) : f.sent = 0 := by
  rw [Dev.begun, Bool.or_eq_false_iff, decide_eq_false_iff_not] at h
  exact Nat.eq_zero_of_not_pos h.1

variable (hf : d.frm fid = some f) (hcell : f.sent ≤ idx) (hlost : f.lost = false)
include hf hcell hlost

/-- What a cell not sent yet does to its frame when it is poisoned (R167). -/
theorem Dev.poisonAt_unsent :
    d.poisonAt fid idx =
      if f.outq < 64 ∧ d.begun f fid = true then
        if f.poisoned = [] then (d.putFrm fid { f with poisoned := f.poisoned ++ [idx] }).count .XBAR_POISON f.die
        else d.putFrm fid { f with poisoned := f.poisoned ++ [idx] }
      else if 0 < f.sent ∨ (idx ≠ 0 ∧ f.dest.kind ≠ 0 ∧ f.mcast = false) then
        d.putFrm fid { f with poisoned := f.poisoned ++ [idx] }
      else (d.removeFrm fid).count .XBAR_POISON f.die := by
  have hgo : ¬ (idx < f.sent ∨ f.lost = true) := by simp [hlost, hcell]
  simp only [Dev.poisonAt, hf, if_neg hgo, Bool.not_eq_true']

/-- A frame that a port has begun is marked, and counted with its first poisoned cell. -/
theorem Dev.poisonAt_begun (hport : f.outq < 64) (hbegun : d.begun f fid = true) :
    d.poisonAt fid idx =
      if f.poisoned = [] then (d.putFrm fid { f with poisoned := f.poisoned ++ [idx] }).count .XBAR_POISON f.die
      else d.putFrm fid { f with poisoned := f.poisoned ++ [idx] } := by
  rw [Dev.poisonAt_unsent hf hcell hlost, if_pos ⟨hport, hbegun⟩]

/-- A frame not begun is discarded and counted, unless a unit of the device is to see the mark of a later cell. -/
theorem Dev.poisonAt_not_begun (hbegun : d.begun f fid = false) (hdest : idx = 0 ∨ f.dest.kind = 0 ∨ f.mcast = true) :
    d.poisonAt fid idx = (d.removeFrm fid).count .XBAR_POISON f.die := by
  have hport : ¬ (f.outq < 64 ∧ d.begun f fid = true) := by simp [hbegun]
  have hkept : ¬ (0 < f.sent ∨ (idx ≠ 0 ∧ f.dest.kind ≠ 0 ∧ f.mcast = false)) := by
    rintro (hsent | ⟨hidx, hkind, hmcast⟩)
    · exact absurd (Dev.sent_of_not_begun hbegun) hsent.ne'
    · simp [hidx, hkind, hmcast] at hdest
  rw [Dev.poisonAt_unsent hf hcell hlost, if_neg hport, if_neg hkept]

/-- A frame on its way over the mesh carries the mark on. -/
theorem Dev.poisonAt_mesh (hmesh : 64 ≤ f.outq) (hsent : 0 < f.sent) :
    d.poisonAt fid idx = d.putFrm fid { f with poisoned := f.poisoned ++ [idx] } := by
  rw [Dev.poisonAt_unsent hf hcell hlost, if_neg fun h => hmesh.not_gt h.1, if_pos (.inl hsent)]

end

/-! ## Deep buffer -/

/-- What becomes of the oldest spilled frame once its first cell and every frame before it have come (R168, R425). -/
theorem Dev.spillRead_oldest {d : Dev} {lp cls fid : Nat} {ue : Bool} {rest : List Nat} {f : Frm}
    (hspill : (d.lpQueue lp cls).spill = fid :: rest) (hf : d.frm fid = some f) (hcome : f.released ≠ 0)
    (hfirst : d.earlierComing fid f = false) :
    d.spillRead lp cls ue =
      if ue then ((d.removeFrm fid).count .XBAR_SPILL_ERR (lp / 64)).raise (lp / 64) 1 (instDie (lp / 64))
      else if d.lpUp lp = false then (d.removeFrm fid).count .LNK_DOWN_DROP lp
      else if (d.lpQueue lp cls).depth + f.cells ≤ 256 ∨ (d.lpQueue lp cls).depth = 0 then
        (d.putFrm fid { f with spilled := false, deep := true }).updQueue (lp / 64) (lp % 64) cls fun q =>
          ({ q with slots := q.slots - (f.cells + 1), spill := rest, frames := q.frames ++ [fid] }.grow f.cells).settle
            (d.spillOff (lp / 64))
      else d := by
  have hgo : ¬ (f.released = 0 ∨ d.earlierComing fid f = true) := by simp [hcome, hfirst]
  simp only [Dev.spillRead, hspill, hf, if_neg hgo, Bool.not_eq_true']

/-- Settles O27 (R157 to R160, R163, R167, R168, R425; log entry 180): each command by the law of its own operation, the
poisoned cell and the spilled frame by what becomes of the frame. -/
theorem cellBuffers : Obligations.CellBuffers := by
  unfold Obligations.CellBuffers
  refine ⟨fun _ _ _ => stageOne_inj, fun _ _ _ _ _ => CoreSt.pick_some, ?release, ?timeout, Dev.relSeq_loseAwaited,
    ?promotion, ?poison, ?readback⟩
  case release =>
    intro s t lane grp cls n d hd
    exact ⟨fun x hx => by rw [exec_reseqRelease, Dev.reseqRelease_here hd hx],
      fun hx => by rw [exec_reseqRelease, Dev.reseqRelease_missing hd hx]⟩
  case timeout =>
    intro s t lane grp cls fid idx d hd hlater hgone
    rw [exec_reseqTimeout, Dev.reseqTimeout_lost hd hlater hgone]
  case promotion =>
    intro s die src ci fid rest f d horder hf hhere hbuf hlimit hfree hd
    have hroom : ¬ (16 ≤ die.val ∧ ci.val = 2 ∧ s.dev.bufFull die = true) := fun ⟨hdie, hci, hfull⟩ =>
      Bool.false_ne_true ((hbuf hdie hci).symm.trans hfull)
    rw [exec_cellPromotion, Dev.promote_oldest horder hf hhere hroom hlimit hfree hd]
  case poison =>
    intro s fid idx f d hf hcell hlost hd
    have hfd : d.frm fid = some f := by rw [hd]; exact hf
    rw [exec_poisonMark, Dev.poison_eq hf, ← hd]
    exact ⟨fun hport hbegun => by rw [Dev.poisonAt_begun hfd hcell hlost hport hbegun],
      fun hbegun hdest => by rw [Dev.poisonAt_not_begun hfd hcell hlost hbegun hdest],
      fun hmesh hsent => by rw [Dev.poisonAt_mesh hfd hcell hlost hmesh hsent]⟩
  case readback =>
    intro s lp cls fid rest f hspill hf hcome hfirst
    simp only [exec_spillReadback, Dev.spillRead_oldest hspill hf hcome hfirst]
    refine ⟨rfl, fun hdown => ?_, fun hup hroom => ?_⟩
    · rw [if_neg Bool.false_ne_true, if_pos hdown]
    · rw [if_neg Bool.false_ne_true, if_neg (by simp [hup]), if_pos hroom]

end Sys2Proof.Machine
end

section
/-! Commands on a Drawer (R205, R228, R230, R240, R247): what a handle's contexts read after each change of one, the Drawer
opened, closed and shadowed, and the writes of its configuration and of the weights. -/
namespace Sys2Proof.Machine

/-! ## Contexts -/

section
variable (d : Dev) {die k h j : Nat}

theorem Dev.ctx_congr {e : Dev} (hcab : e.cab = d.cab) : e.ctx die h = d.ctx die h := by simp only [Dev.ctx, hcab]

@[simp] theorem Dev.ctx_set (f : Fld) (i v : Nat) : (d.set f i v).ctx die h = d.ctx die h := d.ctx_congr (d.set_cab f i v)

@[simp] theorem Dev.ctx_setB (f : Fld) (i : Nat) (b : Bool) : (d.setB f i b).ctx die h = d.ctx die h :=
  d.ctx_congr (d.setB_cab f i b)

@[simp] theorem Dev.ctx_steer (x : Option Nat) : (d.steer j x).ctx die h = d.ctx die h :=
  d.ctx_congr (Dev.each_keeps (·.cab) d _ fun _ _ => rfl)

theorem Dev.ctx_updCab {f : CabSt → CabSt} (hctx : (f d.cab).ctx = d.cab.ctx) : (d.updCab f).ctx die h = d.ctx die h := by
  simp only [Dev.ctx, Dev.updCab, hctx]

@[simp] theorem Dev.ctx_putCtx_same (c : DrwCtx) : (d.putCtx die h c).ctx die h = some c := Tbl.find_insert_same ..

theorem Dev.ctx_putCtx_ne (c : DrwCtx) (hk : k ≠ die) : (d.putCtx die j c).ctx k h = d.ctx k h :=
  Tbl.find_insert_ne _ _ fun hkey => hk (key2_inj.1 hkey).1

theorem Dev.updCtx_some {c : DrwCtx} (hc : d.ctx die h = some c) (f : DrwCtx → DrwCtx) :
    d.updCtx die h f = d.putCtx die h (f c) := by
  simp only [Dev.updCtx, hc]

@[simp] theorem Dev.ctx_delCtx_same : (d.delCtx die h).ctx die h = none := Tbl.find_erase_same ..

@[simp] theorem Dev.ctx_dropRecords (m : Nat) : (d.dropRecords m j).ctx die h = d.ctx die h := d.ctx_updCab rfl

/-- The state of a handle whose die holds no context of it is the Desks' copy. -/
theorem Dev.drwState_of_ctx_none (hc : d.ctx (d.drwDie h) h = none) : d.drwState h = d.get F.DRW_CFG.STATE h := by
  simp only [Dev.drwState, hc]

/-- The state of a handle whose die holds its primary context is the context's. -/
theorem Dev.drwState_of_ctx {c : DrwCtx} (hc : d.ctx (d.drwDie h) h = some c) (hprimary : c.shadow = false) :
    d.drwState h = c.state := by
  simp [Dev.drwState, hc, hprimary]

end

/-! ## What the operations on contexts write -/

section
variable {l : List Fld} (d : Dev) (die h : Nat)

theorem Dev.updCab_writes (f : CabSt → CabSt) : d.Writes l (d.updCab f) := .same rfl rfl rfl

theorem Dev.putCtx_writes (c : DrwCtx) : d.Writes l (d.putCtx die h c) := .same rfl rfl rfl

theorem Dev.updCtx_writes (f : DrwCtx → DrwCtx) : d.Writes l (d.updCtx die h f) := by
  unfold Dev.updCtx
  split
  · exact d.putCtx_writes die h _
  · exact .refl d

theorem Dev.delCtx_writes : d.Writes l (d.delCtx die h) := .same rfl rfl rfl

theorem Dev.dropRecords_writes : d.Writes l (d.dropRecords die h) := d.updCab_writes _

theorem Dev.wr_writes {r : Reg} (i : Nat) (v : Word) : d.Writes [r.word] (d.wr r i 0 v) := by
  have hword : d.Writes [r.word] (d.wr r i 0 (BitVec.ofNat 32 v.toNat)) :=
    .wrWide (n := 1) (w := 0) (List.mem_singleton_self _)
  rwa [BitVec.ofNat_toNat, BitVec.setWidth_eq] at hword

theorem Dev.steer_writes (x : Option Nat) : d.Writes [Reg.DRW_STEER.word] (d.steer h x) := .each _ fun e _ => e.wr_writes _ _

/-- The shadow's context goes, its stream items return their credit, and SHADOWED clears. -/
theorem Dev.dropShadow_writes : d.Writes [F.DRW_CFG.SHADOWED] (d.dropShadow h) := by
  unfold Dev.dropShadow
  split
  · exact .refl d
  · rename_i k _
    have hctx : d.Writes [F.DRW_CFG.SHADOWED]
        (match d.ctx k h with | some c => if c.shadow then d.delCtx k h else d | none => d) := by
      split
      · exact .ite (fun _ => d.delCtx_writes k h) fun _ => .refl d
      · exact .refl d
    have hcredit (e : Dev) (gone : List ShMsg) :
        e.Writes [F.DRW_CFG.SHADOWED] (e.each gone fun e m => e.creditShadow m.from' k m.item.cells) :=
      .each gone fun e _ => e.updCab_writes _
    exact (((hctx.trans (hcredit ..)).trans (Dev.updCab_writes ..)).trans (.setB (by decide))).trans (Dev.updCtx_writes ..)

end

/-! ## OPEN -/

/-- A Drawer opened at a slot of its die: its fields zero, IDLE, seated there and steered to it (R230). -/
def Dev.opened (d : Dev) (h slot : Nat) : Dev :=
  ((((((d.set F.DRW_CFG.TAG h 0).set F.DRW_CFG.START h 0).set F.DRW_CFG.W h 0).set F.DRW_CFG.EPOCH h 0).set
    F.DRW_CFG.STATE h 2).seat (d.drwDie h) h slot 0 0 0 none).steer h (some (d.drwDie h))

section
variable {d : Dev} {h slot : Nat}

theorem Dev.openDrawer_opens (hst : d.drwState h = 0) (hdesk : d.deskChecks h = none)
    (hdie : d.dieChecks (d.drwDie h) h = none) (hslot : d.freeSlot (d.drwDie h) = some slot) :
    d.openDrawer h = ((0, 0), d.opened h slot) := by
  simp only [Dev.openDrawer, hst, ne_eq, not_true_eq_false, if_false, hdesk, hdie, hslot]
  rfl

theorem Dev.openDrawer_refused (hst : d.drwState h ≠ 0) : d.openDrawer h = ((3, d.drwState h), d) := if_pos hst

theorem Dev.opened_writes : d.Writes [F.DRW_CFG.TAG, F.DRW_CFG.START, F.DRW_CFG.W, F.DRW_CFG.EPOCH, F.DRW_CFG.STATE,
    Reg.DRW_STEER.word] (d.opened h slot) :=
  ((((((Dev.Writes.set (by decide)).trans (.set (by decide))).trans (.set (by decide))).trans (.set (by decide))).trans
    (.set (by decide))).trans (Dev.putCtx_writes ..)).trans ((Dev.steer_writes ..).mono (by decide))

theorem Dev.drwDie_opened : (d.opened h slot).drwDie h = d.drwDie h := Dev.opened_writes.get (by decide) h

/-- An open Drawer's die holds its primary context at the slot, IDLE at epoch 0. -/
theorem Dev.ctx_opened : ∃ c, (d.opened h slot).ctx (d.drwDie h) h = some c ∧ c.slot = slot ∧ c.state = 2 ∧ c.epoch = 0 ∧
    c.shadow = false :=
  ⟨_, (Dev.ctx_steer ..).trans (Dev.ctx_putCtx_same ..), rfl, rfl, rfl, rfl⟩

theorem Dev.drwState_opened : (d.opened h slot).drwState h = 2 := by
  obtain ⟨c, hc, -, hidle, -, hprimary⟩ := Dev.ctx_opened (d := d) (h := h) (slot := slot)
  rw [← Dev.drwDie_opened (slot := slot)] at hc
  rw [Dev.drwState_of_ctx _ hc hprimary, hidle]

end

/-! ## CLOSE -/

/-- An IDLE Drawer without its shadow, its steering, its context and the records of its die. -/
def Dev.unseated (d : Dev) (h : Nat) : Dev :=
  (((d.dropShadow h).steer h none).delCtx (d.drwDie h) h).dropRecords (d.drwDie h) h

/-- An IDLE Drawer closed: FREE (R230). -/
def Dev.closed (d : Dev) (h : Nat) : Dev :=
  ((d.unseated h).updCab fun k => { k with released := k.released.erase h, reforms := k.reforms.erase h }).setState h 0

section
variable {d : Dev} {h : Nat}

theorem Dev.closeDrawer_closes (hst : d.drwState h = 2) : d.closeDrawer h = ((0, 0), d.closed h) := by
  simp only [Dev.closeDrawer, hst, ne_eq, not_true_eq_false, false_and, if_false, if_true]
  rfl

theorem Dev.closeDrawer_refused (hidle : d.drwState h ≠ 2) (hfailed : d.drwState h ≠ 6) :
    d.closeDrawer h = ((3, d.drwState h), d) := if_pos ⟨hidle, hfailed⟩

theorem Dev.unseated_writes : d.Writes [F.DRW_CFG.SHADOWED, Reg.DRW_STEER.word] (d.unseated h) :=
  ((((d.dropShadow_writes h).mono (by decide)).trans ((Dev.steer_writes ..).mono (by decide))).trans
    (Dev.delCtx_writes ..)).trans (Dev.dropRecords_writes ..)

theorem Dev.closed_writes : d.Writes [F.DRW_CFG.SHADOWED, Reg.DRW_STEER.word, F.DRW_CFG.STATE] (d.closed h) :=
  ((Dev.unseated_writes.mono (by decide)).trans (Dev.updCab_writes ..)).trans (.set (by decide))

theorem Dev.ctx_closed : (d.closed h).ctx (d.drwDie h) h = none := by
  rw [Dev.closed, Dev.setState, Dev.ctx_set, Dev.ctx_updCab _ (by rfl), Dev.unseated, Dev.ctx_dropRecords,
    Dev.ctx_delCtx_same]

theorem Dev.drwState_closed : (d.closed h).drwState h = 0 := by
  have hdie : (d.closed h).drwDie h = d.drwDie h := Dev.closed_writes.get (by decide) h
  rw [Dev.drwState_of_ctx_none _ (hdie.symm ▸ Dev.ctx_closed)]
  exact Dev.get_set_same _ ⟨by decide, by decide⟩ h 0

end

/-! ## ABORT -/

/-- An abort whose epoch may advance (R240, R242). -/
theorem Dev.abortDrawer_aborts {d : Dev} {h : Nat} {c : DrwCtx} (hfree : d.drwState h ≠ 0) (hopening : d.drwState h ≠ 1)
    (hreplacing : d.drwState h ≠ 5) (hfailed : d.drwState h ≠ 6) (hc : d.ctx (d.drwDie h) h = some c)
    (hepoch : d.epochFree c = true) : d.abortDrawer h = ((0, (c.epoch + 1) % 256), d.abortCtx (d.drwDie h) h) := by
  simp [Dev.abortDrawer, hfree, hopening, hreplacing, hfailed, hc, Dev.abortHere, hepoch]

/-! ## SHADOW_OPEN -/

/-- The shadow context that a primary one is given at a slot; an operation under way is not the shadow's (R247). -/
def DrwCtx.shadowAt (c : DrwCtx) (slot : Nat) (idle : Bool) : DrwCtx :=
  { slot := slot, shadow := true, members := c.members, epoch := c.epoch, rank := c.rank, tag := c.tag, start := c.start,
    w := c.start, lastTag := c.lastTag, begun := c.begun, released := idle && c.released, relNext := c.relNext }

/-- The qualification of a die that is not qualified starts anew (R351). -/
def Dev.passCleared (d : Dev) (k : Nat) : Dev :=
  if !d.bit F.BUR_UNIT.QUALIFIED (16 + k) then
    (d.set F.BUR_SHADOW_PASS.MATCHES k 0).setB F.BUR_SHADOW_PASS.MISMATCH k false
  else d

/-- The shadow of a handle seated at a slot of die `k`. -/
def Dev.shadowSeated (d : Dev) (h k slot : Nat) (c : DrwCtx) : Dev :=
  (d.passCleared k).putCtx k h (c.shadowAt slot (decide (d.drwState h = 2)))

/-- A handle marked SHADOWED, its shadow seated; its primary context feeds the shadow where no operation is under way. -/
def Dev.shadowed (d : Dev) (h k slot : Nat) (c : DrwCtx) : Dev :=
  ((d.shadowSeated h k slot c).setB F.DRW_CFG.SHADOWED h true).putCtx (d.drwDie h) h
    { c with feeds := decide (d.drwState h = 2) }

section
variable {d : Dev} {h k slot : Nat} {c : DrwCtx}

theorem Dev.passCleared_writes :
    d.Writes [F.BUR_SHADOW_PASS.MATCHES, F.BUR_SHADOW_PASS.MISMATCH] (d.passCleared k) :=
  .ite (fun _ => (Dev.Writes.set (by decide)).trans (.setB (by decide))) fun _ => .refl d

theorem Dev.ctx_passCleared (die : Nat) : (d.passCleared k).ctx die h = d.ctx die h := by
  unfold Dev.passCleared
  split
  · rw [Dev.ctx_setB, Dev.ctx_set]
  · rfl

theorem Dev.shadowSeated_writes :
    d.Writes [F.BUR_SHADOW_PASS.MATCHES, F.BUR_SHADOW_PASS.MISMATCH] (d.shadowSeated h k slot c) :=
  Dev.passCleared_writes.trans (Dev.putCtx_writes ..)

theorem Dev.drwDie_shadowSeated : (d.shadowSeated h k slot c).drwDie h = d.drwDie h :=
  Dev.shadowSeated_writes.get (by decide) h

theorem Dev.ctx_shadowSeated_ne {die : Nat} (hdie : die ≠ k) : (d.shadowSeated h k slot c).ctx die h = d.ctx die h := by
  rw [Dev.shadowSeated, Dev.ctx_putCtx_ne _ _ hdie, Dev.ctx_passCleared]

theorem Dev.bit_shadowed : (d.shadowed h k slot c).bit F.DRW_CFG.SHADOWED h = true := by
  rw [Dev.shadowed, (Dev.putCtx_writes (l := []) ..).bit (by decide)]
  exact Dev.bit_setB_same _ ⟨by decide, by decide⟩ rfl h true

theorem Dev.ctx_shadowed_shadow (hother : k ≠ d.drwDie h) :
    (d.shadowed h k slot c).ctx k h = some (c.shadowAt slot (decide (d.drwState h = 2))) := by
  rw [Dev.shadowed, Dev.ctx_putCtx_ne _ _ hother, Dev.ctx_setB, Dev.shadowSeated, Dev.ctx_putCtx_same]

theorem Dev.ctx_shadowed_primary :
    (d.shadowed h k slot c).ctx (d.drwDie h) h = some { c with feeds := decide (d.drwState h = 2) } :=
  Dev.ctx_putCtx_same ..

/-- Seating the shadow leaves the primary context as it was. -/
theorem Dev.shadowed_eq (hother : k ≠ d.drwDie h) (hc : d.ctx (d.drwDie h) h = some c) :
    d.shadowed h k slot c = ((d.shadowSeated h k slot c).setB F.DRW_CFG.SHADOWED h true).updCtx
      ((d.shadowSeated h k slot c).drwDie h) h fun x => { x with feeds := decide (d.drwState h = 2) } := by
  have hprimary : ((d.shadowSeated h k slot c).setB F.DRW_CFG.SHADOWED h true).ctx (d.drwDie h) h = some c := by
    rw [Dev.ctx_setB, Dev.ctx_shadowSeated_ne hother.symm, hc]
  rw [Dev.drwDie_shadowSeated, Dev.updCtx_some _ hprimary, Dev.shadowed]

/-- A shadow that its die can take is seated there; the primary feeds it from its next operation on (R247). -/
theorem Dev.shadowOpen_opens (hst : d.drwState h = 2 ∨ d.drwState h = 3) (hnone : d.bit F.DRW_CFG.SHADOWED h = false)
    (hk : k = d.get F.DRW_CFG.SHADOW_DIE h) (hother : k ≠ d.drwDie h) (hreach : d.cabReach k = true)
    (hsize : d.tooLarge k h = false) (hroom : d.window h * d.chunkShelves h ≤ d.shelfFree k (d.desc h).exact)
    (hslot : d.freeSlot k = some slot) (hc : d.ctx (d.drwDie h) h = some c) :
    d.shadowOpen h = ((0, 0), d.shadowed h k slot c) := by
  have hready : ¬((d.drwState h ≠ 2 ∧ d.drwState h ≠ 3) ∨ d.bit F.DRW_CFG.SHADOWED h = true) := by
    simp only [hnone, Bool.false_eq_true, or_false]
    omega
  have husable : ¬(k = d.drwDie h ∨ (!d.cabReach k) = true) := by simp [hother, hreach]
  have hfits : ¬(d.tooLarge k h = true ∨ d.shelfFree k (d.desc h).exact < d.window h * d.chunkShelves h) := by
    simp [hsize, hroom]
  rw [Dev.shadowed_eq hother hc]
  subst hk
  simp only [Dev.shadowOpen, if_neg hready, if_neg husable, if_neg hfits, hslot, hc, Dev.shadowSeated, Dev.passCleared,
    DrwCtx.shadowAt]

end

/-! ## DRW_CMD and the writes -/

/-- A command stores its OP, status and handle, and its argument, and raises CMD_DONE (Table 10.14). -/
theorem Dev.drwCmd_eq (d : Dev) (desk op h : Nat) :
    d.drwCmd desk op h = (((d.drwRun op h).2.wr .DRW_CMD 0 0
      (BitVec.ofNat 32 (op * 2 ^ 28 + (d.drwRun op h).1.1 * 2 ^ 16 + h))).wr .DRW_CMD_ARG 0 0
        (BitVec.ofNat 32 (d.drwRun op h).1.2)).irq desk 4 := rfl

/-- DRW_CFG is written in FREE; a write in another state but FAILED is counted (R228). -/
theorem Dev.cfgWrite_not_failed {d : Dev} {h : Nat} (hfailed : d.drwState h ≠ 6) (w : Nat) (v : Word) :
    d.cfgWrite h w v = if d.drwState h = 0 then d.writeRw .DRW_CFG h w v else d.count .DRW_LATE_WR := by
  have hdie : ¬(d.drwState h = 6 ∧ w = 0) := fun hw => hfailed hw.1
  simp only [Dev.cfgWrite, if_neg hdie]

theorem Dev.drwCfgWrite_cfg (d : Dev) {addr h w : Nat} (hdec : decodeAddr 0 addr = some (.DRW_CFG, h, w)) (v : Word) :
    d.drwCfgWrite addr v = d.cfgWrite h w v := by
  simp only [Dev.drwCfgWrite, hdec]

/-- Settles O30 (R205, R228, R230, R240, R247, Table 10.14; log entry 97): a command by what its OP runs, then OPEN,
CLOSE, SHADOW_OPEN and ABORT, and the writes of the configuration and of a weight. -/
theorem drawerCommands : Obligations.DrawerCommands := by
  unfold Obligations.DrawerCommands
  refine ⟨?commands, ?opens, ?closes, fun _ _ => Dev.closeDrawer_refused, ?shadow, fun _ _ => Dev.openDrawer_refused,
    fun _ _ _ => Dev.abortDrawer_aborts, ?cfg, ?weight⟩
  case commands =>
    intro s a h hr
    rw [exec_drwOpen, exec_drwClose, exec_drwAbort, exec_drwShadowOpen, exec_drwShadowClose]
    simp only [Dev.onWrite_reaches hr, Dev.drwCmd_eq, Dev.drwRun, and_self]
  case opens =>
    intro d h slot hst hdesk hdie hslot
    rw [Dev.openDrawer_opens hst hdesk hdie hslot]
    exact ⟨rfl, Dev.drwState_opened, Dev.ctx_opened⟩
  case closes =>
    intro d h hst
    rw [Dev.closeDrawer_closes hst]
    exact ⟨rfl, Dev.drwState_closed, Dev.ctx_closed⟩
  case shadow =>
    intro d e h k slot c hst hnone hk hother hreach hsize hroom hslot hc he
    rw [Dev.shadowOpen_opens hst hnone hk hother hreach hsize hroom hslot hc] at he ⊢
    subst he
    exact ⟨rfl, Dev.bit_shadowed, ⟨_, Dev.ctx_shadowed_shadow hother, rfl, rfl, rfl, rfl, rfl⟩,
      ⟨_, Dev.ctx_shadowed_primary, rfl⟩⟩
  case cfg =>
    intro s a addr v h w hdesk hdec hr hfailed
    simp only [exec_drwCfgWrite, hdesk, Dev.onWrite_reaches hr, Dev.drwCfgWrite_cfg _ hdec, Dev.cfgWrite_not_failed hfailed]
  case weight =>
    intro s a die e v hr
    rw [exec_weightWrite, Dev.onWrite_reaches hr, Dev.weightWrite]

end Sys2Proof.Machine
end

section
/-! Failure and recovery of a Drawer (R229, R242, R244, R246, R248): what a chunk's failure and a Drawer-level replay leave, the
records that the Desks take, the re-placement of a handle, and the stream that a shadow takes. -/
namespace Sys2Proof.Machine

/-! ## Failure (R244) -/

/-- A failed chunk stays allocated: in RETRY, what it had accumulated gone. -/
def Chunk.emptied (ch : Chunk) : Chunk :=
  { rx := ch.rx, spilled := ch.spilled, retry := true, failed := true, got := ch.got }

/-- The failure of a chunk is counted and raised. -/
def Dev.chunkFailRaised (d : Dev) (die h n : Nat) : Dev :=
  (d.count .CAB_CHUNK_FAIL die).raise (32 + die) 1 (instDrawer h) n

section
variable {d : Dev} {die h n : Nat} {c : DrwCtx} {ch : Chunk}

theorem Dev.reopenChunk_not_out (hout : (d.outChunks die h).find? (fun o => o.chunk == n) = none) :
    d.reopenChunk die h n = d := by
  cases hc : d.ctx die h with
  | none => simp only [Dev.reopenChunk, hc]
  | some c => simp only [Dev.reopenChunk, hc, hout]

/-- A chunk that is not in the output stage fails as it stands. -/
theorem Dev.shelfError_not_out (hout : (d.outChunks die h).find? (fun o => o.chunk == n) = none) :
    d.shelfError die h n = d.failChunk die h n := by
  rw [Dev.shelfError, Dev.reopenChunk_not_out hout]

/-- The first failure of a chunk in an epoch that no replay began retries it. -/
theorem Dev.failChunk_retries (hc : d.ctx die h = some c) (hprimary : c.shadow = false) (hch : c.chunks.find n = some ch)
    (hfirst : ch.failed = false) (hbegun : c.begun ≠ 1) (hactive : c.state = 3) :
    d.failChunk die h n =
      (((d.chunkFailRaised die h n).putCtx die h { c with chunks := c.chunks.insert n ch.emptied }).feedShadow die h
        (.retry n)).statusAll die h n 4 n := by
  have hretry : (!ch.failed && c.begun != 1 && c.state == 3) = true := by simp [hfirst, hbegun, hactive]
  simp only [Dev.failChunk, hc, hch, hprimary, Bool.false_eq_true, if_false, if_pos hretry]
  rfl

/-- A failure that cannot be retried loses the chunk, and the Drawer waits for a replay. -/
theorem Dev.failChunk_loses (hc : d.ctx die h = some c) (hprimary : c.shadow = false) (hch : c.chunks.find n = some ch)
    (hlost : ch.failed = true ∨ c.begun = 1 ∨ c.state ≠ 3) :
    d.failChunk die h n = (d.chunkFailRaised die h n).putCtx die h
      { c with replayWait := true, chunks := c.chunks.insert n { ch.emptied with dead := true } } := by
  have hnoRetry : ¬((!ch.failed && c.begun != 1 && c.state == 3) = true) := by
    rcases hlost with hfailed | hbegun | hstate <;> simp [*]
  simp only [Dev.failChunk, hc, hch, hprimary, Bool.false_eq_true, if_false, if_neg hnoRetry]
  rfl

end

/-! ## Drawer-level replay (R242, R244) -/

/-- The context of a Drawer that a replay restarts outside its count phases: IDLE at W, its epoch advanced, no open chunk. -/
def DrwCtx.replayed (c : DrwCtx) (now : Nat) : DrwCtx :=
  { c.advance now 1 with state := 2, start := c.w, limit := 0, chunks := [], done := [], actMin := [], strag := none,
                         counts := [], entries := 0, phase := 0 }

theorem Dev.drawerReplay_restarts {d : Dev} {die h : Nat} {c : DrwCtx} (hc : d.ctx die h = some c)
    (hwaits : c.replayWait = true) (hfree : d.epochFree c = true) (hactive : c.state = 3) (hphase : c.phase = 0) :
    d.drawerReplay die h =
      ((((d.feedShadow die h (.replay (c.replayed d.raw).epoch (c.replayed d.raw).start)).putCtx die h
        (c.replayed d.raw)).wantAlloc die h).statusAll die h (c.replayed d.raw).w 3 (c.replayed d.raw).w).count
          .CAB_DRW_REPLAY die := by
  have hready : ¬((!c.replayWait || !d.epochFree c || (c.state != 2 && c.state != 3)) = true) := by
    simp [hwaits, hfree, hactive]
  simp only [Dev.drawerReplay, hc, if_neg hready, hphase]
  rfl

/-! ## The Desks' mirror (R229) -/

/-- The fields of a record stored in the Desks' copy. -/
def Dev.recordStored (d : Dev) (m : MirRec) : Dev :=
  (((((d.set F.DRW_CFG.STATE m.handle m.state).set F.DRW_CFG.START m.handle m.start).set F.DRW_CFG.TAG m.handle m.tag).set
    F.DRW_CFG.W m.handle m.w).set F.DRW_CFG.EPOCH m.handle m.epoch).updCab
      fun k => { k with released := k.released.put (false, false) m.handle (m.released, m.relNext) }

section
variable {d : Dev} {die : Nat} {m : MirRec}

theorem Dev.mirrorRecord_oldest {rest : List MirRec} (hm : d.cab.mir.at [] die = m :: rest) :
    d.mirrorRecord die = (d.updCab fun k => { k with mir := k.mir.upd [] die (·.drop 1) }).takeRecord die m := by
  simp only [Dev.mirrorRecord, hm]

/-- The Desks store a record of the die that their copy of an IDLE or ACTIVE handle names. -/
theorem Dev.takeRecord_stores (hst : d.get F.DRW_CFG.STATE m.handle = 2 ∨ d.get F.DRW_CFG.STATE m.handle = 3)
    (hdie : d.drwDie m.handle = die) : d.takeRecord die m = d.recordStored m := by
  have htaken : ¬(d.get F.DRW_CFG.STATE m.handle = 0 ∨ d.get F.DRW_CFG.STATE m.handle = 6 ∨ d.drwDie m.handle ≠ die) := by
    omega
  have hplaced : d.get F.DRW_CFG.STATE m.handle ≠ 5 := by omega
  simp only [Dev.takeRecord, if_neg htaken, if_neg hplaced]
  rfl

theorem Dev.recordStored_epoch : (d.recordStored m).get F.DRW_CFG.EPOCH m.handle = m.epoch % 256 := by
  rw [Dev.recordStored, Dev.updCab_get]
  exact Dev.get_set_same _ ⟨by decide, by decide⟩ m.handle m.epoch

theorem Dev.recordStored_released :
    (d.recordStored m).cab.released.at (false, false) m.handle = (m.released, m.relNext) := Tbl.at_put_same ..

end

/-! ## Re-placement and the shadow's stream (R246, R248) -/

theorem Dev.replaceAt_none (d : Dev) (h : Nat) :
    d.replaceAt h none =
      (((((d.steer h none).dropShadow h).set F.DRW_CFG.STATE h 6).statusFailed h).reformReplaced h 4 []) := rfl

theorem Dev.replaceAt_some (d : Dev) (h k : Nat) (own : Bool) :
    d.replaceAt h (some (k, own)) = (d.steer h none).replaceOn h k ((d.steer h none).replaceSlot k h own)
      (((d.steer h none).get F.DRW_CFG.EPOCH h + 1) % 256) ((d.steer h none).get F.DRW_CFG.W h)
      ((d.steer h none).cab.released.at (false, false) h) := rfl

theorem Dev.shadowStream_oldest {d : Dev} {die : Nat} {m : ShMsg} {rest : List ShMsg}
    (hm : d.cab.stream.at [] die = m :: rest) :
    d.shadowStream die = ((d.updCab fun k => { k with stream := k.stream.upd [] die (·.drop 1) }).creditShadow m.from' die
      m.item.cells).shadowItem die m := by
  simp only [Dev.shadowStream, hm]

/-- Settles O31 (R229, R242, R244, R246, R248; log entries 89, 153, 166): a failure by whether it can be retried, the replay,
the records that the Desks take, the re-placements, and the oldest item of a stream. -/
theorem drawerRecovery : Obligations.DrawerRecovery := by
  unfold Obligations.DrawerRecovery
  refine ⟨?failure, ?replay, fun _ _ _ => ⟨rfl, rfl, rfl, rfl⟩, ?mirror, ?record, fun _ _ => rfl, ?replace, ?stream⟩
  case failure =>
    intro s die h n c ch f d hc hprimary hout hch hf hd
    subst hf hd
    rw [exec_shelfUncorrectedError, Dev.shelfError_not_out hout]
    constructor
    · intro hfirst hbegun hactive
      rw [Dev.failChunk_retries hc hprimary hch hfirst hbegun hactive]
      rfl
    · intro hlost
      rw [Dev.failChunk_loses hc hprimary hch hlost]
      rfl
  case replay =>
    intro s die h c c' hc hwaits hfree hactive hphase hc'
    subst hc'
    rw [exec_drawerLevelReplay, Dev.drawerReplay_restarts hc hwaits hfree hactive hphase]
    rfl
  case mirror =>
    intro s die m rest hm
    rw [exec_drawerMirrorRecord, Dev.mirrorRecord_oldest hm]
  case record =>
    intro d die m hst hdie
    rw [Dev.takeRecord_stores hst hdie]
    exact ⟨rfl, Dev.recordStored_epoch, Dev.recordStored_released⟩
  case replace =>
    intro d h k own e he
    subst he
    exact ⟨d.replaceAt_none h, d.replaceAt_some h k own⟩
  case stream =>
    intro s die m rest hm
    rw [exec_shadowStreamReceived, Dev.shadowStream_oldest hm]

end Sys2Proof.Machine
end

section
/-! A frame that a unit originates leaves the job table (R116, R132, R154): of the forwarding state, only the round-robin
pointer of a member choice moves. -/
namespace Sys2Proof.Machine

section
variable (d : Dev)

/-! ## Entering a die -/

@[simp] theorem Dev.updEnd_fwd (die dir : Nat) (f : MeshEnd → MeshEnd) : (d.updEnd die dir f).fwd = d.fwd := rfl

@[simp] theorem Dev.updAcct_fwd (die src ci : Nat) (f : Acct → Acct) : (d.updAcct die src ci f).fwd = d.fwd := rfl

@[simp] theorem Dev.updQueue_fwd (die out cls : Nat) (f : Queue → Queue) : (d.updQueue die out cls f).fwd = d.fwd := rfl

@[simp] theorem Dev.putFrm_fwd (fid : Nat) (f : Frm) : (d.putFrm fid f).fwd = d.fwd := rfl

@[simp] theorem Dev.newFrm_fwd (f : Frm) : (d.newFrm f).2.fwd = d.fwd := rfl

@[simp] theorem Dev.countDrop_fwd (die out cls : Nat) : (d.countDrop die out cls).fwd = d.fwd := rfl

@[simp] theorem Dev.intoCrossbar_fwd (fid : Nat) (f : Frm) (i n : Nat) : (d.intoCrossbar fid f i n).fwd = d.fwd := rfl

@[simp] theorem Dev.toInbox_fwd (die kind : Nat) (f : Frm) : (d.toInbox die kind f).fwd = d.fwd := rfl

@[simp] theorem Dev.add64_fwd (r : Reg) (i n : Nat) : (d.add64 r i n).fwd = d.fwd := d.wrWide_fwd ..

@[simp] theorem Dev.pulse_fwd (n e m : Nat) (sel cls job : Option Nat) : (d.pulse n e m sel cls job).fwd = d.fwd := by
  have hstep (x : Dev) (k : Nat) : (x.pmcAdd n k m).fwd = x.fwd := x.wrWide_fwd ..
  unfold Dev.pulse
  split
  · rfl
  · refine Dev.each_keeps (·.fwd) d _ fun x k => ?_
    dsimp only
    split
    · split
      · exact hstep x k
      · rfl
      · rfl
    · rfl

@[simp] theorem Dev.returnCredit_fwd (die src ci n : Nat) : (d.returnCredit die src ci n).fwd = d.fwd := by
  simp only [Dev.returnCredit, apply_ite Dev.fwd, Dev.updLp_fwd, Dev.updEnd_fwd, ite_self]

@[simp] theorem Dev.chargeReserve_fwd (fid n : Nat) : (d.chargeReserve fid n).fwd = d.fwd := by
  unfold Dev.chargeReserve
  split
  · rfl
  · rfl

theorem Dev.wredStep_fwd (t : Nat) (f : Frm) : (d.wredStep t f).2.fwd = d.fwd := by
  have hdrop : (d.wredDrop t f.cls f.yellow (d.queue t f.outq f.cls)).2.fwd = d.fwd := rfl
  simp only [Dev.wredStep, apply_ite Prod.snd, apply_ite Dev.fwd, Dev.countDrop_fwd, Dev.count_fwd, hdrop, ite_self]

theorem Dev.enterLossy_fwd (f : Frm) (k : Nat) : (d.enterLossy f k).2.fwd = d.fwd := by
  unfold Dev.enterLossy
  cases d.admitLossy f with
  | refused => simp only [Dev.countDrop_fwd, Dev.pulse_fwd, Dev.count_fwd]
  | spillRefused => simp only [Dev.countDrop_fwd, Dev.count_fwd]
  | buffer shared =>
    simp only [Dev.intoCrossbar_fwd, Dev.updQueue_fwd, apply_ite Dev.fwd, Dev.returnCredit_fwd, Dev.set_fwd, Dev.updAcct_fwd,
      Dev.newFrm_fwd, ite_self]
  | deep =>
    simp only [Dev.intoCrossbar_fwd, Dev.pulse_fwd, Dev.add64_fwd, Dev.updCore_fwd, Dev.updQueue_fwd, apply_ite Dev.fwd,
      Dev.returnCredit_fwd, Dev.newFrm_fwd, ite_self]

theorem Dev.enterLossless_fwd (f : Frm) (n : Nat) : (d.enterLossless f n).2.fwd = d.fwd := by
  simp only [Dev.enterLossless, apply_ite Prod.snd, apply_ite Dev.fwd, Dev.intoCrossbar_fwd, Dev.updQueue_fwd,
    Dev.chargeReserve_fwd, Dev.newFrm_fwd]
  split
  · rfl
  · split
    · simp only [Dev.putFrm_fwd, Dev.updQueue_fwd, Dev.chargeReserve_fwd, Dev.newFrm_fwd]
    · simp only [Dev.updQueue_fwd, Dev.chargeReserve_fwd, Dev.newFrm_fwd]

theorem Dev.enterDie_fwd (f : Frm) : (d.enterDie f).fwd = d.fwd := by
  simp only [Dev.enterDie, Dev.enterDieWith, apply_ite Prod.snd, apply_ite Dev.fwd, Dev.enterLossless_fwd, Dev.wredStep_fwd,
    Dev.enterLossy_fwd, ite_self]

/-! ## Frames sent -/

theorem Dev.sendFrom_fwd (f : Frm) : (d.sendFrom f).fwd = d.fwd := by
  simp only [Dev.sendFrom, apply_ite Dev.fwd, Dev.raise_fwd, Dev.add_fwd, Dev.enterDie_fwd, ite_self]

theorem Dev.sendMc_fwd (f : Frm) : (d.sendMc f).fwd = d.fwd := by
  unfold Dev.sendMc
  split
  · rfl
  · exact (Dev.each_keeps (·.fwd) _ _ fun e c => e.enterDie_fwd c).trans (Dev.each_keeps (·.fwd) d _ fun _ _ => rfl)

theorem Dev.sendMember_fwd (f : Frm) (m : Member) : (d.sendMember f m).fwd = d.fwd := by
  cases m with
  | lp n => exact d.sendFrom_fwd _
  | fenced => rfl
  | none => rfl

theorem Dev.sendChecked_fwd (f : Frm) (m : Member) : (d.sendChecked f m).fwd = d.fwd := by
  cases m with
  | lp n => simp only [Dev.sendChecked, apply_ite Dev.fwd, Dev.count_fwd, Dev.sendLp, Dev.sendFrom_fwd, ite_self]
  | fenced => exact d.sendMember_fwd f .fenced
  | none => exact d.sendMember_fwd f .none

theorem Dev.memberChoice_job (die bank e cls : Nat) (spray : Bool) (b : List Byte) :
    (d.memberChoice die bank e cls spray b).2.fwd.job = d.fwd.job := by
  unfold Dev.memberChoice
  dsimp only
  repeat' split
  all_goals rfl

theorem Dev.forwardFabric_job (f : Frm) : (d.forwardFabric f).fwd.job = d.fwd.job := by
  unfold Dev.forwardFabric
  dsimp only
  split
  · rw [Dev.sendMc_fwd]
  · exact (congrArg FwdSt.job (Dev.sendChecked_fwd ..)).trans (d.memberChoice_job ..)

theorem Dev.consume_fwd (f : Frm) : (d.consume f).fwd = d.fwd := by
  unfold Dev.consume
  dsimp only
  split
  all_goals
    simp only [apply_ite Dev.fwd, Dev.sendFrom_fwd, Dev.count_fwd, Dev.toInbox_fwd, ite_self]

/-- A frame that a unit originates leaves every job entry in force. -/
theorem Dev.originate_job (die cls : Nat) (bytes : List Byte) : (d.originate die cls bytes).fwd.job = d.fwd.job := by
  simp only [Dev.originate, apply_ite Dev.fwd, apply_ite FwdSt.job, Dev.count_fwd, Dev.consume_fwd, Dev.forwardFabric_job,
    ite_self]

theorem Dev.collStatus_jobWord (die dstType dst job h epoch contrib tag chunk attempt code k arg j w : Nat) :
    (d.collStatus die dstType dst job h epoch contrib tag chunk attempt code k arg).jobWord j w = d.jobWord j w := by
  simp only [Dev.jobWord, Dev.collStatus, Dev.originate_job]

end

/-- Two runs over a list are the same where their steps agree on every device that they can meet. -/
theorem Dev.each_congr {α : Type} (P : Dev → Prop) {d : Dev} {l : List α} {f g : Dev → α → Dev} (hd : P d)
    (hkeeps : ∀ e a, P e → P (f e a)) (hagree : ∀ e a, P e → f e a = g e a) : d.each l f = d.each l g := by
  induction l generalizing d with
  | nil => rfl
  | cons a l ih =>
    calc (f d a).each l f = (f d a).each l g := ih (hkeeps d a hd)
      _ = (g d a).each l g := by rw [hagree d a hd]

end Sys2Proof.Machine
end

section
/-! The engine of a Cabinet die (R234, R235, R239, R241, R255, R257, R263, R268, R292): the arbiter's grant, spilled chunks, the
output stage, releases, stragglers and the notices to members. -/
namespace Sys2Proof.Machine

/-! ## The arbiter and spilled chunks (R234, R239, R241) -/

section
variable {d : Dev} {die h n : Nat} {c : DrwCtx}

/-- The first allocation in the arbiter's order that fits gives its Drawer the chunk at LIMIT. -/
theorem Dev.allocGrant_first (hfirst : (d.allocOrder die).find? (fun h => d.allocFits die h) = some h)
    (hc : d.ctx die h = some c) :
    d.allocGrant die = ((d.allocChunk die h).tryComplete die h c.limit).wantAlloc die h := by
  simp only [Dev.allocGrant, hfirst, hc]

/-- The chunk idle longest is spilled for a request that only free shelves hold back, where the spill region has room. -/
theorem Dev.chunkSpill_spills {g t u : Nat} (hon : d.bit F.CAB_SPILL_CFG.SPILL_EN die = true) (hfor : d.spillFor die = some h)
    (hidle : longestIdle (d.spillCands die (d.ctxRank die h) (d.desc h).exact) = some (t, u, g, n))
    (hroom : d.spillUsed die + d.chunkShelves g ≤ d.spillRegion) :
    d.chunkSpill die = (d.updCtx die g fun c =>
      { c with chunks := c.chunks.modify n fun ch => { ch with spilled := true } }).count .CAB_SPILL_OUT die := by
  simp only [Dev.chunkSpill, hon, Bool.not_true, Bool.false_eq_true, if_false, hfor, hidle, if_neg (Nat.not_lt.2 hroom)]

theorem Dev.chunkReturn_returns (hback : d.spillBack die = some (h, n)) :
    d.chunkReturn die = (d.updCtx die h fun c =>
      { c with chunks := c.chunks.modify n fun ch => { ch with spilled := false } }).count .CAB_SPILL_IN die := by
  simp only [Dev.chunkReturn, hback]

end

/-! ## The output stage (R255) -/

/-- A die without the oldest item of its output stage. -/
def Dev.outPopped (d : Dev) (die : Nat) : Dev := d.updCab fun k => { k with outQ := k.outQ.upd [] die (·.drop 1) }

section
variable {d : Dev} {die h : Nat} {c : DrwCtx} {o : OutItem}

theorem Dev.outputDone_oldest {rest : List OutItem} (ho : d.cab.outQ.at [] die = o :: rest)
    (hc : (d.outPopped die).ctx die o.handle = some c) :
    d.outputDone die = if o.kind = 0 then (d.outPopped die).chunkLeaves die o.handle c o
      else (d.outPopped die).countLeaves die o.handle c o := by
  rw [Dev.outPopped] at hc ⊢
  simp only [Dev.outputDone, ho, hc]

/-- A data chunk of status 0 that leaves a primary goes into the digest by its CRC, then its results and notices are sent. -/
theorem Dev.chunkLeaves_primary (hprimary : c.shadow = false) (hstatus : o.status = 0) {p : Packed} {crc : Nat}
    (hp : p = d.chunkOut h (d.chunkLen h c o.chunk) o) (hcrc : crc = crc64 p.bytes) {e f : Dev}
    (he : e = (d.add .CAB_OUT_OVF die p.ovf).add .CAB_OUT_NAN die p.nan)
    (hf : f = (e.digestAdd die (e.get F.DRW_CFG.JOB h) o.tag o.chunk o.epoch crc).shareD die h c o crc) :
    d.chunkLeaves die h c o =
      ((f.sendResults die h c o p.bytes).sendNotices die h c o p.bytes.length crc).closeIfDone die h := by
  have hlive : o.status ≠ 1 := by omega
  subst hf he hcrc hp
  simp only [Dev.chunkLeaves, hprimary, if_neg hlive, Bool.false_eq_true, if_false]

end

/-! ## Release (R268) -/

/-- A primary's release is that of the operation under way, or in IDLE of the next one. -/
theorem Dev.releaseCtx_primary (d : Dev) (h : Nat) {c : DrwCtx} (hprimary : c.shadow = false) :
    d.releaseCtx h c = if c.state = 2 then { c with relNext := true } else { c with released := true } := by
  simp only [Dev.releaseCtx, hprimary, Bool.false_and, Bool.false_eq_true, if_false]

/-! ## Stragglers (R263) -/

/-- The members whose part of chunk W has not arrived whole. -/
def Dev.missingParts (d : Dev) (h : Nat) (c : DrwCtx) : List Nat :=
  (d.memberSet h c c.w).filter fun i =>
    !(d.chunkFull h { c with members := [i] } c.w ((c.chunks.find c.w).getD {}))

/-- The straggler of a Drawer at chunk W is raised and counted. -/
def Dev.stragglerRaised (d : Dev) (die h : Nat) (c : DrwCtx) : Dev :=
  (d.raise (32 + die) 3 (instDrawer h) c.w).count .CAB_STRAGGLER die

/-- Members are named to the coordinator of the Drawer's job, 64 at most, where a COLL_STATUS reaches its type. -/
def Dev.nameStragglers (d : Dev) (die h : Nat) (c : DrwCtx) (ms : List Nat) : Dev :=
  let j := d.get F.DRW_CFG.JOB h
  let ty := bitsOf (d.jobWord j 1) 31 30
  if ty ≤ 1 then
    d.each (ms.take 64) fun e i =>
      e.collStatus die (replyType ty) (d.jobWord j 1 % 2 ^ 24) j h c.epoch i c.tag c.w 0 5 0 ms.length
  else d

/-- Naming members leaves the job's entry, so the type and the identifier of its coordinator may be read at each name. -/
theorem Dev.nameStragglers_eq (d : Dev) (die h : Nat) (c : DrwCtx) (ms : List Nat) {j ty : Nat} (hj : j = d.get F.DRW_CFG.JOB h)
    (hty : ty = bitsOf (d.jobWord j 1) 31 30) :
    d.nameStragglers die h c ms =
      if ty ≤ 1 then
        d.each (ms.take 64) fun e i =>
          e.collStatus die (replyType ty) (e.jobWord j 1 % 2 ^ 24) j h c.epoch i c.tag c.w 0 5 0 ms.length
      else d := by
  subst hj hty
  unfold Dev.nameStragglers
  refine if_congr Iff.rfl (Dev.each_congr (fun e => e.jobWord (d.get F.DRW_CFG.JOB h) 1 = d.jobWord (d.get F.DRW_CFG.JOB h) 1)
    rfl ?keeps ?agree) rfl
  case keeps => exact fun e i he => (e.collStatus_jobWord ..).trans he
  case agree => exact fun e i he => by rw [he]

/-- The timer of a data phase that expires names the members still missing, and starts again. -/
theorem Dev.straggler_names {d e : Dev} {die h : Nat} {c : DrwCtx} (hc : d.ctx die h = some c) (hactive : c.state = 3)
    (hprimary : c.shadow = false) (hruns : c.strag ≠ none) (hon : d.get F.DRW_COLL.STRAG_TO h ≠ 0) (hphase : c.phase = 0)
    (he : e = (d.stragglerRaised die h c).nameStragglers die h c (d.missingParts h c)) :
    d.straggler die h = e.updCtx die h fun c => { c with strag := some e.raw } := by
  have hready : ¬(c.state ≠ 3 ∨ c.shadow = true ∨ c.strag = none ∨ d.get F.DRW_COLL.STRAG_TO h = 0) := by
    simp [hactive, hprimary, hruns, hon]
  have hdata : c.phase ≠ 1 := by omega
  subst he
  simp only [Dev.straggler, hc, if_neg hready, if_neg hdata]
  rfl

/-! ## Notices (R257, R292) -/

theorem beBytes_length (n v : Nat) : (beBytes n v).length = n := by
  induction n generalizing v with
  | zero => rfl
  | succ n ih => simp [beBytes, ih]

section
variable {d : Dev} {die dst : Nat} {n : Notice}

/-- A notice that the fence lets pass takes the stream's next number and is held. -/
theorem Dev.pushNotice_holds {e : Dev} {m : Notice}
    (hm : m = { n with seq := (d.nstream die dst).next, tries := 1, payload := d.noticeNow die n })
    (he : (false, e) = d.originateFenced die 3 (d.noticeFrame die dst opFWrite m)) :
    d.pushNotice die dst n = e.updNotes die dst fun s =>
      { s with next := (s.next + 1) % 2 ^ 32, held := s.held ++ [m], job := m.job } := by
  subst hm
  simp only [Dev.pushNotice, ← he, Bool.false_eq_true, if_false]

/-- Where the die holds the Drawer, only words 3 and 4 of the payload change: to the LIMIT and W of the context. -/
theorem Dev.noticeNow_of_ctx {c : DrwCtx} (hc : d.ctx die n.drawer = some c) :
    d.noticeNow die n = n.payload.take 12 ++
      ((beBytes 4 (c.limit % 2 ^ 24 * 256) ++ beBytes 4 (c.w % 2 ^ 24 * 256)) ++ n.payload.drop 20) := by
  simp only [Dev.noticeNow, hc, List.append_assoc]

/-- A byte string whose bytes 12 to 19 are replaced by eight others. -/
theorem splice_parts {l mid : List Byte} (hl : 20 ≤ l.length) (hmid : mid.length = 8) :
    ((l.take 12 ++ (mid ++ l.drop 20)).drop 12).take 8 = mid ∧ (l.take 12 ++ (mid ++ l.drop 20)).take 12 = l.take 12 ∧
    (l.take 12 ++ (mid ++ l.drop 20)).drop 20 = l.drop 20 := by
  have hhead : (l.take 12).length = 12 := List.length_take_of_le (by omega)
  have htail : (l.take 12 ++ (mid ++ l.drop 20)).drop 12 = mid ++ l.drop 20 := List.drop_left' hhead
  refine ⟨?_, List.take_left' hhead, ?_⟩
  · rw [htail, List.take_left' hmid]
  · rw [show 20 = 12 + 8 from rfl, ← List.drop_drop, htail, List.drop_left' hmid]

variable {q : Nat}

/-- A notice is sent again as it was, and the transmission is counted. -/
theorem Dev.resendNotice_again (hsync : (d.nstream die dst).sync = false)
    (hheld : (d.nstream die dst).held.find? (fun n => n.seq == q) = some n) (htries : n.tries < 100) :
    d.resendNotice die dst q =
      (d.updNotes die dst fun s =>
        { s with held := s.held.map fun m => if m.seq = q then { m with tries := m.tries + 1 } else m }).originate
          (16 + die) 3 (d.noticeFrame die dst opFWrite n) := by
  simp only [Dev.resendNotice, hsync, Bool.false_eq_true, if_false, hheld, if_neg (Nat.not_le.2 htries)]

/-- A notice dropped is no longer held; the drop is counted at the attach tile and raised. -/
def Dev.noticeDropped (d : Dev) (die dst q : Nat) : Dev :=
  ((d.updNotes die dst fun s => { s with held := s.held.filter fun n => n.seq != q }).count .POOL_SRC_GIVEUP
    (attachTile die)).raise (32 + die) 8 (instDie (16 + die))

/-- After 100 transmissions a notice is dropped, and those that wait go on. -/
theorem Dev.resendNotice_drops (hsync : (d.nstream die dst).sync = false)
    (hheld : (d.nstream die dst).held.find? (fun n => n.seq == q) = some n) (htries : 100 ≤ n.tries) :
    d.resendNotice die dst q = (d.noticeDropped die dst q).drainNotices die dst
      ((d.noticeDropped die dst q).nstream die dst).wait.length := by
  simp only [Dev.resendNotice, hsync, Bool.false_eq_true, if_false, hheld, if_pos htries]
  rfl

end

/-- Settles O32 (R234, R235, R239, R241, R255, R257, R263, R268, R292; log entry 176): each command of the die by the law of
its own operation; a straggler's name goes to the coordinator read before the first of them. -/
theorem cabinetEngine : Obligations.CabinetEngine := by
  unfold Obligations.CabinetEngine
  refine ⟨?grant, ?spill, ?spillReturn, ?output, ?leaves, ?release, fun d h _ => d.releaseCtx_primary h, ?straggler,
    fun _ _ _ _ _ _ => Dev.pushNotice_holds, ?payload, ?again, ?drop⟩
  case grant =>
    intro s die h c d hfirst hc hd
    subst hd
    rw [exec_allocationGrant, Dev.allocGrant_first hfirst hc, Dev.allocChunk]
  case spill =>
    intro s die h g n t u hon hfor hidle hroom
    rw [exec_chunkSpill, Dev.chunkSpill_spills hon hfor hidle hroom]
  case spillReturn =>
    intro s die h n hback
    rw [exec_chunkSpillReturn, Dev.chunkReturn_returns hback]
  case output =>
    intro s die o rest c d ho hd hc
    subst hd
    rw [exec_outputStageDone, Dev.outputDone_oldest ho hc]
    rfl
  case leaves =>
    intro d e f die h crc c o p hprimary hstatus hp hcrc he hf
    exact Dev.chunkLeaves_primary hprimary hstatus hp hcrc he hf
  case release =>
    intro s a h hr
    rw [exec_drwRelease, Dev.onWrite_reaches hr, Dev.releaseDrawer]
  case straggler =>
    intro s die h c j ty ms d e hc hactive hprimary hruns hon hphase hd hj hty hms he
    subst hj hty hms hd
    have hnamed : e = (s.dev.stragglerRaised die h c).nameStragglers die h c (s.dev.missingParts h c) := by
      rw [he, Dev.nameStragglers_eq _ die h c _ rfl rfl]
      rfl
    rw [exec_stragglerTimeout, Dev.straggler_names hc hactive hprimary hruns hon hphase hnamed]
  case payload =>
    intro d die n c hc hlen
    rw [Dev.noticeNow_of_ctx hc]
    exact splice_parts hlen (by simp only [List.length_append, beBytes_length])
  case again =>
    intro s die m q x n hx hsync hheld htries
    subst hx
    rw [exec_noticeResendTimeout, Dev.resendNotice_again hsync hheld htries]
  case drop =>
    intro s die m q x n d hx hsync hheld htries hd
    subst hx hd
    rw [exec_noticeResendTimeout, Dev.resendNotice_drops hsync hheld htries]
    rfl

end Sys2Proof.Machine
end

section
/-! A frame that a unit originates leaves the pool (R113, R116, R132, R154): it changes the switch core, the forwarding state,
registers and what waits in the inboxes. -/
namespace Sys2Proof.Machine

variable (d : Dev)

/-! ## Entering a die -/

@[simp] theorem Dev.updAcct_pool (die src ci : Nat) (f : Acct → Acct) : (d.updAcct die src ci f).pool = d.pool := rfl

@[simp] theorem Dev.updQueue_pool (die out cls : Nat) (f : Queue → Queue) : (d.updQueue die out cls f).pool = d.pool := rfl

@[simp] theorem Dev.putFrm_pool (fid : Nat) (f : Frm) : (d.putFrm fid f).pool = d.pool := rfl

@[simp] theorem Dev.newFrm_pool (f : Frm) : (d.newFrm f).2.pool = d.pool := rfl

@[simp] theorem Dev.countDrop_pool (die out cls : Nat) : (d.countDrop die out cls).pool = d.pool := rfl

@[simp] theorem Dev.intoCrossbar_pool (fid : Nat) (f : Frm) (i n : Nat) : (d.intoCrossbar fid f i n).pool = d.pool := rfl

@[simp] theorem Dev.toInbox_pool (die kind : Nat) (f : Frm) : (d.toInbox die kind f).pool = d.pool := rfl

@[simp] theorem Dev.add64_pool (r : Reg) (i n : Nat) : (d.add64 r i n).pool = d.pool := d.wrWide_pool ..

@[simp] theorem Dev.pmcAdd_pool (n k m : Nat) : (d.pmcAdd n k m).pool = d.pool := d.wrWide_pool ..

@[simp] theorem Dev.pulse_pool (n e m : Nat) (sel cls job : Option Nat) : (d.pulse n e m sel cls job).pool = d.pool := by
  unfold Dev.pulse
  split
  · rfl
  · refine Dev.each_keeps (·.pool) d _ fun x k => ?_
    dsimp only
    split
    · split
      · exact x.pmcAdd_pool n k m
      · rfl
      · rfl
    · rfl

@[simp] theorem Dev.returnCredit_pool (die src ci n : Nat) : (d.returnCredit die src ci n).pool = d.pool := by
  unfold Dev.returnCredit
  dsimp only
  repeat' split
  all_goals rfl

@[simp] theorem Dev.chargeReserve_pool (fid n : Nat) : (d.chargeReserve fid n).pool = d.pool := by
  unfold Dev.chargeReserve
  split <;> rfl

theorem Dev.wredStep_pool (t : Nat) (f : Frm) : (d.wredStep t f).2.pool = d.pool := by
  have hdrop : (d.wredDrop t f.cls f.yellow (d.queue t f.outq f.cls)).2.pool = d.pool := rfl
  simp only [Dev.wredStep, apply_ite Prod.snd, apply_ite Dev.pool, Dev.countDrop_pool, Dev.count_pool, hdrop, ite_self]

theorem Dev.enterLossy_pool (f : Frm) (k : Nat) : (d.enterLossy f k).2.pool = d.pool := by
  unfold Dev.enterLossy
  cases d.admitLossy f with
  | refused => simp only [Dev.countDrop_pool, Dev.pulse_pool, Dev.count_pool]
  | spillRefused => simp only [Dev.countDrop_pool, Dev.count_pool]
  | buffer shared =>
    simp only [Dev.intoCrossbar_pool, Dev.updQueue_pool, apply_ite Dev.pool, Dev.returnCredit_pool, Dev.set_pool,
      Dev.updAcct_pool, Dev.newFrm_pool, ite_self]
  | deep =>
    simp only [Dev.intoCrossbar_pool, Dev.pulse_pool, Dev.add64_pool, Dev.updCore_pool, Dev.updQueue_pool,
      apply_ite Dev.pool, Dev.returnCredit_pool, Dev.newFrm_pool, ite_self]

theorem Dev.enterLossless_pool (f : Frm) (n : Nat) : (d.enterLossless f n).2.pool = d.pool := by
  unfold Dev.enterLossless
  dsimp only
  repeat' split
  all_goals
    simp only [Dev.intoCrossbar_pool, Dev.putFrm_pool, Dev.updQueue_pool, Dev.chargeReserve_pool, Dev.newFrm_pool]

theorem Dev.enterDie_pool (f : Frm) : (d.enterDie f).pool = d.pool := by
  simp only [Dev.enterDie, Dev.enterDieWith, apply_ite Prod.snd, apply_ite Dev.pool, Dev.enterLossless_pool,
    Dev.wredStep_pool, Dev.enterLossy_pool, ite_self]

/-! ## Frames sent -/

theorem Dev.sendFrom_pool (f : Frm) : (d.sendFrom f).pool = d.pool := by
  simp only [Dev.sendFrom, apply_ite Dev.pool, Dev.raise_pool, Dev.add_pool, Dev.enterDie_pool, ite_self]

theorem Dev.sendMc_pool (f : Frm) : (d.sendMc f).pool = d.pool := by
  unfold Dev.sendMc
  split
  · rfl
  · exact (Dev.each_keeps (·.pool) _ _ fun e c => e.enterDie_pool c).trans (Dev.each_keeps (·.pool) d _ fun _ _ => rfl)

theorem Dev.sendChecked_pool (f : Frm) (m : Member) : (d.sendChecked f m).pool = d.pool := by
  cases m with
  | lp n => simp only [Dev.sendChecked, apply_ite Dev.pool, Dev.count_pool, Dev.sendLp, Dev.sendFrom_pool, ite_self]
  | fenced => rfl
  | none => rfl

theorem Dev.memberChoice_pool (die bank e cls : Nat) (spray : Bool) (b : List Byte) :
    (d.memberChoice die bank e cls spray b).2.pool = d.pool := by
  unfold Dev.memberChoice
  dsimp only
  repeat' split
  all_goals rfl

theorem Dev.forwardFabric_pool (f : Frm) : (d.forwardFabric f).pool = d.pool := by
  unfold Dev.forwardFabric
  dsimp only
  split
  · exact d.sendMc_pool _
  · exact (Dev.sendChecked_pool ..).trans (d.memberChoice_pool ..)

theorem Dev.consume_pool (f : Frm) : (d.consume f).pool = d.pool := by
  unfold Dev.consume
  dsimp only
  split
  all_goals
    simp only [apply_ite Dev.pool, Dev.sendFrom_pool, Dev.count_pool, Dev.toInbox_pool, ite_self]

/-- A frame that a unit originates leaves the pool. -/
@[simp] theorem Dev.originate_pool (die cls : Nat) (bytes : List Byte) : (d.originate die cls bytes).pool = d.pool := by
  simp only [Dev.originate, apply_ite Dev.pool, Dev.count_pool, Dev.consume_pool, Dev.forwardFabric_pool, ite_self]

end Sys2Proof.Machine
end

section
/-! The bytes of the pool partition (R276, R277): which operations of a line home leave them, and which bytes a request stores
to. -/
namespace Sys2Proof.Machine

/-! ## Mirror streams and completions leave every byte -/

section
variable (d : Dev)

@[simp] theorem Dev.updMst_mem (t p : Nat) (f : MStream → MStream) : (d.updMst t p f).pool.mem = d.pool.mem := rfl

@[simp] theorem Dev.setBad_mem (line : Nat) (b : Bool) : (d.setBad line b).pool.mem = d.pool.mem := rfl

@[simp] theorem Dev.updResil_mem (w : Nat) (f : Resil → Resil) : (d.updResil w f).pool.mem = d.pool.mem := rfl

@[simp] theorem Dev.poolWrite_mem (a : Nat) (l : List Byte) : (d.poolWrite a l).pool.mem = Memory.writeN d.pool.mem a l := rfl

@[simp] theorem Dev.sendItem_pool (t p : Nat) (m : MItem) : (d.sendItem t p m).pool = d.pool := by
  simp only [Dev.sendItem, Dev.sendGnReq, apply_ite Dev.pool, Dev.originate_pool, ite_self]

theorem Dev.drainMst_mem (t p n : Nat) : (d.drainMst t p n).pool.mem = d.pool.mem := by
  induction n generalizing d with
  | zero => rfl
  | succ n ih =>
    unfold Dev.drainMst
    dsimp only
    split
    · rfl
    · split
      · rfl
      · rw [ih, Dev.sendItem_pool, Dev.updMst_mem]

theorem Dev.queueItem_mem (t p : Nat) (m : MItem) : (d.queueItem t p m).pool.mem = d.pool.mem :=
  Dev.drainMst_mem ..

theorem Dev.poolCut_mem (a b : Nat) (r : GnReq) : (d.poolCut a b r).pool.mem = d.pool.mem := by
  simp only [Dev.poolCut, apply_ite Dev.pool, apply_ite PoolSt.mem, Dev.updPool_pool, Dev.raise_pool, Dev.count_pool,
    ite_self]

@[simp] theorem Dev.toOrder_mem (c : GnDone) : (d.toOrder c).pool.mem = d.pool.mem := by
  simp only [Dev.toOrder, apply_ite Dev.pool, apply_ite PoolSt.mem, Dev.poolCut_mem, Dev.updPool_pool, ite_self]

@[simp] theorem Dev.afterWrite_mem (home : Nat) (r : GnReq) (c : GnDone) : (d.afterWrite home r c).pool.mem = d.pool.mem := by
  simp only [Dev.afterWrite, apply_ite Dev.pool, apply_ite PoolSt.mem, Dev.queueItem_mem, Dev.toOrder_mem, ite_self]

theorem Dev.refuseGn_mem (home : Nat) (r : GnReq) (st : Nat) : (d.refuseGn home r st).pool.mem = d.pool.mem := by
  simp only [Dev.refuseGn, Dev.toOrder_mem, apply_ite Dev.pool, Dev.count_pool, ite_self]

@[simp] theorem Dev.dataError_mem (home : Nat) (r : GnReq) : (d.dataError home r).pool.mem = d.pool.mem := by
  simp only [Dev.dataError, Dev.toOrder_mem, Dev.raise_pool, Dev.count_pool]

end

/-! ## A request at its line home -/

theorem leBytes_length (n v : Nat) : (leBytes n v).length = n := by
  induction n generalizing v with
  | zero => rfl
  | succ n ih => simp only [leBytes, List.length_cons, ih]

/-- Bytes that an operation stores to. -/
def GnOp.storeBytes (o : GnOp) (r : GnReq) : Nat :=
  match o with
  | .atomic _ wide => if wide then 8 else 4
  | _ => r.payload.length

section
variable (d : Dev) (home : Nat) (r : GnReq) (ue : Bool) {o : GnOp} {a : Nat}

/-- An operation that is neither a write nor an atomic leaves every byte. -/
theorem Dev.runGn_mem_of_not_writes (h : o.writes = false) : (d.runGn home r o ue).pool.mem = d.pool.mem := by
  cases o with
  | read | mread =>
    unfold Dev.runGn
    dsimp only
    split
    · rw [Dev.flagFrom_pool, Dev.dataError_mem, Dev.updBur_pool]
    · split
      · rw [Dev.dataError_mem]
      · rw [Dev.toOrder_mem, Dev.pulse_pool, Dev.add64_pool]
  | sync => simp only [Dev.runGn, Dev.toOrder_mem]
  | write | part | fwrite | mwrite | atomic => cases h

/-- A write or an atomic leaves the bytes outside those that it stores to. -/
theorem Dev.read_runGn_out (hout : a < d.winPos r.win r.off ∨ d.winPos r.win r.off + o.storeBytes r ≤ a) :
    Memory.read (d.runGn home r o ue).pool.mem a = Memory.read d.pool.mem a := by
  have hwrite {l : List Byte} (hl : l.length = o.storeBytes r) :
      Memory.read (Memory.writeN d.pool.mem (d.winPos r.win r.off) l) a = Memory.read d.pool.mem a :=
    Memory.read_writeN_out _ _ (hl ▸ hout)
  cases o with
  | read | mread | sync => rw [d.runGn_mem_of_not_writes home r ue rfl]
  | write | mwrite | part | fwrite =>
    simp only [Dev.runGn, apply_ite Dev.pool, apply_ite PoolSt.mem, Dev.dataError_mem, Dev.afterWrite_mem, Dev.pulse_pool,
      Dev.add64_pool, Dev.setBad_mem, Dev.poolWrite_mem, apply_ite (Memory.read · a), hwrite rfl, ite_self]
  | atomic k wide =>
    simp only [Dev.runGn, Dev.runAtomic, apply_ite Dev.pool, apply_ite PoolSt.mem, Dev.dataError_mem, Dev.afterWrite_mem,
      Dev.pulse_pool, Dev.add64_pool, Dev.poolWrite_mem, apply_ite (Memory.read · a),
      hwrite (leBytes_length (if wide then 8 else 4) _), ite_self]

/-- A request leaves each byte that it does not store to, once its checks let it store. -/
theorem Dev.read_homeRun_out {q : HomeReq}
    (hout : ∀ o, q.force = none → d.gnCheck q.r = none → gnOp q.r.opcode.toNat = some o → o.writes = true →
      a < d.winPos q.r.win q.r.off ∨ d.winPos q.r.win q.r.off + o.storeBytes q.r ≤ a) :
    Memory.read (d.homeRun home q ue).2.pool.mem a = Memory.read d.pool.mem a := by
  unfold Dev.homeRun
  split
  next => rw [Dev.refuseGn_mem]
  next hforce =>
    split
    next => rw [Dev.refuseGn_mem]
    next => rw [Dev.refuseGn_mem]
    next o hcheck hop =>
      split
      · simp only [apply_ite Dev.pool, apply_ite PoolSt.mem, Dev.updResil_mem, ite_self]
      · cases hw : o.writes with
        | false => rw [d.runGn_mem_of_not_writes home q.r ue hw]
        | true => exact d.read_runGn_out home q.r ue (hout o hforce hcheck hop hw)

/-- The request either waits for an earlier atomic, or its run is all that the command does to the bytes. -/
theorem Dev.homeExecute_mem {tile n : Nat} {q : HomeReq} (hq : (d.pool.home.at [] tile)[n]? = some q) :
    (d.homeExecute tile n ue).pool.mem = d.pool.mem ∨
    (d.homeExecute tile n ue).pool.mem = (d.homeRun tile q ue).2.pool.mem := by
  unfold Dev.homeExecute
  simp only [hq]
  split
  · exact .inl rfl
  · refine .inr ?_
    split <;> rfl

end

/-- A byte of the written memory is the byte stored there, or the one from before. -/
theorem Memory.read_writeN {m : Memory} (h : Memory.wf m) (a b : Nat) (l : List Byte) :
    Memory.read (Memory.writeN m a l) b =
      if h : a ≤ b ∧ b < a + l.length then l[b - a]'(by omega) else Memory.read m b := by
  split
  next hin =>
    obtain ⟨i, rfl⟩ := Nat.exists_eq_add_of_le hin.1
    simp only [Memory.read_writeN_in h a i l (by omega), Nat.add_sub_cancel_left]
  next hout => exact Memory.read_writeN_out _ _ (by omega)

/-- Settles O37 (R276, R277): a line home changes memory in the run of the request alone, and there only where it stores. -/
theorem poolBytesKept : Obligations.PoolBytesKept := by
  unfold Obligations.PoolBytesKept
  refine ⟨?_, fun m a b l hm => Memory.read_writeN hm a b l⟩
  intro s t tile n ue q a hstep hq hout
  rw [exec_lineHomeExecute] at hstep
  cases hstep
  rcases s.dev.homeExecute_mem ue hq with hmem | hmem
  · exact congrArg (Memory.read · a) hmem
  · exact (congrArg (Memory.read · a) hmem).trans (s.dev.read_homeRun_out tile ue hout)

end Sys2Proof.Machine
end

section
/-! Gnoari requests at their ordering tile, and the ends of what the tile holds (R278 to R287, R295). -/
namespace Sys2Proof

/-- The entry of a key whose value a change touches. -/
theorem Tbl.find_modify_same {α : Type} (t : Tbl α) (k : Nat) (f : α → α) : (t.modify k f).find k = (t.find k).map f := by
  induction t with
  | nil => rfl
  | cons e t ih =>
    obtain ⟨j, v⟩ := e
    by_cases hj : k = j
    · simp [Tbl.modify, Tbl.find, hj]
    · simpa [Tbl.modify, Tbl.find, hj, Ne.symm hj] using ih

namespace Machine

/-! ## The way to the line home (R17, R26, R279) -/

section
variable {d : Dev} {q : HomeReq}

theorem Dev.toHome_reached (h : d.unreachable q.r.tile (d.homeTile q.r) = false) :
    (d.toHome q).pool.home.at [] (d.homeTile q.r) = d.pool.home.at [] (d.homeTile q.r) ++ [q] := by
  simp only [Dev.toHome, h, Bool.false_eq_true, if_false, Dev.updPool_pool, Tbl.upd, Tbl.at_put_same]

theorem Dev.toHome_cut (h : d.unreachable q.r.tile (d.homeTile q.r) = true) :
    d.toHome q = d.poolCut q.r.tile (d.homeTile q.r) q.r := if_pos h

end

/-- A tracker once a request of its source has come (R279). -/
abbrev Tracker.seen (t : Tracker) (r : GnReq) (now : Nat) : Tracker := { t with job := r.job.val, last := now }

section
variable {d : Dev} {r : GnReq} {t : Tracker} {hold : Bool}

theorem Dev.trk_touchTrk (ht : d.trk r.key = some t) : (d.touchTrk r).trk r.key = some (t.seen r d.raw) := by
  have hfind : d.pool.trk.find r.key = some t := ht
  simp only [Dev.trk, Dev.touchTrk, Dev.updTrk, Dev.updPool_pool, Tbl.find_modify_same, hfind, Option.map_some]

/-! ## SYNC and sequenced writes (R280 to R282) -/

/-- A SYNC sets W where the tracker is not yet in step, and is answered. -/
theorem Dev.syncArrive_tracked (hform : GnOp.sync.formOk r = true) (ht : d.needTrk r = some t) :
    d.syncArrive r = (d.putTrk r.key
      { t with job := r.job.val, last := d.raw, synced := true,
               w := if t.synced then t.w else r.seq.toNat }).respondBare r 0 := by
  simp only [Dev.syncArrive, hform, ht, Bool.not_true, Bool.false_eq_true, if_false]
  obtain ⟨synced⟩ := t
  cases synced <;> rfl

theorem Dev.writeArrive_untracked (ht : d.trk r.key = none) : d.writeArrive r hold = d.respondBare r 9 := by
  simp only [Dev.writeArrive, ht]

theorem Dev.writeArrive_covered (ht : d.trk r.key = some t) (hsync : t.synced = true) (hcov : t.covers r.seq.toNat = true) :
    d.writeArrive r hold = ((d.putTrk r.key (t.seen r d.raw)).count .POOL_DUP r.tile).respondBare r 0 := by
  have hstep : ¬(!t.synced) = true := by simp [hsync]
  have hseen : (t.seen r d.raw).covers r.seq.toNat = true := hcov
  simp only [Dev.writeArrive, ht]
  rw [if_neg hstep, if_pos hseen]

/-- A write of a source in step that is no duplicate is out of range, held, or goes to its line home. -/
theorem Dev.writeArrive_new (ht : d.trk r.key = some t) (hsync : t.synced = true) (hcov : t.covers r.seq.toNat = false)
    (hmark : t.marks.contains r.seq.toNat = false) (hheld : ∀ h ∈ t.held, h.r.seq ≠ r.seq) :
    d.writeArrive r hold =
      if 1024 < (r.seq.toNat + 2 ^ 32 - t.w) % 2 ^ 32 then (d.putTrk r.key (t.seen r d.raw)).respondBare r 11
      else if hold = true ∧ r.seq.toNat ≠ (t.w + 1) % 2 ^ 32 then
        (d.putTrk r.key (t.seen r d.raw)).putTrk r.key
          (Tracker.timer { t.seen r d.raw with held := t.held ++ [HomeReq.mk r none] } false d.raw)
      else
        ((d.putTrk r.key (t.seen r d.raw)).putTrk r.key
          (Tracker.timer { t.seen r d.raw with flight := t.flight ++ [r.seq.toNat] } false d.raw)).toHome { r := r } := by
  have hstep : ¬(!t.synced) = true := by simp [hsync]
  have hseen : ¬(t.seen r d.raw).covers r.seq.toNat = true := ne_true_of_eq_false hcov
  have hany : ¬(t.held.any fun h => h.r.seq.toNat == r.seq.toNat) = true := by
    rw [List.any_eq_true]
    exact fun ⟨h, hh, heq⟩ => hheld h hh (BitVec.eq_of_toNat_eq (eq_of_beq heq))
  have hdup := not_or.2 ⟨ne_true_of_eq_false hmark, hany⟩
  simp only [Dev.writeArrive, ht]
  rw [if_neg hstep, if_neg hseen, if_neg hdup]
  rfl

/-- A mirror write for which the reserve has room acts as a flagged write. -/
theorem Dev.mwriteArrive_reserve (h : ((d.trkHolders r.tile).filter (·.isMirror)).length < d.mirrorRsv) :
    d.mwriteArrive r = d.writeArrive r true := if_neg (Nat.not_le.2 h)

/-! ## Atomics (R285) -/

/-- An atomic whose receipt is held is answered from it. -/
theorem Dev.atomicArrive_held {p : Nat × List Byte} {e : RcEnt} (ht : d.needTrk r = some t)
    (hrc : (d.putTrk r.key (t.seen r d.raw)).pool.rc.find (rcKey r.srcType r.src.toNat r.tag.toNat) = some e)
    (hres : e.result = some p) :
    d.atomicArrive r = ((d.putTrk r.key (t.seen r d.raw)).count .POOL_RC_HIT r.tile).respond r p.1 p.2 := by
  simp only [Dev.atomicArrive, ht, hrc, hres]

/-- An atomic of which the tile knows nothing goes to its line home while its source and the tile have room for the receipt. -/
theorem Dev.atomicArrive_new {e : Dev} (ht : d.needTrk r = some t) (he : e = d.putTrk r.key (t.seen r d.raw))
    (hrc : e.pool.rc.find (rcKey r.srcType r.src.toNat r.tag.toNat) = none) (hevict : t.evictHi = none)
    (hretry : r.retry = false) (hsrc : e.rcOfSrc r.srcType r.src.toNat < e.rcPerSrc) (htile : e.rcUsed r.tile < 8192)
    (hflight : e.atomicInFlight r = false) : d.atomicArrive r = e.toHome { r := r } := by
  have hroom : ¬(e.rcPerSrc ≤ e.rcOfSrc r.srcType r.src.toNat ∨ 8192 ≤ e.rcUsed r.tile) := by omega
  simp only [Dev.atomicArrive, ht, ← he]
  simp only [hrc, hevict, hretry, if_neg hroom, hflight, Bool.false_eq_true, false_and, if_false]

end

/-- The commands of the atomics. -/
def gnAtomics : List (GnReq → Instr) :=
  [.gnAtomicAdd, .gnAtomicSwap, .gnAtomicCas, .gnAtomicAnd, .gnAtomicOr, .gnAtomicXor, .gnAtomicSmin, .gnAtomicSmax,
    .gnAtomicUmin, .gnAtomicUmax]

/-- Each atomic that finds what it needs acts by the one rule of atomics. -/
theorem exec_gnAtomics {s : State} {r : GnReq} (hr : s.dev.GnReaches r) :
    ∀ c ∈ gnAtomics, exec (c r) s = .next (s.withDev ((s.dev.gnTaken r).atomicArrive r)) := by
  rw [← Dev.onGn_reaches hr fun d => d.atomicArrive r]
  simp only [gnAtomics, List.forall_mem_cons]
  exact ⟨exec_gnAtomicAdd r s, exec_gnAtomicSwap r s, exec_gnAtomicCas r s, exec_gnAtomicAnd r s, exec_gnAtomicOr r s,
    exec_gnAtomicXor r s, exec_gnAtomicSmin r s, exec_gnAtomicSmax r s, exec_gnAtomicUmin r s, exec_gnAtomicUmax r s,
    List.forall_mem_nil _⟩

/-- Settles O34 (R278 to R282, R285, R287, R295; log entries 103 and 179): each request by the law of its operation at the
ordering tile. -/
theorem poolArrivals : Obligations.PoolArrivals := by
  unfold Obligations.PoolArrivals
  refine ⟨?reads, fun d q t => ⟨Dev.toHome_reached, Dev.toHome_cut, Dev.trk_touchTrk⟩, ?sync, ?untracked, ?covered,
    ?refusedOrHeld, ?sent, ?atomics⟩
  case reads =>
    intro s r hr
    rw [exec_gnRead, exec_gnMread, Dev.onGn_reaches hr]
    exact ⟨rfl, rfl⟩
  case sync =>
    intro s r t d hd hr hform ht
    rw [exec_gnSync, Dev.onGn_reaches hr, ← hd, Dev.syncArrive_tracked hform ht]
  case untracked =>
    intro s r d hd hr ht
    rw [exec_gnWrite, exec_gnWritePart, exec_gnFwrite]
    simp only [Dev.onGn_reaches hr, ← hd, Dev.writeArrive_untracked ht, and_self]
  case covered =>
    intro s r t d hd hr ht hsync hcov
    rw [exec_gnWrite, Dev.onGn_reaches hr, ← hd, Dev.writeArrive_covered ht hsync hcov]
  case refusedOrHeld =>
    intro s r t d hd hr ht hsync hcov hmark hheld
    refine ⟨fun hfar => ?_, fun hnear hlater => ?_⟩
    · rw [exec_gnWrite, Dev.onGn_reaches hr, ← hd, Dev.writeArrive_new ht hsync hcov hmark hheld, if_pos hfar]
    · rw [exec_gnFwrite, Dev.onGn_reaches hr, ← hd, Dev.writeArrive_new ht hsync hcov hmark hheld,
        if_neg (Nat.not_lt.2 hnear), if_pos ⟨rfl, hlater⟩]
  case sent =>
    intro s r t u d v hd hr ht hsync hcov hmark hheld hnear hu hv
    have hsend {hold : Bool} (hgo : ¬(hold = true ∧ r.seq.toNat ≠ (t.w + 1) % 2 ^ 32)) :
        s.withDev (d.writeArrive r hold) = v := by
      rw [Dev.writeArrive_new ht hsync hcov hmark hheld, if_neg (Nat.not_lt.2 hnear), if_neg hgo, hv, hu]
    rw [exec_gnWrite, exec_gnWritePart, exec_gnFwrite, exec_gnMwrite]
    simp only [Dev.onGn_reaches hr, ← hd]
    refine ⟨congrArg _ (hsend (by simp)), congrArg _ (hsend (by simp)), fun hnext => congrArg _ (hsend (by simp [hnext])),
      fun hnext hrsv => ?_⟩
    rw [Dev.mwriteArrive_reserve hrsv, hsend (by simp [hnext])]
  case atomics =>
    intro s r t d c hc hr ht hd
    rw [exec_gnAtomics hr c hc]
    refine ⟨fun p j a hrc => ?_, fun hrc hevict hretry hsrc htile hflight => ?_⟩
    · rw [Dev.atomicArrive_held ht (hd ▸ hrc) rfl, hd]
    · rw [Dev.atomicArrive_new ht hd hrc hevict hretry hsrc htile hflight]

/-! ## Completion (R281, R285) -/

section
variable {d : Dev} {c : GnDone}

theorem Dev.homeCompletion_oldest {tile : Nat} {rest : List GnDone} (h : d.pool.comp.at [] tile = c :: rest) :
    d.homeCompletion tile =
      (d.updPool fun p => { p with comp := p.comp.upd [] tile (·.drop 1) }).takeDone c := by
  simp only [Dev.homeCompletion, h]

theorem Dev.takeDone_retires {o : GnOp} (hop : gnOp c.r.opcode.toNat = some o) (hseq : o.sequenced = true)
    (hst : retires c.status = true) : d.takeDone c = d.retire c := by
  simp only [Dev.takeDone, hop, hseq, hst, if_true]

/-- The result of an atomic that is not BUSY is kept and answered. -/
theorem Dev.takeDone_atomic {k : Nat} {wide : Bool} (hop : gnOp c.r.opcode.toNat = some (.atomic k wide)) (hst : c.status ≠ 5) :
    d.takeDone c = (d.updPool fun p =>
      { p with
        rc := p.rc.insert (rcKey c.r.srcType c.r.src.toNat c.r.tag.toNat)
          { result := some (c.status, c.payload), job := c.r.job, at' := d.raw } }).respond c.r c.status c.payload := by
  have hkept : (GnOp.atomic k wide).isAtomic = true ∧ c.status ≠ 5 := ⟨rfl, hst⟩
  simp only [Dev.takeDone, hop, if_pos hkept]
  rfl

/-- A write that retires is marked; W rises as far as the marks go, and what it covers is answered. -/
theorem Dev.retire_marks {t u : Tracker} (ht : d.trk c.r.key = some t) (hcov : t.covers c.r.seq.toNat = false)
    (hmark : t.marks.contains c.r.seq.toNat = false)
    (hu : u = { t with
      flight := t.flight.filter (· != c.r.seq.toNat)
      marks := t.marks ++ [c.r.seq.toNat]
      answers := t.answers ++ [c] }) :
    d.retire c =
      (d.putTrk c.r.key ((u.rise u.marks.length).timer ((u.rise u.marks.length).w != t.w) d.raw)).afterW c.r.key := by
  have hout : Tracker.covers { t with flight := t.flight.filter (· != c.r.seq.toNat) } c.r.seq.toNat = false := hcov
  subst hu
  simp only [Dev.retire, ht, hout, hmark, Bool.false_eq_true, or_self, if_false]

end

/-! ## Timers and the trackers' end (R279, R283, R285) -/

section
variable {d : Dev}

theorem Dev.gapExpire_running {k : Nat} {t : Tracker} (ht : d.trk k = some t) (hgap : t.gap ≠ none) :
    d.gapExpire k =
      (((d.putTrk k { t with held := [], gap := none }).each t.held fun d h => d.respondBare h.r 7).count .POOL_GAP
        (keyTile k)).raise (keyTile k) 8 (instDie (keyTile k)) t.job := by
  simp only [Dev.gapExpire, ht, if_neg hgap]

variable {ty src tag : Nat} {e : RcEnt}

/-- EVICT_HI once a tag's result is freed: the tag, if it lies after it. -/
def evictTo (tag : Nat) (hi : Option Nat) : Option Nat :=
  match hi with
  | some h => if 1 ≤ (tag + 65536 - h) % 65536 ∧ (tag + 65536 - h) % 65536 < 32768 then some tag else some h
  | none => some tag

theorem Dev.rcExpire_result (he : d.pool.rc.find (rcKey ty src tag) = some e) (hres : e.result ≠ none) :
    d.rcExpire ty src tag =
      ((d.updPool fun p => { p with rc := p.rc.erase (rcKey ty src tag) }).updTrk (srcKey ty src) fun t =>
        { t with evictHi := evictTo tag t.evictHi }).count .POOL_RC_EXPIRE (orderTile ty src) := by
  have hkept : e.result.isNone = false := Option.isNone_eq_false_iff.2 (Option.isSome_iff_ne_none.2 hres)
  simp only [Dev.rcExpire, he, hkept, Bool.false_eq_true, if_false]
  rfl

theorem Dev.tombFree_tombstone (he : d.pool.rc.find (rcKey ty src tag) = some e) (hres : e.result = none) :
    d.tombFree ty src tag = d.updPool fun p => { p with rc := p.rc.erase (rcKey ty src tag) } := by
  simp only [Dev.tombFree, he, hres, Option.isNone_none, if_true]

/-- A tracker with nothing held is freed once no request has come for SRC_IDLE. -/
theorem Dev.trkFreeIdle_empty {t : Tracker} (ht : d.trk (srcKey ty src) = some t) (hheld : t.held = [])
    (hflight : t.flight = []) (hrc : d.rcOfSrc ty src = 0) :
    d.trkFreeIdle ty src = if d.srcIdle ≤ d.since t.last then
      d.updPool fun p => { p with trk := p.trk.erase (srcKey ty src) } else d := by
  simp only [Dev.trkFreeIdle, ht, hheld, hflight, hrc, true_and]

end

/-- Settles O35 (R279, R281 to R285; log entries 103 and 152): each completion and each end by the law of its operation. -/
theorem poolCompletion : Obligations.PoolCompletion := by
  unfold Obligations.PoolCompletion
  refine ⟨?completion, fun d c o => Dev.takeDone_retires, fun d c k wide => Dev.takeDone_atomic, fun d c t u => Dev.retire_marks,
    ?gap, ?expire, ?tombstone, ?idle⟩
  case completion =>
    intro s tile c rest hcomp
    rw [exec_lineHomeCompletion, Dev.homeCompletion_oldest hcomp]
  case gap =>
    intro s ty src t k d hk ht hgap hd
    subst hk hd
    rw [exec_gapTimeout, Dev.gapExpire_running ht hgap]
  case expire =>
    intro s ty src tag e k hk he hres
    subst hk
    rw [exec_rcEntryExpire, Dev.rcExpire_result he hres]
    rfl
  case tombstone =>
    intro s ty src tag e k hk he hres
    subst hk
    rw [exec_tombstoneFree, Dev.tombFree_tombstone he hres]
  case idle =>
    intro s ty src t k hk ht hheld hflight hrc
    subst hk
    rw [exec_sourceTrackerFree, Dev.trkFreeIdle_empty ht hheld hflight hrc]
    exact ⟨fun hlong => by rw [if_pos hlong], fun hshort => by rw [if_neg (Nat.not_le.2 hshort)]⟩

end Machine

end Sys2Proof
end

section
/-! A request at its line home (R276 to R278, Tables 12.1 and 12.5): its way out of the queue, and each kind of operation. -/
namespace Sys2Proof.Machine

/-! ## The queue and the checks -/

section
variable {d e : Dev} {home : Nat} {q : HomeReq} {ue : Bool}

/-- A request that no earlier atomic holds back runs, and leaves the queue. -/
theorem Dev.homeExecute_leaves {n : Nat} (hq : (d.pool.home.at [] home)[n]? = some q)
    (hwaits : atomicWaits (d.pool.home.at [] home) n = false) (hrun : d.homeRun home q ue = (true, e)) :
    d.homeExecute home n ue =
      e.updPool fun p => { p with home := p.home.put [] home ((d.pool.home.at [] home).eraseIdx n) } := by
  simp only [Dev.homeExecute, hq, hwaits, hrun, Bool.false_eq_true, if_false, if_true]

theorem Dev.homeRun_refused {st : Nat} (hforce : q.force = none) (hcheck : d.gnCheck q.r = some st) :
    d.homeRun home q ue = (true, d.refuseGn home q.r st) := by
  simp only [Dev.homeRun, hforce, hcheck]

theorem Dev.homeRun_executes {o : GnOp} (hforce : q.force = none) (hcheck : d.gnCheck q.r = none)
    (hop : gnOp q.r.opcode.toNat = some o) (hheld : d.heldByCopy q.r = false) :
    d.homeRun home q ue = (true, d.runGn home q.r o ue) := by
  simp only [Dev.homeRun, hforce, hcheck, hop, hheld, Bool.false_eq_true, if_false]

end

/-! ## Reads and whole-line writes (R277) -/

section
variable {d : Dev} {home : Nat} {r : GnReq}

/-- A read for which the stack reports an uncorrectable error ends with a data error. -/
theorem Dev.runGn_read_uncorrectable (hnext : d.bur.nextRead.contains (stackOf (d.winPos r.win r.off)) = false) :
    d.runGn home r .read true = d.dataError home r := by
  simp only [Dev.runGn, hnext, Bool.true_or, Bool.false_eq_true, if_false, if_true]

/-- A read of a good line answers its 128 bytes. -/
theorem Dev.runGn_read_good (hnext : d.bur.nextRead.contains (stackOf (d.winPos r.win r.off)) = false)
    (hpoisoned : r.poisoned = false) (hbad : d.pool.bad.at false (d.winPos r.win r.off / 128) = false) :
    d.runGn home r .read false = ((d.add64 .POOL_RD_CNT home 1).pulse home 0x00D 1 none none none).toOrder
      { r := r, status := 0, payload := Memory.readN d.pool.mem (d.winPos r.win r.off) 128 } := by
  simp only [Dev.runGn, hnext, hpoisoned, hbad, Bool.or_self, Bool.false_eq_true, if_false]

/-- A write that is not poisoned stores its line, whether or not the old one could be read. -/
theorem Dev.runGn_write (hpoisoned : r.poisoned = false) (ue : Bool) :
    d.runGn home r .write ue =
      ((((d.poolWrite (d.winPos r.win r.off) r.payload).setBad (d.winPos r.win r.off / 128) false).add64 .POOL_WR_CNT home
        1).pulse home 0x00E 1 none none none).afterWrite home r { r := r, status := 0, payload := [] } := by
  simp only [Dev.runGn, hpoisoned, Bool.false_eq_true, if_false]

end

/-- Settles O36 (R276 to R278, Tables 12.1 and 12.5; log entry 99): each outcome at the line home by its own law; what an
atomic stores is the model's own table of operations. -/
theorem lineHome : Obligations.LineHome := by
  unfold Obligations.LineHome
  refine ⟨?leaves, fun d home st r ue => Dev.homeRun_refused (q := { r := r }) rfl,
    fun d home r o ue => Dev.homeRun_executes (q := { r := r }) rfl, ?read, ?write, fun d r k => ⟨rfl, rfl⟩,
    fun old x y => ⟨rfl, rfl, rfl, rfl, rfl⟩, fun d home r => rfl⟩
  case leaves =>
    intro s tile n ue q d hq hwaits hrun
    rw [exec_lineHomeExecute, Dev.homeExecute_leaves hq hwaits hrun]
  case read =>
    intro d home a r ha hnext
    subst ha
    exact ⟨Dev.runGn_read_uncorrectable hnext, Dev.runGn_read_good hnext⟩
  case write =>
    intro d home a r ue ha hpoisoned
    subst ha
    exact Dev.runGn_write hpoisoned ue

end Sys2Proof.Machine
end

section
/-! Mirror streams (R280, R281, R286 to R291, R293): the steering of a response, what the stream does with it, the requests
sent again, and the loss of the partner. -/
namespace Sys2Proof.Machine

/-! ## The steering of a response (R293) -/

section
variable {d e : Dev} {tile : Nat} {r : GnResp}

theorem Dev.respConsumed_tile (he : e = (d.takeInbox tile 4 fun f => gnRespOf f == r).2) (hdst : r.dst.toNat ≠ 0)
    (htile : r.dst.toNat < 16) : d.respConsumed tile r = e.mirrorResp r.dst.toNat r := by
  subst he
  simp only [Dev.respConsumed, if_pos hdst, if_pos htile, if_true]

/-- A response that names no unit goes to the tile of its TAG, if it answers a SYNC, an MWRITE or an MREAD. -/
theorem Dev.respConsumed_tag (he : e = (d.takeInbox tile 4 fun f => gnRespOf f == r).2) (hdst : r.dst.toNat = 0)
    (hop : r.opcode.toNat = 5 ∨ r.opcode.toNat = 6 ∨ r.opcode.toNat = 7) :
    d.respConsumed tile r = e.mirrorResp (r.tag.toNat / 4096) r := by
  subst he
  simp only [Dev.respConsumed, hdst, ne_eq, not_true_eq_false, if_false, if_pos hop, if_true]

/-- A Cabinet die takes only a response that it waits for. -/
theorem Dev.respConsumed_die (he : e = (d.takeInbox tile 4 fun f => gnRespOf f == r).2) (hlow : 4096 ≤ r.dst.toNat)
    (hhigh : r.dst.toNat < 4104) (hnone : (e.noticeResp (r.dst.toNat % 4096) r).1 = false) :
    d.respConsumed tile r = e.count .POOL_RESP_UNMATCHED tile := by
  have hdst : r.dst.toNat ≠ 0 := by omega
  have htile : ¬r.dst.toNat < 16 := by omega
  have hdie : r.dst.toNat / 4096 = 1 ∧ r.dst.toNat % 4096 < 8 := by omega
  subst he
  simp only [Dev.respConsumed, if_pos hdst, if_neg htile, if_pos hdie, hnone, Bool.false_eq_true, if_false]

theorem Dev.respConsumed_unmatched (he : e = (d.takeInbox tile 4 fun f => gnRespOf f == r).2) (hlow : 16 ≤ r.dst.toNat)
    (hkind : r.dst.toNat / 4096 ≠ 1) : d.respConsumed tile r = e.count .POOL_RESP_UNMATCHED tile := by
  have hdst : r.dst.toNat ≠ 0 := by omega
  have htile : ¬r.dst.toNat < 16 := by omega
  have hdie : ¬(r.dst.toNat / 4096 = 1 ∧ r.dst.toNat % 4096 < 8) := fun h => hkind h.1
  subst he
  simp only [Dev.respConsumed, if_pos hdst, if_neg htile, if_neg hdie, Bool.false_eq_true, if_false]

end

/-! ## Responses to an MWRITE (R280, R281, R288) -/

/-- The MWRITE of a stream that a response answers, while it is outstanding. -/
def MStream.answered (x : MStream) (r : GnResp) : Option MItem :=
  x.out.find? fun m => !m.read && m.seq == r.seq.toNat && m.addr == r.addr.toNat

section
variable {d : Dev} {t p : Nat} {r : GnResp} {m : MItem}

/-- What the status of a response does to the stream before its ACK_SEQ acts. -/
def Dev.statusActs (d : Dev) (t p : Nat) (r : GnResp) : Dev :=
  match (d.mstream t p).answered r with
  | none => d
  | some m =>
    if r.status.toNat = 5 then d.itemBusy t p false m.seq
    else if r.status.toNat = 9 then (if (d.mstream t p).sync then d else d.syncMst t p)
    else if r.status.toNat ≠ 0 ∧ !m.orphan then d.partnerLost t m.win
    else d

variable (hp : p = r.src.toNat / 2 ^ 16) (hty : r.srcType = 1) (hop : r.opcode = 6#8)
  (hmst : (d.pool.mst.find (key2 t p)).isSome = true)
include hp hty hop hmst

/-- Of a response to an MWRITE the status acts first, if the write is outstanding, and then ACK_SEQ. -/
theorem Dev.mirrorResp_mwrite : d.mirrorResp t r = (d.statusActs t p r).ackMst t p r.ackSeq.toNat := by
  have hsix : r.opcode.toNat = 6 := congrArg BitVec.toNat hop
  have htaken : ¬(r.srcType.val ≠ 1 ∨ (d.pool.mst.find (key2 t p)).isNone = true) := by
    simp [hty, Option.isNone_eq_false_iff.2 hmst]
  subst hp
  simp only [Dev.mirrorResp, if_neg htaken, hsix]
  rfl

theorem Dev.mirrorResp_ok (hst : r.status = 0#8) (hm : (d.mstream t p).answered r = some m) :
    d.mirrorResp t r = d.ackMst t p r.ackSeq.toNat := by
  have hzero : r.status.toNat = 0 := congrArg BitVec.toNat hst
  have hacts : d.statusActs t p r = d := by simp [Dev.statusActs, hm, hzero]
  rw [Dev.mirrorResp_mwrite hp hty hop hmst, hacts]

theorem Dev.mirrorResp_late (hm : (d.mstream t p).answered r = none) : d.mirrorResp t r = d.ackMst t p r.ackSeq.toNat := by
  have hacts : d.statusActs t p r = d := by simp only [Dev.statusActs, hm]
  rw [Dev.mirrorResp_mwrite hp hty hop hmst, hacts]

/-- NO_SESSION makes the stream send a SYNC. -/
theorem Dev.mirrorResp_noSession (hst : r.status = 9#8) (hsync : (d.mstream t p).sync = false)
    (hm : (d.mstream t p).answered r = some m) : d.mirrorResp t r = (d.syncMst t p).ackMst t p r.ackSeq.toNat := by
  have hnine : r.status.toNat = 9 := congrArg BitVec.toNat hst
  have hacts : d.statusActs t p r = d.syncMst t p := by simp [Dev.statusActs, hm, hnine, hsync]
  rw [Dev.mirrorResp_mwrite hp hty hop hmst, hacts]

end

/-! ## Requests sent again (R280, R284, R287, R292) -/

section
variable {d : Dev} {t p seq : Nat} {m : MItem}

theorem Dev.mirrorResend_sync (hsync : (d.mstream t p).sync = true) :
    d.mirrorResend t p seq =
      d.sendGnReq t p 5 (mtag t (d.mstream t p).acked) (d.mstream t p).acked (p * 2 ^ 56) [] := if_pos hsync

theorem Dev.mirrorResend_item (hsync : (d.mstream t p).sync = false)
    (hm : (d.mstream t p).out.find? (fun m => m.seq == seq && !m.busy) = some m) : d.mirrorResend t p seq = d.sendItem t p m := by
  simp only [Dev.mirrorResend, hsync, Bool.false_eq_true, if_false, hm]

/-- A request answered BUSY is sent again, but an MWRITE not while a SYNC of its stream is unanswered. -/
theorem Dev.mirrorBusyRetry_busy (hm : (d.mstream t p).out.find? (fun m => m.seq == seq && m.busy) = some m) :
    d.mirrorBusyRetry t p seq =
      if (d.mstream t p).sync = true ∧ m.read = false then d
      else ((d.updMst t p fun s =>
        { s with out := s.out.map fun x => if x = m then { x with busy := false } else x }).count .POOL_MIRROR_RETRY
          t).sendItem t p m := by
  simp only [Dev.mirrorBusyRetry, hm, Bool.and_eq_true, Bool.not_eq_true']

end

/-! ## Loss of the partner (R288 to R291) -/

/-- The loss of a window's partner is counted, its items wait no longer and its copy ends. -/
def Dev.partnerGone (d : Dev) (t w : Nat) : Dev :=
  ((d.count .POOL_SRC_GIVEUP t).orphanItems w fun _ => true).updPool fun p => { p with resil := p.resil.erase w }

section
variable {d : Dev} {t w : Nat}

theorem Dev.partnerLost_degrades (hst : (d.partnerGone t w).winState w = 3 ∨ (d.partnerGone t w).winState w = 6) :
    d.partnerLost t w = (((d.partnerGone t w).set F.POOL_WIN.STATE w 5).raise t 9 (instWin w)).closeEnds := by
  rw [Dev.partnerGone] at hst ⊢
  rcases hst with hst | hst <;> simp only [Dev.partnerLost, hst]

theorem Dev.partnerLost_loses (hst : (d.partnerGone t w).winState w = 7) :
    d.partnerLost t w =
      ((((d.partnerGone t w).forceHeld w 8).set F.POOL_WIN.STATE w 8).raise t 10 (instWin w)).closeEnds := by
  rw [Dev.partnerGone] at hst ⊢
  simp only [Dev.partnerLost, hst]

theorem Dev.mirrorTimeout_unanswered {rest : List Nat} (h : d.unanswered w = t :: rest) :
    d.mirrorTimeout w = d.partnerLost (rest.foldl min t) w := by
  simp only [Dev.mirrorTimeout, h]

end

/-- Settles O38 (R280, R281, R286 to R291, R293; log entries 107 and 109): each response, repetition and loss by the law of its
own operation. -/
theorem mirrorStreams : Obligations.MirrorStreams := by
  unfold Obligations.MirrorStreams
  refine ⟨?steered, ?answered, ?resendSync, ?resendItem, ?busy, ?degraded, ?lost⟩
  case steered =>
    intro s tile r d hd
    rw [exec_gnRespConsumed]
    refine ⟨fun hdst htile => ?_, fun hdst hop => ?_, fun hlow hhigh hnone => ?_, fun hlow hkind => ?_⟩
    · rw [Dev.respConsumed_tile hd hdst htile]
    · have hopNat : r.opcode.toNat = 5 ∨ r.opcode.toNat = 6 ∨ r.opcode.toNat = 7 :=
        hop.imp (congrArg BitVec.toNat) (Or.imp (congrArg BitVec.toNat) (congrArg BitVec.toNat))
      rw [Dev.respConsumed_tag hd (congrArg BitVec.toNat hdst) hopNat]
    · rw [Dev.respConsumed_die hd hlow hhigh hnone]
    · rw [Dev.respConsumed_unmatched hd hlow hkind]
  case answered =>
    intro d t p r m hp hty hop hmst
    exact ⟨Dev.mirrorResp_ok hp hty hop hmst, Dev.mirrorResp_late hp hty hop hmst, Dev.mirrorResp_noSession hp hty hop hmst⟩
  case resendSync =>
    intro s t p q x hx hsync
    subst hx
    rw [exec_mirrorResend, Dev.mirrorResend_sync hsync]
  case resendItem =>
    intro s t p q x m hx hsync hm
    subst hx
    rw [exec_mirrorResend, Dev.mirrorResend_item hsync hm]
  case busy =>
    intro s t p q m hm
    rw [exec_mirrorBusyRetry, Dev.mirrorBusyRetry_busy hm]
    refine ⟨fun hsync hwrite => by rw [if_pos ⟨hsync, hwrite⟩], fun hfree => ?_⟩
    rw [if_neg fun ⟨hsync, hwrite⟩ => by simp [hsync, hwrite] at hfree]
  case degraded =>
    intro s w t rest d h hd hst
    subst hd
    rw [exec_mirrorTimeout, Dev.mirrorTimeout_unanswered h, Dev.partnerLost_degrades hst]
    rfl
  case lost =>
    intro d w t e he hst
    subst he
    exact Dev.partnerLost_loses hst

end Sys2Proof.Machine
end

section
/-! Windows of the pool (R272 to R274, R289 to R291): what a command answers, how it ends in POOL_WIN_CMD, and the states that
a window enters. -/
namespace Sys2Proof.Machine

theorem winState_one : Fld.One F.POOL_WIN.STATE := ⟨by decide, by decide⟩

/-! ## The end of a command (R274) -/

/-- POOL_WIN_CMD as a command leaves it: GO, OP, STATUS and the window. -/
def winCmdWord (go : Bool) (op st w : Nat) : Word := BitVec.ofNat 32 (go.toNat * 2 ^ 31 + op * 2 ^ 28 + st * 2 ^ 16 + w)

section
variable {d e : Dev} {k op w st : Nat} {go : Bool}

/-- POOL_WIN_CMD reads as the command left it. -/
theorem Dev.winCmd_fields (hword : d.rd .POOL_WIN_CMD 0 = winCmdWord go op st w) (hop : op < 8) (hw : w < 4096) (hst : st < 16) :
    d.get F.POOL_WIN_CMD.STATUS 0 = st ∧ d.bit F.POOL_WIN_CMD.GO 0 = go := by
  have hgo := go.toNat_lt
  have hfits : go.toNat * 2 ^ 31 + op * 2 ^ 28 + st * 2 ^ 16 + w < 2 ^ 32 := by omega
  have hread : (d.rd .POOL_WIN_CMD 0).toNat = go.toNat * 2 ^ 31 + op * 2 ^ 28 + st * 2 ^ 16 + w := by
    rw [hword, winCmdWord, BitVec.toNat_ofNat, Nat.mod_eq_of_lt hfits]
  constructor
  · rw [Dev.get_one d (f := F.POOL_WIN_CMD.STATUS) ⟨by decide, by decide⟩]
    change bitsOf (d.rd .POOL_WIN_CMD 0).toNat 23 16 = st
    rw [hread, bitsOf]
    omega
  · have hbit : d.get F.POOL_WIN_CMD.GO 0 = go.toNat := by
      rw [Dev.get_one d (f := F.POOL_WIN_CMD.GO) ⟨by decide, by decide⟩]
      change bitsOf (d.rd .POOL_WIN_CMD 0).toNat 31 31 = go.toNat
      rw [hread, bitsOf]
      omega
    rw [Dev.bit, hbit]
    cases go <;> rfl

theorem Dev.winCmd_busy (hgo : d.bit F.POOL_WIN_CMD.GO 0 = true) : d.winCmd k op w = d := if_pos hgo

/-- A command that ends at once stores its STATUS with GO 0 and tells its Desk. -/
theorem Dev.winCmd_ends (hrun : (st, e) = d.winRun k op w) (hgo : d.bit F.POOL_WIN_CMD.GO 0 = false)
    (hends : op ≠ 2 ∨ st ≠ 0 ∨ e.pool.closing.find w = none) :
    d.winCmd k op w = ((if st = 0 then e.genBump else e).wr .POOL_WIN_CMD 0 0 (winCmdWord false op st w)).irq k 4 := by
  have hwaits : (op == 2 && st == 0 && (e.pool.closing.find w).isSome) = false := by
    rcases hends with h | h | h <;> simp [h]
  simp only [Dev.winCmd, hgo, ← hrun, hwaits, Bool.false_eq_true, if_false, Bool.not_false, and_true, winCmdWord]

/-- A CLOSE that waits for changes of its window stores its STATUS with GO 1 and tells nobody yet. -/
theorem Dev.winCmd_waits (hrun : (st, e) = d.winRun k op w) (hgo : d.bit F.POOL_WIN_CMD.GO 0 = false) (hop : op = 2)
    (hst : st = 0) (hclosing : (e.pool.closing.find w).isSome = true) :
    d.winCmd k op w = e.wr .POOL_WIN_CMD 0 0 (winCmdWord true op st w) := by
  have hwaits : (op == 2 && st == 0 && (e.pool.closing.find w).isSome) = true := by simp [hop, hst, hclosing]
  simp only [Dev.winCmd, hgo, ← hrun, hwaits, Bool.false_eq_true, if_false, if_true, Bool.not_true, and_false, winCmdWord]

theorem winCmdWord_go (op st w : Nat) :
    winCmdWord true op st w = BitVec.ofNat 32 (2 ^ 31 + op * 2 ^ 28 + st * 2 ^ 16 + w) := by
  rw [winCmdWord, Bool.toNat_true, Nat.one_mul]

theorem winCmdWord_done (op st w : Nat) : winCmdWord false op st w = BitVec.ofNat 32 (op * 2 ^ 28 + st * 2 ^ 16 + w) := by
  rw [winCmdWord, Bool.toNat_false, Nat.zero_mul, Nat.zero_add]

/-- An interrupt bit leaves the registers but its own. -/
theorem Dev.rd_irq {r : Reg} (v : Nat) (h : r.word.Clear stageFields) (i : Nat) : (d.irq k v).rd r i = d.rd r i :=
  (d.irq_writes k v).rd h i

end

/-! ## What each command answers (R274, R289 to R291) -/

section
variable {d : Dev} {k w : Nat}

theorem Dev.winRun_open (hst : d.winState w = 0) (hmirror : d.bit F.POOL_WIN.MIRROR_V w = false) (hrange : d.rangeOk w = true) :
    d.winRun k 0 w = (0, d.opening w 2) := by
  simp only [Dev.winRun, hst, hmirror, hrange, ne_eq, not_true_eq_false, if_false, Bool.false_and, Bool.not_true,
    Bool.false_eq_true]

/-- A window with legal mirror fields and range opens as a mirror, or starts to be copied from its partner. -/
theorem Dev.winRun_mirror (hst : d.winState w = 0) (hmirror : d.mirrorOk w = true) (hrange : d.rangeOk w = true) :
    d.winRun k 1 w = (0, d.opening w 4) ∧ d.winRun k 4 w = (0, d.resilver w 7) := by
  simp only [Dev.winRun, hst, hmirror, hrange, ne_eq, not_true_eq_false, if_false, Bool.not_true, Bool.false_eq_true,
    and_self]

/-- A window that is not FREE is neither opened nor copied from its partner; it can be marked lost. -/
theorem Dev.winRun_not_free (hst : d.winState w ≠ 0) :
    d.winRun k 0 w = (1, d) ∧ d.winRun k 1 w = (1, d) ∧ d.winRun k 4 w = (1, d) ∧ d.winRun k 5 w = (0, d.winLost w) := by
  simp only [Dev.winRun, ne_eq, hst, not_false_eq_true, if_true, if_false, and_self]

theorem Dev.winRun_close (hst : d.winState w ≠ 0) (hopening : d.winState w ≠ 1) (hclosing : d.pool.closing.find w = none) :
    d.winRun k 2 w = (0, d.closeWin w (some k)) := by
  simp only [Dev.winRun, hst, hopening, hclosing, Option.isSome_none, Bool.false_eq_true, or_self, if_false]

theorem Dev.winRun_resilverPush (hst : d.winState w = 5) (hmirror : d.mirrorOk w = true) :
    d.winRun k 3 w = (0, d.resilver w 6) := by
  simp only [Dev.winRun, hst, hmirror, ne_eq, not_true_eq_false, if_false, Bool.not_true, Bool.false_eq_true]

/-! ## The states entered -/

theorem Dev.winState_set {v : Nat} (hv : v < 16) : (d.set F.POOL_WIN.STATE w v).winState w = v := by
  rw [Dev.winState, Dev.get_set_same _ winState_one]
  exact Nat.mod_eq_of_lt hv

theorem Dev.winState_winLost : (d.winLost w).winState w = 8 := Dev.winState_set (by decide)

/-- A window that is to close: its held requests are refused, and the lines of its copy leave their streams. -/
def Dev.winReleased (d : Dev) (w : Nat) : Dev := (d.forceHeld w 3).orphanItems w fun m => m.copy.isSome

/-- A close ends at once, or waits for the changes of the window that its partner has not answered. -/
theorem Dev.closeWin_eq (d : Dev) (w k : Nat) :
    d.closeWin w (some k) =
      if (d.winReleased w).mirrorOpen w = true then
        (d.winReleased w).updPool fun p =>
          { p with resil := p.resil.erase w, target := p.target.erase w, closing := p.closing.insert w (k + 1) }
      else ((d.winReleased w).updPool fun p =>
        { p with resil := p.resil.erase w, target := p.target.erase w }).set F.POOL_WIN.STATE w 0 := rfl

theorem Dev.winState_closeWin (h : (d.winReleased w).mirrorOpen w = false) : (d.closeWin w (some k)).winState w = 0 := by
  rw [Dev.closeWin_eq, if_neg (ne_true_of_eq_false h)]
  exact Dev.winState_set (by decide)

theorem Dev.closing_closeWin (h : (d.winReleased w).mirrorOpen w = true) :
    (d.closeWin w (some k)).pool.closing.find w = some (k + 1) := by
  rw [Dev.closeWin_eq, if_pos h]
  exact Tbl.find_insert_same ..

/-- The zeroing of a window in OPENING ends with its bytes blank, its lines good and its target entered. -/
theorem Dev.zeroDone_opening (hst : d.winState w = 1) :
    d.zeroDone w = (d.updPool fun p =>
      { p with mem := Memory.clear p.mem (d.winPos w 0) (d.winSize w), target := p.target.erase w,
               bad := p.bad.filter fun e =>
                 decide (e.1 < d.winPos w 0 / 128 ∨ (d.winPos w 0 + d.winSize w) / 128 ≤ e.1) }).set F.POOL_WIN.STATE w
        ((d.pool.target.find w).getD 2) := by
  simp only [Dev.zeroDone, hst, ne_eq, not_true_eq_false, if_false]

/-- The last granule of a copy makes the window PRIMARY. -/
theorem Dev.granuleDone_last {g : Nat} (hcur : (d.resilOf w).cur = some g) (hlines : 32 ≤ (d.resilOf w).lines.length)
    (hlast : (d.set F.POOL_WIN.COPY_PTR w (d.get F.POOL_WIN.COPY_PTR w + 1)).get F.POOL_WIN.SIZE_GIB w * 2 ^ 18 ≤
      d.get F.POOL_WIN.COPY_PTR w + 1) :
    d.granuleDone w = ((d.set F.POOL_WIN.COPY_PTR w (d.get F.POOL_WIN.COPY_PTR w + 1)).updPool fun p =>
      { p with resil := p.resil.erase w }).set F.POOL_WIN.STATE w 3 := by
  simp only [Dev.granuleDone, hcur, if_neg (Nat.not_lt.2 hlines), if_pos hlast]

end

/-- Settles O39 (R272 to R274, R289 to R291; log entries 106 and 177): each command and each event of a window by the law of its
own operation. -/
theorem windowCommands : Obligations.WindowCommands := by
  unfold Obligations.WindowCommands
  refine ⟨?commands, ?ends, fun d k w => Dev.winRun_open, fun d k w => Dev.winRun_mirror, ?notFree, ?close, ?zero, ?granule,
    ?write⟩
  case commands =>
    intro s a w hr
    rw [exec_poolWinOpen, exec_poolWinOpenMirror, exec_poolWinClose, exec_poolWinResilverPush, exec_poolWinResilverPull,
      exec_poolWinMarkLost]
    simp only [Dev.onWrite_reaches hr, and_self]
  case ends =>
    intro d e k op w st hrun hop hw hst
    refine ⟨Dev.winCmd_busy, fun hgo hends => ?_, fun hgo hop2 hst0 hclosing => ?_⟩
    · have hcmd := Dev.winCmd_ends hrun hgo hends
      refine ⟨by rw [hcmd, winCmdWord_done], Dev.winCmd_fields ?_ hop hw hst⟩
      rw [hcmd, Dev.rd_irq 4 (by decide), Dev.rd_wr_same]
    · have hcmd := Dev.winCmd_waits hrun hgo hop2 hst0 hclosing
      refine ⟨by rw [hcmd, winCmdWord_go], (Dev.winCmd_fields ?_ hop hw hst).2⟩
      rw [hcmd, Dev.rd_wr_same]
  case notFree =>
    intro d k w hst
    obtain ⟨hopen, hmirror, hpull, hlost⟩ := Dev.winRun_not_free (k := k) hst
    exact ⟨hopen, hmirror, hpull, hlost, Dev.winState_winLost, Dev.winRun_close hst, Dev.winRun_resilverPush⟩
  case close =>
    intro d e w k he
    subst he
    exact ⟨Dev.winState_closeWin, Dev.closing_closeWin⟩
  case zero =>
    intro s w a n hst ha hn
    subst ha hn
    rw [exec_windowZeroDone, Dev.zeroDone_opening hst]
  case granule =>
    intro s w x g hx hcur hlines hlast hsize
    subst hx
    rw [exec_resilverGranuleDone, Dev.granuleDone_last hcur hlines (hsize ▸ hlast)]
  case write =>
    intro s a w i v hr
    have hword : (i.val = 2) = (i = 2) := propext ⟨fun h => Fin.ext h, fun h => congrArg Fin.val h⟩
    rw [exec_poolWinWrite, Dev.onWrite_reaches hr]
    simp only [Dev.winWrite, hword]

end Sys2Proof.Machine
end

section
/-! Steps and runs: every command completes and leaves the queue, every step keeps the device sound (R424), and so does a run of
any length. -/
namespace Sys2Proof.Machine

/-! ## Commands -/

/-- What a command does to the device, with nothing waiting behind it. -/
def Instr.act (c : Instr) (d : Dev) : Dev :=
  match exec c { dev := d, pending := [] } with
  | .next t => t.dev
  | .fault _ => d
  | .refused _ => d

/-- A command whose law names its change of the device runs that change; the devices are not evaluated to compare them. -/
theorem exec_eq_run_of_law {c : Instr} {f : Dev → Dev} (h : ∀ s, exec c s = .next (s.withDev (f s.dev))) (s : State) :
    exec c s = run (Instr.act c) s := by
  simp [run_eq, Instr.act, h, State.withDev]

/-- Every command is a change of the device alone: it completes, whatever waits behind it. -/
theorem exec_eq_run (c : Instr) (s : State) : exec c s = run (Instr.act c) s := by
  cases c
  case failoverReplace die => exact exec_eq_run_of_law (f := (·.failover die)) (exec_failoverReplace die) s
  case powerOnResetRelease straps =>
    exact exec_eq_run_of_law (f := fun d => ((d.afterReset false true).set F.DESK_STRAP.DEVICE_ID 0 straps.toNat).faultPin false)
      (exec_powerOnResetRelease straps) s
  case powerLoss =>
    exact exec_eq_run_of_law (f := fun d => ((d.safeStop 1).afterReset false true).faultPin true) exec_powerLoss s
  all_goals rfl

/-- Every command keeps the device sound: each by the law of its own operation. -/
theorem exec_sound {p₀ : List Out} {n₀ : Nat} (c : Instr) {s : State} (h : s.dev.Sound p₀ n₀) :
    ∃ d : Dev, exec c s = .next (s.withDev d) ∧ d.Sound p₀ n₀ := by
  cases c with
  | registerWrite => exact ⟨_, exec_registerWrite .., Dev.writeBytes_sound (h := h) ..⟩
  | lowWordRead => exact ⟨_, exec_lowWordRead .., Dev.answer_sound (h := h) ..⟩
  | highWordRead => exact ⟨_, exec_highWordRead .., Dev.answer_sound (h := h) ..⟩
  | lowWordWrite => exact ⟨_, exec_lowWordWrite .., Dev.writeTo_sound (h := h) ..⟩
  | highWordWrite => exact ⟨_, exec_highWordWrite .., Dev.writeTo_sound (h := h) ..⟩
  | rcRead => exact ⟨_, exec_rcRead .., Dev.answer_sound (h := h) ..⟩
  | adminUpWrite =>
    exact ⟨_, exec_adminUpWrite .., Dev.onWrite_sound (h := h) (hf := fun _ he => Dev.adminWrite_sound (h := he) ..) ..⟩
  | laneCfgWrite =>
    exact ⟨_, exec_laneCfgWrite .., Dev.onWrite_sound (h := h) (hf := fun _ he => Dev.laneCfgWrite_sound (h := he) ..) ..⟩
  | lightPresent => exact ⟨_, exec_lightPresent .., Dev.lightPresent_sound (h := h) ..⟩
  | ringsLockedAlign => exact ⟨_, exec_ringsLockedAlign .., Dev.ringsLocked_sound (h := h) ..⟩
  | fecLock => exact ⟨_, exec_fecLock .., Dev.fecLock_sound (h := h) ..⟩
  | laneMarkerReceived => exact ⟨_, exec_laneMarkerReceived .., Dev.laneMarker_sound (h := h) ..⟩
  | linkControlReceived =>
    exact ⟨_, exec_linkControlReceived ..,
      Dev.withCodeword_sound (h := h) (hf := fun _ _ _ he => Dev.linkControl_sound (h := he) ..) ..⟩
  | trainTimeout => exact ⟨_, exec_trainTimeout .., Dev.trainTimeout_sound (h := h) ..⟩
  | retrainTimeout => exact ⟨_, exec_retrainTimeout .., Dev.retrainTimeout_sound (h := h) ..⟩
  | markerLockLoss => exact ⟨_, exec_markerLockLoss .., Dev.markerLoss_sound (h := h) ..⟩
  | lmapGenMismatchTimeout => exact ⟨_, exec_lmapGenMismatchTimeout .., Dev.lmapMismatch_sound (h := h) ..⟩
  | dataFlitReceived =>
    exact ⟨_, exec_dataFlitReceived .., Dev.withCodeword_sound (h := h) (hf := fun _ _ _ he => Dev.dataFlit_sound (h := he) ..) ..⟩
  | replayReqReceived => exact ⟨_, exec_replayReqReceived .., Dev.replayReq_sound (h := h) ..⟩
  | senderReplayTimeout => exact ⟨_, exec_senderReplayTimeout .., Dev.startReplay_sound (h := h) ..⟩
  | receiverReplayTimeout => exact ⟨_, exec_receiverReplayTimeout .., Dev.receiverTimeout_sound (h := h) ..⟩
  | egressFlitSlot => exact ⟨_, exec_egressFlitSlot .., Dev.egressSlot_sound (h := h) ..⟩
  | fastReacquire => exact ⟨_, exec_fastReacquire .., Dev.fastReacquire_sound (h := h) ..⟩
  | fastReacqTimeout => exact ⟨_, exec_fastReacqTimeout .., Dev.fastReacqTimeout_sound (h := h) ..⟩
  | spareLight => exact ⟨_, exec_spareLight .., Dev.msgSpareLight_sound (h := h) ..⟩
  | spareReady => exact ⟨_, exec_spareReady .., Dev.msgSpareReady_sound (h := h) ..⟩
  | mirror => exact ⟨_, exec_mirror .., Dev.msgMirror_sound (h := h) ..⟩
  | mirrorAck => exact ⟨_, exec_mirrorAck .., Dev.msgAck_sound (h := h) ..⟩
  | switchDone => exact ⟨_, exec_switchDone .., Dev.msgSwitchDone_sound (h := h) ..⟩
  | laneFault => exact ⟨_, exec_laneFault .., Dev.msgLaneFault_sound (h := h) ..⟩
  | drop => exact ⟨_, exec_drop .., Dev.msgDrop_sound (h := h) ..⟩
  | dropAck => exact ⟨_, exec_dropAck .., Dev.msgAck_sound (h := h) ..⟩
  | add => exact ⟨_, exec_add .., Dev.msgAdd_sound (h := h) ..⟩
  | addAck => exact ⟨_, exec_addAck .., Dev.msgAck_sound (h := h) ..⟩
  | nak => exact ⟨_, exec_nak .., Dev.msgNak_sound (h := h) ..⟩
  | lanectlTimeout => exact ⟨_, exec_lanectlTimeout .., Dev.lanectlTimeout_sound (h := h) ..⟩
  | mirrorBegin => exact ⟨_, exec_mirrorBegin .., Dev.mirrorBegin_sound (h := h) ..⟩
  | mirrorSwitch => exact ⟨_, exec_mirrorSwitch .., Dev.mirrorSwitch_sound (h := h) ..⟩
  | dropApply => exact ⟨_, exec_dropApply .., Dev.dropApply_sound (h := h) ..⟩
  | addApply => exact ⟨_, exec_addApply .., Dev.addApply_sound (h := h) ..⟩
  | lnkSwapCmdSwap =>
    exact ⟨_, exec_lnkSwapCmdSwap .., Dev.onWrite_sound (h := h) (hf := fun _ he => Dev.swapCmd_sound (h := he) ..) ..⟩
  | lnkSwapCmdDrop =>
    exact ⟨_, exec_lnkSwapCmdDrop .., Dev.onWrite_sound (h := h) (hf := fun _ he => Dev.swapCmd_sound (h := he) ..) ..⟩
  | lnkSwapCmdAdd =>
    exact ⟨_, exec_lnkSwapCmdAdd .., Dev.onWrite_sound (h := h) (hf := fun _ he => Dev.swapCmd_sound (h := he) ..) ..⟩
  | laneLossOfLight => exact ⟨_, exec_laneLossOfLight .., Dev.lossOfLight_sound (h := h) ..⟩
  | ringLockinUpdate => exact ⟨_, exec_ringLockinUpdate .., Dev.lockin_sound (h := h) ..⟩
  | ringWindowEval => exact ⟨_, exec_ringWindowEval .., Dev.windowEval_sound (h := h) ..⟩
  | preheatDone => exact ⟨_, exec_preheatDone .., Dev.preheatDone_sound (h := h) ..⟩
  | sweepComplete => exact ⟨_, exec_sweepComplete .., Dev.sweepDone_sound (h := h) ..⟩
  | captureTimeout => exact ⟨_, exec_captureTimeout .., Dev.captureTimeout_sound (h := h) ..⟩
  | outRetryTimer => exact ⟨_, exec_outRetryTimer .., Dev.outRetry_sound (h := h) ..⟩
  | reacqMarkerTimeout => exact ⟨_, exec_reacqMarkerTimeout .., Dev.reacqTimeout_sound (h := h) ..⟩
  | symbolErrorCheck => exact ⟨_, exec_symbolErrorCheck .., Dev.symbolCheck_sound (h := h) ..⟩
  | feedRejectTimeout => exact ⟨_, exec_feedRejectTimeout .., Dev.feedAuto_sound (h := h) ..⟩
  | combFailDetect => exact ⟨_, exec_combFailDetect .., Dev.combFail_sound (h := h) ..⟩
  | oeFeedRetWrite =>
    exact ⟨_, exec_oeFeedRetWrite .., Dev.onWrite_sound (h := h) (hf := fun _ he => Dev.feedRet_sound (h := he) ..) ..⟩
  | feedForceWrite =>
    exact ⟨_, exec_feedForceWrite .., Dev.onWrite_sound (h := h) (hf := fun _ he => Dev.feedForce_sound (h := he) ..) ..⟩
  | engineEnable =>
    exact ⟨_, exec_engineEnable .., Dev.onWrite_sound (h := h) (hf := fun _ he => Dev.engineEnable_sound (h := he) ..) ..⟩
  | engineDisable =>
    exact ⟨_, exec_engineDisable .., Dev.onWrite_sound (h := h) (hf := fun _ he => Dev.engineDisable_sound (h := he) ..) ..⟩
  | combModuleReady => exact ⟨_, exec_combModuleReady .., Dev.combReady_sound (h := h) ..⟩
  | engineReady => exact ⟨_, exec_engineReady .., Dev.engineReadyNow_sound (h := h) ..⟩
  | enginePowerupTimeout => exact ⟨_, exec_enginePowerupTimeout .., Dev.powerupTimeout_sound (h := h) ..⟩
  | linePowerReading => exact ⟨_, exec_linePowerReading .., Dev.lineReading_sound (h := h) ..⟩
  | calibrationTask => exact ⟨_, exec_calibrationTask .., Dev.calibrate_sound (h := h) ..⟩
  | laneRotation => exact ⟨_, exec_laneRotation .., Dev.rotate_sound (h := h) ..⟩
  | modulePoll => exact ⟨_, exec_modulePoll .., Dev.modulePoll_sound (h := h) ..⟩
  | oeI2cCmd =>
    exact ⟨_, exec_oeI2cCmd ..,
      Dev.onWrite_sound (h := h) (hf := fun _ he => Dev.sound_ite (fun _ => Dev.i2cCmd_sound (h := he) ..) fun _ => Dev.writeRw_sound (h := he) ..) ..⟩
  | ringModeWrite =>
    exact ⟨_, exec_ringModeWrite .., Dev.onWrite_sound (h := h) (hf := fun _ he => Dev.ringModeWrite_sound (h := he) ..) ..⟩
  | sbdShadowWrite =>
    refine ⟨_, exec_sbdShadowWrite .., ?_⟩
    dsimp only
    split
    · exact Dev.onWrite_sound (h := h) (hf := fun _ he => Dev.shadowWrite_sound (h := he) ..) ..
    · exact Dev.onWrite_sound (h := h) (hf := fun _ he => Dev.shadowWrite_sound (h := he) ..) ..
    · exact h
  | sbdLiveWrite =>
    refine ⟨_, exec_sbdLiveWrite .., ?_⟩
    dsimp only
    split
    · exact Dev.onWrite_sound (h := h) (hf := fun _ he => Dev.count_sound (h := he) ..) ..
    · exact Dev.onWrite_sound (h := h) (hf := fun _ he => Dev.count_sound (h := he) ..) ..
    · exact h
  | sbdCheck => exact ⟨_, exec_sbdCheck .., Dev.onWrite_sound (h := h) (hf := fun _ he => Dev.sbdCheckCmd_sound (h := he) ..) ..⟩
  | sbdClear => exact ⟨_, exec_sbdClear .., Dev.onWrite_sound (h := h) (hf := fun _ he => Dev.sbdClear_sound (h := he) ..) ..⟩
  | sbdSwapTakeEffect => exact ⟨_, exec_sbdSwapTakeEffect .., Dev.sbdSwap_sound (h := h) ..⟩
  | slotGuard => exact ⟨_, exec_slotGuard .., Dev.slotGuard_sound (h := h) ..⟩
  | slotBoundary => exact ⟨_, exec_slotBoundary .., Dev.slotBoundary_sound (h := h) ..⟩
  | slotDarkEnd => exact ⟨_, exec_slotDarkEnd .., Dev.darkEnd_sound (h := h) ..⟩
  | sbdDriveLost => exact ⟨_, exec_sbdDriveLost .., Dev.driveLost_sound (h := h) ..⟩
  | sbdCalibration => exact ⟨_, exec_sbdCalibration .., Dev.sbdCal_sound (h := h) ..⟩
  | ingressFrame => exact ⟨_, exec_ingressFrame .., Dev.ingress_sound (h := h) ..⟩
  | jobCtlUnknownCmd =>
    exact ⟨_, exec_jobCtlUnknownCmd .., Dev.onJob_sound (h := h) (hf := fun _ he => Dev.jobDone_sound (h := he) ..) ..⟩
  | setController =>
    exact ⟨_, exec_setController .., Dev.onJob_sound (h := h) (hf := fun _ he => Dev.setController_sound (h := he) ..) ..⟩
  | rankMapWrite =>
    exact ⟨_, exec_rankMapWrite .., Dev.onJob_sound (h := h) (hf := fun _ he => Dev.rankMapWrite_sound (h := he) ..) ..⟩
  | rankMapRegWrite =>
    exact ⟨_, exec_rankMapRegWrite .., Dev.onWrite_sound (h := h) (hf := fun _ he => Dev.rankMapPut_sound (h := he) ..) ..⟩
  | jobEntryCommit =>
    exact ⟨_, exec_jobEntryCommit .., Dev.onWrite_sound (h := h) (hf := fun _ he => Dev.jobCommit_sound (h := he) ..) ..⟩
  | loadLevelPublish => exact ⟨_, exec_loadLevelPublish .., Dev.publishLevels_sound (h := h) ..⟩
  | lpWithdraw => exact ⟨_, exec_lpWithdraw .., Dev.onWrite_sound (h := h) (hf := fun _ he => Dev.withdraw_sound (h := he) ..) ..⟩
  | learnHitReport => exact ⟨_, exec_learnHitReport .., Dev.learnHit_sound (h := h) ..⟩
  | learnMoveRequest => exact ⟨_, exec_learnMoveRequest .., Dev.learnMove_sound (h := h) ..⟩
  | learnInsertRequest => exact ⟨_, exec_learnInsertRequest .., Dev.learnInsert_sound (h := h) ..⟩
  | learnUpdateApply => exact ⟨_, exec_learnUpdateApply .., Dev.learnApply_sound (h := h) ..⟩
  | ageSweep => exact ⟨_, exec_ageSweep .., Dev.ageSweep_sound (h := h) ..⟩
  | swapNow => exact ⟨_, exec_swapNow .., Dev.onWrite_sound (h := h) (hf := fun _ he => Dev.routeSwap_sound (h := he) ..) ..⟩
  | drainComplete => exact ⟨_, exec_drainComplete .., Dev.drainComplete_sound (h := h) ..⟩
  | drainTimeout => exact ⟨_, exec_drainTimeout .., Dev.drainTimeout_sound (h := h) ..⟩
  | fwdIndRead => exact ⟨_, exec_fwdIndRead .., Dev.onWrite_sound (h := h) (hf := fun _ he => Dev.indRead_sound (h := he) ..) ..⟩
  | fwdIndWrite => exact ⟨_, exec_fwdIndWrite .., Dev.onWrite_sound (h := h) (hf := fun _ he => Dev.indWrite_sound (h := he) ..) ..⟩
  | fwdIndInsert =>
    exact ⟨_, exec_fwdIndInsert .., Dev.onWrite_sound (h := h) (hf := fun _ he => Dev.indInsert_sound (h := he) ..) ..⟩
  | fwdIndDelete =>
    exact ⟨_, exec_fwdIndDelete .., Dev.onWrite_sound (h := h) (hf := fun _ he => Dev.indDelete_sound (h := he) ..) ..⟩
  | fwdIndSearch =>
    exact ⟨_, exec_fwdIndSearch .., Dev.onWrite_sound (h := h) (hf := fun _ he => Dev.indSearch_sound (h := he) ..) ..⟩
  | meshFrameReceived => exact ⟨_, exec_meshFrameReceived .., Dev.meshRecv_sound (h := h) ..⟩
  | meshReplayRequest => exact ⟨_, exec_meshReplayRequest .., Dev.meshReplay_sound (h := h) ..⟩
  | meshRetrainDone => exact ⟨_, exec_meshRetrainDone .., Dev.meshRetrained_sound (h := h) ..⟩
  | meshRepairRequest => exact ⟨_, exec_meshRepairRequest .., Dev.meshRepair_sound (h := h) ..⟩
  | meshLaneSwitch => exact ⟨_, exec_meshLaneSwitch .., Dev.meshSwitch_sound (h := h) ..⟩
  | cellPromotion => exact ⟨_, exec_cellPromotion .., Dev.promote_sound (h := h) ..⟩
  | reseqRelease => exact ⟨_, exec_reseqRelease .., Dev.reseqRelease_sound (h := h) ..⟩
  | reseqTimeout => exact ⟨_, exec_reseqTimeout .., Dev.reseqTimeout_sound (h := h) ..⟩
  | poisonMark => exact ⟨_, exec_poisonMark .., Dev.poison_sound (h := h) ..⟩
  | spillReadback => exact ⟨_, exec_spillReadback .., Dev.spillRead_sound (h := h) ..⟩
  | refillInstant => exact ⟨_, exec_refillInstant .., Dev.refill_sound (h := h) ..⟩
  | policerWord0Write =>
    exact ⟨_, exec_policerWord0Write .., Dev.onWrite_sound (h := h) (hf := fun _ he => Dev.policerWord0_sound (h := he) ..) ..⟩
  | sampleInstant => exact ⟨_, exec_sampleInstant .., Dev.sample_sound (h := h) ..⟩
  | contribReceived => exact ⟨_, exec_contribReceived .., Dev.contribReceived_sound (h := h) ..⟩
  | outputStageDone => exact ⟨_, exec_outputStageDone .., Dev.outputDone_sound (h := h) ..⟩
  | allocationGrant => exact ⟨_, exec_allocationGrant .., Dev.allocGrant_sound (h := h) ..⟩
  | chunkSpill => exact ⟨_, exec_chunkSpill .., Dev.chunkSpill_sound (h := h) ..⟩
  | chunkSpillReturn => exact ⟨_, exec_chunkSpillReturn .., Dev.chunkReturn_sound (h := h) ..⟩
  | shelfUncorrectedError => exact ⟨_, exec_shelfUncorrectedError .., Dev.shelfError_sound (h := h) ..⟩
  | drawerLevelReplay => exact ⟨_, exec_drawerLevelReplay .., Dev.drawerReplay_sound (h := h) ..⟩
  | drwOpen => exact ⟨_, exec_drwOpen .., Dev.onWrite_sound (h := h) (hf := fun _ he => Dev.drwCmd_sound (h := he) ..) ..⟩
  | drwClose => exact ⟨_, exec_drwClose .., Dev.onWrite_sound (h := h) (hf := fun _ he => Dev.drwCmd_sound (h := he) ..) ..⟩
  | drwAbort => exact ⟨_, exec_drwAbort .., Dev.onWrite_sound (h := h) (hf := fun _ he => Dev.drwCmd_sound (h := he) ..) ..⟩
  | drwShadowOpen =>
    exact ⟨_, exec_drwShadowOpen .., Dev.onWrite_sound (h := h) (hf := fun _ he => Dev.drwCmd_sound (h := he) ..) ..⟩
  | drwShadowClose =>
    exact ⟨_, exec_drwShadowClose .., Dev.onWrite_sound (h := h) (hf := fun _ he => Dev.drwCmd_sound (h := he) ..) ..⟩
  | drawerAbort => exact ⟨_, exec_drawerAbort .., Dev.onJob_sound (h := h) (hf := fun _ he => Dev.jobAbort_sound (h := he) ..) ..⟩
  | drwCfgWrite =>
    refine ⟨_, exec_drwCfgWrite .., ?_⟩
    dsimp only
    split
    · exact Dev.onWrite_sound (h := h) (hf := fun _ he => Dev.drwCfgWrite_sound (h := he) ..) ..
    · exact h
  | weightWrite =>
    exact ⟨_, exec_weightWrite .., Dev.onWrite_sound (h := h) (hf := fun _ he => Dev.weightWrite_sound (h := he) ..) ..⟩
  | drawerMirrorRecord => exact ⟨_, exec_drawerMirrorRecord .., Dev.mirrorRecord_sound (h := h) ..⟩
  | failoverReplace => exact ⟨_, exec_failoverReplace .., Dev.failover_sound (h := h) ..⟩
  | shadowStreamReceived => exact ⟨_, exec_shadowStreamReceived .., Dev.shadowStream_sound (h := h) ..⟩
  | stragglerTimeout => exact ⟨_, exec_stragglerTimeout .., Dev.straggler_sound (h := h) ..⟩
  | reform => exact ⟨_, exec_reform .., Dev.onJob_sound (h := h) (hf := fun _ he => Dev.reform_sound (h := he) ..) ..⟩
  | reformApply => exact ⟨_, exec_reformApply .., Dev.reformApply_sound (h := h) ..⟩
  | reformClearDone => exact ⟨_, exec_reformClearDone .., Dev.reformClear_sound (h := h) ..⟩
  | drwRelease =>
    exact ⟨_, exec_drwRelease .., Dev.onWrite_sound (h := h) (hf := fun _ he => Dev.releaseDrawer_sound (h := he) ..) ..⟩
  | noticeResendTimeout => exact ⟨_, exec_noticeResendTimeout .., Dev.resendNotice_sound (h := h) ..⟩
  | gnRead =>
    exact ⟨_, exec_gnRead ..,
      Dev.onGn_sound (h := h) (hf := fun _ he => Dev.toHome_sound (h := Dev.touchTrk_sound (h := he) ..) ..) ..⟩
  | gnWrite => exact ⟨_, exec_gnWrite .., Dev.onGn_sound (h := h) (hf := fun _ he => Dev.writeArrive_sound (h := he) ..) ..⟩
  | gnWritePart => exact ⟨_, exec_gnWritePart .., Dev.onGn_sound (h := h) (hf := fun _ he => Dev.writeArrive_sound (h := he) ..) ..⟩
  | gnFwrite => exact ⟨_, exec_gnFwrite .., Dev.onGn_sound (h := h) (hf := fun _ he => Dev.writeArrive_sound (h := he) ..) ..⟩
  | gnSync => exact ⟨_, exec_gnSync .., Dev.onGn_sound (h := h) (hf := fun _ he => Dev.syncArrive_sound (h := he) ..) ..⟩
  | gnMwrite => exact ⟨_, exec_gnMwrite .., Dev.onGn_sound (h := h) (hf := fun _ he => Dev.mwriteArrive_sound (h := he) ..) ..⟩
  | gnMread =>
    exact ⟨_, exec_gnMread ..,
      Dev.onGn_sound (h := h) (hf := fun _ he => Dev.toHome_sound (h := Dev.touchTrk_sound (h := he) ..) ..) ..⟩
  | gnAtomicAdd =>
    exact ⟨_, exec_gnAtomicAdd .., Dev.onGn_sound (h := h) (hf := fun _ he => Dev.atomicArrive_sound (h := he) ..) ..⟩
  | gnAtomicSwap =>
    exact ⟨_, exec_gnAtomicSwap .., Dev.onGn_sound (h := h) (hf := fun _ he => Dev.atomicArrive_sound (h := he) ..) ..⟩
  | gnAtomicCas =>
    exact ⟨_, exec_gnAtomicCas .., Dev.onGn_sound (h := h) (hf := fun _ he => Dev.atomicArrive_sound (h := he) ..) ..⟩
  | gnAtomicAnd =>
    exact ⟨_, exec_gnAtomicAnd .., Dev.onGn_sound (h := h) (hf := fun _ he => Dev.atomicArrive_sound (h := he) ..) ..⟩
  | gnAtomicOr => exact ⟨_, exec_gnAtomicOr .., Dev.onGn_sound (h := h) (hf := fun _ he => Dev.atomicArrive_sound (h := he) ..) ..⟩
  | gnAtomicXor =>
    exact ⟨_, exec_gnAtomicXor .., Dev.onGn_sound (h := h) (hf := fun _ he => Dev.atomicArrive_sound (h := he) ..) ..⟩
  | gnAtomicSmin =>
    exact ⟨_, exec_gnAtomicSmin .., Dev.onGn_sound (h := h) (hf := fun _ he => Dev.atomicArrive_sound (h := he) ..) ..⟩
  | gnAtomicSmax =>
    exact ⟨_, exec_gnAtomicSmax .., Dev.onGn_sound (h := h) (hf := fun _ he => Dev.atomicArrive_sound (h := he) ..) ..⟩
  | gnAtomicUmin =>
    exact ⟨_, exec_gnAtomicUmin .., Dev.onGn_sound (h := h) (hf := fun _ he => Dev.atomicArrive_sound (h := he) ..) ..⟩
  | gnAtomicUmax =>
    exact ⟨_, exec_gnAtomicUmax .., Dev.onGn_sound (h := h) (hf := fun _ he => Dev.atomicArrive_sound (h := he) ..) ..⟩
  | lineHomeExecute => exact ⟨_, exec_lineHomeExecute .., Dev.homeExecute_sound (h := h) ..⟩
  | lineHomeCompletion => exact ⟨_, exec_lineHomeCompletion .., Dev.homeCompletion_sound (h := h) ..⟩
  | gnRespConsumed => exact ⟨_, exec_gnRespConsumed .., Dev.respConsumed_sound (h := h) ..⟩
  | gapTimeout => exact ⟨_, exec_gapTimeout .., Dev.gapExpire_sound (h := h) ..⟩
  | rcEntryExpire => exact ⟨_, exec_rcEntryExpire .., Dev.rcExpire_sound (h := h) ..⟩
  | tombstoneFree => exact ⟨_, exec_tombstoneFree .., Dev.tombFree_sound (h := h) ..⟩
  | sourceTrackerFree => exact ⟨_, exec_sourceTrackerFree .., Dev.trkFreeIdle_sound (h := h) ..⟩
  | mirrorResend => exact ⟨_, exec_mirrorResend .., Dev.mirrorResend_sound (h := h) ..⟩
  | mirrorBusyRetry => exact ⟨_, exec_mirrorBusyRetry .., Dev.mirrorBusyRetry_sound (h := h) ..⟩
  | mirrorTimeout => exact ⟨_, exec_mirrorTimeout .., Dev.mirrorTimeout_sound (h := h) ..⟩
  | poolWinOpen => exact ⟨_, exec_poolWinOpen .., Dev.onWrite_sound (h := h) (hf := fun _ he => Dev.winCmd_sound (h := he) ..) ..⟩
  | poolWinOpenMirror =>
    exact ⟨_, exec_poolWinOpenMirror .., Dev.onWrite_sound (h := h) (hf := fun _ he => Dev.winCmd_sound (h := he) ..) ..⟩
  | poolWinClose => exact ⟨_, exec_poolWinClose .., Dev.onWrite_sound (h := h) (hf := fun _ he => Dev.winCmd_sound (h := he) ..) ..⟩
  | poolWinResilverPush =>
    exact ⟨_, exec_poolWinResilverPush .., Dev.onWrite_sound (h := h) (hf := fun _ he => Dev.winCmd_sound (h := he) ..) ..⟩
  | poolWinResilverPull =>
    exact ⟨_, exec_poolWinResilverPull .., Dev.onWrite_sound (h := h) (hf := fun _ he => Dev.winCmd_sound (h := he) ..) ..⟩
  | poolWinMarkLost =>
    exact ⟨_, exec_poolWinMarkLost .., Dev.onWrite_sound (h := h) (hf := fun _ he => Dev.winCmd_sound (h := he) ..) ..⟩
  | windowZeroDone => exact ⟨_, exec_windowZeroDone .., Dev.zeroDone_sound (h := h) ..⟩
  | resilverGranuleDone => exact ⟨_, exec_resilverGranuleDone .., Dev.granuleDone_sound (h := h) ..⟩
  | poolWinWrite =>
    exact ⟨_, exec_poolWinWrite .., Dev.onWrite_sound (h := h) (hf := fun _ he => Dev.winWrite_sound (h := he) ..) ..⟩
  | mantelSyncRecord => exact ⟨_, exec_mantelSyncRecord .., Dev.syncRecord_sound (h := h) ..⟩
  | rateWrite => exact ⟨_, exec_rateWrite .., Dev.onWrite_sound (h := h) (hf := fun _ he => Dev.rateWrite_sound (h := he) ..) ..⟩
  | paramUpdate => exact ⟨_, exec_paramUpdate .., Dev.paramUpdate_sound (h := h) ..⟩
  | stepCommit => exact ⟨_, exec_stepCommit .., Dev.onWrite_sound (h := h) (hf := fun _ he => Dev.stepCommit_sound (h := he) ..) ..⟩
  | stepArm => exact ⟨_, exec_stepArm .., Dev.onWrite_sound (h := h) (hf := fun _ he => Dev.stepArm_sound (h := he) ..) ..⟩
  | timeSnap => exact ⟨_, exec_timeSnap .., Dev.onWrite_sound (h := h) (hf := fun _ he => Dev.timeSnap_sound (h := he) ..) ..⟩
  | holdoverTimeout => exact ⟨_, exec_holdoverTimeout .., Dev.holdover_sound (h := h) ..⟩
  | coatRackPop => exact ⟨_, exec_coatRackPop .., Dev.coatRead_sound (h := h) ..⟩
  | mgmtPtpRx => exact ⟨_, exec_mgmtPtpRx .., Dev.mgmtPtp_sound (h := h) ..⟩
  | ptpTx => exact ⟨_, exec_ptpTx .., Dev.onWrite_sound (h := h) (hf := fun _ he => Dev.ptpSend_sound (h := he) ..) ..⟩
  | ppsInEdge => exact ⟨_, exec_ppsInEdge .., Dev.ppsEdge_sound (h := h) ..⟩
  | ppsOutPulse => exact ⟨_, exec_ppsOutPulse .., Dev.ppsPulse_sound (h := h) ..⟩
  | launchWord1Write =>
    exact ⟨_, exec_launchWord1Write .., Dev.onWrite_sound (h := h) (hf := fun _ he => Dev.launchWord1_sound (h := he) ..) ..⟩
  | launchArm => exact ⟨_, exec_launchArm .., Dev.launchArm_sound (h := h) ..⟩
  | launchCancel => exact ⟨_, exec_launchCancel .., Dev.launchCancel_sound (h := h) ..⟩
  | launchFire => exact ⟨_, exec_launchFire .., Dev.launchFire_sound (h := h) ..⟩
  | resetAlignment => exact ⟨_, exec_resetAlignment .., Dev.resetAlign_sound (h := h) ..⟩
  | dieRejoin => exact ⟨_, exec_dieRejoin .., Dev.rejoin_sound (h := h) ..⟩
  | alignCheck => exact ⟨_, exec_alignCheck .., Dev.onWrite_sound (h := h) (hf := fun _ he => Dev.alignCheck_sound (h := he) ..) ..⟩
  | alignCheckSample => exact ⟨_, exec_alignCheckSample .., Dev.sound_ite (fun _ => Dev.alignResult_sound (h := h) ..) fun _ => h⟩
  | pmcOpen => exact ⟨_, exec_pmcOpen .., Dev.onWrite_sound (h := h) (hf := fun _ he => Dev.pmcCmd_sound (h := he) ..) ..⟩
  | pmcClose => exact ⟨_, exec_pmcClose .., Dev.onWrite_sound (h := h) (hf := fun _ he => Dev.pmcCmd_sound (h := he) ..) ..⟩
  | pmcSnap => exact ⟨_, exec_pmcSnap .., Dev.onWrite_sound (h := h) (hf := fun _ he => Dev.pmcCmd_sound (h := he) ..) ..⟩
  | pmcSnapCapture => exact ⟨_, exec_pmcSnapCapture .., Dev.snapCapture_sound (h := h) ..⟩
  | counterWindowOpen => exact ⟨_, exec_counterWindowOpen .., Dev.sound_ite (fun _ => Dev.cwinOpen_sound (h := h) ..) fun _ => h⟩
  | counterWindowClose => exact ⟨_, exec_counterWindowClose .., Dev.cwinClose_sound (h := h) ..⟩
  | counterRead =>
    exact ⟨_, exec_counterRead .., Dev.onJob_sound (h := h) (hf := fun _ he => Dev.counterRead_sound (h := he) ..) ..⟩
  | digestRead => exact ⟨_, exec_digestRead .., Dev.onJob_sound (h := h) (hf := fun _ he => Dev.digestRead_sound (h := he) ..) ..⟩
  | bureauEvent => exact ⟨_, exec_bureauEvent .., Dev.bureauEvent_sound (h := h) ..⟩
  | sourceWindowExpire => exact ⟨_, exec_sourceWindowExpire .., Dev.set_sound (h := h) ..⟩
  | heartbeatMiss => exact ⟨_, exec_heartbeatMiss .., Dev.silence_sound (h := h) ..⟩
  | graceExpire => exact ⟨_, exec_graceExpire .., Dev.graceExpire_sound (h := h) ..⟩
  | pendingAck =>
    exact ⟨_, exec_pendingAck .., Dev.onWrite_sound (h := h) (hf := fun _ he => Dev.acknowledge_sound (h := he) ..) ..⟩
  | burAct => exact ⟨_, exec_burAct .., Dev.onWrite_sound (h := h) (hf := fun _ he => Dev.burAct_sound (h := he) ..) ..⟩
  | quietExpire => exact ⟨_, exec_quietExpire .., Dev.quietExpire_sound (h := h) ..⟩
  | unitStateWrite =>
    exact ⟨_, exec_unitStateWrite .., Dev.onWrite_sound (h := h) (hf := fun _ he => Dev.unitWrite_sound (h := he) ..) ..⟩
  | shadowDigestReceived => exact ⟨_, exec_shadowDigestReceived .., Dev.shadowDigest_sound (h := h) ..⟩
  | spineShadowClear =>
    exact ⟨_, exec_spineShadowClear .., Dev.onWrite_sound (h := h) (hf := fun _ he => Dev.spineClear_sound (h := he) ..) ..⟩
  | standin => exact ⟨_, exec_standin .., Dev.onWrite_sound (h := h) (hf := fun _ he => Dev.standin_sound (h := he) ..) ..⟩
  | injectionCmd => exact ⟨_, exec_injectionCmd .., Dev.onWrite_sound (h := h) (hf := fun _ he => Dev.injCmd_sound (h := he) ..) ..⟩
  | injectionRepeat => exact ⟨_, exec_injectionRepeat .., Dev.injectNext_sound (h := h) ..⟩
  | deskTakeover => exact ⟨_, exec_deskTakeover .., Dev.takeover_sound (h := h) ..⟩
  | boot => exact ⟨_, exec_boot .., Dev.bootRun_sound (h := h) ..⟩
  | enrolSelfReset => exact ⟨_, exec_enrolSelfReset .., Dev.sound_ite (fun _ => Dev.deviceReset_sound (h := h) ..) fun _ => h⟩
  | flashRead => exact ⟨_, exec_flashRead .., Dev.onWrite_sound (h := h) (hf := fun _ he => Dev.flashCmd_sound (h := he) ..) ..⟩
  | flashErase => exact ⟨_, exec_flashErase .., Dev.onWrite_sound (h := h) (hf := fun _ he => Dev.flashCmd_sound (h := he) ..) ..⟩
  | flashProgram =>
    exact ⟨_, exec_flashProgram .., Dev.onWrite_sound (h := h) (hf := fun _ he => Dev.flashCmd_sound (h := he) ..) ..⟩
  | fwVerify =>
    exact ⟨_, exec_fwVerify ..,
      Dev.onWrite_sound (h := h) (hf := fun _ he => Dev.fwVerify_sound (h := Dev.fwSet_sound (h := he) ..) ..) ..⟩
  | fwPin =>
    exact ⟨_, exec_fwPin ..,
      Dev.onWrite_sound (h := h) (hf := fun _ he => Dev.fwPin_sound (h := Dev.fwSet_sound (h := he) ..) ..) ..⟩
  | fwUnpin =>
    exact ⟨_, exec_fwUnpin ..,
      Dev.onWrite_sound (h := h) (hf := fun _ he => Dev.fwUnpin_sound (h := Dev.fwSet_sound (h := he) ..) ..) ..⟩
  | fwHitless =>
    exact ⟨_, exec_fwHitless ..,
      Dev.onWrite_sound (h := h) (hf := fun _ he => Dev.fwHitless_sound (h := Dev.fwSet_sound (h := he) ..) ..) ..⟩
  | fwReboot =>
    exact ⟨_, exec_fwReboot ..,
      Dev.onWrite_sound (h := h) (hf := fun _ he => Dev.deviceReset_sound (h := Dev.fwSet_sound (h := he) ..) ..) ..⟩
  | svnCommit => exact ⟨_, exec_svnCommit .., Dev.onWrite_sound (h := h) (hf := fun _ he => Dev.svnCommit_sound (h := he) ..) ..⟩
  | attest => exact ⟨_, exec_attest .., Dev.onWrite_sound (h := h) (hf := fun _ he => Dev.attest_sound (h := he) ..) ..⟩
  | doorbellWrite =>
    exact ⟨_, exec_doorbellWrite .., Dev.onWrite_sound (h := h) (hf := fun _ he => Dev.doorbell_sound (h := he) ..) ..⟩
  | semAcquire => exact ⟨_, exec_semAcquire .., Dev.onWrite_sound (h := h) (hf := fun _ he => Dev.semTake_sound (h := he) ..) ..⟩
  | semRelease => exact ⟨_, exec_semRelease .., Dev.onWrite_sound (h := h) (hf := fun _ he => Dev.semFree_sound (h := he) ..) ..⟩
  | irqMaskWrite =>
    exact ⟨_, exec_irqMaskWrite .., Dev.onWrite_sound (h := h) (hf := fun _ he => Dev.irqMaskWrite_sound (h := he) ..) ..⟩
  | ethMgmtRead => exact ⟨_, exec_ethMgmtRead .., Dev.ethServe_sound (h := h) (hf := fun _ he => Dev.ethRead_sound (h := he) ..) ..⟩
  | ethMgmtWrite =>
    exact ⟨_, exec_ethMgmtWrite .., Dev.ethServe_sound (h := h) (hf := fun _ he => Dev.ethWrite_sound (h := he) ..) ..⟩
  | jobTeardown => exact ⟨_, exec_jobTeardown .., Dev.onJob_sound (h := h) (hf := fun _ he => Dev.teardown_sound (h := he) ..) ..⟩
  | powerOnResetRelease =>
    exact ⟨_, exec_powerOnResetRelease .., Dev.faultPin_sound (h := Dev.set_sound (h := Dev.afterReset_sound (h := h) ..) ..) ..⟩
  | deviceReset => exact ⟨_, exec_deviceReset .., Dev.deviceReset_sound (h := h) ..⟩
  | perst => exact ⟨_, exec_perst .., Dev.pcieReset_sound (h := h) ..⟩
  | supplyWarn => exact ⟨_, exec_supplyWarn .., Dev.supplyWarn_sound (h := h) ..⟩
  | supplyWarnClear => exact ⟨_, exec_supplyWarnClear .., Dev.supplyClear_sound (h := h) ..⟩
  | safeStop => exact ⟨_, exec_safeStop .., Dev.safeStop_sound (h := h) ..⟩
  | powerLoss =>
    exact ⟨_, exec_powerLoss .., Dev.faultPin_sound (h := Dev.afterReset_sound (h := Dev.safeStop_sound (h := h) ..) ..) ..⟩
  | resumeWrite =>
    exact ⟨_, exec_resumeWrite .., Dev.onWrite_sound (h := h) (hf := fun _ he => Dev.resumeWrite_sound (h := he) ..) ..⟩
  | autoResume => exact ⟨_, exec_autoResume .., Dev.autoResume_sound (h := h) ..⟩
  | resumeComplete => exact ⟨_, exec_resumeComplete .., Dev.resumeComplete_sound (h := h) ..⟩
  | domainSwitchWrite =>
    exact ⟨_, exec_domainSwitchWrite .., Dev.onWrite_sound (h := h) (hf := fun _ he => Dev.pdWrite_sound (h := he) ..) ..⟩
  | domainOnComplete => exact ⟨_, exec_domainOnComplete .., Dev.pdOn_sound (h := h) ..⟩
  | limiterStep1 => exact ⟨_, exec_limiterStep1 .., Dev.limit1_sound (h := h) ..⟩
  | limiterStep2 => exact ⟨_, exec_limiterStep2 .., Dev.limit2_sound (h := h) ..⟩
  | limiterRelease => exact ⟨_, exec_limiterRelease .., Dev.limitEnd_sound (h := h) ..⟩
  | vrHotAssert => exact ⟨_, exec_vrHotAssert .., Dev.vrHot_sound (h := h) ..⟩
  | vrHotDeassert => exact ⟨_, exec_vrHotDeassert .., Dev.vrHot_sound (h := h) ..⟩
  | thermalSensorUpdate => exact ⟨_, exec_thermalSensorUpdate .., Dev.sensor_sound (h := h) ..⟩
  | refClockLoss => exact ⟨_, exec_refClockLoss .., Dev.refLoss_sound (h := h) ..⟩
  | refSwitch => exact ⟨_, exec_refSwitch .., Dev.onWrite_sound (h := h) (hf := fun _ he => Dev.refSwitch_sound (h := he) ..) ..⟩
  | meshFrameSend => exact ⟨_, exec_meshFrameSend .., Dev.meshSend_sound (h := h) ..⟩
  | refClockReturn => exact ⟨_, exec_refClockReturn .., Dev.refReturn_sound (h := h) ..⟩
  | budgetWindowExpiry => exact ⟨_, exec_budgetWindowExpiry .., Dev.budgetExpire_sound (h := h) ..⟩
  | ringFailWindowExpiry => exact ⟨_, exec_ringFailWindowExpiry .., Dev.failExpire_sound (h := h) ..⟩
  | polarisationLockChange => exact ⟨_, exec_polarisationLockChange .., Dev.polLock_sound (h := h) ..⟩
  | vinAonInTolerance => exact ⟨_, exec_vinAonInTolerance .., Dev.faultPin_sound (h := Dev.set_sound (h := h) ..) ..⟩

/-! ## Steps -/

theorem step_nil {s : State} (h : s.pending = []) : step s = .next (s.withDev s.dev.tickAll) := by
  rw [step, h]
  simp only [← h]

theorem step_cons {s : State} {c : Instr} {r : List Instr} (h : s.pending = c :: r) :
    step s = exec c { s with pending := r } := by
  simp only [step, h]

/-- A step completes, takes the front of the queue and keeps the device sound. -/
theorem step_sound {p₀ : List Out} {n₀ : Nat} {s : State} (h : s.dev.Sound p₀ n₀) :
    ∃ t, step s = .next t ∧ t.pending = s.pending.tail ∧ t.dev.Sound p₀ n₀ := by
  cases hq : s.pending with
  | nil => exact ⟨_, step_nil hq, hq, Dev.tickAll_sound h⟩
  | cons c r =>
    obtain ⟨d, hd, hsound⟩ := exec_sound c (s := { s with pending := r }) h
    exact ⟨_, (step_cons hq).trans hd, rfl, hsound⟩

/-- A canonical device is sound with respect to what has left it and the free values it has used. -/
theorem Dev.Canon.sound {d : Dev} (h : d.Canon) : d.Sound d.out d.fresh := ⟨h, List.prefix_rfl, Nat.le_refl _⟩

/-- Settles O59: a canonical device is sound, and a step keeps that. -/
theorem everyStepKeepsCanon : Obligations.EveryStepKeepsCanon := by
  intro s t h hstep
  obtain ⟨u, hu, -, hsound, -⟩ := step_sound h.sound
  obtain rfl : t = u := by simpa using hstep.symm.trans hu
  exact hsound

/-! ## Runs -/

theorem runSteps_succ {k : Nat} {s t : State} (h : step s = .next t) : runSteps (k + 1) s = runSteps k t := by
  simp only [runSteps, h]

/-- A run completes, takes the commands from the front of the queue and keeps the device sound. -/
theorem runSteps_sound {p₀ : List Out} {n₀ : Nat} (k : Nat) {s : State} (h : s.dev.Sound p₀ n₀) :
    ∃ t, runSteps k s = some t ∧ t.pending = s.pending.drop k ∧ t.dev.Sound p₀ n₀ := by
  induction k generalizing s with
  | zero => exact ⟨s, rfl, rfl, h⟩
  | succ k ih =>
    obtain ⟨u, hu, htail, hsound⟩ := step_sound h
    obtain ⟨t, ht, hdrop, hend⟩ := ih hsound
    exact ⟨t, (runSteps_succ hu).trans ht, by rw [hdrop, htail, List.drop_tail], hend⟩

/-- Settles O60 (log entries 4, 17, 18): the run of a canonical state, by induction on its steps. -/
theorem runsAreSafe : Obligations.RunsAreSafe := by
  intro k s h
  obtain ⟨t, ht, hdrop, hcanon, hout, hfresh⟩ := runSteps_sound k h.sound
  refine ⟨⟨t, ht, hcanon⟩, fun u hu => ?_⟩
  obtain rfl : u = t := Option.some.inj (hu.symm.trans ht)
  exact ⟨hdrop, hout, hfresh⟩

/-! ## A tick of CLK_TIME -/

theorem Dev.pmcTick_core (d : Dev) : d.pmcTick.core = d.core := by
  refine Dev.each_keeps Dev.core d _ fun e n => Dev.each_keeps Dev.core e _ fun e k => ?_
  dsimp only
  split
  · rfl
  · rw [Dev.updPmc_core, apply_ite Dev.core]
    exact ite_eq_right_iff.2 fun _ => Dev.wrWide_core ..

theorem Dev.creditStall_core (d : Dev) (n : Nat) : (d.creditStall n).core = d.core :=
  Dev.each_keeps Dev.core d _ fun e q => by
    dsimp only
    split <;> rfl

theorem Dev.creditStall_time (d : Dev) (n : Nat) : (d.creditStall n).time = d.time :=
  Dev.each_keeps Dev.time d _ fun e q => by
    dsimp only
    split <;> rfl

theorem Dev.tickAll_raw (d : Dev) : d.tickAll.time.raw = (d.pmcTick.time.raw + 1) % 2 ^ 64 := by
  rw [← Dev.creditStall_time d.pmcTick 2]
  rfl

/-- With nothing on its way through a crossbar, the cycles that pass are counted and nothing else. -/
theorem CoreSt.cycles_idle {c : CoreSt} (h : c.crossing = false) (n : Nat) :
    CoreSt.cycles (n + 1) c = { c with cyc := (c.cyc + n + 1) % 112 } := by
  simp [CoreSt.cycles, h]

theorem Dev.tickAll_cyc {d : Dev} (h : d.core.crossing = false) : d.tickAll.core.cyc = (d.core.cyc + 2) % 112 := by
  have hcore : (d.pmcTick.creditStall 2).core = d.core := (Dev.creditStall_core _ _).trans d.pmcTick_core
  have htick : d.tickAll.core = CoreSt.cycles 2 d.core := congrArg (CoreSt.cycles 2) hcore
  rw [htick, CoreSt.cycles_idle h]

/-- Settles O57 (log entries 1 and 4): the front of the queue or a tick, and every command a change of the device alone. -/
theorem stepRunsFront : Obligations.StepRunsFront := by
  refine ⟨fun s c r hq => step_cons hq, fun s hq => ⟨step_nil hq, s.dev.tickAll_raw, Dev.tickAll_cyc⟩, fun c s => ?completes,
    fun c s t q ht => ?queue⟩
  case completes =>
    exact ⟨_, exec_eq_run c s, rfl⟩
  case queue =>
    obtain rfl : s.withDev (Instr.act c s.dev) = t := by simpa [run] using (exec_eq_run c s).symm.trans ht
    exact exec_eq_run c _

/-! ## Reset -/

theorem reset_rd (r : Reg) (i w : Nat) : State.reset.dev.rd r i w = r.reset i w := rfl

/-- Settles O58 (R424; log entries 6 to 9, 13, 14): nothing is listed, so every word reads its reset value. -/
theorem resetState : Obligations.ResetState := by
  refine ⟨rfl, ⟨⟨.nil, by simp [State.reset]⟩, ⟨.nil, by simp [State.reset]⟩, ⟨.nil, by simp [State.reset]⟩, by decide⟩, reset_rd, rfl,
    rfl, rfl, rfl, fun lp => ?down, by decide, by decide, by decide⟩
  case down =>
    have hreset : State.reset.dev.rd .LNK_LP_STATE lp 0 = if lp % 4 = 0 then 0x00400000 else 0 := by
      simp [reset_rd, Reg.reset, resetLNK_LP_STATE]
    rw [Dev.lpState, Dev.get_one _ ⟨by decide, by decide⟩, show F.LNK_LP_STATE.STATE.lo / 32 = 0 from rfl, hreset]
    split <;> rfl

end Sys2Proof.Machine
end

section
/-! The bring-up of a logical port (Table 2.7) and the time of chapter 13: the pulse pins, the Coat Racks and the launch table. -/
namespace Sys2Proof.Machine

/-! ## Bring-up -/

theorem Dev.ringsLocked_acquire {d : Dev} {lp : Nat} (h : d.lpState lp = 1) :
    d.ringsLocked lp = d.set F.LNK_LP_STATE.STATE lp 2 := if_pos h

theorem Dev.fecLock_align {d : Dev} {lp : Nat} (h : d.lpState lp = 2) :
    d.fecLock lp = (d.updLp lp Lp.kept).set F.LNK_LP_STATE.STATE lp 3 := if_pos h

theorem Dev.trainTimeout_training {d : Dev} {lp : Nat} (h : d.lpState lp = 2 ∨ d.lpState lp = 3) :
    d.trainTimeout lp =
      ((d.updLp lp fun l => { l with train := [], trainRx := 0, trainTx := 0, trained := false, farZero := false }).set
        F.LNK_LP_STATE.STATE lp 2).count .LNK_TRAIN_FAIL lp := if_pos h

/-- Settles O4 (Table 2.7): each event by its own operation in the state that it leaves. -/
theorem linkBringUp : Obligations.LinkBringUp := by
  refine ⟨fun s lp d hd hst hup hlight hforced hmap hsub hready => ?light, fun s lp hst => ?locked, fun s lp hst => ?fec,
    fun s lp hst => ?timeout⟩
  case light =>
    rw [exec_lightPresent, Dev.lightPresent, ← hd, Dev.enableLp_ready hst hup hforced hmap hsub hlight hready]
  case locked =>
    rw [exec_ringsLockedAlign, Dev.ringsLocked_acquire hst]
  case fec =>
    exact (exec_fecLock lp s).trans (by rw [Dev.fecLock_align hst]; rfl)
  case timeout =>
    rw [exec_trainTimeout, Dev.trainTimeout_training hst]

/-! ## The pulse input -/

/-- Settles O41 (R308): by the time since the edge accepted last. -/
theorem pulseInput : Obligations.PulseInput := by
  refine ⟨fun s hfar => ?accepted, fun s r hin hnear => ?ignored⟩
  case accepted =>
    rw [exec_ppsInEdge, Dev.ppsEdge]
    cases hin : s.dev.time.ppsIn with
    | none => rfl
    | some r => simp [ticksOfUs, Nat.not_lt.2 (hfar r hin)]
  case ignored =>
    rw [exec_ppsInEdge]
    simp [Dev.ppsEdge, hin, ticksOfUs, hnear, State.withDev]

/-! ## Coat Racks and PTP frames -/

/-- A read that reaches its register answers with what the operation gives. -/
theorem Dev.onRead_reaches {d : Dev} {a : Access} {r : Reg} {i w : Nat} (h : d.Reaches a r i w) (f : Dev → Word × Dev) :
    d.onRead a r i w f = (f d).2.emit (.read a.deskB a.eth (regAddr r i w) (f d).1) := by
  simp [Dev.onRead, h.1]

theorem Dev.coatPut_full {d : Dev} {rack : Nat} (e : CoatEnt) (ht : rack < 16) (hfull : 64 ≤ (d.time.coat.at [] rack).length) :
    d.coatPut rack e = d.count .MNT_CR_OVF rack := by
  simp [Dev.coatPut, hfull, ht]

theorem Dev.coatPop_empty {d : Dev} {rack : Nat} (a : Access) (k : Nat) (h : d.time.coat.at [] rack = []) :
    d.coatPop a rack k = (0, d.latch a k 0) := by
  simp only [Dev.coatPop, h]

theorem Dev.coatPop_tile {d : Dev} {rack : Nat} {e : CoatEnt} {r : List CoatEnt} (a : Access) (k : Nat) (ht : rack < 16)
    (h : d.time.coat.at [] rack = e :: r) :
    d.coatPop a rack k = (BitVec.ofNat 32 e.time,
      ((d.updTime fun x => { x with coat := x.coat.put [] rack r }).set F.MNT_CR_STAT.HELD rack r.length).latch a k
        (BitVec.ofNat 32 e.high)) := by
  simp only [Dev.coatPop, h, ht, if_true]

/-- GO of MNT_PTP_TX with PORT at the Desk's own management port sends the frame, stamped where TS_REQ asks. -/
theorem Dev.ptpSend_mgmt {d e : Dev} {k n : Nat} {v : Word} (he : e = d.writeRw .MNT_PTP_TX k 0 v)
    (hn : n = e.get F.MNT_PTP_TX_LEN.LEN k) (hgo : bitAt v.toNat 31 = true) (hlo : 64 ≤ n) (hhi : n ≤ 1522)
    (hport : bitsOf v.toNat 26 16 = mgmtPort) :
    d.ptpSend k v = if bitAt v.toNat 30 then (e.emit (.mgmt k (e.txBuffer k n))).coatPut (16 + k)
        { port := mgmtPort, tsId := bitsOf v.toNat 15 0, time := e.now }
      else e.emit (.mgmt k (e.txBuffer k n)) := by
  have hsends : ¬((!bitAt v.toNat 31) = true ∨ n < 64 ∨ 1522 < n) := by simp [hgo, Nat.not_lt.2 hlo, Nat.not_lt.2 hhi]
  simp only [Dev.ptpSend, ← he, ← hn]
  rw [if_neg hsends, if_pos hport, hport]
  rfl

/-- Settles O42 (R305 to R307, R309; log entries 116 and 117): each by its operation in the case that the clause names. -/
theorem stampsAndPulses : Obligations.StampsAndPulses := by
  refine ⟨fun d rack e ht hfull => Dev.coatPut_full e ht hfull, fun s a t e r d hr hq hd => ?oldest, fun s a t hr hq => ?empty,
    fun s b f hup hptp => ?ptp, fun s a v d n k hk hr hd hn hgo hlo hhi hport => ?send, fun s => exec_ppsOutPulse s⟩
  case oldest =>
    rw [exec_coatRackPop, Dev.coatRead, Dev.onRead_reaches hr, Dev.coatPop_tile _ _ t.isLt hq, ← hd]
  case empty =>
    rw [exec_coatRackPop, Dev.coatRead, Dev.onRead_reaches hr, Dev.coatPop_empty _ _ hq]
  case ptp =>
    rw [exec_mgmtPtpRx, Dev.mgmtPtp, if_pos ⟨hup, hptp⟩, mgmtPort]
  case send =>
    subst hk
    rw [exec_ptpTx, Dev.onWrite_reaches hr, Dev.ptpSend_mgmt hd hn hgo hlo hhi hport]
    rfl

/-! ## The launch table -/

theorem Dev.launchWord1_refused {d : Dev} {e : Nat} {v : Word} (harm : bitAt v.toNat 31 = true)
    (h : d.launchValid e = true ∨ 5 < bitsOf v.toNat 27 24) : d.launchWord1 e v = d.count .MNT_LATE_WR := by
  simp only [Dev.launchWord1, harm]
  rw [if_pos (by simpa using h)]

theorem Dev.launchWord1_taken {d c : Dev} {e : Nat} {v : Word}
    (h : bitAt v.toNat 31 = false ∨ (d.launchValid e = false ∧ bitsOf v.toNat 27 24 ≤ 5))
    (hc : c = (d.writeRw .MNT_LAUNCH e 1 v).genBump) :
    d.launchWord1 e v = c.updTime fun t => { t with launchUpd := t.launchUpd ++
      [{ at' := c.raw + cuTicks, entry := e, arm := bitAt v.toNat 31, time := (c.rd .MNT_LAUNCH e 0).toNat,
         irq := bitAt v.toNat 28, action := bitsOf v.toNat 27 24, arg := bitsOf v.toNat 15 0 }] } := by
  have hlegal : ¬(bitAt v.toNat 31 && (d.launchValid e || decide (5 < bitsOf v.toNat 27 24))) = true := by
    rcases h with harm | ⟨hfree, hact⟩
    · simp [harm]
    · simp [hfree, Nat.not_lt.2 hact]
  simp only [Dev.launchWord1, ← hc]
  rw [if_neg hlegal]

/-- The oldest pending change of an entry is taken off the list where it is of the kind asked for. -/
theorem Dev.takeLaunchUpd_found {d : Dev} {e : Nat} {u : LaunchUpd} (h : d.time.launchUpd.find? (fun u => u.entry == e) = some u) :
    d.takeLaunchUpd e u.arm = (some u, d.updTime fun t => { t with launchUpd := t.launchUpd.erase u }) := by
  simp [Dev.takeLaunchUpd, h]

/-- An armed entry whose time has come fires outside a safe stop. -/
theorem Dev.launchFire_due {d c b : Dev} {e : Nat} {l : Launch} (hl : d.time.launch.find e = some l)
    (hdue : d.launchDue l.time = true) (hrun : d.get F.PWR_STAT.STATE 0 ≠ 2)
    (hc : c = if l.early then d.count .MNT_LAUNCH_EARLY else if l.past then d.count .MNT_LAUNCH_PAST else d)
    (hb : b = c.launchEnd e l.outcome) :
    d.launchFire e = (if l.irq && b.someDesk then b.irqBoth 1 else b).launchAction l.action l.arg l.time := by
  simp only [Dev.launchFire, hl, ← hc, ← hb]
  exact if_neg (by simp [hdue, hrun])

/-- An entry whose time has not come, or any in a safe stop, does not fire. -/
theorem Dev.launchFire_held {d : Dev} {e : Nat} {l : Launch} (hl : d.time.launch.find e = some l)
    (h : d.launchDue l.time = false ∨ d.get F.PWR_STAT.STATE 0 = 2) : d.launchFire e = d := by
  simp only [Dev.launchFire, hl]
  exact if_pos (by simpa using h)

/-- Settles O43 (R310 to R314): by the oldest pending change of the entry, and by the armed entry. -/
theorem launchTable : Obligations.LaunchTable := by
  refine ⟨fun s a e v d u hr hlegal hd hu => ?schedule, fun s a e v hr harm hlate => ?late, fun s e u l d hfind harm hd hl => ?arm,
    fun s e u hfind harm => ?cancel, fun s e l c d hl hdue hrun hc hd => ?fire, fun d e o => rfl, fun s e l hl hheld => ?held⟩
  case schedule =>
    rw [exec_launchWord1Write, Dev.onWrite_reaches hr, Dev.launchWord1_taken hlegal hd, hu, cuTicks]
  case late =>
    rw [exec_launchWord1Write, Dev.onWrite_reaches hr, Dev.launchWord1_refused harm hlate]
  case arm =>
    rw [exec_launchArm, Dev.launchArm, ← harm, Dev.takeLaunchUpd_found hfind, ← hd, hl]
  case cancel =>
    rw [exec_launchCancel, Dev.launchCancel, ← harm, Dev.takeLaunchUpd_found hfind]
  case fire =>
    rw [exec_launchFire, Dev.launchFire_due hl hdue hrun hc hd]
  case held =>
    rw [exec_launchFire, Dev.launchFire_held hl hheld]

end Sys2Proof.Machine
end

section
/-! Accesses that complete without effect (R360, R419, R420, R423) and the hardware semaphores (R375). -/
namespace Sys2Proof.Machine

/-! ## One element of a pass over a list -/

/-- A pass that never repeats an element: what holds before the step at `a` and after it, and which the other steps keep. -/
theorem Dev.each_once {α : Type} {P Q : Dev → Prop} {a : α} {f : Dev → α → Dev} {d : Dev} {l : List α} (hl : l.Nodup)
    (ha : a ∈ l) (hd : P d) (hat : ∀ e, P e → Q (f e a)) (hbefore : ∀ e b, b ≠ a → P e → P (f e b))
    (hafter : ∀ e b, b ≠ a → Q e → Q (f e b)) : Q (d.each l f) := by
  have hrest : ∀ (l : List α) (e : Dev), a ∉ l → Q e → Q (e.each l f) := by
    intro l
    induction l with
    | nil => exact fun e _ he => he
    | cons b l ih =>
      intro e hb he
      obtain ⟨hne, htail⟩ := List.ne_and_not_mem_of_not_mem_cons hb
      exact ih _ htail (hafter e b (Ne.symm hne) he)
  induction l generalizing d with
  | nil => exact absurd ha List.not_mem_nil
  | cons b l ih =>
    obtain ⟨hb, hl⟩ := List.nodup_cons.1 hl
    by_cases hba : b = a
    · subst hba
      exact hrest l _ hb (hat d hd)
    · exact ih hl ((List.mem_cons.1 ha).resolve_left (Ne.symm hba)) (hbefore d b hba hd)

theorem Dev.irqBoth_writes (d : Dev) (v : Nat) : d.Writes stageFields (d.irqBoth v) :=
  (d.irq_writes 0 v).trans (Dev.irq_writes _ 1 v)

/-! ## The gate -/

section
variable {d : Dev} {a : Access} {addr : Nat} (hup : d.deskUp a.deskB.toNat = true)
include hup

theorem Dev.gate_silent (hopen : d.bit F.DESK_PROT_LOCK.LOCKED 0 = false) (hpre : preLock addr = false) :
    d.gate a addr = .silent := by
  simp [Dev.gate, hup, hopen, hpre]

theorem Dev.gate_off {l : List Nat} (hlock : d.bit F.DESK_PROT_LOCK.LOCKED 0 = true) (hdies : d.blockDies addr = some l)
    (hoff : d.blockOff addr = true) : d.gate a addr = .cause 3 := by
  simp [Dev.gate, hup, hlock, hdies, hoff]

theorem Dev.gate_unreached {l : List Nat} (hlock : d.bit F.DESK_PROT_LOCK.LOCKED 0 = true) (hdies : d.blockDies addr = some l)
    (hon : d.blockOff addr = false) (hnone : ∀ m ∈ l, d.deskReaches a.deskB.toNat m = false) : d.gate a addr = .cause 2 := by
  have hany : ¬l.any (d.deskReaches a.deskB.toNat) = true := by simpa using hnone
  simp only [Dev.gate, hup, hlock, hdies, hon]
  exact if_neg hany

end

/-! ## Accesses without effect -/

/-- A write of a whole word at an assigned address. -/
theorem exec_wholeWrite {s : State} {a : Access} {addr : BitVec 26} {r : Reg} {i w : Nat} {v : Word}
    (h : decodeAddr a.deskB.toNat (addr.toNat / 4 * 4) = some (r, i, w)) :
    exec (.registerWrite a addr 15#4 v) s = .next (s.withDev (s.dev.onWrite a r i w (·.writeReg a r i w v))) := by
  have hwhole : s.dev.writeBytes a addr.toNat (15#4).toNat v = s.dev.writeTo a addr.toNat v := Dev.writeBytes_whole ..
  rw [exec_registerWrite, hwhole]
  simp only [Dev.writeTo, h]

section
variable {d : Dev} {a : Access} {r : Reg} {i w : Nat} {f : Dev → Dev}

theorem Dev.onWrite_cause {n : Nat} (h : d.gate a (regAddr r i w) = .cause n) :
    d.onWrite a r i w f = d.accErr a n (regAddr r i w) true := by
  simp only [Dev.onWrite, h]

theorem Dev.onWrite_busy (h : d.gate a (regAddr r i w) = .ok) (hcmd : r.isCmd = true) (hgo : bitAt (d.rd r i 0).toNat 31 = true) :
    d.onWrite a r i w f = d.accErr a 4 (regAddr r i 0) true := by
  simp only [Dev.onWrite, h, hcmd, hgo, Bool.and_self, if_true]

theorem Dev.onWrite_silent (h : d.gate a (regAddr r i w) = .silent) (hup : d.deskUp a.deskB.toNat = true) :
    d.onWrite a r i w f = d.lockedWrite a := by
  simp only [Dev.onWrite, h, hup, if_true]

end

/-- A read that no register answers returns zero. -/
theorem Dev.readFrom_silent {d : Dev} {a : Access} {addr : Nat} (h : d.gate a (addr / 4 * 4) = .silent) :
    d.readFrom a addr = (0, d) := by
  simp only [Dev.readFrom, h]
  split <;> rfl

/-- Settles O2 (R360, R419, R420, R423): by what the gate answers, and by the two words of the record. -/
theorem accessesWithoutEffect : Obligations.AccessesWithoutEffect := by
  refine ⟨fun d a addr l hup => ⟨Dev.gate_silent hup, fun hlock hdies =>
      ⟨Dev.gate_off hup hlock hdies, Dev.gate_unreached hup hlock hdies⟩⟩,
    fun s a addr v r i w n hdec hgate => ?cause, fun s a addr v r i w hdec hgate hcmd hgo => ?busy,
    fun s a addr v r i w hdec hgate hup => ?event, fun s a addr hpath hup hopen hpre => ?zero,
    fun d a c addr wr hd => ⟨?last, ?counted⟩⟩
  case cause =>
    rw [exec_wholeWrite hdec, Dev.onWrite_cause hgate]
  case busy =>
    rw [exec_wholeWrite hdec, Dev.onWrite_busy hgate hcmd hgo]
  case event =>
    rw [exec_wholeWrite hdec, Dev.onWrite_silent hgate hup]
  case zero =>
    rw [exec_lowWordRead, Dev.answer, Dev.readFrom_silent (Dev.gate_silent hup hopen hpre)]
    simp [hup, hpath]
  case last =>
    exact Dev.rd_wr_same ..
  case counted =>
    have hword : (d.accErr a c addr wr).rd .DESK_ACC_ERR a.deskB.toNat =
      (d.count .DESK_ACC_ERR a.deskB.toNat).rd .DESK_ACC_ERR a.deskB.toNat :=
      Dev.rd_wr_ne _ _ (by simp)
    have hcount : (d.count .DESK_ACC_ERR a.deskB.toNat).rd .DESK_ACC_ERR a.deskB.toNat =
      BitVec.ofNat 32 (min ((d.rd .DESK_ACC_ERR a.deskB.toNat).toNat + 1) 0xFFFFFFFF) := Dev.rd_wr_same ..
    rw [hword, hcount, BitVec.toNat_ofNat]
    omega

/-! ## Semaphores -/

/-- The fields of a semaphore. -/
abbrev semFields : List Fld := [F.DESK_SEM.HELD, F.DESK_SEM.OWNER, F.DESK_SEM.TOKEN]

/-- A free semaphore, taken through Desk `k` with a token. -/
def Dev.semTaken (d : Dev) (k n token : Nat) : Dev :=
  ((d.setB F.DESK_SEM.HELD n true).set F.DESK_SEM.OWNER n (k + 1)).set F.DESK_SEM.TOKEN n token

theorem Dev.semTake_free {d : Dev} {n : Nat} (h : d.bit F.DESK_SEM.HELD n = false) (k token : Nat) :
    d.semTake k n token = d.semTaken k n token := by
  simp only [Dev.semTake, h, Bool.false_eq_true, if_false, Dev.semTaken]

theorem Dev.semTake_held {d : Dev} {n : Nat} (h : d.bit F.DESK_SEM.HELD n = true) (k token : Nat) : d.semTake k n token = d :=
  if_pos h

section
variable (d : Dev) (k n token : Nat)

theorem Dev.semTaken_writes : d.Writes semFields (d.semTaken k n token) :=
  .trans (.trans (.setB (by decide)) (.set (by decide))) (.set (by decide))

theorem Dev.semTaken_held : (d.semTaken k n token).bit F.DESK_SEM.HELD n = true := by
  have hkept : (d.semTaken k n token).get F.DESK_SEM.HELD n = (d.setB F.DESK_SEM.HELD n true).get F.DESK_SEM.HELD n :=
    (Dev.get_set_apart _ ⟨by decide, by decide⟩ ⟨by decide, by decide⟩ (by decide) ..).trans
      (Dev.get_set_apart _ ⟨by decide, by decide⟩ ⟨by decide, by decide⟩ (by decide) ..)
  rw [Dev.bit, hkept]
  exact d.bit_setB_same ⟨by decide, by decide⟩ rfl n true

theorem Dev.semTaken_owner (hk : k < 3) : (d.semTaken k n token).get F.DESK_SEM.OWNER n = k + 1 := by
  rw [Dev.semTaken, Dev.get_set_apart _ ⟨by decide, by decide⟩ ⟨by decide, by decide⟩ (by decide),
    Dev.get_set_same _ ⟨by decide, by decide⟩]
  exact Nat.mod_eq_of_lt (show k + 1 < 4 by omega)

theorem Dev.semTaken_token (htoken : token < 2 ^ 16) : (d.semTaken k n token).get F.DESK_SEM.TOKEN n = token :=
  (Dev.get_set_same _ ⟨by decide, by decide⟩ ..).trans (Nat.mod_eq_of_lt htoken)

theorem Dev.semTaken_rd {r : Reg} {i w : Nat} (h : ¬(r = .DESK_SEM ∧ i = n ∧ w = 0)) :
    (d.semTaken k n token).rd r i w = d.rd r i w := by
  rw [Dev.semTaken, Dev.rd_set_ne _ ⟨by decide, by decide⟩ _ h, Dev.rd_set_ne _ ⟨by decide, by decide⟩ _ h, Dev.setB,
    Dev.rd_set_ne _ ⟨by decide, by decide⟩ _ h]

end

/-- A semaphore whose word is zero is free and has no owner. -/
theorem Dev.sem_free_of_rd {d : Dev} {n : Nat} (h : d.rd .DESK_SEM n = 0) :
    d.bit F.DESK_SEM.HELD n = false ∧ d.get F.DESK_SEM.OWNER n = 0 := by
  rw [Dev.bit, Dev.get_one d ⟨by decide, by decide⟩, Dev.get_one d ⟨by decide, by decide⟩,
    show F.DESK_SEM.HELD.lo / 32 = 0 from rfl, show F.DESK_SEM.OWNER.lo / 32 = 0 from rfl, h]
  exact ⟨by decide, by decide⟩

theorem Dev.semFree_owned {d : Dev} {k n token : Nat} (h : d.bit F.DESK_SEM.HELD n = true)
    (howner : d.get F.DESK_SEM.OWNER n = k + 1) (htoken : d.get F.DESK_SEM.TOKEN n = token) :
    d.semFree k n token = (d.wr .DESK_SEM n 0 0).irqBoth 6 :=
  if_pos ⟨h, howner, htoken⟩

theorem Dev.semFree_refused {d : Dev} {k n token : Nat}
    (h : d.bit F.DESK_SEM.HELD n = false ∨ d.get F.DESK_SEM.OWNER n ≠ k + 1 ∨ d.get F.DESK_SEM.TOKEN n ≠ token) :
    d.semFree k n token = d := by
  refine if_neg fun ⟨hheld, howner, htoken⟩ => ?_
  rcases h with hfree | hother | hwrong
  · exact absurd hheld (by simp [hfree])
  · exact hother howner
  · exact hwrong htoken

/-- The gate of a register of the Desks depends on the Desks' state and the lock alone. -/
theorem Dev.gate_of_writes {l : List Fld} {d e : Dev} {a : Access} {addr : Nat} (h : d.Writes l e) (haddr : addr < 0x1000000)
    (hunit : F.BUR_UNIT.STATE.Clear l) (hlock : F.DESK_PROT_LOCK.LOCKED.Clear l) : e.gate a addr = d.gate a addr := by
  simp only [Dev.gate, Dev.deskUp, Dev.blockDies, haddr, if_true, h.get hunit, h.bit hlock]

theorem regAddr_sem : ∀ n : Fin 32, regAddr .DESK_SEM n 0 < 0x1000000 := by decide

theorem Dev.semOwner_of_rd {d e : Dev} {n : Nat} (h : e.rd .DESK_SEM n = d.rd .DESK_SEM n) :
    e.get F.DESK_SEM.OWNER n = d.get F.DESK_SEM.OWNER n := by
  rw [Dev.get_one e ⟨by decide, by decide⟩, Dev.get_one d ⟨by decide, by decide⟩, show F.DESK_SEM.OWNER.lo / 32 = 0 from rfl,
    h]

/-- A Desk that leaves service frees each semaphore that names it as the owner. -/
theorem Dev.semDrop_frees {d : Dev} {k n : Nat} (hn : n < 32) (howner : d.get F.DESK_SEM.OWNER n = k + 1) :
    (d.semDrop k).rd .DESK_SEM n = 0 := by
  have hother : ∀ (e : Dev) (m : Nat), m ≠ n →
      (if e.get F.DESK_SEM.OWNER m = k + 1 then (e.wr .DESK_SEM m 0 0).irq (1 - k) 6 else e).rd .DESK_SEM n = e.rd .DESK_SEM n := by
    intro e m hm
    split
    · rw [Dev.rd_irq 6 (by decide), Dev.rd_wr_ne e _ fun ⟨_, hsame, _⟩ => hm hsame.symm]
    · rfl
  refine Dev.each_once (P := fun e => e.rd .DESK_SEM n = d.rd .DESK_SEM n) (Q := fun e => e.rd .DESK_SEM n = 0) List.nodup_range
    (List.mem_range.2 hn) rfl (fun e he => ?_) (fun e m hm => (hother e m hm).trans) fun e m hm => (hother e m hm).trans
  rw [if_pos ((Dev.semOwner_of_rd he).trans howner), Dev.rd_irq 6 (by decide), Dev.rd_wr_same]

/-- A unit's change of state and the choice of the master leave the semaphores. -/
theorem Dev.unitGo_writes (d : Dev) (n st : Nat) : d.Writes [F.BUR_UNIT.CFG_GEN, F.BUR_UNIT.STATE] (d.unitGo n st) := by
  have hgen : ∀ (v : Nat) (f : BurSt → BurSt),
      d.Writes [F.BUR_UNIT.CFG_GEN, F.BUR_UNIT.STATE] ((d.set F.BUR_UNIT.CFG_GEN n v).updBur f) := fun v f =>
    .trans (.set (by decide)) (.same rfl rfl rfl)
  refine .trans (.ite (fun _ => hgen ..) fun _ => .ite (fun _ => hgen ..) fun _ => .refl d) (.set (by decide))

theorem Dev.updTime_writes {l : List Fld} (d : Dev) (f : TimeSt → TimeSt) : d.Writes l (d.updTime f) := .same rfl rfl rfl

theorem Dev.setMaster_writes (d : Dev) : d.Writes [F.BUR_CTL.MASTER, F.MNT_CTL.MASTER] d.setMaster :=
  .trans (.setB (by decide)) (.setB (by decide))

/-- What a Desk that leaves service frees, the interrupt that tells the other of it leaves as it is. -/
theorem Dev.deskLeave_frees {d : Dev} {k n : Nat} (st : Nat) (hn : n < 32) (howner : d.get F.DESK_SEM.OWNER n = k + 1) :
    (d.deskLeave k st).rd .DESK_SEM n = 0 := by
  have hleft : ((d.unitGo (26 + k) st).setMaster).get F.DESK_SEM.OWNER n = k + 1 :=
    ((Dev.setMaster_writes _).get (by decide) n).trans (((d.unitGo_writes _ st).get (by decide) n).trans howner)
  have hpend : ∀ (p : Prop) [Decidable p] (c : Dev), c.Writes [F.MNT_CTL.UPD_PEND]
      (if p then (c.setB F.MNT_CTL.UPD_PEND 0 false).updTime fun t => { t with upd := none } else c) := fun p _ c =>
    .ite (fun _ => .trans (.setB (by decide)) (Dev.updTime_writes _ _)) fun _ => .refl c
  rw [Dev.deskLeave, Dev.rd_irq 9 (by decide)]
  exact Dev.semDrop_frees hn (((hpend _ _).get (by decide) n).trans hleft)

/-- Settles O55 (R375; log entry 35): by the three fields of a semaphore, free or held, and by the pass of a Desk that leaves. -/
theorem semaphores : Obligations.Semaphores := by
  have hdesk : ∀ a : Access, a.deskB.toNat < 3 := fun a => (Bool.toNat_lt a.deskB).trans (by decide)
  refine ⟨fun s a n token _ hr hfree => ?take, fun s a n token hr hheld => ?held,
    fun s a n token _ hr hheld howner htoken => ?free,
    fun s a n token hr hwrong => ?wrong, fun s t a b n x y r _ hq hra hrb hfree hstep => ?first,
    fun d k st n _ hn howner => Dev.sem_free_of_rd (Dev.deskLeave_frees st hn howner)⟩
  case take =>
    refine ⟨_, by rw [exec_semAcquire, Dev.onWrite_reaches hr, Dev.semTake_free hfree], ?_⟩
    exact ⟨Dev.semTaken_held .., Dev.semTaken_owner _ _ _ _ (hdesk a), Dev.semTaken_token _ _ _ _ token.isLt,
      fun r i w => Dev.semTaken_rd _ _ _ _⟩
  case held =>
    rw [exec_semAcquire, Dev.onWrite_reaches hr, Dev.semTake_held hheld]
  case free =>
    refine ⟨_, by rw [exec_semRelease, Dev.onWrite_reaches hr, Dev.semFree_owned hheld howner htoken], Dev.sem_free_of_rd ?_⟩
    exact ((Dev.irqBoth_writes _ 6).rd (by decide) n).trans (Dev.rd_wr_same ..)
  case wrong =>
    rw [exec_semRelease, Dev.onWrite_reaches hr, Dev.semFree_refused hwrong]
  case first =>
    have htaken : t = { s with dev := s.dev.semTaken a.deskB.toNat n x.toNat, pending := .semAcquire b n y :: r } := by
      rw [step_cons hq] at hstep
      simpa [exec_semAcquire, Dev.onWrite_reaches hra, Dev.semTake_free hfree, State.withDev] using hstep.symm
    have hwrites := s.dev.semTaken_writes a.deskB.toNat n x.toNat
    have hrb' : (s.dev.semTaken a.deskB.toNat n x.toNat).Reaches b .DESK_SEM n 0 :=
      ⟨(Dev.gate_of_writes hwrites (regAddr_sem n) (by decide) (by decide)).trans hrb.1, rfl⟩
    subst htaken
    refine ⟨?_, Dev.semTaken_owner _ _ _ _ (hdesk a), Dev.semTaken_token _ _ _ _ x.isLt⟩
    rw [step_cons rfl, exec_semAcquire, Dev.onWrite_reaches hrb', Dev.semTake_held (Dev.semTaken_held ..)]

end Sys2Proof.Machine
end

section
/-! The supply: its warning, the safe stop and its resume (R387, R389 to R392, Tables 17.3 to 17.5). -/
namespace Sys2Proof.Machine

/-! ## FAULT_N and the power's record -/

@[simp] theorem Dev.faultPin_low (d : Dev) (low : Bool) : (d.faultPin low).pwr.faultLow = low := by
  unfold Dev.faultPin
  split
  · assumption
  · rfl

theorem Dev.faultPin_writes {l : List Fld} (d : Dev) (low : Bool) : d.Writes l (d.faultPin low) :=
  .ite (fun _ => .refl d) fun _ => .trans (b := d.updPwr fun p => { p with faultLow := low }) (.same rfl rfl rfl) .emit

theorem Dev.updPwr_supply (d : Dev) (f : PwrSt → PwrSt) : (d.updPwr f).supply = d.supply := d.updPwr_get ..

/-! ## The reading of VIN_MAIN -/

theorem Dev.vinMain_get (d : Dev) (mv : Nat) (x : Fld) : (d.vinMain mv).get x 0 =
    ((d.set F.PWR_VIN_MAIN.NOW 0 mv).set F.PWR_VIN_MAIN.LOW 0
      (if d.get F.PWR_VIN_MAIN.LOW 0 = 0 then mv else min (d.get F.PWR_VIN_MAIN.LOW 0) mv)).get x 0 := by
  unfold Dev.vinMain
  dsimp only
  split
  · exact Dev.updPwr_get ..
  · rfl

theorem Dev.vinMain_now (d : Dev) {mv : Nat} (h : mv < 2 ^ 16) : (d.vinMain mv).get F.PWR_VIN_MAIN.NOW 0 = mv := by
  rw [Dev.vinMain_get, Dev.get_set_apart _ ⟨by decide, by decide⟩ ⟨by decide, by decide⟩ (by decide),
    Dev.get_set_same _ ⟨by decide, by decide⟩]
  exact Nat.mod_eq_of_lt h

theorem Dev.vinMain_lowest (d : Dev) {mv : Nat} (h : mv < 2 ^ 16) : (d.vinMain mv).get F.PWR_VIN_MAIN.LOW 0 =
    if d.get F.PWR_VIN_MAIN.LOW 0 = 0 then mv else min (d.get F.PWR_VIN_MAIN.LOW 0) mv := by
  rw [Dev.vinMain_get, Dev.get_set_same _ ⟨by decide, by decide⟩]
  refine Nat.mod_eq_of_lt (show _ < 2 ^ 16 from ?_)
  split
  · exact h
  · exact (Nat.min_le_right ..).trans_lt h

theorem Dev.vinMain_clears (d : Dev) {mv : Nat} (h : 5300 ≤ mv) : 1 ∉ (d.vinMain mv).pwr.causes := by
  simp [Dev.vinMain, h, Dev.updPwr]

/-! ## The safe stop -/

/-- The causes of a safe stop, with one more that is not the Desks' own (4) and not there yet. -/
def Dev.withCause (d : Dev) (c : Nat) : Dev :=
  d.updPwr fun p => { p with causes := if c = 4 ∨ p.causes.contains c then p.causes else p.causes ++ [c] }

theorem Dev.safeStop_again {d : Dev} {c : Nat} (hc : c ≠ 0) (hsafe : d.supply = 2) : d.safeStop c = d.withCause c := by
  have hstill : (d.withCause c).supply = 2 := (d.updPwr_supply _).trans hsafe
  rw [Dev.safeStop, if_neg hc]
  exact if_pos hstill

/-- A safe stop of a device that is not in SAFE. -/
theorem Dev.safeStop_enters {d e : Dev} {c : Nat} (hc : c ≠ 0) (hrun : d.supply ≠ 2)
    (he : e = (((d.withCause c).set F.PWR_STAT.STATE 0 2).set F.PWR_STAT.SAFE_CAUSE 0 c).faultPin true) :
    d.safeStop c = (if c = 1 then
        ((e.set F.PWR_SAFE_REC.CAUSE 0 c).set F.PWR_SAFE_REC.STOPS 0 (e.get F.PWR_SAFE_REC.STOPS 0 + 1)).raise 43 1 0
      else (e.set F.PWR_SAFE_REC.CAUSE 0 c).set F.PWR_SAFE_REC.STOPS 0
        (e.get F.PWR_SAFE_REC.STOPS 0 + 1)).cwinCutAll.allDown.sbdOff.safeDiscard.domainsOff := by
  have hstill : ¬(d.withCause c).supply = 2 := by rwa [show (d.withCause c).supply = d.supply from d.updPwr_supply _]
  rw [Dev.safeStop, if_neg hc, he]
  exact if_neg hstill

/-- What stands in PWR_STAT as a safe stop begins. -/
theorem Dev.safe_shows (d : Dev) {c : Nat} (hc : c < 16) :
    (((d.set F.PWR_STAT.STATE 0 2).set F.PWR_STAT.SAFE_CAUSE 0 c).faultPin true).supply = 2 ∧
    (((d.set F.PWR_STAT.STATE 0 2).set F.PWR_STAT.SAFE_CAUSE 0 c).faultPin true).get F.PWR_STAT.SAFE_CAUSE 0 = c := by
  constructor
  · rw [Dev.supply, (Dev.faultPin_writes (l := []) _ _).get (by decide),
      Dev.get_set_apart _ ⟨by decide, by decide⟩ ⟨by decide, by decide⟩ (by decide), Dev.get_set_same _ ⟨by decide, by decide⟩]
    rfl
  · rw [(Dev.faultPin_writes (l := []) _ _).get (by decide), Dev.get_set_same _ ⟨by decide, by decide⟩]
    exact Nat.mod_eq_of_lt hc

/-- Every switched domain is off, and none waits to turn on. -/
theorem Dev.domainsOff_shows (d : Dev) : d.domainsOff.get F.PWR_PD_STAT.ON 0 = 0 ∧ d.domainsOff.pwr.pdq = [] := by
  have hoff : ∀ c : Dev, (((c.set F.PWR_PD_STAT.ON 0 0).setB F.PWR_PD_STAT.BUSY 0 false).updPwr fun p =>
      { p with pdq := [] }).get F.PWR_PD_STAT.ON 0 = 0 := fun c => by
    rw [Dev.updPwr_get, Dev.setB, Dev.get_set_apart _ ⟨by decide, by decide⟩ ⟨by decide, by decide⟩ (by decide),
      Dev.get_set_same _ ⟨by decide, by decide⟩, Nat.zero_mod]
  exact ⟨hoff _, rfl⟩

/-- Settles O52 (R387, R389 to R392, Tables 17.3 to 17.5; log entries 15 and 131): each by its operation, a safe stop by whether
the device is in SAFE already. -/
theorem supplyAndSafeStop : Obligations.SupplyAndSafeStop := by
  refine ⟨fun s mv d hd => by rw [exec_supplyWarn, Dev.supplyWarn, ← hd],
    fun s mv d hd => by rw [exec_supplyWarnClear, Dev.supplyClear, ← hd],
    fun d mv _ hmv => ⟨d.vinMain_now hmv, d.vinMain_lowest hmv, d.vinMain_clears⟩, fun s => exec_safeStop 0 s,
    fun s c hc hsafe => ?again, fun s c d _ hc hrun hd => ?enters, fun d _ => d.domainsOff_shows, fun s a hr => ?resume,
    fun s d hd => ?auto, fun s => exec_resumeComplete s, fun s => exec_powerLoss s⟩
  case again =>
    rw [exec_safeStop, Dev.safeStop_again (fun h => hc (Fin.ext h)) hsafe, Dev.withCause]
  case enters =>
    have hzero : c.val ≠ 0 := fun h => hc (Fin.ext h)
    obtain ⟨hstate, hcause⟩ := Dev.safe_shows (s.dev.withCause c) (c := c) (by omega)
    refine ⟨by rw [exec_safeStop, Dev.safeStop_enters hzero hrun hd], ?_⟩
    subst hd
    exact ⟨hstate, hcause, Dev.faultPin_low ..⟩
  case resume =>
    rw [exec_resumeWrite, Dev.onWrite_reaches hr, Dev.resumeWrite]
  case auto =>
    rw [exec_autoResume, Dev.autoResume, ← hd]

end Sys2Proof.Machine
end

section
/-! Resets and what they keep, and the switched domains (R383, R384, R393, R394, Tables 17.2, 17.6A, 18.8). -/
namespace Sys2Proof.Machine

/-! ## What a store of register words leaves -/

section
variable {β : Type} {g : Dev → β} (hg : ∀ (d : Dev) (r : Reg) (i w : Nat) (v : Word), g (d.wr r i w v) = g d)
include hg

theorem Dev.wrWide_keeps (d : Dev) (r : Reg) (i w v n : Nat) : g (d.wrWide r i w v n) = g d := by
  induction n generalizing d w v with
  | zero => rfl
  | succ n ih => exact (ih ..).trans (hg ..)

theorem Dev.set_keeps (d : Dev) (f : Fld) (i v : Nat) : g (d.set f i v) = g d := Dev.wrWide_keeps hg ..

end

/-! ## The parts of a reset -/

/-- What is not a register word and outlives a reset. -/
def Dev.resetBase (d : Dev) : Dev :=
  { boot := { flash := d.boot.flash, uds := d.boot.uds }, out := d.out, fresh := d.fresh,
    pwr := { faultLow := d.pwr.faultLow, tripLow := d.pwr.tripLow } }

/-- The order code and the fused key as they stood in `d`. -/
def Dev.keepIdent (d e : Dev) : Dev :=
  let e := (e.set F.DESK_IDENT.ORDER_CODE 0 (d.get F.DESK_IDENT.ORDER_CODE 0)).setB F.DESK_IDENT.KEY_ENROLLED 0
    (d.bit F.DESK_IDENT.KEY_ENROLLED 0)
  e.each (List.range 8) fun e n => e.wr .DESK_KEY_HASH n 0 (d.rd .DESK_KEY_HASH n)

/-- The UID and the security version as they stood in `d`. -/
def Dev.keepVersion (d e : Dev) : Dev :=
  (e.each (List.range 4) fun e n => e.wr .DESK_UID n 0 (d.rd .DESK_UID n)).set F.DESK_SVN.F 0 (d.get F.DESK_SVN.F 0)

/-- What VIN_AON keeps, as it stood in `d`. -/
def Dev.keepAon (d e : Dev) (aon : Bool) : Dev :=
  if aon then e else
    ((e.wr .PWR_SAFE_REC 0 0 (d.rd .PWR_SAFE_REC 0)).wr .DESK_STRAP 0 0 (d.rd .DESK_STRAP 0)).wr .PWR_VIN_AUX 0 0
      (d.rd .PWR_VIN_AUX 0)

/-- The heater code latches as they stood in `d`. -/
def Dev.keepHeaters (d e : Dev) (heaters : Bool) : Dev :=
  if heaters then
    e.each (List.range 9216) fun e x => if d.heater x = 0 then e else e.set F.OE_RING_CTL.HEATER x (d.heater x)
  else e

theorem Dev.afterReset_parts (d : Dev) (aon heaters : Bool) :
    d.afterReset aon heaters = d.keepHeaters (d.keepAon (d.keepVersion (d.keepIdent d.resetBase)) aon) heaters := rfl

section
variable (d e : Dev)

theorem Dev.keepIdent_writes :
    e.Writes [F.DESK_IDENT.ORDER_CODE, F.DESK_IDENT.KEY_ENROLLED, Reg.DESK_KEY_HASH.word] (d.keepIdent e) :=
  .trans (.trans (.set (by decide)) (.setB (by decide))) (.each _ fun c n => (c.wr_writes n _).mono (by simp))

theorem Dev.keepVersion_writes : e.Writes [Reg.DESK_UID.word, F.DESK_SVN.F] (d.keepVersion e) :=
  .trans (.each _ fun c n => (c.wr_writes n _).mono (by simp)) (.set (by decide))

theorem Dev.keepAon_writes (aon : Bool) :
    e.Writes [Reg.PWR_SAFE_REC.word, Reg.DESK_STRAP.word, Reg.PWR_VIN_AUX.word] (d.keepAon e aon) :=
  .ite (fun _ => .refl e) fun _ => .trans (.trans ((Dev.wr_writes _ _ _).mono (by simp)) ((Dev.wr_writes _ _ _).mono (by simp)))
    ((Dev.wr_writes _ _ _).mono (by simp))

theorem Dev.keepHeaters_writes (heaters : Bool) : e.Writes [F.OE_RING_CTL.HEATER] (d.keepHeaters e heaters) :=
  .ite (fun _ => .each _ fun c x => .ite (fun _ => .refl c) fun _ => .set (by decide)) fun _ => .refl e

/-- What VIN_AON keeps alone, with the heater code latches. -/
abbrev aonFields : List Fld := [Reg.PWR_SAFE_REC.word, Reg.DESK_STRAP.word, Reg.PWR_VIN_AUX.word, F.OE_RING_CTL.HEATER]

theorem Dev.keepLast_writes (aon heaters : Bool) : e.Writes aonFields (d.keepHeaters (d.keepAon e aon) heaters) :=
  .trans ((d.keepAon_writes e aon).mono (by simp)) ((d.keepHeaters_writes _ heaters).mono (by simp))

end

/-! ## What a reset keeps -/

section
variable (d : Dev) (aon heaters : Bool)

/-- What a store of a register word leaves, a reset leaves as its base has it. -/
theorem Dev.afterReset_keeps {β : Type} {g : Dev → β}
    (hg : ∀ (d : Dev) (r : Reg) (i w : Nat) (v : Word), g (d.wr r i w v) = g d) :
    g (d.afterReset aon heaters) = g d.resetBase := by
  have hident : g (d.keepIdent d.resetBase) = g d.resetBase :=
    (Dev.each_keeps g _ _ fun _ _ => hg ..).trans ((Dev.set_keeps hg ..).trans (Dev.set_keeps hg ..))
  have hversion : ∀ e, g (d.keepVersion e) = g e := fun e =>
    (Dev.set_keeps hg ..).trans (Dev.each_keeps g _ _ fun _ _ => hg ..)
  have haon : ∀ e, g (d.keepAon e aon) = g e := fun e => by
    unfold Dev.keepAon
    split
    · rfl
    · rw [hg, hg, hg]
  have hheaters : ∀ e, g (d.keepHeaters e heaters) = g e := fun e => by
    unfold Dev.keepHeaters
    split
    · refine Dev.each_keeps g _ _ fun c x => ?_
      split
      · rfl
      · exact Dev.set_keeps hg ..
    · rfl
  rw [Dev.afterReset_parts, hheaters, haon, hversion, hident]

theorem Dev.afterReset_boot : (d.afterReset aon heaters).boot = d.resetBase.boot := d.afterReset_keeps _ _ fun _ _ _ _ _ => rfl

theorem Dev.afterReset_out : (d.afterReset aon heaters).out = d.out := d.afterReset_keeps _ _ (g := Dev.out) fun _ _ _ _ _ => rfl

theorem Dev.afterReset_mem : (d.afterReset aon heaters).pool.mem = [] :=
  d.afterReset_keeps _ _ (g := fun e => e.pool.mem) fun _ _ _ _ _ => rfl

/-- A field that a reset does not keep reads its reset value. -/
theorem Dev.afterReset_get {f : Fld} (hident : f.Clear [F.DESK_IDENT.ORDER_CODE, F.DESK_IDENT.KEY_ENROLLED, Reg.DESK_KEY_HASH.word])
    (hversion : f.Clear [Reg.DESK_UID.word, F.DESK_SVN.F]) (hlast : f.Clear aonFields) (i : Nat) :
    (d.afterReset aon heaters).get f i = State.reset.dev.get f i := by
  rw [Dev.afterReset_parts, (d.keepLast_writes _ aon heaters).get hlast, (d.keepVersion_writes _).get hversion,
    (d.keepIdent_writes _).get hident]
  exact Dev.get_congr State.reset.dev d.resetBase rfl f i

theorem Dev.afterReset_stage : (d.afterReset aon heaters).stage = 0 :=
  (d.afterReset_get aon heaters (by decide) (by decide) (by decide) 0).trans (by decide)

theorem Dev.afterReset_unlocked : (d.afterReset aon heaters).bit F.DESK_PROT_LOCK.LOCKED 0 = false := by
  rw [Dev.bit, d.afterReset_get aon heaters (by decide) (by decide) (by decide)]
  decide

theorem Dev.afterReset_fused : (d.afterReset aon heaters).fused = d.fused := by
  rw [Dev.fused, Dev.afterReset_parts, (d.keepLast_writes _ aon heaters).get (by decide), Dev.keepVersion,
    Dev.get_set_same _ ⟨by decide, by decide⟩]
  exact Nat.mod_eq_of_lt (d.get_lt (by decide) 0)

theorem Dev.afterReset_hashWord {n : Nat} (hn : n < 8) : (d.afterReset aon heaters).rd .DESK_KEY_HASH n = d.rd .DESK_KEY_HASH n := by
  rw [Dev.afterReset_parts, (d.keepLast_writes _ aon heaters).rd (by decide), (d.keepVersion_writes _).rd (by decide)]
  refine Dev.each_once (P := fun _ => True) (Q := fun e => e.rd .DESK_KEY_HASH n = d.rd .DESK_KEY_HASH n) List.nodup_range
    (List.mem_range.2 hn) trivial (fun e _ => Dev.rd_wr_same ..) (fun _ _ _ h => h) fun e m hm he => ?_
  exact (Dev.rd_wr_ne e _ fun ⟨_, hsame, _⟩ => hm hsame.symm).trans he

theorem Dev.keyHash_of_rd {d e : Dev} (h : ∀ n < 8, e.rd .DESK_KEY_HASH n = d.rd .DESK_KEY_HASH n) : e.keyHash = d.keyHash := by
  refine List.flatMap_congr fun n _ => ?_
  rw [h (7 - n) (by omega)]

theorem Dev.afterReset_keyHash : (d.afterReset aon heaters).keyHash = d.keyHash :=
  Dev.keyHash_of_rd fun _ hn => d.afterReset_hashWord aon heaters hn

/-- With VIN_AON there, the straps and the record of the last safe stop are kept. -/
theorem Dev.afterReset_aon : (d.afterReset false heaters).rd .DESK_STRAP 0 = d.rd .DESK_STRAP 0 ∧
    (d.afterReset false heaters).rd .PWR_SAFE_REC 0 = d.rd .PWR_SAFE_REC 0 := by
  have hstored : ∀ (e : Dev), (d.keepAon e false).rd .DESK_STRAP 0 = d.rd .DESK_STRAP 0 ∧
      (d.keepAon e false).rd .PWR_SAFE_REC 0 = d.rd .PWR_SAFE_REC 0 := fun e => by
    constructor
    · exact (Dev.wr_rd_reg _ _ _ _ (by decide)).trans (Dev.rd_wr_same ..)
    · exact (Dev.wr_rd_reg _ _ _ _ (by decide)).trans ((Dev.wr_rd_reg _ _ _ _ (by decide)).trans (Dev.rd_wr_same ..))
  rw [Dev.afterReset_parts, (d.keepHeaters_writes _ heaters).rd (by decide), (d.keepHeaters_writes _ heaters).rd (by decide)]
  exact hstored _

end

/-! ## The pins -/

section
variable (d : Dev) (low : Bool)

theorem Dev.tripPin_writes {l : List Fld} : d.Writes l (d.tripPin low) :=
  .ite (fun _ => .refl d) fun _ => .trans (b := d.updPwr fun p => { p with tripLow := low }) (.same rfl rfl rfl) .emit

/-- What neither the power's record nor an output is part of, the pins leave. -/
theorem Dev.pins_keep {β : Type} {g : Dev → β}
    (hg : ∀ (d : Dev) (f : PwrSt → PwrSt) (o : Out), g ((d.updPwr f).emit o) = g d) :
    g (d.faultPin low) = g d ∧ g (d.tripPin low) = g d := by
  constructor
  · unfold Dev.faultPin
    split
    · rfl
    · exact hg ..
  · unfold Dev.tripPin
    split
    · rfl
    · exact hg ..

theorem Dev.tripPin_fault : (d.tripPin low).pwr.faultLow = d.pwr.faultLow := by
  unfold Dev.tripPin
  split <;> rfl

end

/-! ## A device reset -/

section
variable (d : Dev) (aon : Bool)

/-- The pins leave every register as the reset left it. -/
theorem Dev.deviceReset_writes : (d.afterReset aon false).Writes [] (d.deviceReset aon) :=
  (Dev.faultPin_writes _ true).trans (Dev.tripPin_writes _ false)

theorem Dev.deviceReset_keeps {β : Type} {g : Dev → β}
    (hg : ∀ (d : Dev) (f : PwrSt → PwrSt) (o : Out), g ((d.updPwr f).emit o) = g d) :
    g (d.deviceReset aon) = g (d.afterReset aon false) :=
  (Dev.pins_keep _ false hg).2.trans (Dev.pins_keep _ true hg).1

theorem Dev.deviceReset_boot : (d.deviceReset aon).boot = d.resetBase.boot :=
  (d.deviceReset_keeps aon (g := Dev.boot) fun _ _ _ => rfl).trans (d.afterReset_boot aon false)

theorem Dev.deviceReset_mem : (d.deviceReset aon).pool.mem = [] :=
  (d.deviceReset_keeps aon (g := fun e => e.pool.mem) fun _ _ _ => rfl).trans (d.afterReset_mem aon false)

end

/-- The release of the power-on reset samples the straps and releases FAULT_N. -/
theorem Dev.powerOnReset_shows (d : Dev) {straps : Nat} (h : straps < 2 ^ 6) {e : Dev}
    (he : e = ((d.afterReset false true).set F.DESK_STRAP.DEVICE_ID 0 straps).faultPin false) :
    e.pwr.faultLow = false ∧ e.get F.DESK_STRAP.DEVICE_ID 0 = straps ∧ e.stage = 0 ∧ e.fused = d.fused := by
  have hpin : ((d.afterReset false true).set F.DESK_STRAP.DEVICE_ID 0 straps).Writes [] e := he ▸ Dev.faultPin_writes _ false
  have hwrites : (d.afterReset false true).Writes [F.DESK_STRAP.DEVICE_ID] e := .trans (.set (by decide)) (hpin.mono (by simp))
  refine ⟨he ▸ Dev.faultPin_low .., ?_, (hwrites.get (by decide) 0).trans (d.afterReset_stage false true),
    (hwrites.get (by decide) 0).trans (d.afterReset_fused false true)⟩
  rw [hpin.get (by decide), Dev.get_set_same _ ⟨by decide, by decide⟩]
  exact Nat.mod_eq_of_lt h

/-! ## A reset of the PCIe interface -/

/-- The register table holds every register. -/
theorem regTable_num : (List.range 355).all (fun n => regTable.any fun e => e.reg.num == n) = true := by decide +kernel

theorem Reg.num_lt (r : Reg) : r.num < 355 := by cases r <;> decide

theorem regOfNum_num (r : Reg) : ∃ e, regOfNum r.num = some e ∧ e.reg = r := by
  have hany := List.all_eq_true.1 regTable_num r.num (List.mem_range.2 r.num_lt)
  obtain ⟨e, he⟩ := Option.isSome_iff_exists.1 (List.find?_isSome.2 (List.any_eq_true.1 hany))
  exact ⟨e, he, Reg.num_inj (by simpa using List.find?_some he)⟩

/-- A register word that passes the test is kept. -/
theorem Dev.keepRegs_rd (d : Dev) {p : RegDesc → Nat → Nat → Bool} {r : Reg} {i w : Nat} (h : ∀ e, e.reg = r → p e i w = true) :
    (d.keepRegs p).rd r i w = d.rd r i w := by
  obtain ⟨e, he, hreg⟩ := regOfNum_num r
  simp only [Dev.rd, Tbl.at, Dev.keepRegs, Tbl.keep]
  rw [Tbl.find_filter d.regs fun v => ?_]
  simp only [rkey, key3, Nat.unpair_pair, he]
  exact h e hreg

theorem Dev.pcieReset_rd (d : Dev) (k : Nat) {r : Reg} (i w : Nat) (hmsix : r ≠ .DESK_MSIX) (hpba : r ≠ .DESK_MSIX_PBA) :
    (d.pcieReset k).rd r i w = d.rd r i w :=
  calc (d.pcieReset k).rd r i w
    _ = (d.keepRegs fun e i _ => !((e.reg == .DESK_MSIX || e.reg == .DESK_MSIX_PBA) && i / e.entries == k)).rd r i w := rfl
    _ = d.rd r i w := d.keepRegs_rd fun e he => by simp [he, hmsix, hpba]

/-! ## The switched domains -/

theorem Dev.pdWrite_refused {d : Dev} (v : Word) (h : d.domainRefused = true) : d.pdWrite v = d.count .PWR_PD_REFUSE := if_pos h

/-- What a write of PWR_PD_CTL does to each domain by its bit as it stood and as it is written. -/
theorem Dev.pdWrite_taken {d : Dev} (v : Word) (h : d.domainRefused = false) :
    d.pdWrite v = (d.set F.PWR_PD_CTL.PD 0 (bitsOf v.toNat 29 16)).each (List.range 14) fun e n =>
      if bitAt (bitsOf v.toNat 29 16) n = bitAt (d.get F.PWR_PD_CTL.PD 0) n then e
      else if bitAt (bitsOf v.toNat 29 16) n then e.domainRequest (16 + n)
      else if n < 8 then e.cabOff n
      else e.sbdPdOff (16 + n) := by
  have hstep : ∀ (new old : Bool) (e on off : Dev), (if new then (if old then e else on) else if !old then e else off) =
      if new = old then e else if new then on else off := by
    intro new old e on off
    cases new <;> cases old <;> rfl
  simp only [Dev.pdWrite, h, Bool.false_eq_true, if_false, hstep]

/-- Settles O53 (R383, R384, R393, R394; log entries 11 and 12): by what each part of a reset stores, and by the operations of the
domains. -/
theorem resetsAndDomains : Obligations.ResetsAndDomains := by
  refine ⟨fun d aon htr => ⟨d.afterReset_stage aon htr, (congrArg BootSt.flash (d.afterReset_boot aon htr) :),
      d.afterReset_fused aon htr, d.afterReset_keyHash aon htr, d.afterReset_out aon htr⟩,
    fun s aon => ⟨_, exec_deviceReset aon s, ?device⟩, fun s straps => ⟨_, exec_powerOnResetRelease straps s, ?release⟩,
    fun s mv _ => ⟨_, exec_vinAonInTolerance mv s, ?aon⟩,
    fun s b => ⟨_, exec_perst b s, rfl, fun _ r i w hmsix hpba => Dev.pcieReset_rd _ _ i w hmsix hpba⟩,
    fun s a v hr href => ?refused, fun s a v hr href => ?taken, fun s hq => ?idle, fun s pd r d hq hd => ?on⟩
  case device =>
    have hwrites := s.dev.deviceReset_writes aon
    refine ⟨(Dev.tripPin_fault ..).trans (Dev.faultPin_low ..),
      (hwrites.get (by decide) 0).trans (s.dev.afterReset_stage aon false),
      (congrArg BootSt.flash (s.dev.deviceReset_boot aon) :), (hwrites.get (by decide) 0).trans (s.dev.afterReset_fused aon false),
      (Dev.keyHash_of_rd fun n _ => hwrites.rd (by decide) n).trans (s.dev.afterReset_keyHash aon false),
      s.dev.afterReset_out aon false ▸ hwrites.out, (congrArg BootSt.run (s.dev.deviceReset_boot aon) :), s.dev.deviceReset_mem aon,
      (hwrites.bit (by decide) 0).trans (s.dev.afterReset_unlocked aon false), ?_⟩
    rintro rfl
    obtain ⟨hstrap, hrec⟩ := s.dev.afterReset_aon false
    exact ⟨(hwrites.rd (by decide) 0).trans hstrap, (hwrites.rd (by decide) 0).trans hrec⟩
  case release =>
    dsimp only [State.withDev]
    exact s.dev.powerOnReset_shows straps.isLt rfl
  case aon =>
    refine ⟨Dev.faultPin_low .., ((Dev.faultPin_writes (l := []) _ true).get (by decide) 0).trans
      ((Dev.get_set_same _ ⟨by decide, by decide⟩ ..).trans ?_)⟩
    exact Nat.mod_eq_of_lt mv.isLt
  case refused =>
    rw [exec_domainSwitchWrite, Dev.onWrite_reaches hr, Dev.pdWrite_refused v href]
  case taken =>
    rw [exec_domainSwitchWrite, Dev.onWrite_reaches hr, Dev.pdWrite_taken v href]
  case idle =>
    rw [exec_domainOnComplete, Dev.pdOn, hq]
  case on =>
    rw [exec_domainOnComplete, Dev.pdOn, hq, hd]

end Sys2Proof.Machine
end

section
/-! Flash, fuses, firmware commands and attestation (R361, R368, R370, R377 to R379). -/
namespace Sys2Proof.Machine

/-! ## Flash bytes -/

/-- A table of flash bytes with those of a list stored from `addr + n` on. -/
def flashFill (t : Tbl Byte) (k addr n : Nat) (bs : List Byte) : Tbl Byte :=
  (bs.zipIdx n).foldl (fun (t : Tbl Byte) e => t.put 0xFF (key2 k (addr + e.2)) e.1) t

theorem Dev.flashPut_byte (d : Dev) (k addr j at' : Nat) (bs : List Byte) :
    (d.flashPut k addr bs).flashByte j at' = (flashFill d.boot.flash k addr 0 bs).at 0xFF (key2 j at') := rfl

section
variable {k addr n : Nat} {bs : List Byte}

theorem flashFill_cons (t : Tbl Byte) (b : Byte) :
    flashFill t k addr n (b :: bs) = flashFill (t.put 0xFF (key2 k (addr + n)) b) k addr (n + 1) bs := rfl

/-- A byte outside the range stored stays. -/
theorem flashFill_apart (t : Tbl Byte) {j at' : Nat} (h : j ≠ k ∨ at' < addr + n ∨ addr + n + bs.length ≤ at') :
    (flashFill t k addr n bs).at 0xFF (key2 j at') = t.at 0xFF (key2 j at') := by
  induction bs generalizing t n with
  | nil => rfl
  | cons b bs ih =>
    rw [List.length_cons] at h
    have hkey : key2 j at' ≠ key2 k (addr + n) := fun hsame => by
      obtain ⟨hdesk, hplace⟩ := key2_inj.1 hsame
      omega
    rw [flashFill_cons, ih _ (by omega), Tbl.at_put_ne _ _ _ _ hkey]

/-- A byte of the range stored is the list's. -/
theorem flashFill_within (t : Tbl Byte) {i : Nat} (h : i < bs.length) :
    (flashFill t k addr n bs).at 0xFF (key2 k (addr + n + i)) = bs.getD i 0 := by
  induction bs generalizing t n i with
  | nil => exact absurd h (Nat.not_lt_zero i)
  | cons b bs ih =>
    rw [flashFill_cons]
    cases i with
    | zero => rw [flashFill_apart _ (by omega), Nat.add_zero, Tbl.at_put_same, List.getD_cons_zero]
    | succ i =>
      rw [show addr + n + (i + 1) = addr + (n + 1) + i by omega, ih _ (by simpa using h), List.getD_cons_succ]

end

/-! ## Commands -/

theorem Dev.flashCmd_runs {d e : Dev} {k op : Nat} (hop : op ≤ 2) (he : e = d.set F.DESK_FLASH_CMD.OP k op) :
    d.flashCmd k op = flashEnd k (e.flashRun k op) := by
  simp only [Dev.flashCmd, Nat.not_lt.2 hop, if_false, ← he]

theorem Dev.flashRun_program (d : Dev) (k : Nat) : d.flashRun k 2 =
    if d.get F.DESK_FLASH_ADDR.ADDR k % 65536 ≠ 0 then (3, d)
    else if d.flashProtected k (d.get F.DESK_FLASH_ADDR.ADDR k) then (1, d)
    else (0, d.flashPut k (d.get F.DESK_FLASH_ADDR.ADDR k) (d.windowBytes k)) := rfl

/-- HITLESS by its tests in their order. -/
theorem Dev.fwHitless_ends {d : Dev} {k slot t c : Nat} {r : RunImg} (hc : c = (d.slotCheck { desk := t, slot := slot }).1)
    (hr : r = d.imageOf { desk := t, slot := slot }) :
    d.fwHitless k slot t =
      if d.bit F.DESK_PROT_POLICY.HITLESS_EN 0 = false then d.fwEnd k 2 0
      else if c ≠ 0 ∧ c ≠ 4 then d.fwEnd k 1 0
      else if r.cfg ≠ (d.runOf t).cfg ∨ r.agent ≠ (d.runOf t).agent ∨ r.svn < d.fused then d.fwEnd k 3 0
      else if d.deskUp (1 - t) = false then d.fwEnd k 4 0
      else ((((((d.deskLeave t 2).deskReset t).setRun t r).deskReturn t).showMismatch).certify t).fwEnd k 0 0 := by
  simp only [Dev.fwHitless, Dev.hitless, ← hc, ← hr, Bool.not_eq_true', apply_ite (hitlessEnd k)]
  simp only [hitlessEnd]

/-! ## The fused security version -/

/-- A commit raises the fused version, to 64 at most. -/
theorem Dev.svnCommit_fused {d : Dev} (h : d.fused ≤ 64) : d.fused ≤ d.svnCommit.fused ∧ d.svnCommit.fused ≤ 64 := by
  by_cases hraise : d.stage = 8 ∧ d.supply = 0 ∧ d.fused < (d.runOf d.master).svn
  · have hstored : d.svnCommit.fused = min 64 (d.runOf d.master).svn := by
      rw [Dev.svnCommit, if_pos hraise, Dev.fused, Dev.get_set_same _ ⟨by decide, by decide⟩]
      exact Nat.mod_eq_of_lt ((Nat.min_le_left ..).trans_lt (by decide))
    obtain ⟨-, -, hnewer⟩ := hraise
    omega
  · rw [Dev.svnCommit, if_neg hraise]
    exact ⟨Nat.le_refl _, h⟩

/-- Settles O50 (R361, R368, R370, R377 to R379; log entries 45 to 48 and 50): each command by its operation, and the bytes of the
flash by the range that a store covers. -/
theorem flashAndFirmware : Obligations.FlashAndFirmware := by
  refine ⟨fun s a d k addr hk hr hd haddr => ?read, fun s a d k addr hk hr hd haddr => ?erase,
    fun s a d k addr hk hr hd haddr => ?program, fun d k j addr at' bs h => ?apart, fun d k addr n bs _ hn => ?within,
    fun s a hr => ?commit, fun d _ h => d.svnCommit_fused h, fun s a slot b d k hk hr hd => ?verify,
    fun s a slot b d k hk hr hd => ?pin, fun s a b d k hk hr hd => ?unpin, fun s a slot b d k t c r hk ht hr hd hc hr' => ?hitless,
    fun s a k hk hr => ?reboot, fun s => exec_enrolSelfReset s, fun s a k body x d hk hr hbody hdraw => ?attest⟩
  case read =>
    subst hk
    rw [exec_flashRead, Dev.onWrite_reaches hr, Dev.flashCmd_runs (by decide) hd, Dev.flashRun, ← haddr]
    split <;> rfl
  case erase =>
    subst hk
    rw [exec_flashErase, Dev.onWrite_reaches hr, Dev.flashCmd_runs (by decide) hd, Dev.flashRun, ← haddr]
  case program =>
    subst hk
    rw [exec_flashProgram, Dev.onWrite_reaches hr, Dev.flashCmd_runs (by decide) hd, Dev.flashRun_program, ← haddr]
  case apart =>
    rw [Dev.flashPut_byte]
    exact flashFill_apart _ (by simpa using h)
  case within =>
    exact (Dev.flashPut_byte ..).trans (flashFill_within (n := 0) _ hn)
  case commit =>
    rw [exec_svnCommit, Dev.onWrite_reaches hr, Dev.svnCommit]
  case verify =>
    subst hk
    rw [exec_fwVerify, Dev.onWrite_reaches hr, ← hd, Dev.fwVerify]
  case pin =>
    subst hk
    rw [exec_fwPin, Dev.onWrite_reaches hr, ← hd, Dev.fwPin]
  case unpin =>
    subst hk
    rw [exec_fwUnpin, Dev.onWrite_reaches hr, ← hd, Dev.fwUnpin]
  case hitless =>
    subst hk ht
    rw [exec_fwHitless, Dev.onWrite_reaches hr, ← hd, Dev.fwHitless_ends hc hr']
  case reboot =>
    subst hk
    rw [exec_fwReboot, Dev.onWrite_reaches hr]
  case attest =>
    subst hk
    rw [exec_attest, Dev.onWrite_reaches hr, Dev.attest, ← hdraw, ← hbody]
    simp only [Bool.not_eq_true']

end Sys2Proof.Machine
end

section
/-! A Desk's own registers: the doorbell, the interrupt mask, the management port and the teardown of a job (R373, R374, R376). -/
namespace Sys2Proof.Machine

/-! ## The interrupt mask -/

/-- A pass that sends something for some elements of a list sends it in the list's order, and writes no register. -/
theorem Dev.each_emits {α : Type} (d : Dev) (l : List α) (p : α → Bool) (o : α → Out) :
    (d.each l fun e n => if p n then e.emit (o n) else e).out = d.out ++ (l.filter p).map o := by
  induction l generalizing d with
  | nil => exact (List.append_nil _).symm
  | cons a l ih =>
    have hfirst : (if p a then d.emit (o a) else d).out = d.out ++ if p a then [o a] else [] := by
      split
      · rfl
      · exact (List.append_nil _).symm
    refine (ih _).trans ?_
    rw [hfirst]
    cases hp : p a <;> simp [hp]

theorem Dev.each_emits_rd {α : Type} (d : Dev) (l : List α) (p : α → Bool) (o : α → Out) (r : Reg) (i w : Nat) :
    (d.each l fun e n => if p n then e.emit (o n) else e).rd r i w = d.rd r i w :=
  Dev.each_keeps (fun e => e.rd r i w) d l fun e n => by
    split <;> rfl

/-- The mask is stored, and the vectors that are set and no longer masked are sent. -/
theorem Dev.irqMaskWrite_shows (d : Dev) (k : Nat) (v : Word) : (d.irqMaskWrite k v).rd .DESK_IRQ_MASK k = v ∧
    (d.irqMaskWrite k v).out = d.out ++ ((List.range 32).filter fun n => bitAt (d.rd .DESK_IRQ_MASK k).toNat n &&
      !bitAt v.toNat n && bitAt (d.rd .DESK_IRQ_STAT k).toNat n).map fun n => .irq k n :=
  ⟨(Dev.each_emits_rd _ _ _ (Out.irq k) ..).trans (Dev.rd_wr_same ..), Dev.each_emits _ _ _ (Out.irq k)⟩

/-! ## The management port -/

/-- The path of a request on a management port. -/
theorem ethPath (b : Bool) : ({ deskB := b.toNat == 1, eth := true } : Access) = { deskB := b, eth := true } := by
  cases b <;> rfl

theorem ethCountOk_iff (q : EthReq) : ethCountOk q = true ↔ 1 ≤ q.count.toNat ∧ q.count.toNat ≤ 256 := by
  simp [ethCountOk]

section
variable {d : Dev} {k : Nat} {q : EthReq} {f : Dev → Dev}

/-- A request that the port does not serve is not answered. -/
theorem Dev.ethServe_ignored (h : d.deskUp k = false ∨ d.bit F.DESK_PROT_LOCK.LOCKED 0 = false ∨
    d.bit F.DESK_PROT_POLICY.ETH_MGMT_EN 0 = false ∨ q.dst.toNat ≠ d.deskMac k) : d.ethServe k q f = d := by
  refine if_pos ?_
  simp only [Bool.not_eq_true']
  rcases h with h | h | h | h
  · exact .inl h
  · exact .inr (.inl h)
  · exact .inr (.inr (.inl h))
  · exact .inr (.inr (.inr (.inl h)))

/-- The conditions in which a port answers. -/
structure Dev.EthServes (d : Dev) (k : Nat) (q : EthReq) : Prop where
  /-- the Desk is in service -/
  up : d.deskUp k = true
  /-- the lock is set -/
  locked : d.bit F.DESK_PROT_LOCK.LOCKED 0 = true
  /-- the policy allows the port -/
  enabled : d.bit F.DESK_PROT_POLICY.ETH_MGMT_EN 0 = true
  /-- the frame is for this Desk -/
  mac : q.dst.toNat = d.deskMac k
  /-- its version is the one there is -/
  version : q.version = 1

theorem Dev.EthServes.served (h : d.EthServes k q) : d.ethServe k q f =
    match (d.boot.eth.at [] k).find? fun e => e.mac == q.mac.toNat && e.seq == q.seq.toNat with
    | some e => d.emit (.mgmt k e.resp)
    | none => f d := by
  refine if_neg ?_
  simp [h.up, h.locked, h.enabled, h.mac, h.version]

/-- A repeated request is answered from the store. -/
theorem Dev.EthServes.repeated (h : d.EthServes k q) {e : EthSeen}
    (he : (d.boot.eth.at [] k).find? (fun e => e.mac == q.mac.toNat && e.seq == q.seq.toNat) = some e) :
    d.ethServe k q f = d.emit (.mgmt k e.resp) := by
  rw [h.served, he]

theorem Dev.EthServes.new (h : d.EthServes k q)
    (he : (d.boot.eth.at [] k).find? (fun e => e.mac == q.mac.toNat && e.seq == q.seq.toNat) = none) :
    d.ethServe k q f = f d := by
  rw [h.served, he]

end

theorem Dev.ethRead_answers {d e : Dev} {b : Bool} {q : EthReq} {l : List Nat}
    (h : (l, e) = d.readWords { deskB := b, eth := true } (q.addr.toNat / 4 * 4) q.count.toNat) :
    d.ethRead b.toNat q =
      if 1 ≤ q.count.toNat ∧ q.count.toNat ≤ 256 then e.ethReply b.toNat q 0 l else d.ethReply b.toNat q 2 [] := by
  simp only [Dev.ethRead, ethPath, ← h, ← ethCountOk_iff]
  cases ethCountOk q <;> rfl

theorem Dev.ethWrite_answers {d e : Dev} {b : Bool} {q : EthReq}
    (h : e = d.writeWords { deskB := b, eth := true } (q.addr.toNat / 4 * 4) q.data) :
    d.ethWrite b.toNat q =
      if d.bit F.DESK_PROT_POLICY.ETH_MGMT_WR 0 = false then d.ethReply b.toNat q 1 []
      else if 1 ≤ q.count.toNat ∧ q.count.toNat ≤ 256 ∧ q.data.length = q.count.toNat then
        (if e.deskUp b.toNat && e.bit F.DESK_PROT_LOCK.LOCKED 0 then e.ethReply b.toNat q 0 [] else e)
      else d.ethReply b.toNat q 2 [] := by
  simp only [Dev.ethWrite, ethPath, ← h, ← and_assoc, ← ethCountOk_iff, Bool.not_eq_true']
  refine ite_congr rfl (fun _ => rfl) fun _ => ?_
  rw [← ite_not]
  refine ite_congr ?_ (fun _ => rfl) fun _ => rfl
  simp

/-! ## The teardown of a job -/

section
variable {d : Dev} {r : JobCtl}

theorem Dev.teardown_zero (h : r.target.val = 0) : d.teardown r = d.jobDone r 3 [] := if_pos h

theorem Dev.teardown_invalid (h : r.target.val ≠ 0) (hinvalid : d.jobValid r.target.val = false) :
    d.teardown r = d.jobDone r 5 [] := by
  simp only [Dev.teardown, if_neg h, hinvalid, Bool.not_false, if_true]

end

/-- Settles O49 (R373, R374, R376; log entries 34, 36 and 37): each register by its operation, a management port by whether it
serves the request and has answered it before. -/
theorem deskRegisters : Obligations.DeskRegisters := by
  refine ⟨fun s a v hr => ?doorbell, fun s a v _ hr => ?mask, fun s b q hnot => ?ignored,
    fun s b q hup hlock hen hmac hver => ⟨fun e he => ?repeated, fun hnew => ⟨fun l d hl => ?read, fun d hd => ?write⟩⟩,
    fun s r d hr hd hzero => ?zero, fun s r d hr hd hjob hinvalid => ?invalid, fun s r d hr hd hjob hvalid => ?torn⟩
  case doorbell =>
    rw [exec_doorbellWrite, Dev.onWrite_reaches hr, Dev.doorbell]
  case mask =>
    exact ⟨_, by rw [exec_irqMaskWrite, Dev.onWrite_reaches hr], s.dev.irqMaskWrite_shows _ v⟩
  case ignored =>
    rw [exec_ethMgmtRead, exec_ethMgmtWrite, Dev.ethServe_ignored hnot, Dev.ethServe_ignored hnot]
    exact ⟨rfl, rfl⟩
  case repeated =>
    have hserves : s.dev.EthServes b.toNat q := ⟨hup, hlock, hen, hmac, hver⟩
    rw [exec_ethMgmtRead, exec_ethMgmtWrite, hserves.repeated he, hserves.repeated he]
    exact ⟨rfl, rfl⟩
  case read =>
    have hserves : s.dev.EthServes b.toNat q := ⟨hup, hlock, hen, hmac, hver⟩
    rw [exec_ethMgmtRead, hserves.new hnew, Dev.ethRead_answers hl]
  case write =>
    have hserves : s.dev.EthServes b.toNat q := ⟨hup, hlock, hen, hmac, hver⟩
    rw [exec_ethMgmtWrite, hserves.new hnew, Dev.ethWrite_answers hd]
  case zero =>
    rw [exec_jobTeardown, Dev.onJob_reaches hr, ← hd, Dev.teardown_zero hzero]
  case invalid =>
    rw [exec_jobTeardown, Dev.onJob_reaches hr, ← hd, Dev.teardown_invalid hjob hinvalid]
  case torn =>
    rw [exec_jobTeardown, Dev.onJob_reaches hr, ← hd]

end Sys2Proof.Machine
end

section
/-! Counter windows and counters (R330, R332 to R335, Table 14.11). -/
namespace Sys2Proof.Machine

/-! ## Commands -/

section
variable {d e : Dev} {k op n st : Nat}

/-- A command with no SNAP pending after it stores its STATUS with GO 0 and tells its Desk. -/
theorem Dev.pmcCmd_ends (hrun : d.pmcRun k op n = (st, e)) (hsnap : e.pmc.snap = none) :
    d.pmcCmd k op n = (e.wr .DESK_PMC_CMD 0 0 (BitVec.ofNat 32 (op * 2 ^ 28 + st * 2 ^ 16 + n))).irq k 4 := by
  simp only [Dev.pmcCmd, hrun, hsnap, Option.isSome_none, Bool.toNat_false, Nat.zero_mul, Nat.zero_add, Bool.false_eq_true,
    if_false]

/-- A command that leaves a SNAP pending keeps GO at 1 and tells nobody yet. -/
theorem Dev.pmcCmd_waits (hrun : d.pmcRun k op n = (st, e)) (hsnap : e.pmc.snap.isSome = true) :
    d.pmcCmd k op n = e.wr .DESK_PMC_CMD 0 0 (BitVec.ofNat 32 (2 ^ 31 + op * 2 ^ 28 + st * 2 ^ 16 + n)) := by
  simp only [Dev.pmcCmd, hrun, hsnap, Bool.toNat_true, Nat.one_mul, if_true]

theorem Dev.pmcCmd_snap (d : Dev) (k : Nat) : d.pmcCmd k 2 0 = (d.updPmc fun p => { p with snap := some k }).wr .DESK_PMC_CMD 0 0
    (BitVec.ofNat 32 (2 ^ 31 + 2 * 2 ^ 28)) := by
  rw [Dev.pmcCmd_waits (st := 0) (e := d.updPmc fun p => { p with snap := some k }) rfl rfl, Nat.zero_mul, Nat.add_zero]

theorem Dev.pmcRun_close (hvalid : d.bit F.DESK_CWIN.VALID n = true) (hopen : d.cwin n = 2) :
    d.pmcRun k 1 n = (0, d.updPmc fun p => { p with closing := p.closing.filter (· != n) ++ [n] }) := by
  simp [Dev.pmcRun, hvalid, hopen]

/-- A window that is OPEN closes: its values become differences, and it is DONE. -/
theorem Dev.cwinClose_open {c : Dev} {cut : Bool} (hopen : d.cwin n = 2)
    (hc : c = d.each ((d.cwinDies n).filter fun die => !(d.pmc.missing.at [] n).contains die) fun d die =>
      d.cwinMap n die fun w v => v + 2 ^ 64 - w)
    (he : e = (c.set F.DESK_CWIN_STAT.STATE n 3).setB F.DESK_CWIN_STAT.CUT n cut) :
    d.cwinClose n cut = (e.set F.DESK_CWIN_STAT.CLOSE_AT n e.now).updPmc fun p =>
      { p with closing := p.closing.filter (· != n) } := by
  simp only [Dev.cwinClose, hopen, ne_eq, not_true_eq_false, if_false, ← hc, ← he]

end

/-! ## The copy of a SNAP -/

theorem Dev.rdWide_of_rd {d e : Dev} {r : Reg} {i : Nat} (h : ∀ u, e.rd r i u = d.rd r i u) (a n : Nat) :
    e.rdWide r i a n = d.rdWide r i a n := by
  induction n generalizing a with
  | zero => rfl
  | succ n ih => simp only [Dev.rdWide, h, ih]

/-- The copy of the tiles' counters. -/
def Dev.snapTiles (d : Dev) : Dev :=
  d.each (List.range 256) fun d i => d.wrWide .XBAR_PMC_SNAP i 0 (d.rdWide .XBAR_PMC_VAL i 0 2) 2

/-- The copy of the Cabinet dies' counters. -/
def Dev.snapCabs (d : Dev) : Dev :=
  d.each (List.range 128) fun d i => d.wrWide .CAB_PMC_SNAP i 0 (d.rdWide .CAB_PMC_VAL i 0 2) 2

theorem Dev.rdWide_lt (d : Dev) (r : Reg) (i a : Nat) : d.rdWide r i a 2 < 2 ^ 64 := by
  have hlow := (d.rd r i a).isLt
  have hhigh := (d.rd r i (a + 1)).isLt
  simp only [Dev.rdWide]
  omega

theorem Dev.snapTiles_copies (d : Dev) {i : Nat} (hi : i < 256) :
    d.snapTiles.rdWide .XBAR_PMC_SNAP i 0 2 = d.rdWide .XBAR_PMC_VAL i 0 2 := by
  have hother : ∀ (e : Dev) (r : Reg) (j v : Nat), ¬(r = .XBAR_PMC_SNAP ∧ i = j) →
      (e.wrWide .XBAR_PMC_SNAP j 0 v 2).rdWide r i 0 2 = e.rdWide r i 0 2 := fun e r j v hne =>
    Dev.rdWide_of_rd (fun u => e.rd_wrWide_ne v fun ⟨hreg, hindex, _⟩ => hne ⟨hreg, hindex⟩) 0 2
  refine Dev.each_once (P := fun e => e.rdWide .XBAR_PMC_VAL i 0 2 = d.rdWide .XBAR_PMC_VAL i 0 2)
    (Q := fun e => e.rdWide .XBAR_PMC_SNAP i 0 2 = d.rdWide .XBAR_PMC_VAL i 0 2) List.nodup_range (List.mem_range.2 hi) rfl
    (fun e he => ?_) (fun e j _ he => ?_) fun e j hj he => ?_
  · rw [Dev.rdWide_wrWide_same, Nat.mod_eq_of_lt (e.rdWide_lt ..), he]
  · exact (hother e _ j _ (by simp)).trans he
  · exact (hother e _ j _ fun ⟨_, hsame⟩ => hj hsame.symm).trans he

theorem Dev.snapCabs_rd (d : Dev) (i u : Nat) : d.snapCabs.rd .XBAR_PMC_SNAP i u = d.rd .XBAR_PMC_SNAP i u :=
  Dev.each_keeps (fun e => e.rd .XBAR_PMC_SNAP i u) d _ fun e j => e.rd_wrWide_ne _ (by simp)

/-- The end of a SNAP: its time is stored, nothing is pending, GO is 0, and its Desk is told. -/
def Dev.snapEnds (d : Dev) (k : Nat) : Dev :=
  (((d.wr .DESK_PMC_SNAP_TIME 0 0 (BitVec.ofNat 32 d.now)).updPmc fun p => { p with snap := none }).setB
    F.DESK_PMC_CMD.GO 0 false).irq k 4

theorem Dev.snapEnds_go (d : Dev) (k : Nat) : (d.snapEnds k).bit F.DESK_PMC_CMD.GO 0 = false :=
  ((Dev.irq_writes _ k 4).bit (by decide) 0).trans (Dev.bit_setB_same _ ⟨by decide, by decide⟩ rfl 0 false)

theorem Dev.updPmc_writes {l : List Fld} (d : Dev) (f : PmcSt → PmcSt) : d.Writes l (d.updPmc f) := .same rfl rfl rfl

theorem Dev.snapEnds_writes (d : Dev) (k : Nat) :
    d.Writes (Reg.DESK_PMC_SNAP_TIME.word :: F.DESK_PMC_CMD.GO :: stageFields) (d.snapEnds k) :=
  .trans (.trans (.trans ((d.wr_writes 0 _).mono (by simp)) (Dev.updPmc_writes _ _)) (.setB (by decide)))
    ((Dev.irq_writes _ k 4).mono (by simp))

theorem Dev.snapCapture_ends {d : Dev} {k : Nat} (h : d.pmc.snap = some k) : d.snapCapture = (d.snapTiles.snapCabs).snapEnds k := by
  simp only [Dev.snapCapture, h]
  rfl

/-- Settles O44 (R330, R332 to R335, Table 14.11): each command by what it runs, and the SNAP by its pass over the counters. -/
theorem counterWindows : Obligations.CounterWindows := by
  refine ⟨fun s a n k hk hr hsnap => ?openCmd, fun s a n k hk hr hsnap hvalid hopen => ?closeCmd, fun s a hr => ?snap,
    fun s k d hsnap hd => ?capture, fun s n => exec_counterWindowOpen n s, fun s n d e hopen hd he => ?close, fun d n k m => rfl⟩
  case openCmd =>
    subst hk
    rw [exec_pmcOpen, Dev.onWrite_reaches hr]
    split
    case h_1 hfree =>
      rw [Dev.pmcCmd_ends (st := 0) (e := s.dev.set F.DESK_CWIN_STAT.STATE n 1) (by simp only [Dev.pmcRun, hfree])
        (by rw [Dev.set_pmc, hsnap])]
    case h_2 hinvalid =>
      rw [Dev.pmcCmd_ends (st := 3) (e := s.dev) (by simp only [Dev.pmcRun, hinvalid]) hsnap]
    case h_3 st hvalid hrefused =>
      rw [Dev.pmcCmd_ends (st := st) (e := s.dev.count .DESK_PMC_REFUSE) (by simp [Dev.pmcRun, hrefused]) hsnap]
  case closeCmd =>
    subst hk
    rw [exec_pmcClose, Dev.onWrite_reaches hr, Dev.pmcCmd_ends (Dev.pmcRun_close hvalid hopen) hsnap]
  case snap =>
    refine ⟨_, by rw [exec_pmcSnap, Dev.onWrite_reaches hr], congrArg s.withDev (s.dev.pmcCmd_snap _), ?_⟩
    dsimp only [State.withDev]
    rw [Dev.pmcCmd_snap, Dev.bit, Dev.get_one _ ⟨by decide, by decide⟩]
    exact (congrArg (fun w : Word => bitsOf w.toNat 31 31 == 1) (Dev.rd_wr_same ..)).trans (by decide)
  case capture =>
    have hpass : d = s.dev.snapTiles.snapCabs := hd
    subst hpass
    refine ⟨_, exec_pmcSnapCapture s, congrArg s.withDev (Dev.snapCapture_ends hsnap), ?_, fun i hi => ?_⟩
    · dsimp only [State.withDev]
      rw [Dev.snapCapture_ends hsnap, Dev.snapEnds_go]
    · dsimp only [State.withDev]
      rw [Dev.snapCapture_ends hsnap, ← s.dev.snapTiles_copies hi]
      exact Dev.rdWide_of_rd (fun u => ((Dev.snapEnds_writes _ k).rd_reg (by decide) i u).trans (Dev.snapCabs_rd _ i u)) 0 2
  case close =>
    rw [exec_counterWindowClose, Dev.cwinClose_open hopen hd he]

end Sys2Proof.Machine
end

section
/-! The Bureau's sources: counting, trips, escalation and acknowledgement (R338, R339, R341 to R343). -/
namespace Sys2Proof.Machine

/-! ## Events and trips -/

section
variable {d e : Dev} {src i j : Nat} {inj : Bool}

/-- An event by its source: dropped, counted, or the N-th, which trips the source. -/
theorem Dev.bureauEvent_counts
    (he : e = { d with raised := d.raised.erase { src := src, inst := i, inst2 := j, injected := inj } }) :
    d.bureauEvent src i j inj =
      if !srcValid src ∨ !e.bit F.BUR_SRC.EN src then e
      else if e.get F.BUR_SRC.COUNT src + 1 < max 1 (e.get F.BUR_SRC.N src) then
        e.set F.BUR_SRC.COUNT src (e.get F.BUR_SRC.COUNT src + 1)
      else (e.set F.BUR_SRC.COUNT src 0).trip src i j inj := by
  simp only [Dev.bureauEvent, ← he]
  refine ite_congr rfl (fun _ => rfl) fun _ => ?_
  rw [← ite_not]
  exact ite_congr (propext Nat.not_le) (fun _ => rfl) fun _ => rfl

end

/-- The level of a trip: the source's own, or one above the highest of the pending sources of its unit and class, up to CEIL. -/
def Dev.tripLevel (d : Dev) (src : Nat) : Nat :=
  let held := d.pendingOf (src / 16) (d.srcClass src)
  if held = [] then d.srcLevel src
  else max (d.srcLevel src) (min ((held.map fun x => d.get F.BUR_SRC.LEVEL_NOW x).foldl max 0 + 1) (d.srcCeil src))

/-- What a trip at a level does. -/
def Dev.tripAt (d : Dev) (src level i j : Nat) (inj : Bool) : Dev :=
  if !d.someDesk then d.reactAlone src level i
  else
    let (l, e) := d.react src level i j 0 inj
    if l = 0 ∨ l = 4 then e else e.graceSet src l

/-- A trip stores its time first; it is kept opaque here, so that nothing evaluates what follows on it. -/
theorem Dev.trip_stamped {d e : Dev} {src i j : Nat} {inj : Bool} (he : d.set F.BUR_SRC.LAST src d.now = e) :
    d.trip src i j inj = e.tripAt src (e.tripLevel src) i j inj := by
  unfold Dev.trip
  rw [he]
  rfl

section
variable {d : Dev} {src level i j : Nat} {inj : Bool}

/-- With both Desks out of service a unit reacts by itself. -/
theorem Dev.tripAt_alone (hdesk : d.someDesk = false) : d.tripAt src level i j inj = d.reactAlone src level i := by
  simp only [Dev.tripAt, hdesk, Bool.not_false, if_true]

/-- A trip acts, and starts the grace timer where it took a level below the last. -/
theorem Dev.tripAt_acts {l : Nat} {g : Dev} (hdesk : d.someDesk = true) (hreact : (l, g) = d.react src level i j 0 inj) :
    d.tripAt src level i j inj = if l = 0 ∨ l = 4 then g else g.graceSet src l := by
  simp only [Dev.tripAt, hdesk, ← hreact, Bool.not_true, Bool.false_eq_true, if_false]

end

/-! ## Escalation and acknowledgement -/

theorem Dev.graceExpire_none {d : Dev} {u cls : Nat} (h : d.bur.grace.at 0 (graceKey u cls) = 0) : d.graceExpire u cls = d := by
  simp only [Dev.graceExpire, h]

/-- A grace timer that ends acts at the source's next level, and starts again below its last. -/
theorem Dev.graceExpire_acts {d e g : Dev} {u cls n level i j l : Nat} (h : d.bur.grace.at 0 (graceKey u cls) = n + 1)
    (he : e = d.updBur fun b => { b with grace := b.grace.erase (graceKey u cls) })
    (hlevel : level = e.get F.BUR_SRC.LEVEL_NOW n + 1) (hpending : e.pending n = true) (hceil : level ≤ e.srcCeil n)
    (hdesk : e.someDesk = true) (hinst : (i, j) = e.bur.tripped.at (0, 0) n) (hreact : (l, g) = e.react n level i j 1 false) :
    d.graceExpire u cls = if l = 4 ∨ l < level then g else g.graceSet n l := by
  have hacts : e.pending n = true ∧ e.get F.BUR_SRC.LEVEL_NOW n + 1 ≤ e.srcCeil n ∧ e.someDesk = true :=
    ⟨hpending, hlevel ▸ hceil, hdesk⟩
  simp only [Dev.graceExpire, h, ← he]
  rw [if_pos hacts, ← hinst]
  simp only [← hlevel, ← hreact]

/-- An acknowledgement chooses the source that the grace timer serves; no register shows it. -/
theorem Dev.acknowledge_get (d : Dev) (n : Nat) (x : Fld) (i : Nat) :
    (d.acknowledge n).get x i = ((d.setB F.BUR_SRC.PENDING n false).set F.BUR_SRC.LEVEL_NOW n 0).get x i := by
  unfold Dev.acknowledge
  dsimp only
  repeat' split
  all_goals simp only [Dev.updBur_get]

theorem Dev.acknowledge_clears (d : Dev) (n : Nat) :
    (d.acknowledge n).pending n = false ∧ (d.acknowledge n).get F.BUR_SRC.LEVEL_NOW n = 0 := by
  constructor
  · rw [Dev.pending, Dev.bit, Dev.acknowledge_get,
      Dev.get_set_apart _ ⟨by decide, by decide⟩ ⟨by decide, by decide⟩ (by decide)]
    exact Dev.bit_setB_same _ ⟨by decide, by decide⟩ rfl n false
  · rw [Dev.acknowledge_get, Dev.get_set_same _ ⟨by decide, by decide⟩, Nat.zero_mod]

/-- Settles O46 (R338, R339, R341 to R343; log entries 138 and 154): each by its operation in the case that the clause names. -/
theorem bureauSources : Obligations.BureauSources := by
  refine ⟨fun s src i j inj d hd => ?event, fun d e src i j level inj held he hheld hlevel => ?trip,
    fun s src => exec_sourceWindowExpire src s, fun s u n hn => ?silence, fun s u c h => ?idle,
    fun s u c n level i j l d g h hd hlevel hpending hceil hdesk hinst hreact => ?grace, fun s a src hr => ?ack,
    fun d n _ => d.acknowledge_clears n⟩
  case event =>
    rw [exec_bureauEvent, Dev.bureauEvent_counts hd]
  case trip =>
    have hat : level = e.tripLevel src := by rw [hlevel, hheld, Dev.tripLevel]
    rw [Dev.trip_stamped he.symm, ← hat]
    exact ⟨fun hdesk => Dev.tripAt_alone hdesk, fun hdesk l g hreact => Dev.tripAt_acts hdesk hreact⟩
  case silence =>
    rw [exec_heartbeatMiss, Dev.silence, hn]
  case idle =>
    rw [exec_graceExpire, Dev.graceExpire_none h]
  case grace =>
    rw [exec_graceExpire, Dev.graceExpire_acts h hd hlevel hpending hceil hdesk hinst hreact]
  case ack =>
    rw [exec_pendingAck, Dev.onWrite_reaches hr]

end Sys2Proof.Machine
end

section
/-! The Bureau's shadow comparison, standing in and fault injection (R351 to R356, R224, Table 15.10). -/
namespace Sys2Proof.Machine

/-! ## Shadow comparison -/

theorem Dev.shadowDigest_none {d : Dev} {n : Nat} (h : d.cab.shadowD.at [] n = []) : d.shadowDigest n = d := by
  simp only [Dev.shadowDigest, h]

/-- A shadow's digest that meets the primary's of the same chunk, and is compared. -/
theorem Dev.shadowDigest_compares {d c e : Dev} {n : Nat} {x y : ChunkD} {r : List ChunkD} (h : d.cab.shadowD.at [] n = x :: r)
    (hc : c = d.updCab fun k => { k with shadowD := k.shadowD.upd [] n (·.drop 1) })
    (hy : (c.cab.primD.at [] n).find? (fun z => z.handle == x.handle && z.epoch == x.epoch && z.chunk == x.chunk) = some y)
    (he : e = c.updCab fun k => { k with primD := k.primD.upd [] n fun l => l.erase y })
    (hcompared : (summing (e.desc x.handle).op && !(e.desc x.handle).exact && !e.bit F.BUR_SHADOW_CFG.FAST_CMP 0) = false) :
    d.shadowDigest n =
      if x.d = y.d then
        let m := min (e.get F.BUR_SHADOW_PASS.MATCHES x.die + 1) (2 ^ 24 - 1)
        let f := e.set F.BUR_SHADOW_PASS.MATCHES x.die m
        if f.get F.BUR_SHADOW_CFG.PASS_TARGET 0 ≤ m ∧ !f.bit F.BUR_SHADOW_PASS.MISMATCH x.die then
          f.setB F.BUR_UNIT.QUALIFIED (16 + x.die) true
        else f
      else ((e.setB F.BUR_SHADOW_PASS.MISMATCH x.die true).raise (32 + x.die) 5 (instDrawer x.handle) x.chunk).dropShadow
        x.handle := by
  simp only [Dev.shadowDigest, h, ← hc, hy, ← he, hcompared, Bool.false_eq_true, if_false]

/-! ## Standing in -/

/-- GO of BUR_STANDIN: STATUS 1 where the unit is no spare, 2 where no VALID entry names the place. -/
theorem Dev.standin_ends {d e : Dev} {k p : Nat} {v : Word} (he : e = d.writeRw .BUR_STANDIN 0 0 v) (hgo : bitAt v.toNat 31 = true)
    (hp : p = e.get F.BUR_STANDIN.PLACE 0) :
    d.standin k v =
      (if e.bit F.BUR_CTL.SPARE 0 = false then e.set F.BUR_STANDIN.STATUS 0 1
       else if (List.range 16).any (fun n => e.bit F.BUR_GROUP.VALID n && e.get F.BUR_GROUP.PLACE n == p) then
         ((e.set F.FWD_PLACE.PLACE 0 p).setB F.BUR_CTL.SPARE 0 false).set F.BUR_STANDIN.STATUS 0 0
       else e.set F.BUR_STANDIN.STATUS 0 2).irq k 4 := by
  simp only [Dev.standin, ← he, hgo, ← hp, Bool.not_true, Bool.false_eq_true, if_false]
  cases e.bit F.BUR_CTL.SPARE 0 with
  | false => rfl
  | true =>
    cases (List.range 16).any fun n => e.bit F.BUR_GROUP.VALID n && e.get F.BUR_GROUP.PLACE n == p with
    | false => rfl
    | true => rfl

/-! ## Injection -/

/-- GO of BUR_INJ_CMD: the entry's fault is applied where injection is enabled and its type acts on the instance. -/
theorem Dev.injCmd_runs {d c : Dev} {v : Word} {e type inst : Nat} {r : InjRun} (hc : c = d.writeRw .BUR_INJ_CMD 0 0 v)
    (hgo : bitAt v.toNat 31 = true) (he : e = c.get F.BUR_INJ_CMD.ENTRY 0) (htype : type = c.get F.BUR_INJ.TYPE e)
    (hinst : inst = c.get F.BUR_INJ.INST e)
    (hr : r = { type := type, src := c.get F.BUR_INJ.SOURCE e, inst := inst, param := c.get F.BUR_INJ.PARAM e,
                dry := c.bit F.BUR_INJ.DRY e, left := max 1 (c.get F.BUR_INJ.REPEAT e) - 1 }) :
    d.injCmd v =
      if c.bit F.BUR_CTL.INJ_EN 0 && c.bit F.BUR_INJ.VALID e && c.injectable type inst then
        ((c.log { src := r.src, level := 0, kind := 5, inst := inst, injected := true }).updBur fun b => { b with
          inj := if r.left = 0 then b.inj.erase e else b.inj.insert e r }).applyFault r
      else c.count .BUR_INJ_REFUSED := by
  have hrun : d.injCmd v = c.inject e := by simp only [Dev.injCmd, ← hc, hgo, if_true, ← he]
  rw [hrun, hr]
  simp only [Dev.inject, ← htype, ← hinst]
  rw [← ite_not]
  refine ite_congr ?_ (fun _ => rfl) fun _ => rfl
  simp [and_assoc]

theorem Dev.injectNext_none {d : Dev} {e : Nat} (h : d.bur.inj.find e = none) : d.injectNext e = d := by
  simp only [Dev.injectNext, h]

theorem Dev.injectNext_runs {d : Dev} {e : Nat} {r q : InjRun} (h : d.bur.inj.find e = some r)
    (hq : q = { r with left := r.left - 1 }) :
    d.injectNext e = (d.updBur fun b => { b with inj := if q.left = 0 then b.inj.erase e else b.inj.insert e q }).applyFault q := by
  subst hq
  simp only [Dev.injectNext, h]

/-- An uncorrected error injected at a Cabinet die waits for its next digest entry. -/
theorem Dev.applyFault_ue {d : Dev} {r : InjRun} {k : Nat} (htype : r.type = 2) (hinst : instOf r.inst = some (.die (16 + k)))
    (hk : k < 8) (hdry : r.dry = false) : (d.applyFault r).bur.nextUe = d.bur.nextUe ++ [k] := by
  have hcab : 16 ≤ 16 + k ∧ 16 + k < 24 := by omega
  simp only [Dev.applyFault, htype, hinst, hdry, hcab]
  simp [Dev.updBur]

/-! ## A digest entry with an uncorrected error -/

/-- A field of later words reads as before. -/
theorem Dev.get_set_before (d : Dev) {f g : Fld} (hf : f.One) (h : f.lo / 32 < g.lo / 32) (i j v : Nat) :
    (d.set f i v).get g j = d.get g j := by
  have hwide : ∀ n a, f.lo / 32 < a → (d.set f i v).rdWide g.reg j a n = d.rdWide g.reg j a n := by
    intro n
    induction n with
    | zero => exact fun _ _ => rfl
    | succ n ih =>
      intro a ha
      simp only [Dev.rdWide]
      rw [ih (a + 1) (by omega), Dev.rd_set_ne d hf v fun ⟨_, _, hword⟩ => by omega]
  simp only [Dev.get, hwide _ _ h]

/-- The entry of an uncorrected error: marked with FAULT, and the error raised. -/
def Dev.digestFault (d : Dev) (die e : Nat) : Dev :=
  (((d.updBur fun b => { b with nextUe := b.nextUe.erase die }).setB F.CAB_DIGEST.FAULT e true).raise (32 + die) 12
    (instDie (16 + die))).flagFrom d.raised.length

theorem Dev.digestFault_marked (d : Dev) (die e : Nat) : (d.digestFault die e).bit F.CAB_DIGEST.FAULT e = true := by
  rw [Dev.digestFault, Dev.flagFrom_bit, Dev.raise_bit, Dev.bit_setB_same _ ⟨by decide, by decide⟩ rfl]

theorem Dev.digestFault_digest (d : Dev) (die e : Nat) :
    (d.digestFault die e).get F.CAB_DIGEST.DIGEST e = d.get F.CAB_DIGEST.DIGEST e := by
  rw [Dev.digestFault, Dev.flagFrom_get, Dev.raise_get, Dev.setB, Dev.get_set_before _ ⟨by decide, by decide⟩ (by decide),
    Dev.updBur_get]

theorem Dev.digestFault_nextUe (d : Dev) (die e : Nat) : (d.digestFault die e).bur.nextUe = d.bur.nextUe.erase die := by
  rw [Dev.digestFault, Dev.flagFrom_bur, Dev.raise_bur, Dev.setB_bur]
  rfl

/-- An uncorrected error that meets an entry marks it, and the entry does not advance. -/
theorem Dev.digestAdd_fault {d : Dev} {die job tag i : Nat} (chunk epoch crc : Nat) (hentry : d.digestEntry die job tag = some i)
    (hue : d.bur.nextUe.contains die = true) : d.digestAdd die job tag chunk epoch crc = d.digestFault die (4096 * die + i) := by
  have hmarked := d.digestFault_marked die (4096 * die + i)
  rw [Dev.digestFault] at hmarked
  simp only [Dev.digestAdd, hentry, hue, if_true]
  exact if_pos hmarked

/-- Settles O48 (R351 to R356, R224, Table 15.10): each by its operation in the case that the clause names. -/
theorem bureauShadowing : Obligations.BureauShadowing := by
  refine ⟨fun s n h => ?noDigest, fun s n x y r d e h hd hy he hcompared => ?compare, fun s a hr => ?clear,
    fun s a v d p hr hd hgo hp => ?standin, fun s a v d e type inst r hr hd hgo he htype hinst hrun => ?inject,
    fun s e h => ?noRepeat, fun s e r q h hq => ?repetition, fun d r k htype hinst hk hdry => Dev.applyFault_ue htype hinst hk hdry,
    fun d die job tag chunk epoch crc i hentry hue => ?digest⟩
  case noDigest =>
    rw [exec_shadowDigestReceived, Dev.shadowDigest_none h]
  case compare =>
    rw [exec_shadowDigestReceived, Dev.shadowDigest_compares h hd hy he hcompared]
  case clear =>
    rw [exec_spineShadowClear, Dev.onWrite_reaches hr, Dev.spineClear]
  case standin =>
    rw [exec_standin, Dev.onWrite_reaches hr, Dev.standin_ends hd hgo hp]
  case inject =>
    rw [exec_injectionCmd, Dev.onWrite_reaches hr, Dev.injCmd_runs hd hgo he htype hinst hrun]
  case noRepeat =>
    rw [exec_injectionRepeat, Dev.injectNext_none h]
  case repetition =>
    rw [exec_injectionRepeat, Dev.injectNext_runs h hq]
  case digest =>
    rw [Dev.digestAdd_fault chunk epoch crc hentry hue]
    exact ⟨d.digestFault_marked .., d.digestFault_digest .., d.digestFault_nextUe ..⟩

end Sys2Proof.Machine
end
